-- ==== Sys2Proof/Word.lean ====
section
/-! DEFINITION. The words the block computes with, the actors of R6, R161 and R399, and the plainest arithmetic over them. -/

namespace Sys2Proof

/-- A sequencer value word, or one 32-bit register word (R7, R150). -/
abbrev Word := BitVec 32

/-- One byte. -/
abbrev Byte := BitVec 8

/-- Who makes an access: the two PCI Express functions, a sequencer, or another matrix controller (R161, R225, R399).
Controller 13 is the debug controller. -/
inductive Actor where
  | pf0
  | pf1
  | seq (n : Nat)
  | ctrl (c : Nat)
  deriving DecidableEq, Repr

/-- A Bool as a bit. -/
def b2n (b : Bool) : Nat := if b then 1 else 0

/-- Bits `lo` to `lo + w - 1` of a number. -/
def bits (v lo w : Nat) : Nat := v / 2 ^ lo % 2 ^ w

/-- Whether bit `i` of a number is set. -/
def bitOf (v i : Nat) : Bool := v / 2 ^ i % 2 == 1

/-- A number of `w` bits read as signed. -/
def signed (w v : Nat) : Int := if v % 2 ^ w < 2 ^ (w - 1) then (v % 2 ^ w : Nat) else ((v % 2 ^ w : Nat) : Int) - 2 ^ w

/-- An integer kept in `w` bits, two's complement. -/
def wrapTo (w : Nat) (v : Int) : Nat := (v % (2 ^ w : Nat)).toNat

/-- The least multiple count: `a / b` rounded up. -/
def ceilDiv (a b : Nat) : Nat := if b = 0 then 0 else (a + b - 1) / b

/-- Little-endian bytes of a number (R5). -/
def toBytes : Nat → Nat → List Nat
  | 0, _ => []
  | k + 1, v => v % 256 :: toBytes k (v / 256)

/-- The number of little-endian bytes (R5). -/
def ofBytes : List Nat → Nat
  | [] => 0
  | b :: bs => b % 256 + 256 * ofBytes bs

/-- Network-order bytes of a number: the most significant byte first. -/
def toBytesBE (k v : Nat) : List Nat := (toBytes k v).reverse

/-- The number of network-order bytes. -/
def ofBytesBE (bs : List Nat) : Nat := ofBytes bs.reverse

/-- Saturating BOUND32 arithmetic (R17): any result above 0xFFFF_FFFE becomes 0xFFFF_FFFF. -/
def satBound (v : Nat) : Nat := if v > 0xFFFFFFFE then 0xFFFFFFFF else v

/-- Addition to a BOUND32 (R17): an unbounded bound stays unbounded. -/
def addBound (b k : Nat) : Nat := if b = 0xFFFFFFFF then b else satBound (b + k)

end Sys2Proof
end

