-- ==== Sys2Proof/Syntax.lean ====
section
/-! DEFINITION. The commands the block takes: one constructor for each row of spec/opcode_table.json, in the table's
order. The table gives no operand fields; each command carries what its rule takes from outside (assumption log entry 1). -/

namespace Sys2Proof

/-- The commands. -/
inductive Instr where
  /-- COLD_RESET (R232): PORST_N low resets everything except the fuses and places the engine in BOOT. -/
  | coldReset
  /-- POWER_UP (R232): PORST_N rises, SAFE_OSC starts, fuses are sensed, MA_9 is extended and sequencer 0 starts the boot ROM. -/
  | powerUp
  /-- ROM_READY (R211): The boot ROM finishes zeroing working SRAM and sequencer 0 data RAM, sets ROM_READY and applies any held GO. -/
  | romReady
  /-- WARM_RESET (R232): WARM_N sampled low for 90 SAFE_OSC cycles resets the engine while keeping the listed state, then power-up resumes at step 3. -/
  | warmReset
  /-- WARM_RESET_CMD (R232): A PF0 write to BT_WARM with KEY 0xD1 and GO 1 starts a warm reset. -/
  | warmResetCmd (a : Actor) (key : Nat)
  /-- SUPPLY_BROWNOUT (R453): A monitored rail stays below its threshold for 1 µs and the engine enters a cold reset. -/
  | supplyBrownout
  /-- SUPPLY_RECOVERY (R453): 100 µs after all monitored rails are back in range with PORST_N high, the engine leaves reset and continues from power-up step 2. -/
  | supplyRecovery
  /-- PCIE_RESET (R232): PERST_N low, hot reset or link down resets only the PCI Express core and PE registers. -/
  | pcieReset
  /-- FUNCTION_LEVEL_RESET (R232): An FLR resets one function's PCI Express state, snapshots and quote slot. -/
  | functionLevelReset (fn : Nat)
  /-- REGISTER_WRITE (R9): A write to a register without a row of its own is applied field by field under its access codes, holding lower words until the highest word is written. -/
  | registerWrite (a : Actor) (addr value : Nat)
  /-- RC_COUNTER_READ (R13): A read of an RC counter returns its value and clears it, crediting events of the read tick to the next period. -/
  | rcCounterRead (a : Actor) (addr : Nat)
  /-- RWS_COMMIT (R40): Pending RWS fields commit together at their next-tick, next-frame or next-superword boundary. -/
  | rwsCommit (block boundary unit : Nat)
  /-- BLOCK_DRAIN_DONE (R42): A block whose enable was cleared finishes the work it held and its busy status clears. -/
  | blockDrainDone (block unit : Nat)
  /-- ENGINE_SECOND (R56): On the tick the nanoseconds field passes through zero the engine takes an engine-second boundary and updates TC_EPOCH. -/
  | engineSecond
  /-- LEAP (R60): On the tick that begins TAI second L the UTC offset changes by one, ARM clears and LEAP_DONE sets. -/
  | leap
  /-- SMEAR_START (R62): Engine time reaches L − W/2 with a leap armed and the smear begins with SMEAR_ACTIVE set. -/
  | smearStart
  /-- SMEAR_END (R62): Engine time reaches L + W/2 and the smear ends with SMEAR_ACTIVE clear. -/
  | smearEnd
  /-- TIME_SET (R49): A write to TC_TIME_SET sets TIME128 on the next tick, or is refused in SERVICE mode with STEP_REFUSED. -/
  | timeSet (a : Actor) (value : Nat)
  /-- STEP_OFFSET_WRITE (R50): A write to TC_STEP_OFFSET advances STEP_SEQ and either schedules the step or makes it pending in SERVICE mode. -/
  | stepOffsetWrite (a : Actor) (value : Nat)
  /-- STEP_ACCEPT (R50): A PF0 write to TC_STEP_ACCEPT with GO, matching SEQ and STEP_EN applies the pending step; any other write logs STEP_REFUSED. -/
  | stepAccept (a : Actor) (seq : Nat) (go : Bool)
  /-- STEP_APPLIED (R51): A step or TIME_SET is applied on its tick, setting STEP_DONE, clearing STEP_PENDING and the slide remainder. -/
  | stepApplied
  /-- SLIDE_OFFSET_WRITE (R53): A committed TC_SLIDE_OFFSET replaces any remaining slide and starts adding the slope step on each tick. -/
  | slideOffsetWrite (a : Actor) (value : Nat)
  /-- SLIDE_COMPLETE (R53): The remainder falls below one slope step, the slide adds exactly the remainder and SLIDE_ACTIVE clears. -/
  | slideComplete
  /-- BOUND_INTERVAL_END (R64): At the end of each 1 µs interval the bound generator evaluates B(t) and publishes it. -/
  | boundIntervalEnd
  /-- BG_COEF_COMMIT (R65): BG_COEF commits on the tick after word 4 is written, applying RESTART and CLR_WIDEN. -/
  | bgCoefCommit
  /-- PULSE_ARM (R67): Setting EN of a pulse output arms it from PO_START_n, setting MISSED or SKIPPED when the start is too close. -/
  | pulseArm (n : Nat)
  /-- PULSE_LEADING_EDGE (R66): Engine time reaches a scheduled leading edge and the output emits it, or holds it under R69, counting toward COUNT. -/
  | pulseLeadingEdge (n : Nat)
  /-- PULSE_TRAILING_EDGE (R66): Engine time reaches the trailing edge of a pulse and the output returns to its inactive level. -/
  | pulseTrailingEdge (n : Nat)
  /-- PULSE_DISABLE (R70): Clearing EN of a pulse output stops new pulses and lets a high pulse end at its trailing edge with BUSY set. -/
  | pulseDisable (n : Nat)
  /-- EDGE_ARRIVAL (R72): An edge reaches a TDC channel input and the channel forms an event record with its stamp and bound. -/
  | edgeArrival (n : Nat) (falling : Bool) (k c0 c1 c2 c3 : Nat)
  /-- INTERVAL_TIMEOUT (R86): No stop arrives within TM_TIMEOUT_n and the stop record is written with TIMEOUT set. -/
  | intervalTimeout (n : Nat)
  /-- TM_CHANNEL_ENABLE (R74): Setting EN of a TDC channel starts its 10 ms offset calibration. -/
  | tmChannelEnable (n : Nat)
  /-- TM_CHANNEL_DISABLE (R88): Clearing EN of a TDC channel stops recording and closes any open interval with a timeout stop record. -/
  | tmChannelDisable (n : Nat)
  /-- OFFSET_CAL_DONE (R74): The 10 ms offset calibration completes, TM_OFFSET_n is set, OFS_CAL clears and recording begins. -/
  | offsetCalDone (n offset : Nat)
  /-- CAL_HIT (R75): A calibration hit from the on-die source is counted into the histogram being built, unless near an input edge. -/
  | calHit (n c0 c1 c2 c3 : Nat) (near : Bool)
  /-- CAL_TABLE_COMPLETE (R75): The hit count reaches 2^HITS_LOG2, the new table is built and swaps with the active table at the next tick. -/
  | calTableComplete (n : Nat)
  /-- CAL_STALE (R77): The active table grows older than STALE_MS and the channel becomes stale. -/
  | calStale (n : Nat)
  /-- TM_FIFO_READ (R82): The reader's read of word 0 removes the oldest record into its snapshot; other reads remove nothing. -/
  | tmFifoRead (a : Actor) (n word : Nat) (port : Bool)
  /-- EVENT_DMA_POST (R84): The event DMA posts the oldest record of a READER 2 channel as a type 0x02 descriptor once its ring has room. -/
  | eventDmaPost (n : Nat)
  /-- LOOP_EDGE (R89): The loop generator emits its next edge every PERIOD ticks at the next phase step. -/
  | loopEdge (k c0 c1 c2 c3 : Nat)
  /-- LOSC_LOST (R90): No LOSC edge is seen for 44 SAFE_OSC cycles, PRESENT clears and fault LOSC_LOST is logged. -/
  | loscLost
  /-- LOSC_PRESENT (R90): 1,024 consecutive LOSC edges arrive and PRESENT sets again. -/
  | loscPresent
  /-- WARM_WINDOW_END (R92): A 64 s warm-up window ends, y_k is published and WARM_EST is updated. -/
  | warmWindowEnd
  /-- ROOT_RELOCK_CMD (R100): A write of SY_ROOT_CMD.RELOCK starts the root relock sequence. -/
  | rootRelockCmd (a : Actor)
  /-- BAND_SWEEP_CMD (R98): A write of SY_ROOT_CMD.SWEEP starts a relock with a band-calibration sweep, or is refused. -/
  | bandSweepCmd (a : Actor)
  /-- BAND_SWEEP_COMPLETE (R98): The sweep has measured all 32 bands, writes the band table and continues the relock from step 5. -/
  | bandSweepComplete (lo hi : List Nat)
  /-- ROOT_LOSS_OF_LOCK (R99): A cycle slip, a tuning voltage out of range or loss of LOSC presence loses root lock and starts a relock. -/
  | rootLossOfLock
  /-- ROOT_LOCK_DECLARED (R99): The root meets the lock criteria for 20 µs and lock is declared. -/
  | rootLockDeclared
  /-- CORE_CLOCK_SWITCHBACK (R100): After the lane and DRAM PLLs lock, the core clocks return to the root, SAFE_CLOCK clears and 12,000 ps is added to BG_WIDEN. -/
  | coreClockSwitchback
  /-- RELOCK_DONE (R100): DRAM leaves self-refresh, held requests are released, RELOCKING clears and the OPLLs relock. -/
  | relockDone
  /-- ROOT_LOCK_FAIL (R104): 1 ms of lock attempt passes without lock and fault ROOT_LOCK_FAIL is logged. -/
  | rootLockFail
  /-- LANE_FREEZE_TIMEOUT (R104): A lane PLL still frozen 1 ms after step 2 is reset and its link goes down. -/
  | laneFreezeTimeout (irnak : Bool) (n : Nat)
  /-- SAFE_MEAS_WINDOW (R103): A 1 ms window of SAFE_OSC measurement completes and SY_SAFE_MEAS and SY_SAFE_DRIFT are updated. -/
  | safeMeasWindow (period : Nat)
  /-- OPLL_ENABLE (R107): Setting EN of an output PLL starts its relock. -/
  | opllEnable (n : Nat)
  /-- OPLL_MULT_WRITE (R106): A write to SY_OPLL_MULT_n is followed phase-continuously when small or starts an OPLL relock. -/
  | opllMultWrite (a : Actor) (n value : Nat)
  /-- OPLL_LOCKED (R107): An output PLL finds its band and locks. -/
  | opllLocked (n band : Nat)
  /-- OPLL_SETTLED (R107): 20 µs after lock the output PLL is settled and its outputs leave their hold modes. -/
  | opllSettled (n : Nat)
  /-- OPLL_LOCK_FAIL (R107): An output PLL has not locked within 1 ms and fault OPLL_LOCK_FAIL is logged. -/
  | opllLockFail (n : Nat)
  /-- CKO_ENABLE (R108): Setting EN of a clock output starts it dividing the OPLL VCO, or keeps it low with CFG_RANGE. -/
  | ckoEnable (n : Nat)
  /-- CKO_DISABLE (R108): Clearing EN of a clock output completes the current high phase and drives it low. -/
  | ckoDisable (n : Nat)
  /-- CKO_GUARD_SUPPRESS (R110): The period guard suppresses a too-early edge of a CLAMP output and counts it. -/
  | ckoGuardSuppress (n : Nat) (falling : Bool) (gap : Nat)
  /-- CKO_ALIGN_START (R111): At the first engine second after its OPLL settles, an ALIGN output restarts its divider at the aligned instant. -/
  | ckoAlignStart (n : Nat)
  /-- CKO_ALIGNED (R111): The phase rotator brings the residual within ±5 ps and ALIGNED sets. -/
  | ckoAligned (n : Nat)
  /-- REF_PPS_MEASUREMENT (R115): A record of channels 0 to 3 gives a phase measurement of REF_A to REF_D and updates RS_PHASE_n. -/
  | refPpsMeasurement (n : Nat)
  /-- REF_PKT_EXCHANGE (R119): A completed PTP exchange of PKT_0 or PKT_1 gives d, o and a phase measurement. -/
  | refPktExchange (n : Nat)
  /-- REF_ITL_MEASUREMENT (R120): The superword offsets of an upstream Irnak lane averaged over 1 ms give one ITL_UP measurement. -/
  | refItlMeasurement (n : Nat)
  /-- RS_TOD_WRITE (R117): A write of RS_TOD_n word 2 labels a PPS record, completing its measurement or holding the label. -/
  | rsTodWrite (a : Actor) (n sec seq : Nat)
  /-- TOD_LABEL_TIMEOUT (R117): A label that matches no record within 2 s is discarded and RS_TOD_LATE_n advances. -/
  | todLabelTimeout (n : Nat)
  /-- TOD_RECORD_TIMEOUT (R117): A PPS record left unlabelled for 2 s is discarded as a missing measurement. -/
  | todRecordTimeout (n : Nat)
  /-- FREQ_WINDOW_END (R121): At the end of each 64 s window RS_FREQ_n is computed for every counting reference. -/
  | freqWindowEnd
  /-- REF_QUALIFIED (R122): Every criterion has held for QUAL_S seconds and the reference becomes QUALIFIED. -/
  | refQualified (n : Nat)
  /-- REF_PRESENCE_LOSS (R124): A gap between measurements longer than RS_LOSS_MS_n disqualifies the reference with LOSS or restarts its qualification. -/
  | refPresenceLoss (n : Nat)
  /-- REF_REQUALIFY (R125): A disqualified reference with a granted retry and 10 s of presence returns to QUALIFYING. -/
  | refRequalify (n : Nat)
  /-- REF_DISQUALIFY (R123): A write of DISQUALIFY moves a QUALIFYING or QUALIFIED reference to DISQUALIFIED with reason COMMAND. -/
  | refDisqualify (a : Actor) (n : Nat)
  /-- REF_ACCEPT (R125): A write of ACCEPT returns a reference disqualified for COMMAND, ASYMMETRY or IMPLAUSIBLE to QUALIFYING. -/
  | refAccept (a : Actor) (n : Nat)
  /-- CLR_DISPUTE (R132): A write of CLR_DISPUTE clears DISPUTED on the reference. -/
  | clrDispute (a : Actor) (n : Nat)
  /-- CLR_COMP (R134): A write of CLR_COMP zeroes RS_ASYM_COMP_n. -/
  | clrComp (a : Actor) (n : Nat)
  /-- REF_ENABLE (R126): Writing EN as 1 moves a reference from UNUSED to QUALIFYING. -/
  | refEnable (a : Actor) (n : Nat)
  /-- REF_DISABLE (R126): Writing EN as 0 moves a non-retired reference to UNUSED on the next tick. -/
  | refDisable (a : Actor) (n : Nat)
  /-- FORCE_SELECT (R129): A PF0 write of FORCE and REF forces the selection of a QUALIFIED reference. -/
  | forceSelect (a : Actor) (ref : Nat) (force : Bool)
  /-- LOCK_ACHIEVED (R130): The selected reference stays in the lock window without a slide for the lock time and the engine becomes LOCKED. -/
  | lockAchieved
  /-- LOCK_WINDOW_EXCEEDED (R130): The selected reference stays outside the lock window for the lock time and a LOCKED engine goes to ACQUIRING. -/
  | lockWindowExceeded
  /-- HO_ENABLE (R138): Setting HO_CTL.EN starts building the window sums from the stored history. -/
  | hoEnable (a : Actor)
  /-- HO_SUMMING_DONE (R138): The window sums are built and SUMMING clears. -/
  | hoSummingDone
  /-- HOLD_READY (R139): The EXTENDED scan and summing finish, HOLD_READY sets and the HO block may start writing TC_INCREMENT. -/
  | holdReady
  /-- HO_TEMP_BOARD_WRITE (R141): A write of HO_TEMP_BOARD sets the board temperature and clears TEMP_STALE. -/
  | hoTempBoardWrite (a : Actor) (value : Nat)
  /-- TEMP_STALE (R141): No board temperature write arrives for AGE_MAX_MS, TEMP_STALE sets and the fault is logged. -/
  | tempStale
  /-- PLAUS_AGREEMENT (R146): Two independent references agree for AGREE_S seconds and those disqualified as IMPLAUSIBLE return to QUALIFYING with PLAUS_EXEMPT. -/
  | plausAgreement (x y : Nat)
  /-- ADD (R188): Adds two value registers and sets Z, N, C and V. -/
  | add (n : Nat)
  /-- SUB (R188): Subtracts two value registers and sets Z, N, C and V. -/
  | sub (n : Nat)
  /-- AND (R188): Bitwise and of two value registers. -/
  | andV (n : Nat)
  /-- OR (R188): Bitwise or of two value registers. -/
  | orV (n : Nat)
  /-- XOR (R188): Bitwise exclusive or of two value registers. -/
  | xorV (n : Nat)
  /-- SHL (R189): Shifts a left by b[5:0] with carry out. -/
  | shl (n : Nat)
  /-- SHR (R189): Shifts a right by b[5:0] with zero fill and carry out. -/
  | shr (n : Nat)
  /-- ASR (R189): Shifts a right by b[5:0] with sign fill and carry out. -/
  | asr (n : Nat)
  /-- MIN (R188): Signed minimum of two value registers. -/
  | minV (n : Nat)
  /-- MAX (R188): Signed maximum of two value registers. -/
  | maxV (n : Nat)
  /-- MINU (R188): Unsigned minimum of two value registers. -/
  | minu (n : Nat)
  /-- MAXU (R188): Unsigned maximum of two value registers. -/
  | maxu (n : Nat)
  /-- MUL (R188): Low 32 bits of the product of two value registers. -/
  | mul (n : Nat)
  /-- MULHS (R188): High 32 bits of the signed 64-bit product. -/
  | mulhs (n : Nat)
  /-- MULHU (R188): High 32 bits of the unsigned 64-bit product. -/
  | mulhu (n : Nat)
  /-- CLZ (R188): Counts the leading zero bits of a. -/
  | clz (n : Nat)
  /-- ADDC (R188): Adds two value registers and the carry. -/
  | addc (n : Nat)
  /-- SUBC (R188): Subtracts two value registers and the borrow. -/
  | subc (n : Nat)
  /-- ADDI (R190): Adds a signed immediate to a value register. -/
  | addi (n : Nat)
  /-- SUBI (R190): Subtracts a signed immediate from a value register. -/
  | subi (n : Nat)
  /-- ANDI (R190): Bitwise and with a zero-extended immediate. -/
  | andi (n : Nat)
  /-- ORI (R190): Bitwise or with a zero-extended immediate. -/
  | ori (n : Nat)
  /-- XORI (R190): Bitwise exclusive or with a zero-extended immediate. -/
  | xori (n : Nat)
  /-- LDI (R190): Loads a signed immediate into a value register. -/
  | ldi (n : Nat)
  /-- SHLI (R189): Shifts left by an immediate amount. -/
  | shli (n : Nat)
  /-- SHRI (R189): Shifts right with zero fill by an immediate amount. -/
  | shri (n : Nat)
  /-- ASRI (R189): Shifts right with sign fill by an immediate amount. -/
  | asri (n : Nat)
  /-- MACS (R191): Adds the signed product of two value registers to an accumulator, saturating. -/
  | macs (n : Nat)
  /-- MACU (R191): Adds the unsigned product of two value registers to an accumulator, saturating. -/
  | macu (n : Nat)
  /-- MSBS (R191): Subtracts the signed product from an accumulator, saturating. -/
  | msbs (n : Nat)
  /-- MSBU (R191): Subtracts the unsigned product from an accumulator, saturating. -/
  | msbu (n : Nat)
  /-- CLRACC (R191): Clears an accumulator. -/
  | clracc (n : Nat)
  /-- ACCMOV (R191): Copies one accumulator to another. -/
  | accmov (n : Nat)
  /-- ACCSET (R191): Sets an accumulator to a shifted signed value. -/
  | accset (n : Nat)
  /-- ACCADD (R191): Adds a shifted signed value to an accumulator. -/
  | accadd (n : Nat)
  /-- ACCW (R191): Reads one raw word of an accumulator into a value register. -/
  | accw (n : Nat)
  /-- ACCWR (R191): Writes one raw word of an accumulator from a value register. -/
  | accwr (n : Nat)
  /-- ACCRD (R192): Reads a shifted, optionally rounded and saturated accumulator value into a value register. -/
  | accrd (n : Nat)
  /-- TNOW (R193): Loads the engine time at the start of the tick into a time register. -/
  | tnow (n : Nat)
  /-- TADDN (R193): Adds a signed immediate number of nanoseconds to a time register. -/
  | taddn (n : Nat)
  /-- TMOV (R194): Copies a time register. -/
  | tmov (n : Nat)
  /-- TADD (R194): Adds a signed value register of nanoseconds to a time register. -/
  | tadd (n : Nat)
  /-- TADDF (R194): Adds a signed value register in units of 2^-16 ns to a time register. -/
  | taddf (n : Nat)
  /-- TDIFN (R194): Gives the saturated difference of two time registers in nanoseconds. -/
  | tdifn (n : Nat)
  /-- TDIFF (R194): Gives the saturated difference of two time registers in units of 2^-16 ns. -/
  | tdiff (n : Nat)
  /-- TCMP (R194): Compares two time registers exactly and sets the flags. -/
  | tcmp (n : Nat)
  /-- TSEC (R194): Reads seconds [31:0] of a time register. -/
  | tsec (n : Nat)
  /-- TSECH (R194): Reads seconds [47:32] of a time register. -/
  | tsech (n : Nat)
  /-- TNS (R194): Reads the nanoseconds of a time register. -/
  | tns (n : Nat)
  /-- TFRAC (R194): Reads fraction [47:16] of a time register. -/
  | tfrac (n : Nat)
  /-- TWNC (R194): Reads the WNC48 nanoseconds of a time register. -/
  | twnc (n : Nat)
  /-- TSET (R194): Sets a time register from seconds and nanoseconds, or sets V when the nanoseconds are invalid. -/
  | tset (n : Nat)
  /-- TSETH (R194): Sets seconds [47:32] of a time register. -/
  | tseth (n : Nat)
  /-- TEXTW (R195): Places a WNC nanosecond count near a known instant. -/
  | textw (n : Nat)
  /-- WAITT (R159): Parks the sequencer until engine time reaches a time register. -/
  | waitt (n : Nat)
  /-- TIME_WAIT_RELEASE (R159): Engine time reaches the waited instant and the next instruction issues with C set accordingly. -/
  | timeWaitRelease (n : Nat)
  /-- ARM (R196): Arms the time comparator of event 28 + n with a time register. -/
  | arm (n : Nat)
  /-- DISARM (R196): Disarms the time comparator of event 28 + n and clears its latched bit. -/
  | disarm (n : Nat)
  /-- TIME_COMPARE_FIRE (R196): An armed comparison is reached, latches its event and disarms. -/
  | timeCompareFire (n k : Nat)
  /-- WAITE (R158): Returns the masked pending events at once or parks the sequencer until one becomes pending. -/
  | waite (n : Nat)
  /-- EVENT_WAIT_RELEASE (R158): A masked event becomes pending and the waiting sequencer writes it, clears latched bits and resumes. -/
  | eventWaitRelease (n : Nat)
  /-- IN (R197): Reads a port under the permission and mapping checks. -/
  | inPort (n : Nat)
  /-- OUT (R197): Writes a port under the permission and mapping checks. -/
  | outPort (n : Nat)
  /-- SACQ (R198): Attempts to acquire a semaphore and sets Z on success. -/
  | sacq (n : Nat)
  /-- SREL (R198): Releases a semaphore held by the sequencer. -/
  | srel (n : Nat)
  /-- KSTAGE (R202): Stages a slot write from a 256-byte slot record. -/
  | kstage (n : Nat)
  /-- KCOMMIT (R243): Commits every write staged by the sequencer on one edge. -/
  | kcommit (n : Nat)
  /-- KINVAL (R248): Invalidates a key slot and everything derived from it. -/
  | kinval (n : Nat)
  /-- KSTAT (R202): Returns the status word of a key slot. -/
  | kstat (n : Nat)
  /-- KEY_INSTR_COMPLETE (R202): The key store answers a key instruction and the stalled sequencer resumes, or KEY is raised. -/
  | keyInstrComplete (n : Nat)
  /-- RPUSH (R201): Pushes a descriptor from data RAM onto a ring and stalls for the ring engine. -/
  | rpush (n : Nat)
  /-- RPOP (R201): Pops a descriptor from a ring into data RAM and stalls for the ring engine. -/
  | rpop (n : Nat)
  /-- RING_INSTR_COMPLETE (R201): The ring engine answers a ring instruction with a status and the sequencer resumes. -/
  | ringInstrComplete (n : Nat)
  /-- RDCNT (R203): Reads a performance counter word, capturing the whole counter on word 0, or raises PRIV. -/
  | rdcnt (n : Nat)
  /-- LDW (R199): Loads a word from data RAM. -/
  | ldw (n : Nat)
  /-- LDH (R199): Loads a sign-extended half-word from data RAM. -/
  | ldh (n : Nat)
  /-- LDHU (R199): Loads a zero-extended half-word from data RAM. -/
  | ldhu (n : Nat)
  /-- LDB (R199): Loads a sign-extended byte from data RAM. -/
  | ldb (n : Nat)
  /-- LDBU (R199): Loads a zero-extended byte from data RAM. -/
  | ldbu (n : Nat)
  /-- STW (R199): Stores a word to data RAM. -/
  | stw (n : Nat)
  /-- STH (R199): Stores a half-word to data RAM. -/
  | sth (n : Nat)
  /-- STB (R199): Stores a byte to data RAM. -/
  | stb (n : Nat)
  /-- LDT (R199): Loads 16 bytes into a time register and sets V for an invalid nanoseconds field. -/
  | ldt (n : Nat)
  /-- STT (R199): Stores a time register as 16 bytes to data RAM. -/
  | stt (n : Nat)
  /-- MLDW (R200): Issues a matrix word load and marks its destination pending. -/
  | mldw (n : Nat)
  /-- MSTW (R200): Issues a matrix word store. -/
  | mstw (n : Nat)
  /-- MLDT (R200): Issues a matrix 16-byte load into a time register. -/
  | mldt (n : Nat)
  /-- MSTT (R200): Issues a matrix 16-byte store of a time register. -/
  | mstt (n : Nat)
  /-- MATRIX_TXN_COMPLETE (R167): A sequencer's matrix transaction completes, writing a pending destination or raising an imprecise error. -/
  | matrixTxnComplete (n i : Nat)
  /-- BIF (R204): Branches by a word offset when the condition holds. -/
  | bif (n : Nat)
  /-- CALL (R204): Pushes the return address and jumps to an immediate address. -/
  | call (n : Nat)
  /-- JR (R204): Jumps to the address in a value register. -/
  | jr (n : Nat)
  /-- CALLR (R204): Pushes the return address and jumps to the address in a value register. -/
  | callr (n : Nat)
  /-- RET (R204): Pops a return address and jumps to it. -/
  | ret (n : Nat)
  /-- TRAP (R205): Raises exception TRAP with the trap number. -/
  | trap (n : Nat)
  /-- NOP (R206): Does nothing for one tick. -/
  | nop (n : Nat)
  /-- RFE (R174): Returns from an exception, clearing IN_EXC, restoring the mode and continuing at EPC. -/
  | rfe (n : Nat)
  /-- HALT (R176): Stops the sequencer, releases its semaphores and clears EN. -/
  | halt (n : Nat)
  /-- FENCE (R168): Stalls until every outstanding matrix transaction of the sequencer has completed. -/
  | fence (n : Nat)
  /-- FENCE_RELEASE (R168): The last outstanding transaction is acknowledged and the fenced sequencer resumes. -/
  | fenceRelease (n : Nat)
  /-- WATCHDOG (R177): The watchdog count reaches LIMIT, raises WATCHDOG and restarts. -/
  | watchdog (n : Nat)
  /-- SEQ_ENABLE (R152): Setting SQ_CTL_n.EN resumes execution at PC with all state kept. -/
  | seqEnable (a : Actor) (n : Nat)
  /-- SEQ_DISABLE (R152): Clearing SQ_CTL_n.EN stops the sequencer after its instruction and transactions. -/
  | seqDisable (a : Actor) (n : Nat)
  /-- SEQ_RESET (R151): A write of RESET clears the sequencer state and sets PC to SQ_ENTRY_n, or is refused while EN is 1. -/
  | seqReset (a : Actor) (n : Nat)
  /-- HOST_MAILBOX_SEND (R170): A write to SQ_MBOX_n sends a word with source 8, or sets MBOX_DROP when the mailbox is full. -/
  | hostMailboxSend (a : Actor) (n value : Nat)
  /-- SEM_ACQUIRE (R172): A host write of ACQUIRE to SQ_SEM_s acquires the semaphore for the host when free. -/
  | semAcquire (a : Actor) (k : Nat)
  /-- SEM_RELEASE (R171): A host write of RELEASE frees a semaphore that the host holds. -/
  | semRelease (a : Actor) (k : Nat)
  /-- SEM_FORCE_RELEASE (R171): A PF0 write of FORCE_RELEASE frees the semaphore whatever its owner. -/
  | semForceRelease (a : Actor) (k : Nat)
  /-- IMAGE_LOAD (R214): BT_LOAD.GO makes the boot ROM measure, check and load the GDK image from working SRAM. -/
  | imageLoad (a : Actor)
  /-- LAUNCH (R216): The write to BT_LAUNCH stops sequencer 0, drains targets 0 and 1, sets BM_REMAP and starts the sequencers of START_MASK. -/
  | launch (a : Actor) (mask : Nat)
  /-- IRAM_WRITE (R219): A word write to an instruction RAM takes effect and extends the sequencer's accumulator, or is ignored. -/
  | iramWrite (a : Actor) (addr value strobes : Nat)
  /-- IRAM_LOCK (R221): A write of 1 to BT_IRAM_LOCK locks an instruction RAM and its settings and extends its accumulator. -/
  | iramLock (a : Actor) (n : Nat)
  /-- HOST_EXTEND (R222): BT_EXTEND.GO extends MA_11 with a kind 0x06 event from BT_EXT_DATA. -/
  | hostExtend (a : Actor)
  /-- MODE_REQ_SERVICE (R224): A request for SERVICE mode changes the mode on the next tick or is refused with a reason. -/
  | modeReqService (a : Actor)
  /-- MODE_REQ_TEST (R224): A request for TEST mode changes the mode on the next tick or is refused. -/
  | modeReqTest (a : Actor)
  /-- MODE_REQ_RECOVERY (R224): A request for RECOVERY mode changes the mode on the next tick or is refused. -/
  | modeReqRecovery (a : Actor)
  /-- QUOTE_REQUEST (R229): BT_Q_CTL_s.GO captures a quote with the latched nonce and queues it for signature. -/
  | quoteRequest (a : Actor) (slot : Nat)
  /-- QUOTE_SIGNED (R229): The signature of a quote completes, the quote stands in BT_Q_OUT_s or is sent, and DONE sets. -/
  | quoteSigned
  /-- ATTEST_REQUEST (R231): A UDP attestation request is checked and either dropped or captured as a network quote. -/
  | attestRequest
  /-- ID_READY (R236): IDENTITY and ATTEST have been derived and KS_STATUS.ID_READY sets. -/
  | idReady (ok : Bool)
  /-- KS_STAGE (R243): A PF0 write of STAGE stages KS_STAGE_REC to a slot, or is refused. -/
  | ksStage (a : Actor) (slot : Nat)
  /-- KS_DISCARD (R243): A PF0 write of DISCARD discards PF0's staged writes. -/
  | ksDiscard (a : Actor)
  /-- KS_COMMIT (R243): KS_COMMIT.GO derives staged generations and commits PF0's staged slots and generations on one edge. -/
  | ksCommit (a : Actor)
  /-- GEN_DERIVE_COMPLETE (R243): Derivation of staged generations ends and the commit takes effect with its invalidations. -/
  | genDeriveComplete
  /-- KS_INVALIDATE (R248): KS_INVAL.GO invalidates a slot and every slot and cache entry derived from it. -/
  | ksInvalidate (a : Actor) (slot : Nat)
  /-- EXPORT (R247): KS_CMD EXPORT writes a blob of a VALID exportable slot under the CUR KEK, or is refused. -/
  | exportBlob (a : Actor) (slot : Nat)
  /-- LOAD (R247): KS_CMD LOAD opens a blob and stages its key to a slot, or is refused. -/
  | loadBlob (a : Actor) (slot : Nat)
  /-- REWRAP (R247): KS_CMD REWRAP opens a blob and writes the same key under the CUR KEK, or is refused. -/
  | rewrapBlob (a : Actor)
  /-- KS_CMD_COMPLETE (R246): A blob command finishes, CMD_BUSY clears and DONE or FAILED sets. -/
  | ksCmdComplete
  /-- TAG_SWEEP (R242): Every 1 ms the key store checks the tag of all 256 slots. -/
  | tagSweep (bad : List Nat)
  /-- STATEMENT_REQUEST (R252): KS_STMT_CTL_s.GO captures a key statement for a VALID slot and queues it for signature. -/
  | statementRequest (a : Actor) (i slot : Nat)
  /-- STATEMENT_SIGNED (R252): The signature of a statement completes and DONE sets with the statement in KS_STMT_OUT_s. -/
  | statementSigned
  /-- LC_PREPARE (R254): LC_ADVANCE with KEY and PREPARE starts the derivation of the target IDENTITY and the transition statement. -/
  | lcPrepare (a : Actor) (key target : Nat)
  /-- LC_PREPARED (R254): The transition statement stands in LC_TRANSITION and PREPARED sets. -/
  | lcPrepared
  /-- LC_COMMIT (R254): LC_ADVANCE with KEY and COMMIT starts blowing the state fuses, or is refused. -/
  | lcCommit (a : Actor) (key target : Nat)
  /-- LC_FUSES_BLOWN (R254): The last fuse is blown, the key store is zeroised and RESET_REQUIRED sets. -/
  | lcFusesBlown
  /-- ETH_LANE_ENABLE (R279): Setting EN of an Ethernet lane starts self-calibration and then training. -/
  | ethLaneEnable (n : Nat)
  /-- LANE_CAL_COMPLETE (R279): Self-calibration of a lane completes and sets its TX and RX delays, or logs LANE_CAL_FAIL. -/
  | laneCalComplete (irnak : Bool) (n sum dtx scatter : Nat)
  /-- ETH_LINK_UP (R261): An Ethernet lane completes training and auto-negotiation and its PCS link comes up. -/
  | ethLinkUp (n : Nat) (swap : Bool)
  /-- ETH_TRAIN_FAIL (R261): A lane has not reached link up within 500 ms and ETH_TRAIN_FAIL is logged. -/
  | ethTrainFail (n : Nat)
  /-- ETH_LINK_LOSS (R300): An Ethernet lane loses its PCS link and its MAC instance's link goes down. -/
  | ethLinkLoss (n : Nat) (inFrame : Bool)
  /-- ITL_LANE_ENABLE (R276): Setting EN of an Irnak lane starts self-calibration and the training sequence. -/
  | itlLaneEnable (n : Nat)
  /-- ITL_SUPERWORD_TX (R264): At each grid edge the lane sends the superword formed one superword ahead, as normal, alternate or void. -/
  | itlSuperwordTx (n req : Nat) (ready : Bool)
  /-- ITL_SUPERWORD_RX (R268): A received superword is decoded, checked by CRC and yields its control cell, data cells and a time measurement. -/
  | itlSuperwordRx (n hdr line arr seed : Nat)
  /-- TRAIN_REQUEST_REPEAT (R275): A coefficient request unanswered for 1 ms is repeated. -/
  | trainRequestRepeat (n : Nat)
  /-- ITL_TRAIN_FAIL (R276): Step 6 is not reached within 500 ms and ITL_TRAIN_FAIL is logged. -/
  | itlTrainFail (n : Nat)
  /-- ITL_WINDOW_END (R273): A millisecond window ends and MEAN_A, SL_ITL_OFFSET_n and SL_ITL_DELAY_n are published. -/
  | itlWindowEnd (n : Nat)
  /-- MAC_FRAME_RX (R282): A received frame is stamped, size- and FCS-checked, filtered and buffered or discarded. -/
  | macFrameRx (n : Nat) (bytes : List Nat) (fcs pcs frag asm : Bool) (back lane fecCorr fecUncorr mp : Nat)
  /-- PAUSE_HOLD_EXPIRE (R288): A pause time runs out and the hold ends. -/
  | pauseHoldExpire (n : Nat)
  /-- FC_REFRESH (R286): The refresh interval passes in XOFF and the pause frame is sent again. -/
  | fcRefresh (n : Nat)
  /-- MAC_FRAME_BOUNDARY (R291): At a frame boundary the instance starts the next frame in order of control, express and preemptable class. -/
  | macFrameBoundary (n ph lane : Nat)
  /-- AGE_PROMOTE (R291): A preemptable frame waits longer than AGE_US and is moved to the head of its class. -/
  | agePromote (n : Nat)
  /-- VERIFY_TIMEOUT (R292): A verify mPacket goes unanswered for VERIFY_MS, the next is sent or verification fails. -/
  | verifyTimeout (n : Nat)
  /-- LAUNCH_HANDOVER (R294): A sealed response is handed to the timed-launch gate and accepted or missed. -/
  | launchHandover (i : Nat)
  /-- LAUNCH_CLEAR_INSTANT (R297): At a launch's clear instant the gate preempts traffic and decides whether the launch is missed. -/
  | launchClearInstant (n : Nat)
  /-- LAUNCH_RELEASE (R296): The launch is released so its first bit after SFD leaves the ball at T3. -/
  | launchRelease (n : Nat)
  /-- MUTE (R298): Writing MUTE 1 stops transmission, misses held launches and powers down the lanes. -/
  | mute (a : Actor) (n : Nat)
  /-- MUTE_COMPLETE (R298): All muting actions are complete and MUTED sets. -/
  | muteComplete (n : Nat)
  /-- UNMUTE (R299): Clearing MUTE starts waking with a start signal and lane power-up. -/
  | unmute (a : Actor) (n : Nat)
  /-- WAKE_SIGNAL (R299): The wake detector sees line transitions for 1 µs, counts WAKE_SEEN and clears MUTE or sets WAKE_EVENT. -/
  | wakeSignal (n ns : Nat)
  /-- PIPELINE_FRAME (R302): A packet pipeline takes a buffered frame and classifies it. -/
  | pipelineFrame (n : Nat)
  /-- NTP_REQUEST (R311): An NTP or NTS request is served at a decision instant with a launch time and bound. -/
  | ntpRequest
  /-- SEAL_COMPLETE (R306): The crypto pipeline finishes sealing a response and hands it to the gate. -/
  | sealComplete (i : Nat)
  /-- ANNOUNCE_CMD (R305): TS_ANNOUNCE.GO starts REPEAT rounds of gratuitous announcements. -/
  | announceCmd (a : Actor) (rep : Nat)
  /-- ANNOUNCE_ROUND (R305): Each 1 ms round sends gratuitous ARP, unsolicited NA and Announce messages. -/
  | announceRound
  /-- COOKIE_MINT (R317): TS_MINT_CTL.GO reads and zeroes the client keys and mints COUNT cookies, or is refused. -/
  | cookieMint (a : Actor) (count : Nat)
  /-- COOKIE_MINT_DONE (R317): The minted cookies are written and DONE sets. -/
  | cookieMintDone
  /-- PTP_SYNC_TIMER (R323): A multicast or granted Sync interval expires and a Sync is launched. -/
  | ptpSyncTimer (uni : Bool) (m i : Nat)
  /-- PTP_ANNOUNCE_TIMER (R324): A multicast or granted Announce interval expires and an Announce is sent. -/
  | ptpAnnounceTimer (uni : Bool) (m i : Nat)
  /-- PTP_DELAY_REQ (R323): A received Delay_Req is answered with Delay_Resp or dropped. -/
  | ptpDelayReq
  /-- PTP_PDELAY_REQ (R323): A received Pdelay_Req is answered with a timed Pdelay_Resp. -/
  | ptpPdelayReq
  /-- PTP_GRANT_REQUEST (R327): A REQUEST_UNICAST_TRANSMISSION TLV is granted or denied. -/
  | ptpGrantRequest
  /-- PTP_GRANT_CANCEL (R327): A CANCEL_UNICAST_TRANSMISSION TLV ends the grant and is acknowledged. -/
  | ptpGrantCancel
  /-- GRANT_EXPIRE (R327): A grant reaches its expiry, and an entry with no grant left becomes EMPTY. -/
  | grantExpire (m i : Nat)
  /-- PKT_DELAY_REQ_TIMER (R328): A PKT instance sends its Delay_Req or Pdelay_Req as a timed launch. -/
  | pktDelayReqTimer (n : Nat)
  /-- PKT_SYNC_RX (R328): A PKT instance takes t1 from a Sync or its Follow_Up from its remote. -/
  | pktSyncRx (n : Nat)
  /-- PKT_GRANT_RENEW (R328): A PKT instance requests or renews its grants 60 s before expiry. -/
  | pktGrantRenew (n : Nat)
  /-- RECEIPT_REQUEST (R334): A receipt request is checked in order and dropped, acknowledged, answered as a repeat or queued for placement. -/
  | receiptRequest
  /-- RECEIPT_PLACE (R340): Once the placement frontier passes its arrival an accepted request receives its batch and leaf index and its journal write starts. -/
  | receiptPlace
  /-- JOURNAL_WRITE_DONE (R340): The journal entry is written locally, then mirrored in pair mode or acknowledged SOLO in solo mode. -/
  | journalWriteDone
  /-- MIRROR_TIMEOUT (R341): An entry unconfirmed for RC_MIRROR_TO discards later entries, answers them BUSY and closes the batch with MIRROR. -/
  | mirrorTimeout
  /-- TALLY_BOUNDARY (R346): Engine time reaches a tally boundary of the open batch. -/
  | tallyBoundary
  /-- BATCH_CLOSE (R346): Once the frontier passes the boundary and entries are resolved the batch closes, its tree is built and its record queued. -/
  | batchClose
  /-- BATCH_SIGNED (R348): The root record is signed and mirrored, and released once held by the partner. -/
  | batchSigned
  /-- ARCHIVE_STREAM (R352): With a free archive buffer the engine DMAs journal spans and root records and posts their descriptors. -/
  | archiveStream
  /-- RC_DISABLE (R342): Clearing RC_CTL.EN or entering RECOVERY resolves placed entries and closes the open batch. -/
  | rcDisable (a : Actor)
  /-- SUB_REGISTER (R331): RC_SUB_CMD REGISTER opens the blob and writes a new submitter entry. -/
  | subRegister (a : Actor)
  /-- SUB_UPDATE (R331): RC_SUB_CMD UPDATE rewrites a registered submitter entry. -/
  | subUpdate (a : Actor)
  /-- SUB_REMOVE (R331): RC_SUB_CMD REMOVE clears the entry and its key-cache line. -/
  | subRemove (a : Actor)
  /-- SUB_READ (R331): RC_SUB_CMD READ returns the entry in the RC_SUB registers. -/
  | subRead (a : Actor)
  /-- SUB_SUSPEND (R331): RC_SUB_CMD SUSPEND sets the entry's SUSPENDED state. -/
  | subSuspend (a : Actor)
  /-- SUB_RESUME (R331): RC_SUB_CMD RESUME clears the entry's SUSPENDED state. -/
  | subResume (a : Actor)
  /-- BREATH_TX (R358): At each 10 µs multiple of engine time the engine forms a breath and sends it on every UP twin lane. -/
  | breathTx
  /-- BREATH_RX (R357): A partner breath updates the lease, roles and join state. -/
  | breathRx
  /-- LEASE_EXPIRE (R359): The active engine's lease runs out and the mirror is no longer established. -/
  | leaseExpire
  /-- WITNESS_PULSE (R361): The engine pulls WITNESS low in its slot for 1 µs or 2 µs by role. -/
  | witnessPulse
  /-- WITNESS_PARTNER_PULSE (R361): A low interval the engine did not drive is taken as a partner pulse. -/
  | witnessPartnerPulse (ns : Nat)
  /-- WITNESS_FAULT (R362): WITNESS stays low too long or fails to go low and is treated as failed. -/
  | witnessFault
  /-- PARTNER_SILENT (R361): No breath or partner pulse for SILENCE_US makes the partner silent. -/
  | partnerSilent
  /-- MIRROR_RX (R367): The standby writes a mirrored journal entry and advances CONFIRMED. -/
  | mirrorRx
  /-- CONFIRM_RX (R367): The active engine treats entries before CONFIRMED as confirmed and sends their acknowledgements. -/
  | confirmRx
  /-- RECORD_RX (R368): The standby keeps a received root record. -/
  | recordRx
  /-- FETCH_RX (R369): A FETCH is answered with the held journal slot as a FETCHED MIRROR message. -/
  | fetchRx
  /-- JOIN_RX (R370): The standby discards its journal and adopts the active engine's indices, or logs TWIN_CFG_MISMATCH. -/
  | joinRx
  /-- SUBLAST_RX (R370): The standby sets a submitter's LAST from a SUBLAST message. -/
  | sublastRx
  /-- GRANT_RX (R371): The standby stages a GRANT message in its epoch staging area. -/
  | grantRx
  /-- EPOCH_END_RX (R371): The standby applies a complete epoch whose CRC matches. -/
  | epochEndRx
  /-- PROG_RX (R366): A PROG message enters the twin receive FIFO of the partner's sequencer. -/
  | progRx
  /-- SWAP_PROPOSE_RX (R385): The standby accepts or refuses a swap proposal. -/
  | swapProposeRx
  /-- SWAP_ACCEPT_RX (R386): The active engine learns the swap is accepted for second E. -/
  | swapAcceptRx
  /-- SWAP_REFUSE_RX (R385): A refused swap logs TWIN_SWAP_REFUSED and reschedules the proposal 600 s later. -/
  | swapRefuseRx
  /-- HANDOVER_RX (R386): The new active engine takes the lease and reverses the mirror without a join. -/
  | handoverRx
  /-- ARB_RX (R383): The senior counts reference votes from ARB reports and sends a VERDICT. -/
  | arbRx
  /-- VERDICT_RX (R384): A verdict makes the yielding engine demote or set UNFIT. -/
  | verdictRx
  /-- MESSAGE_RESEND (R365): An unconfirmed or unanswered twin message is sent again. -/
  | messageResend
  /-- EPOCH_CUT (R371): The active engine cuts a grant epoch and sends EPOCH_END. -/
  | epochCut
  /-- EPOCH_DISCARD (R371): An epoch incomplete 1 ms after its EPOCH_END is discarded and RESYNC set. -/
  | epochDiscard
  /-- PROMOTE_CMD (R373): A PF0 write of TW_CMD.PROMOTE promotes a standby whose partner is silent. -/
  | promoteCmd (a : Actor)
  /-- DEMOTE_CMD (R377): A PF0 write of TW_CMD.DEMOTE runs the demotion of an ACTIVE engine. -/
  | demoteCmd (a : Actor)
  /-- DEMOTION_COMPLETE (R377): 150 µs after detection the demoting engine becomes STANDBY. -/
  | demotionComplete
  /-- SWAP_NOW (R385): A write of TW_CMD.SWAP_NOW proposes a swap at once. -/
  | swapNow (a : Actor)
  /-- CLR_UNFIT (R384): A write of TW_CMD.CLR_UNFIT clears UNFIT. -/
  | clrUnfit (a : Actor)
  /-- SELF_CHECK (R376): Every 10 µs an ACTIVE engine checks its breath, role copies and lease timer. -/
  | selfCheck (breath copies lease : Bool)
  /-- BREATH_GUARD (R377): An ACTIVE engine that forms no breath for 900 µs has SERVING cleared by its guard. -/
  | breathGuard
  /-- DISAGREE_CLEAR (R382): SUSTAIN_MS without a sample above THRESH_NS clears DISAGREE. -/
  | disagreeClear
  /-- UNFIT_CLEAR (R384): 60 s without DISAGREE clears UNFIT. -/
  | unfitClear
  /-- SWAP_PROPOSE (R385): At TW_SWAP_NEXT the active engine proposes a swap for second E. -/
  | swapPropose
  /-- SWAP_EXECUTE (R386): At tick E both engines change roles and the old active closes its batch and cuts a final epoch. -/
  | swapExecute
  /-- TWIN_DISABLE (R377): Clearing TW_CTL.EN runs the demotion when ACTIVE and takes the role to NONE. -/
  | twinDisable (a : Actor)
  /-- PCIE_INBOUND_REQUEST (R417): An inbound PCI Express request is mapped through a BAR and served or answered with an error. -/
  | pcieInboundRequest (fn kind bar off len : Nat) (bytes : List Nat) (ep : Bool)
  /-- PCIE_ATOMIC_OP (R396): An inbound AtomicOp is completed under an exclusive monitor or with Unsupported Request. -/
  | pcieAtomicOp (fn bar off op size val cmp : Nat)
  /-- BRIDGE_TIMEOUT (R399): A register block that does not answer within 256 CLK100 cycles ends the access with an error. -/
  | bridgeTimeout (a : Actor) (addr : Nat) (write : Bool)
  /-- CONTROLLER_RESET (R398): BM_CTRL_RESET resets a controller, withdrawing and draining its transactions. -/
  | controllerReset (a : Actor) (mask : Nat)
  /-- CONTROLLER_DRAIN_DONE (R398): The last transaction of a reset controller drains and IN_RESET clears. -/
  | controllerDrainDone (c : Nat)
  /-- DRAM_INIT (R401): DR_CTL_c.INIT latches the configuration and initialises and trains the channel, or is refused. -/
  | dramInit (a : Actor) (c : Nat)
  /-- DRAM_INIT_DONE (R401): Training succeeds and INIT_DONE sets, or fails with DRAM_INIT_FAIL. -/
  | dramInitDone (c : Nat) (ok : Bool)
  /-- DRAM_ZERO (R401): DR_CTL_c.ZERO makes the channel read as zero and starts writing zeros. -/
  | dramZero (a : Actor) (c : Nat)
  /-- DRAM_ZERO_DONE (R401): Every line has been zeroed and ZERO_BUSY clears. -/
  | dramZeroDone (c : Nat)
  /-- DRAM_READ_ERROR (R403): A DRAM read is corrected and rewritten, or poisoned and logged as DRAM_UE. -/
  | dramReadError (addr : Nat) (ue : Bool)
  /-- PATROL_SCRUB (R403): Patrol scrub reads each line once per HOURS, correcting or poisoning it. -/
  | patrolScrub (addr err : Nat)
  /-- RING_ENABLE (R406): Setting EN of a ring zeroes its indices, or is refused for a bad location. -/
  | ringEnable (a : Actor) (r : Nat)
  /-- RING_PROD_WRITE (R406): A host write of RG_PROD_r on rings 16 to 31 advances the produced count or is ignored. -/
  | ringProdWrite (a : Actor) (r value : Nat)
  /-- RING_CONS_WRITE (R406): A host write of RG_CONS_r on rings 0 to 15 advances the consumed count or is ignored. -/
  | ringConsWrite (a : Actor) (r value : Nat)
  /-- RING_RESTART (R409): A write of RESTART resumes a stopped ring at CONS. -/
  | ringRestart (a : Actor) (r : Nat)
  /-- RING_CONSUME (R409): The engine checks and uses a host-produced descriptor, writes it back and advances CONS, or stops the ring. -/
  | ringConsume (r : Nat)
  /-- RING_PRODUCE (R408): The engine writes a descriptor with OWN set and advances PROD, or drops it when the ring is full. -/
  | ringProduce (r typ flags len w2 w3 w4 w5 w6 w7 : Nat)
  /-- STAGING_FORWARD (R404): A descriptor leaves a staging ring for its destination ring once there is room. -/
  | stagingForward (r : Nat)
  /-- RING_IRQ (R412): COUNT descriptors or TIME_US elapse and the ring sends its MSI-X message. -/
  | ringIrq (r : Nat)
  /-- HOST_DMA_TIMEOUT (R417): A host DMA read not completed within 50 ms or completed in error stops its ring. -/
  | hostDmaTimeout (r : Nat)
  /-- MSIX_UNMASK (R416): Unmasking a table entry sends its pending message. -/
  | msixUnmask (fn v : Nat)
  /-- UART_RX_BYTE (R418): A received byte is stamped and stored with its flags, or discarded when the FIFO is full. -/
  | uartRxByte (n byte : Nat) (framing : Bool) (back : Nat) (cut : Bool)
  /-- UART_TX_WRITE (R418): A byte written to a UART transmit path is queued or discarded with TX_OVF. -/
  | uartTxWrite (a : Actor) (n byte : Nat)
  /-- UART_TX_BYTE_DONE (R418): A byte finishes transmission and the next queued byte starts. -/
  | uartTxByteDone (n : Nat)
  /-- UART_FIFO_READ (R419): The reader's read of word 0 removes the oldest receive entry into its snapshot. -/
  | uartFifoRead (a : Actor) (n word : Nat) (port : Bool)
  /-- I2C_TRANSACTION (R421): GP_I2C_CMD.GO starts an I²C write and read transaction, or sets COLLIDE. -/
  | i2cTransaction (a : Actor) (addr wlen rlen : Nat)
  /-- I2C_DONE (R421): The transaction ends, with NACK or TIMEOUT where they apply, BUSY clears and DONE sets. -/
  | i2cDone (nack timeout : Bool) (data : List Nat)
  /-- SPI_TRANSFER (R422): GP_SPI_CMD.GO starts an SPI transfer of LEN bytes, or sets COLLIDE. -/
  | spiTransfer (a : Actor) (len : Nat) (keep : Bool)
  /-- SPI_DONE (R422): The transfer ends, chip select is released or held, and DONE sets. -/
  | spiDone (data : List Nat)
  /-- SPI_DISABLE (R422): Clearing GP_SPI_CFG.EN releases a held chip select. -/
  | spiDisable (a : Actor)
  /-- GPIO_SET (R423): A write to GP_GPIO_SET sets bits of GP_GPIO_OUT. -/
  | gpioSet (a : Actor) (mask : Nat)
  /-- GPIO_CLR (R423): A write to GP_GPIO_CLR clears bits of GP_GPIO_OUT. -/
  | gpioClr (a : Actor) (mask : Nat)
  /-- GPIO_INPUT_CHANGE (R423): The synchronised level of a GPIO changes and its EDGE bit sets. -/
  | gpioInputChange (levels : Nat)
  /-- FAULT_INJECT (R439): A write of FM_INJECT logs a program-defined fault, or is ignored with CFG_RANGE. -/
  | faultInject (a : Actor) (code cls chan detail : Nat)
  /-- FATAL_WARM_RESET (R436): 10 µs after a FATAL fault under policy WARM a warm reset starts. -/
  | fatalWarmReset
  /-- RETRY_GRANT (R433): A scheduled retry falls due and is granted to the channel's block. -/
  | retryGrant (ch : Nat)
  /-- FAULT_QUEUE_READ (R432): A read of FM_QUEUE word 0 by PF0 or a supervisor program removes the head record. -/
  | faultQueueRead (a : Actor)
  /-- CHANNEL_REENABLE (R434): A write of REENABLE clears RETIRED, RETRY_PENDING and the channel's transient history. -/
  | channelReenable (a : Actor) (ch : Nat)
  /-- CRYPTO_KAT (R427): Every 100 ms each crypto pipeline runs its known-answer test and a failure logs CRYPTO_KAT_FAIL. -/
  | cryptoKat (p : Nat) (ok : Bool)
  /-- THERMAL_WARN (R427): A die sensor rises through 105 °C and THERMAL_WARN is logged. -/
  | thermalWarn (k : Nat)
  /-- THERMAL_TRIP (R427): A die sensor reads 115 °C or more for 1 ms and FATAL fault THERMAL_TRIP is logged. -/
  | thermalTrip
  /-- TIME_CORE_PARITY (R427): Parity fails in the time core state and a FATAL fault is logged. -/
  | timeCoreParity
  /-- SRAM_ERROR (R427): An on-chip SRAM error is corrected as SRAM_CE or logged as FATAL SRAM_UE. -/
  | sramError (target : Nat) (ue : Bool)
  /-- COUNTER_OVERFLOW (R442): A performance counter wraps, sets its overflow bit and in SERVICE mode carries into a chained counter. -/
  | counterOverflow (n k : Nat)
  /-- TICK (R46): On every CLK200 tick the time core adds the applied increment, the slide adds its step, BG_WIDEN accrues on SAFE_OSC, watchdog and counters advance and level events are sampled. -/
  | tick (pins : Nat)
  /-- PCIE_LINK_UP (R413): Once PORST_N and PERST_N are high and PCIE_REFCLK is stable the PCI Express link trains and LINK_UP sets. -/
  | pcieLinkUp (speed width : Nat)
  /-- EXTENSION_COMMIT (R217): A measurement accumulator extension commits on the tick its SHA-384 hash completes, and EXT_BUSY clears for an MA_11 extension. -/
  | extensionCommit (i : Nat)
  /-- DERIVED_AGAIN (R242): A derived slot in TAG_FAIL is derived again from the live generations and returns to VALID. -/
  | derivedAgain (k : Nat)
  /-- FETCH_TIMEOUT (R369): No answer to a journal FETCH arrives within RC_MIRROR_TO and the requester treats the partner as unable to supply the entry. -/
  | fetchTimeout
  /-- DIE_TEMP_REFRESH (R141): Hardware refreshes HO_TEMP_DIE_0 to HO_TEMP_DIE_3 every 1 ms. -/
  | dieTempRefresh (t0 t1 t2 t3 : Nat)
  /-- FUSE_SUPPLY_LOST (R455): VDD_FUSE leaves its programming range during fuse blowing, FUSE_SUPPLY_OK falls to 0 and the fuse being blown is left as it stands. -/
  | fuseSupplyLost
  /-- DEBUG_ACCESS (R225): The debug port issues a matrix access through controller 13, which is permitted only in BLANK and PERSONALISED and sets DEBUG_USED. -/
  | debugAccess (write : Bool) (addr len value : Nat)
  /-- TAP_INSTRUCTION (R464): The test access port loads an instruction such as EXTEST, CLAMP or DEBUG, which acts as stated or as BYPASS by mode. -/
  | tapInstruction (code : Nat)
  deriving DecidableEq, Repr

end Sys2Proof
end

