-- ==== Sys2Proof/Config.lean ====
section
/-! DEFINITION. What an implementation fixes and the spec does not state: keyed cryptographic functions named by
outside standards, physical facts, and the free values. Each is an uninterpreted constant: nothing can be proved about its value. -/

namespace Sys2Proof.Config

/-- A free value: the `k`-th value the spec leaves open (assumption log entry 3). -/
opaque freeValue : Nat → Nat

/-- Bytes of the boot ROM (R215, R387): the spec gives the image's effects but not its bytes (log entry 4). -/
opaque bootRom : Nat → Nat

/-- The message authentication inside AES-SIV (S2V): key, associated data, plaintext (R246, R310 to R317). -/
opaque sivMac : List Nat → List Nat → List Nat → Nat

/-- The key stream inside AES-SIV: key, synthetic IV, byte index. -/
opaque sivPad : List Nat → List Nat → Nat → Nat

/-- A signature over a message by a key (ECDSA P-256 or Ed25519; R226, R252, R348), with the per-message secret. -/
opaque sign : List Nat → List Nat → Nat → Nat

/-- The public key of a private key of a TYPE of R240 (R240, R251). -/
opaque publicKey : Nat → List Nat → List Nat

/-- The x-coordinate of the static ECDH of a private key with a public key (R238). -/
opaque ecdh : List Nat → Nat → List Nat

/-- Whether a public key is a point of P-384 (R238). -/
opaque onP384 : Nat → Bool

/-- The lowest and the highest VCO frequency of a band of an output PLL (R106), in MHz × 2^48: PLL, band. -/
opaque opllLow : Nat → Nat → Nat
opaque opllHigh : Nat → Nat → Nat

/-- The ICV of a PTP message to be sent whose key slot is not VALID, which the spec does not state (log entry 117): slot, message. -/
opaque deadIcv : Nat → List Nat → Nat

/-- The client table's keyed hash (R320): key, entry key. -/
opaque tableHash : Nat → List Nat → Nat

/-- The fused unit ID of 64 bits, root secret, option word and manufacturing record (R234, R256). -/
opaque unitFuses : BitVec 64
abbrev unitId : Nat := unitFuses.toNat
opaque rootSecret : List Nat
opaque fuseOptions : Nat
opaque fuseLot : Nat

end Sys2Proof.Config
end

