-- ==== Sys2Proof/Machine/Digest.lean ====
section
/-! DEFINITION. The public functions of outside standards that the spec names: CRC-32C (RFC 3720), SHA-256 and SHA-384
(FIPS 180-4), HMAC (RFC 2104) and the construction of AES-SIV (RFC 5297). PRESUMED from those standards, log entry 27; the
block cipher inside AES-SIV stays uninterpreted in Config. Everything is irreducible, so that no proof unfolds it by accident. -/

namespace Sys2Proof.Machine

/-! ### CRC-32C (R178) -/

/-- One step of the reflected CRC for each of `k` bits. -/
def crcBits : Nat → Nat → Nat
  | 0, c => c
  | k + 1, c => crcBits k (if c % 2 = 1 then (c / 2) ^^^ 0x82F63B78 else c / 2)

/-- CRC-32C of a byte string. -/
@[irreducible] def crc32c (bs : List Nat) : Nat :=
  bs.foldl (fun c b => crcBits 8 (c ^^^ b)) 0xFFFFFFFF ^^^ 0xFFFFFFFF

/-! ### SHA-2 (R217, R343) -/

/-- The integer part of the `k`-th root of `x`, from bit `b - 1` down. -/
def rootFrom (k x : Nat) : Nat → Nat → Nat
  | 0, r => r
  | b + 1, r => rootFrom k x b (if (r + 2 ^ b) ^ k ≤ x then r + 2 ^ b else r)

/-- The first 64 bits of the fractional part of the `k`-th root of `p`. -/
def rootFrac (k p : Nat) : Nat := rootFrom k (p * 2 ^ (64 * k)) 72 0 % 2 ^ 64

/-- The first eighty primes. -/
def primes80 : List Nat :=
  [2, 3, 5, 7, 11, 13, 17, 19, 23, 29, 31, 37, 41, 43, 47, 53, 59, 61, 67, 71] ++
  [73, 79, 83, 89, 97, 101, 103, 107, 109, 113, 127, 131, 137, 139, 149, 151, 157, 163, 167, 173] ++
  [179, 181, 191, 193, 197, 199, 211, 223, 227, 229, 233, 239, 241, 251, 257, 263, 269, 271, 277, 281] ++
  [283, 293, 307, 311, 313, 317, 331, 337, 347, 349, 353, 359, 367, 373, 379, 383, 389, 397, 401, 409]

/-- One function of the family: word width, rounds, first word of the initial value, and the rotations (and, last of the small
sums, the shift) of its four sums. -/
structure ShaKind where
  w  : Nat
  n  : Nat
  iv : Nat
  S0 : Nat × Nat × Nat
  S1 : Nat × Nat × Nat
  s0 : Nat × Nat × Nat
  s1 : Nat × Nat × Nat
  deriving DecidableEq, Repr

def kind256 : ShaKind := ⟨32, 64, 0, (2, 13, 22), (6, 11, 25), (7, 18, 3), (17, 19, 10)⟩
def kind384 : ShaKind := ⟨64, 80, 8, (28, 34, 39), (14, 18, 41), (1, 8, 7), (19, 61, 6)⟩

def rotR (w n x : Nat) : Nat := (x >>> n ||| x <<< (w - n)) % 2 ^ w
def bigSum (w : Nat) (r : Nat × Nat × Nat) (x : Nat) : Nat := rotR w r.1 x ^^^ rotR w r.2.1 x ^^^ rotR w r.2.2 x
def smallSum (w : Nat) (r : Nat × Nat × Nat) (x : Nat) : Nat := rotR w r.1 x ^^^ rotR w r.2.1 x ^^^ x >>> r.2.2

/-- The message padded to whole blocks of sixteen words. -/
def shaPad (d : ShaKind) (bs : List Nat) : List Nat :=
  let z := (2 * d.w - (bs.length + 1 + d.w / 4) % (2 * d.w)) % (2 * d.w)
  bs ++ 0x80 :: List.replicate z 0 ++ toBytesBE (d.w / 4) (8 * bs.length)

/-- The words of a byte string, at most `k`. -/
def shaWords (d : ShaKind) : Nat → List Nat → List Nat
  | 0, _ => []
  | k + 1, bs => ofBytesBE (bs.take (d.w / 8)) :: shaWords d k (bs.drop (d.w / 8))

/-- The message schedule, latest word first, `k` words on. -/
def shaSched (d : ShaKind) : Nat → List Nat → List Nat
  | 0, ws => ws
  | k + 1, ws => shaSched d k (((smallSum d.w d.s1 (ws.getD 1 0) + ws.getD 6 0 + smallSum d.w d.s0 (ws.getD 14 0) +
      ws.getD 15 0) % 2 ^ d.w) :: ws)

/-- One round on the eight working variables. -/
def shaRound (d : ShaKind) (v : List Nat) (kw : Nat × Nat) : List Nat :=
  match v with
  | [a, b, c, e, f, g, h, i] =>
    let t := i + bigSum d.w d.S1 f + ((f &&& g) ^^^ ((f ^^^ (2 ^ d.w - 1)) &&& h)) + kw.1 + kw.2
    let u := bigSum d.w d.S0 a + ((a &&& b) ^^^ (a &&& c) ^^^ (b &&& c))
    [(t + u) % 2 ^ d.w, a, b, c, (e + t) % 2 ^ d.w, f, g, h]
  | _ => v

/-- The round constants and the initial hash value. -/
def shaK (d : ShaKind) : List Nat := (primes80.take d.n).map (fun p => rootFrac 3 p >>> (64 - d.w))
def shaIv (d : ShaKind) : List Nat := ((primes80.drop d.iv).take 8).map (fun p => rootFrac 2 p >>> (64 - d.w))

/-- One block after another. -/
def shaBlocks (d : ShaKind) (ks : List Nat) : Nat → List Nat → List Nat → List Nat
  | 0, h, _ => h
  | k + 1, h, bs =>
    let ws := (shaSched d (d.n - 16) (shaWords d 16 bs).reverse).reverse
    let v := (ks.zip ws).foldl (shaRound d) h
    shaBlocks d ks k (List.zipWith (fun x y => (x + y) % 2 ^ d.w) h v) (bs.drop (2 * d.w))

/-- The hash's words. -/
def shaOf (d : ShaKind) (bs : List Nat) : List Nat :=
  let m := shaPad d bs
  shaBlocks d (shaK d) (m.length / (2 * d.w)) (shaIv d) m

/-- SHA-256 and SHA-384 of a byte string, as big-endian numbers. -/
@[irreducible] def sha256 (bs : List Nat) : Nat := (shaOf kind256 bs).foldl (fun a x => a * 2 ^ 32 + x) 0
@[irreducible] def sha384 (bs : List Nat) : Nat := ((shaOf kind384 bs).take 6).foldl (fun a x => a * 2 ^ 64 + x) 0

/-! ### HMAC (R234, R242, R333, R339) -/

/-- HMAC over a hash of `n` bytes with blocks of `blk` bytes. -/
def hmacOf (h : List Nat → Nat) (n blk : Nat) (key msg : List Nat) : Nat :=
  let k := if blk < key.length then toBytesBE n (h key) else key
  let k := k ++ List.replicate (blk - k.length) 0
  h (k.map (· ^^^ 0x5C) ++ toBytesBE n (h (k.map (· ^^^ 0x36) ++ msg)))

@[irreducible] def hmac256 (key msg : List Nat) : Nat := hmacOf sha256 32 64 key msg
@[irreducible] def hmac384 (key msg : List Nat) : Nat := hmacOf sha384 48 128 key msg

/-! ### AES-SIV (R246, R310 to R317) -/

/-- A byte string under the key stream that starts from a synthetic IV; the same again gives it back. -/
def sivXor (key iv bs : List Nat) : List Nat := bs.zipIdx.map (fun x => x.1 ^^^ (Config.sivPad key iv x.2 % 256))

/-- The synthetic IV of 16 bytes: the MAC of the associated data and the plaintext. -/
def sivIv (key ad p : List Nat) : List Nat := toBytesBE 16 (Config.sivMac key ad p)

/-- Sealing: key, associated data, plaintext. -/
@[irreducible] def sivSeal (key ad p : List Nat) : List Nat := sivIv key ad p ++ sivXor key (sivIv key ad p) p

/-- Opening: key, associated data, sealed bytes; none when the synthetic IV does not match. -/
@[irreducible] def sivOpen (key ad c : List Nat) : Option (List Nat) :=
  let p := sivXor key (c.take 16) (c.drop 16)
  if 16 ≤ c.length ∧ sivIv key ad p = c.take 16 then some p else none

end Sys2Proof.Machine
end

