-- ==== Sys2Proof/Machine/Fields.lean ====
section
/-! DEFINITION. The register map: every register field the spec's register tables give, with its place, width, access
code (R9) and reset value, and the list of registers by address (R7, R8, and the address formulas beside the tables).
A field's key is unique, so the state keeps every field of every register in one list (State.regs). -/

namespace Sys2Proof.Machine

/-- The access codes of R9; an RWS code carries its commit boundary (R40). -/
inductive Acc where
  | rw | rwsTick | rwsSecond | rwsSuperword | rwq | ro | wo | w1c | rc | w1s
  deriving DecidableEq, Repr

/-- The blocks of the engine by register prefix ("Blocks" of chapter 01). -/
inductive Blk where
  | TC | BG | PO | TM | SY | RS | HO | SQ | BT | KS | LC | SL | MC | TS | RC | TW | BM | DR | RG | PE | GP | FM | PC
  deriving DecidableEq, Repr

/-- One register field: the byte address of its register (of index 0), its lowest bit, its width, its reset value and
its access code. -/
structure Fld where
  base  : Nat
  lo    : Nat
  width : Nat
  rst   : Nat
  acc   : Acc
  deriving DecidableEq, Repr

/-- The bit address of a field, which no other field has. -/
def Fld.bit (f : Fld) : Nat := f.base * 8 + f.lo

/-- The key of field `f` of unit `n` in State.regs. -/
def Fld.key (f : Fld) (n : Nat) : Nat := f.bit * 4096 + n % 4096

/-- One register, or one array of registers: its block, the address of its first word, `c1` units `s1` bytes apart and
in each of them `c2` entries `s2` bytes apart, how many 32-bit words it has, and its fields. -/
structure RegD where
  blk   : Blk
  base  : Nat
  c1    : Nat
  s1    : Nat
  c2    : Nat
  s2    : Nat
  words : Nat
  flds  : List Fld
  deriving DecidableEq, Repr


/-! ### Registers of 02_time_core_and_pulses.md -/

def TC_CTL_STEP_EN : Fld := ⟨0x40000000, 0, 1, 0, .rw⟩
/-- TC_CTL: time core control. -/
def R_TC_CTL : RegD := ⟨.TC, 0x40000000, 1, 0x4, 1, 0x4, 1,
  [TC_CTL_STEP_EN]⟩
def TC_STATUS_SLIDE_ACTIVE : Fld := ⟨0x40000004, 0, 1, 0, .ro⟩
def TC_STATUS_STEP_PENDING : Fld := ⟨0x40000004, 1, 1, 0, .ro⟩
def TC_STATUS_DISTURBED : Fld := ⟨0x40000004, 2, 1, 1, .ro⟩
def TC_STATUS_SAFE_CLOCK : Fld := ⟨0x40000004, 3, 1, 1, .ro⟩
def TC_STATUS_LEAP_ARMED : Fld := ⟨0x40000004, 4, 1, 0, .ro⟩
def TC_STATUS_LEAP_DONE : Fld := ⟨0x40000004, 5, 1, 0, .w1c⟩
def TC_STATUS_EPOCH_MISSED : Fld := ⟨0x40000004, 6, 1, 0, .w1c⟩
def TC_STATUS_STEP_DONE : Fld := ⟨0x40000004, 7, 1, 0, .w1c⟩
def TC_STATUS_SMEAR_ACTIVE : Fld := ⟨0x40000004, 8, 1, 0, .ro⟩
def TC_STATUS_STEP_SEQ : Fld := ⟨0x40000004, 16, 8, 0, .ro⟩
/-- TC_STATUS: time core status. -/
def R_TC_STATUS : RegD := ⟨.TC, 0x40000004, 1, 0x4, 1, 0x4, 1,
  [TC_STATUS_SLIDE_ACTIVE, TC_STATUS_STEP_PENDING, TC_STATUS_DISTURBED, TC_STATUS_SAFE_CLOCK, TC_STATUS_LEAP_ARMED, TC_STATUS_LEAP_DONE, TC_STATUS_EPOCH_MISSED, TC_STATUS_STEP_DONE, TC_STATUS_SMEAR_ACTIVE, TC_STATUS_STEP_SEQ]⟩
def TC_INCREMENT_INC_NS : Fld := ⟨0x40000010, 48, 16, 5, .rwsTick⟩
def TC_INCREMENT_INC_FRAC : Fld := ⟨0x40000010, 0, 48, 0, .rwsTick⟩
/-- TC_INCREMENT: time increment. -/
def R_TC_INCREMENT : RegD := ⟨.TC, 0x40000010, 1, 0x8, 1, 0x8, 2,
  [TC_INCREMENT_INC_NS, TC_INCREMENT_INC_FRAC]⟩
def TC_INC_APPLIED_APPLIED : Fld := ⟨0x40000018, 0, 64, 0x5000000000000, .ro⟩
/-- TC_INC_APPLIED: applied increment. -/
def R_TC_INC_APPLIED : RegD := ⟨.TC, 0x40000018, 1, 0x8, 1, 0x8, 2,
  [TC_INC_APPLIED_APPLIED]⟩
def TC_TIME_TIME : Fld := ⟨0x40000020, 0, 128, 0, .ro⟩
/-- TC_TIME: engine time. -/
def R_TC_TIME : RegD := ⟨.TC, 0x40000020, 1, 0x10, 1, 0x10, 4,
  [TC_TIME_TIME]⟩
def TC_TIME_SET_TIME : Fld := ⟨0x40000030, 0, 128, 0, .wo⟩
/-- TC_TIME_SET: set engine time. -/
def R_TC_TIME_SET : RegD := ⟨.TC, 0x40000030, 1, 0x10, 1, 0x10, 4,
  [TC_TIME_SET_TIME]⟩
def TC_WNC_WNC : Fld := ⟨0x40000040, 0, 48, 0, .ro⟩
/-- TC_WNC: wrapping nanosecond count. -/
def R_TC_WNC : RegD := ⟨.TC, 0x40000040, 1, 0x8, 1, 0x8, 2,
  [TC_WNC_WNC]⟩
def TC_SLIDE_OFFSET_OFFSET : Fld := ⟨0x40000050, 0, 64, 0, .rwsTick⟩
/-- TC_SLIDE_OFFSET: slide offset. -/
def R_TC_SLIDE_OFFSET : RegD := ⟨.TC, 0x40000050, 1, 0x8, 1, 0x8, 2,
  [TC_SLIDE_OFFSET_OFFSET]⟩
def TC_SLIDE_REMAIN_REMAIN : Fld := ⟨0x40000058, 0, 64, 0, .ro⟩
/-- TC_SLIDE_REMAIN: slide remainder. -/
def R_TC_SLIDE_REMAIN : RegD := ⟨.TC, 0x40000058, 1, 0x8, 1, 0x8, 2,
  [TC_SLIDE_REMAIN_REMAIN]⟩
def TC_SLIDE_SLOPE_SLOPE : Fld := ⟨0x40000060, 0, 32, 0xc350, .rwsTick⟩
/-- TC_SLIDE_SLOPE: slide slope limit. -/
def R_TC_SLIDE_SLOPE : RegD := ⟨.TC, 0x40000060, 1, 0x4, 1, 0x4, 1,
  [TC_SLIDE_SLOPE_SLOPE]⟩
def TC_STEP_OFFSET_OFFSET : Fld := ⟨0x40000068, 0, 64, 0, .rw⟩
/-- TC_STEP_OFFSET: step offset. -/
def R_TC_STEP_OFFSET : RegD := ⟨.TC, 0x40000068, 1, 0x8, 1, 0x8, 2,
  [TC_STEP_OFFSET_OFFSET]⟩
def TC_STEP_ACCEPT_SEQ : Fld := ⟨0x40000070, 0, 8, 0, .wo⟩
def TC_STEP_ACCEPT_GO : Fld := ⟨0x40000070, 8, 1, 0, .wo⟩
/-- TC_STEP_ACCEPT: step acceptance. -/
def R_TC_STEP_ACCEPT : RegD := ⟨.TC, 0x40000070, 1, 0x4, 1, 0x4, 1,
  [TC_STEP_ACCEPT_SEQ, TC_STEP_ACCEPT_GO]⟩
def TC_UTC_OFFSET_OFFSET : Fld := ⟨0x40000080, 0, 16, 0, .rwsSecond⟩
/-- TC_UTC_OFFSET: UTC offset. -/
def R_TC_UTC_OFFSET : RegD := ⟨.TC, 0x40000080, 1, 0x4, 1, 0x4, 1,
  [TC_UTC_OFFSET_OFFSET]⟩
def TC_LEAP_CTL_ARM : Fld := ⟨0x40000084, 0, 1, 0, .rwsSecond⟩
def TC_LEAP_CTL_DIR : Fld := ⟨0x40000084, 1, 1, 0, .rwsSecond⟩
/-- TC_LEAP_CTL: leap control. -/
def R_TC_LEAP_CTL : RegD := ⟨.TC, 0x40000084, 1, 0x4, 1, 0x4, 1,
  [TC_LEAP_CTL_ARM, TC_LEAP_CTL_DIR]⟩
def TC_LEAP_TIME_L : Fld := ⟨0x40000088, 0, 48, 0, .rwsSecond⟩
/-- TC_LEAP_TIME: leap instant. -/
def R_TC_LEAP_TIME : RegD := ⟨.TC, 0x40000088, 1, 0x8, 1, 0x8, 2,
  [TC_LEAP_TIME_L]⟩
def TC_SMEAR_WINDOW_W : Fld := ⟨0x40000090, 0, 32, 0x15180, .rwsSecond⟩
/-- TC_SMEAR_WINDOW: smear window. -/
def R_TC_SMEAR_WINDOW : RegD := ⟨.TC, 0x40000090, 1, 0x4, 1, 0x4, 1,
  [TC_SMEAR_WINDOW_W]⟩
def TC_SAFE_INC_INC : Fld := ⟨0x400000a0, 0, 64, 0xa000000000000, .rw⟩
/-- TC_SAFE_INC: safe-clock increment. -/
def R_TC_SAFE_INC : RegD := ⟨.TC, 0x400000a0, 1, 0x8, 1, 0x8, 2,
  [TC_SAFE_INC_INC]⟩
def TC_EPOCH_RECORD : Fld := ⟨0x400000b0, 0, 256, 0, .ro⟩
/-- TC_EPOCH: latest epoch record. -/
def R_TC_EPOCH : RegD := ⟨.TC, 0x400000b0, 1, 0x20, 1, 0x20, 8,
  [TC_EPOCH_RECORD]⟩
def TC_EPOCH_MISS_COUNT : Fld := ⟨0x400000d0, 0, 32, 0, .rc⟩
/-- TC_EPOCH_MISS: missed epoch records. -/
def R_TC_EPOCH_MISS : RegD := ⟨.TC, 0x400000d0, 1, 0x4, 1, 0x4, 1,
  [TC_EPOCH_MISS_COUNT]⟩
def BG_CTL_VALID : Fld := ⟨0x40010000, 0, 1, 0, .rw⟩
/-- BG_CTL: bound generator control. -/
def R_BG_CTL : RegD := ⟨.BG, 0x40010000, 1, 0x4, 1, 0x4, 1,
  [BG_CTL_VALID]⟩
def BG_COEF_B0 : Fld := ⟨0x40010010, 0, 32, 0, .rwsTick⟩
def BG_COEF_B1 : Fld := ⟨0x40010010, 32, 32, 0, .rwsTick⟩
def BG_COEF_B2 : Fld := ⟨0x40010010, 64, 48, 0, .rwsTick⟩
def BG_COEF_RESTART : Fld := ⟨0x40010010, 128, 1, 0, .rwsTick⟩
def BG_COEF_CLR_WIDEN : Fld := ⟨0x40010010, 129, 1, 0, .rwsTick⟩
/-- BG_COEF: bound coefficients. -/
def R_BG_COEF : RegD := ⟨.BG, 0x40010010, 1, 0x14, 1, 0x14, 5,
  [BG_COEF_B0, BG_COEF_B1, BG_COEF_B2, BG_COEF_RESTART, BG_COEF_CLR_WIDEN]⟩
def BG_ACTIVE_COEF : Fld := ⟨0x40010030, 0, 112, 0, .ro⟩
/-- BG_ACTIVE: coefficients in effect. -/
def R_BG_ACTIVE : RegD := ⟨.BG, 0x40010030, 1, 0x10, 1, 0x10, 4,
  [BG_ACTIVE_COEF]⟩
def BG_DT_DT : Fld := ⟨0x40010040, 0, 48, 0, .ro⟩
/-- BG_DT: elapsed time. -/
def R_BG_DT : RegD := ⟨.BG, 0x40010040, 1, 0x8, 1, 0x8, 2,
  [BG_DT_DT]⟩
def BG_WIDEN_W : Fld := ⟨0x40010048, 0, 32, 0, .ro⟩
/-- BG_WIDEN: hardware widening. -/
def R_BG_WIDEN : RegD := ⟨.BG, 0x40010048, 1, 0x4, 1, 0x4, 1,
  [BG_WIDEN_W]⟩
def BG_CURRENT_BOUND : Fld := ⟨0x40010050, 0, 32, 0xffffffff, .ro⟩
/-- BG_CURRENT: published bound. -/
def R_BG_CURRENT : RegD := ⟨.BG, 0x40010050, 1, 0x4, 1, 0x4, 1,
  [BG_CURRENT_BOUND]⟩
def BG_ANCHOR_TIME : Fld := ⟨0x40010060, 0, 128, 0, .ro⟩
/-- BG_ANCHOR: time of last restart. -/
def R_BG_ANCHOR : RegD := ⟨.BG, 0x40010060, 1, 0x10, 1, 0x10, 4,
  [BG_ANCHOR_TIME]⟩
def PO_CTL_EN : Fld := ⟨0x40020000, 0, 1, 0, .rw⟩
def PO_CTL_MODE : Fld := ⟨0x40020000, 1, 1, 0, .rwq⟩
def PO_CTL_POL : Fld := ⟨0x40020000, 2, 1, 0, .rwq⟩
def PO_CTL_BUSY : Fld := ⟨0x40020000, 3, 1, 0, .ro⟩
def PO_CTL_COUNT : Fld := ⟨0x40020000, 16, 16, 0, .rwq⟩
/-- PO_CTL_n: pulse control. -/
def R_PO_CTL : RegD := ⟨.PO, 0x40020000, 8, 0x40, 1, 0x4, 1,
  [PO_CTL_EN, PO_CTL_MODE, PO_CTL_POL, PO_CTL_BUSY, PO_CTL_COUNT]⟩
def PO_STATUS_MISSED : Fld := ⟨0x40020004, 0, 1, 0, .w1c⟩
def PO_STATUS_SKIPPED : Fld := ⟨0x40020004, 1, 1, 0, .w1c⟩
def PO_STATUS_HELD : Fld := ⟨0x40020004, 2, 1, 0, .w1c⟩
/-- PO_STATUS_n: pulse status. -/
def R_PO_STATUS : RegD := ⟨.PO, 0x40020004, 8, 0x40, 1, 0x4, 1,
  [PO_STATUS_MISSED, PO_STATUS_SKIPPED, PO_STATUS_HELD]⟩
def PO_EMITTED_COUNT : Fld := ⟨0x40020008, 0, 32, 0, .rc⟩
/-- PO_EMITTED_n: pulses emitted. -/
def R_PO_EMITTED : RegD := ⟨.PO, 0x40020008, 8, 0x40, 1, 0x4, 1,
  [PO_EMITTED_COUNT]⟩
def PO_START_TIME : Fld := ⟨0x40020010, 0, 128, 0, .rwq⟩
/-- PO_START_n: first edge. -/
def R_PO_START : RegD := ⟨.PO, 0x40020010, 8, 0x40, 1, 0x10, 4,
  [PO_START_TIME]⟩
def PO_PERIOD_PERIOD : Fld := ⟨0x40020020, 0, 64, 0x3b9aca000000, .rwsSecond⟩
/-- PO_PERIOD_n: period. -/
def R_PO_PERIOD : RegD := ⟨.PO, 0x40020020, 8, 0x40, 1, 0x8, 2,
  [PO_PERIOD_PERIOD]⟩
def PO_WIDTH_WIDTH : Fld := ⟨0x40020028, 0, 32, 0x5f5e100, .rwsSecond⟩
/-- PO_WIDTH_n: pulse width. -/
def R_PO_WIDTH : RegD := ⟨.PO, 0x40020028, 8, 0x40, 1, 0x4, 1,
  [PO_WIDTH_WIDTH]⟩
def PO_TRIM_TRIM : Fld := ⟨0x4002002c, 0, 32, 0, .rwq⟩
/-- PO_TRIM_n: board delay trim. -/
def R_PO_TRIM : RegD := ⟨.PO, 0x4002002c, 8, 0x40, 1, 0x4, 1,
  [PO_TRIM_TRIM]⟩
def PO_NEXT_TIME : Fld := ⟨0x40020030, 0, 128, 0, .ro⟩
/-- PO_NEXT_n: next edge. -/
def R_PO_NEXT : RegD := ⟨.PO, 0x40020030, 8, 0x40, 1, 0x10, 4,
  [PO_NEXT_TIME]⟩

/-! ### Registers of 03_edge_measurement.md -/

def TM_CAL_CTL_HITS_LOG2 : Fld := ⟨0x40030000, 0, 5, 0x14, .rwsTick⟩
def TM_CAL_CTL_STALE_MS : Fld := ⟨0x40030000, 16, 16, 0x3e8, .rw⟩
/-- TM_CAL_CTL: calibration control. -/
def R_TM_CAL_CTL : RegD := ⟨.TM, 0x40030000, 1, 0x4, 1, 0x4, 1,
  [TM_CAL_CTL_HITS_LOG2, TM_CAL_CTL_STALE_MS]⟩
def TM_LOSC_CTL_READY_POL : Fld := ⟨0x40030010, 0, 1, 0, .rw⟩
def TM_LOSC_CTL_WARM_SEL : Fld := ⟨0x40030010, 1, 2, 0, .rw⟩
def TM_LOSC_CTL_WARM_SRC : Fld := ⟨0x40030010, 3, 2, 0, .rwq⟩
def TM_LOSC_CTL_WARM_COUNT : Fld := ⟨0x40030010, 8, 8, 4, .rw⟩
def TM_LOSC_CTL_WARM_THRESH : Fld := ⟨0x40030010, 16, 16, 0x64, .rw⟩
/-- TM_LOSC_CTL: oscillator monitoring control. -/
def R_TM_LOSC_CTL : RegD := ⟨.TM, 0x40030010, 1, 0x4, 1, 0x4, 1,
  [TM_LOSC_CTL_READY_POL, TM_LOSC_CTL_WARM_SEL, TM_LOSC_CTL_WARM_SRC, TM_LOSC_CTL_WARM_COUNT, TM_LOSC_CTL_WARM_THRESH]⟩
def TM_LOSC_STATUS_PRESENT : Fld := ⟨0x40030014, 0, 1, 0, .ro⟩
def TM_LOSC_STATUS_READY_PIN : Fld := ⟨0x40030014, 1, 1, 0, .ro⟩
def TM_LOSC_STATUS_WARM_EST : Fld := ⟨0x40030014, 2, 1, 0, .ro⟩
def TM_LOSC_STATUS_WARM : Fld := ⟨0x40030014, 3, 1, 0, .ro⟩
def TM_LOSC_STATUS_LOST : Fld := ⟨0x40030014, 4, 1, 0, .w1c⟩
/-- TM_LOSC_STATUS: oscillator status. -/
def R_TM_LOSC_STATUS : RegD := ⟨.TM, 0x40030014, 1, 0x4, 1, 0x4, 1,
  [TM_LOSC_STATUS_PRESENT, TM_LOSC_STATUS_READY_PIN, TM_LOSC_STATUS_WARM_EST, TM_LOSC_STATUS_WARM, TM_LOSC_STATUS_LOST]⟩
def TM_WARM_FREQ_Y : Fld := ⟨0x40030018, 0, 32, 0, .ro⟩
/-- TM_WARM_FREQ: last window frequency. -/
def R_TM_WARM_FREQ : RegD := ⟨.TM, 0x40030018, 1, 0x4, 1, 0x4, 1,
  [TM_WARM_FREQ_Y]⟩
def TM_LOOP_CTL_EN : Fld := ⟨0x40030020, 0, 1, 0, .rw⟩
def TM_LOOP_CTL_PERIOD : Fld := ⟨0x40030020, 1, 15, 0xc8, .rwq⟩
def TM_LOOP_CTL_PHASE_STEP : Fld := ⟨0x40030020, 16, 12, 1, .rwq⟩
/-- TM_LOOP_CTL: loop generator. -/
def R_TM_LOOP_CTL : RegD := ⟨.TM, 0x40030020, 1, 0x4, 1, 0x4, 1,
  [TM_LOOP_CTL_EN, TM_LOOP_CTL_PERIOD, TM_LOOP_CTL_PHASE_STEP]⟩
def TM_CH_CTL_EN : Fld := ⟨0x40030100, 0, 1, 0, .rw⟩
def TM_CH_CTL_MODE : Fld := ⟨0x40030100, 1, 2, 0, .rwq⟩
def TM_CH_CTL_EDGE : Fld := ⟨0x40030100, 3, 2, 0, .rwq⟩
def TM_CH_CTL_STOP_SEL : Fld := ⟨0x40030100, 5, 2, 0, .rwq⟩
def TM_CH_CTL_STOP_CH : Fld := ⟨0x40030100, 7, 4, 0, .rwq⟩
def TM_CH_CTL_READER : Fld := ⟨0x40030100, 11, 2, 0, .rwq⟩
def TM_CH_CTL_RING : Fld := ⟨0x40030100, 16, 6, 0, .rwq⟩
/-- TM_CH_CTL_n: channel control. -/
def R_TM_CH_CTL : RegD := ⟨.TM, 0x40030100, 12, 0x40, 1, 0x4, 1,
  [TM_CH_CTL_EN, TM_CH_CTL_MODE, TM_CH_CTL_EDGE, TM_CH_CTL_STOP_SEL, TM_CH_CTL_STOP_CH, TM_CH_CTL_READER, TM_CH_CTL_RING]⟩
def TM_CH_STATUS_BUSY : Fld := ⟨0x40030104, 0, 1, 0, .ro⟩
def TM_CH_STATUS_OFS_CAL : Fld := ⟨0x40030104, 1, 1, 0, .ro⟩
def TM_CH_STATUS_CAL_STALE : Fld := ⟨0x40030104, 2, 1, 1, .ro⟩
def TM_CH_STATUS_INTERVAL_OPEN : Fld := ⟨0x40030104, 3, 1, 0, .ro⟩
/-- TM_CH_STATUS_n: channel status. -/
def R_TM_CH_STATUS : RegD := ⟨.TM, 0x40030104, 12, 0x40, 1, 0x4, 1,
  [TM_CH_STATUS_BUSY, TM_CH_STATUS_OFS_CAL, TM_CH_STATUS_CAL_STALE, TM_CH_STATUS_INTERVAL_OPEN]⟩
def TM_PRESCALE_N : Fld := ⟨0x40030108, 0, 24, 1, .rwq⟩
/-- TM_PRESCALE_n: edge prescaler. -/
def R_TM_PRESCALE : RegD := ⟨.TM, 0x40030108, 12, 0x40, 1, 0x4, 1,
  [TM_PRESCALE_N]⟩
def TM_TIMEOUT_NS : Fld := ⟨0x4003010c, 0, 32, 0x3b9aca00, .rwq⟩
/-- TM_TIMEOUT_n: interval timeout. -/
def R_TM_TIMEOUT : RegD := ⟨.TM, 0x4003010c, 12, 0x40, 1, 0x4, 1,
  [TM_TIMEOUT_NS]⟩
def TM_TRIM_TRIM : Fld := ⟨0x40030110, 0, 32, 0, .rwq⟩
/-- TM_TRIM_n: board delay trim. -/
def R_TM_TRIM : RegD := ⟨.TM, 0x40030110, 12, 0x40, 1, 0x4, 1,
  [TM_TRIM_TRIM]⟩
def TM_TRIM_UNC_UNC : Fld := ⟨0x40030114, 0, 32, 0, .rw⟩
/-- TM_TRIM_UNC_n: trim uncertainty. -/
def R_TM_TRIM_UNC : RegD := ⟨.TM, 0x40030114, 12, 0x40, 1, 0x4, 1,
  [TM_TRIM_UNC_UNC]⟩
def TM_LEVEL_LEVEL : Fld := ⟨0x40030118, 0, 9, 0, .ro⟩
/-- TM_LEVEL_n: FIFO level. -/
def R_TM_LEVEL : RegD := ⟨.TM, 0x40030118, 12, 0x40, 1, 0x4, 1,
  [TM_LEVEL_LEVEL]⟩
def TM_LOST_COUNT : Fld := ⟨0x4003011c, 0, 32, 0, .rc⟩
/-- TM_LOST_n: records lost. -/
def R_TM_LOST : RegD := ⟨.TM, 0x4003011c, 12, 0x40, 1, 0x4, 1,
  [TM_LOST_COUNT]⟩
def TM_DEAD_COUNT : Fld := ⟨0x40030120, 0, 32, 0, .rc⟩
/-- TM_DEAD_n: edges lost to dead time. -/
def R_TM_DEAD : RegD := ⟨.TM, 0x40030120, 12, 0x40, 1, 0x4, 1,
  [TM_DEAD_COUNT]⟩
def TM_OFFSET_OFFSET : Fld := ⟨0x40030124, 0, 32, 0, .ro⟩
/-- TM_OFFSET_n: internal delay. -/
def R_TM_OFFSET : RegD := ⟨.TM, 0x40030124, 12, 0x40, 1, 0x4, 1,
  [TM_OFFSET_OFFSET]⟩
def TM_CAL_AGE_AGE : Fld := ⟨0x40030128, 0, 32, 0xffffffff, .ro⟩
/-- TM_CAL_AGE_n: active table age. -/
def R_TM_CAL_AGE : RegD := ⟨.TM, 0x40030128, 12, 0x40, 1, 0x4, 1,
  [TM_CAL_AGE_AGE]⟩
def TM_FIFO_RECORD : Fld := ⟨0x40030130, 0, 128, 0, .ro⟩
/-- TM_FIFO_n: FIFO head. -/
def R_TM_FIFO : RegD := ⟨.TM, 0x40030130, 12, 0x40, 1, 0x10, 4,
  [TM_FIFO_RECORD]⟩

/-! ### Registers of 04_clock_synthesis.md -/

def SY_ROOT_CFG_LOSC_FREQ : Fld := ⟨0x40040000, 0, 2, 0, .rw⟩
def SY_ROOT_CFG_PATH : Fld := ⟨0x40040000, 2, 2, 0, .rw⟩
def SY_ROOT_CFG_BW : Fld := ⟨0x40040000, 4, 2, 1, .rw⟩
/-- SY_ROOT_CFG: root configuration. -/
def R_SY_ROOT_CFG : RegD := ⟨.SY, 0x40040000, 1, 0x4, 1, 0x4, 1,
  [SY_ROOT_CFG_LOSC_FREQ, SY_ROOT_CFG_PATH, SY_ROOT_CFG_BW]⟩
def SY_ROOT_CMD_RELOCK : Fld := ⟨0x40040004, 0, 1, 0, .wo⟩
def SY_ROOT_CMD_SWEEP : Fld := ⟨0x40040004, 1, 1, 0, .wo⟩
/-- SY_ROOT_CMD: root command. -/
def R_SY_ROOT_CMD : RegD := ⟨.SY, 0x40040004, 1, 0x4, 1, 0x4, 1,
  [SY_ROOT_CMD_RELOCK, SY_ROOT_CMD_SWEEP]⟩
def SY_ROOT_STATUS_LOCKED : Fld := ⟨0x40040008, 0, 1, 0, .ro⟩
def SY_ROOT_STATUS_RELOCKING : Fld := ⟨0x40040008, 1, 1, 0, .ro⟩
def SY_ROOT_STATUS_SWEEP_BUSY : Fld := ⟨0x40040008, 2, 1, 0, .ro⟩
def SY_ROOT_STATUS_BAND : Fld := ⟨0x40040008, 3, 5, 0, .ro⟩
def SY_ROOT_STATUS_N : Fld := ⟨0x40040008, 8, 11, 0, .ro⟩
def SY_ROOT_STATUS_UNLOCKED : Fld := ⟨0x40040008, 19, 1, 0, .w1c⟩
/-- SY_ROOT_STATUS: root status. -/
def R_SY_ROOT_STATUS : RegD := ⟨.SY, 0x40040008, 1, 0x4, 1, 0x4, 1,
  [SY_ROOT_STATUS_LOCKED, SY_ROOT_STATUS_RELOCKING, SY_ROOT_STATUS_SWEEP_BUSY, SY_ROOT_STATUS_BAND, SY_ROOT_STATUS_N, SY_ROOT_STATUS_UNLOCKED]⟩
def SY_RELOCK_COUNT_COUNT : Fld := ⟨0x4004000c, 0, 32, 0, .rc⟩
/-- SY_RELOCK_COUNT: completed relocks. -/
def R_SY_RELOCK_COUNT : RegD := ⟨.SY, 0x4004000c, 1, 0x4, 1, 0x4, 1,
  [SY_RELOCK_COUNT_COUNT]⟩
def SY_SAFE_MEAS_PERIOD : Fld := ⟨0x40040010, 0, 64, 0xa000000000000, .ro⟩
/-- SY_SAFE_MEAS: measured safe-oscillator period. -/
def R_SY_SAFE_MEAS : RegD := ⟨.SY, 0x40040010, 1, 0x8, 1, 0x8, 2,
  [SY_SAFE_MEAS_PERIOD]⟩
def SY_SAFE_DRIFT_DRIFT : Fld := ⟨0x40040018, 0, 32, 0xffffffff, .ro⟩
/-- SY_SAFE_DRIFT: safe-oscillator drift. -/
def R_SY_SAFE_DRIFT : RegD := ⟨.SY, 0x40040018, 1, 0x4, 1, 0x4, 1,
  [SY_SAFE_DRIFT_DRIFT]⟩
def SY_SAFE_UNC_UNC : Fld := ⟨0x4004001c, 0, 32, 0x3e800, .rw⟩
/-- SY_SAFE_UNC: safe-clock widening. -/
def R_SY_SAFE_UNC : RegD := ⟨.SY, 0x4004001c, 1, 0x4, 1, 0x4, 1,
  [SY_SAFE_UNC_UNC]⟩
def SY_BAND_TABLE_FMIN : Fld := ⟨0x40040100, 0, 15, 0, .rw⟩
def SY_BAND_TABLE_FMAX : Fld := ⟨0x40040100, 15, 15, 0, .rw⟩
def SY_BAND_TABLE_VALID : Fld := ⟨0x40040100, 31, 1, 0, .rw⟩
/-- SY_BAND_TABLE_n: root band table. -/
def R_SY_BAND_TABLE : RegD := ⟨.SY, 0x40040100, 32, 0x4, 1, 0x4, 1,
  [SY_BAND_TABLE_FMIN, SY_BAND_TABLE_FMAX, SY_BAND_TABLE_VALID]⟩
def SY_OPLL_CTL_EN : Fld := ⟨0x40040200, 0, 1, 0, .rw⟩
def SY_OPLL_CTL_TRACK : Fld := ⟨0x40040200, 1, 1, 0, .rw⟩
def SY_OPLL_CTL_REF_SEL : Fld := ⟨0x40040200, 2, 2, 0, .rwq⟩
def SY_OPLL_CTL_BW : Fld := ⟨0x40040200, 4, 2, 2, .rwq⟩
/-- SY_OPLL_CTL_n: output PLL control. -/
def R_SY_OPLL_CTL : RegD := ⟨.SY, 0x40040200, 4, 0x20, 1, 0x4, 1,
  [SY_OPLL_CTL_EN, SY_OPLL_CTL_TRACK, SY_OPLL_CTL_REF_SEL, SY_OPLL_CTL_BW]⟩
def SY_OPLL_STATUS_LOCKED : Fld := ⟨0x40040204, 0, 1, 0, .ro⟩
def SY_OPLL_STATUS_RELOCKING : Fld := ⟨0x40040204, 1, 1, 0, .ro⟩
def SY_OPLL_STATUS_BUSY : Fld := ⟨0x40040204, 2, 1, 0, .ro⟩
def SY_OPLL_STATUS_BAND : Fld := ⟨0x40040204, 3, 4, 0, .ro⟩
/-- SY_OPLL_STATUS_n: output PLL status. -/
def R_SY_OPLL_STATUS : RegD := ⟨.SY, 0x40040204, 4, 0x20, 1, 0x4, 1,
  [SY_OPLL_STATUS_LOCKED, SY_OPLL_STATUS_RELOCKING, SY_OPLL_STATUS_BUSY, SY_OPLL_STATUS_BAND]⟩
def SY_OPLL_MULT_FRAC : Fld := ⟨0x40040208, 0, 48, 0, .rw⟩
def SY_OPLL_MULT_INT : Fld := ⟨0x40040208, 48, 6, 0x32, .rw⟩
/-- SY_OPLL_MULT_n: multiplier. -/
def R_SY_OPLL_MULT : RegD := ⟨.SY, 0x40040208, 4, 0x20, 1, 0x8, 2,
  [SY_OPLL_MULT_FRAC, SY_OPLL_MULT_INT]⟩
def SY_OPLL_MEFF_MEFF : Fld := ⟨0x40040210, 0, 54, 0, .ro⟩
/-- SY_OPLL_MEFF_n: effective multiplier. -/
def R_SY_OPLL_MEFF : RegD := ⟨.SY, 0x40040210, 4, 0x20, 1, 0x8, 2,
  [SY_OPLL_MEFF_MEFF]⟩
def SY_CKO_CTL_EN : Fld := ⟨0x40040300, 0, 1, 0, .rw⟩
def SY_CKO_CTL_SRC : Fld := ⟨0x40040300, 1, 2, 0, .rwq⟩
def SY_CKO_CTL_HOLD_MODE : Fld := ⟨0x40040300, 3, 1, 0, .rwq⟩
def SY_CKO_CTL_ALIGN : Fld := ⟨0x40040300, 4, 1, 0, .rwq⟩
def SY_CKO_CTL_MARGIN : Fld := ⟨0x40040300, 8, 8, 0xa, .rwq⟩
/-- SY_CKO_CTL_n: clock output control. -/
def R_SY_CKO_CTL : RegD := ⟨.SY, 0x40040300, 8, 0x20, 1, 0x4, 1,
  [SY_CKO_CTL_EN, SY_CKO_CTL_SRC, SY_CKO_CTL_HOLD_MODE, SY_CKO_CTL_ALIGN, SY_CKO_CTL_MARGIN]⟩
def SY_CKO_DIV_DIV : Fld := ⟨0x40040304, 0, 24, 0x1f3, .rwq⟩
/-- SY_CKO_DIV_n: output divider. -/
def R_SY_CKO_DIV : RegD := ⟨.SY, 0x40040304, 8, 0x20, 1, 0x4, 1,
  [SY_CKO_DIV_DIV]⟩
def SY_CKO_TRIM_TRIM : Fld := ⟨0x40040308, 0, 32, 0, .rwq⟩
/-- SY_CKO_TRIM_n: board delay trim. -/
def R_SY_CKO_TRIM : RegD := ⟨.SY, 0x40040308, 8, 0x20, 1, 0x4, 1,
  [SY_CKO_TRIM_TRIM]⟩
def SY_CKO_STATUS_BUSY : Fld := ⟨0x4004030c, 0, 1, 0, .ro⟩
def SY_CKO_STATUS_HOLDING : Fld := ⟨0x4004030c, 1, 1, 0, .ro⟩
def SY_CKO_STATUS_ALIGNING : Fld := ⟨0x4004030c, 2, 1, 0, .ro⟩
def SY_CKO_STATUS_ALIGNED : Fld := ⟨0x4004030c, 3, 1, 0, .ro⟩
def SY_CKO_STATUS_GUARD : Fld := ⟨0x4004030c, 4, 1, 0, .w1c⟩
/-- SY_CKO_STATUS_n: clock output status. -/
def R_SY_CKO_STATUS : RegD := ⟨.SY, 0x4004030c, 8, 0x20, 1, 0x4, 1,
  [SY_CKO_STATUS_BUSY, SY_CKO_STATUS_HOLDING, SY_CKO_STATUS_ALIGNING, SY_CKO_STATUS_ALIGNED, SY_CKO_STATUS_GUARD]⟩
def SY_CKO_SWALLOW_COUNT : Fld := ⟨0x40040310, 0, 32, 0, .rc⟩
/-- SY_CKO_SWALLOW_n: suppressed cycles. -/
def R_SY_CKO_SWALLOW : RegD := ⟨.SY, 0x40040310, 8, 0x20, 1, 0x4, 1,
  [SY_CKO_SWALLOW_COUNT]⟩

/-! ### Registers of 05_reference_selection.md -/

def RS_CTL_EN : Fld := ⟨0x40050000, 0, 1, 0, .rw⟩
def RS_CTL_PREFERRED : Fld := ⟨0x40050000, 1, 3, 0, .rw⟩
def RS_CTL_PREF_VALID : Fld := ⟨0x40050000, 4, 1, 0, .rw⟩
/-- RS_CTL: selection control. -/
def R_RS_CTL : RegD := ⟨.RS, 0x40050000, 1, 0x4, 1, 0x4, 1,
  [RS_CTL_EN, RS_CTL_PREFERRED, RS_CTL_PREF_VALID]⟩
def RS_SELECT_REF : Fld := ⟨0x40050004, 0, 3, 0, .rw⟩
def RS_SELECT_FORCE : Fld := ⟨0x40050004, 3, 1, 0, .rw⟩
/-- RS_SELECT: manual selection. -/
def R_RS_SELECT : RegD := ⟨.RS, 0x40050004, 1, 0x4, 1, 0x4, 1,
  [RS_SELECT_REF, RS_SELECT_FORCE]⟩
def RS_STATE_ENGINE_STATE : Fld := ⟨0x40050008, 0, 3, 0, .ro⟩
def RS_STATE_EVER_LOCKED : Fld := ⟨0x40050008, 3, 1, 0, .ro⟩
def RS_STATE_SELECTED : Fld := ⟨0x40050008, 4, 3, 0, .ro⟩
def RS_STATE_SEL_VALID : Fld := ⟨0x40050008, 7, 1, 0, .ro⟩
def RS_STATE_FORCED : Fld := ⟨0x40050008, 8, 1, 0, .ro⟩
def RS_STATE_DISPUTE_ALARM : Fld := ⟨0x40050008, 9, 1, 0, .ro⟩
def RS_STATE_TIER : Fld := ⟨0x40050008, 10, 3, 1, .ro⟩
/-- RS_STATE: engine state. -/
def R_RS_STATE : RegD := ⟨.RS, 0x40050008, 1, 0x4, 1, 0x4, 1,
  [RS_STATE_ENGINE_STATE, RS_STATE_EVER_LOCKED, RS_STATE_SELECTED, RS_STATE_SEL_VALID, RS_STATE_FORCED, RS_STATE_DISPUTE_ALARM, RS_STATE_TIER]⟩
def RS_EVENT_STATE_CHG : Fld := ⟨0x4005000c, 0, 1, 0, .w1c⟩
def RS_EVENT_SEL_CHG : Fld := ⟨0x4005000c, 1, 1, 0, .w1c⟩
def RS_EVENT_REF_CHG : Fld := ⟨0x4005000c, 2, 1, 0, .w1c⟩
def RS_EVENT_REROUTE : Fld := ⟨0x4005000c, 3, 1, 0, .w1c⟩
/-- RS_EVENT: selection events. -/
def R_RS_EVENT : RegD := ⟨.RS, 0x4005000c, 1, 0x4, 1, 0x4, 1,
  [RS_EVENT_STATE_CHG, RS_EVENT_SEL_CHG, RS_EVENT_REF_CHG, RS_EVENT_REROUTE]⟩
def RS_LOCK_CFG_PHASE_NS : Fld := ⟨0x40050010, 0, 16, 0x32, .rw⟩
def RS_LOCK_CFG_TIME_S : Fld := ⟨0x40050010, 16, 8, 0x10, .rw⟩
/-- RS_LOCK_CFG: lock window. -/
def R_RS_LOCK_CFG : RegD := ⟨.RS, 0x40050010, 1, 0x4, 1, 0x4, 1,
  [RS_LOCK_CFG_PHASE_NS, RS_LOCK_CFG_TIME_S]⟩
def RS_EQ_CFG_THRESH : Fld := ⟨0x40050014, 0, 16, 0x1f4, .rw⟩
/-- RS_EQ_CFG: equal-rank threshold. -/
def R_RS_EQ_CFG : RegD := ⟨.RS, 0x40050014, 1, 0x4, 1, 0x4, 1,
  [RS_EQ_CFG_THRESH]⟩
def RS_ASYM_CFG_STEP_NS : Fld := ⟨0x40050018, 0, 16, 0x32, .rw⟩
def RS_ASYM_CFG_PRED_TOL_NS : Fld := ⟨0x40050018, 16, 16, 0xa, .rw⟩
/-- RS_ASYM_CFG: reroute detector. -/
def R_RS_ASYM_CFG : RegD := ⟨.RS, 0x40050018, 1, 0x4, 1, 0x4, 1,
  [RS_ASYM_CFG_STEP_NS, RS_ASYM_CFG_PRED_TOL_NS]⟩
def RS_REF_CTL_EN : Fld := ⟨0x40050100, 0, 1, 0, .rw⟩
def RS_REF_CTL_RANK : Fld := ⟨0x40050100, 1, 4, 0xf, .rw⟩
def RS_REF_CTL_MODE : Fld := ⟨0x40050100, 5, 2, 0, .rwq⟩
def RS_REF_CTL_ASYM_MODE : Fld := ⟨0x40050100, 7, 1, 0, .rw⟩
def RS_REF_CTL_LANE : Fld := ⟨0x40050100, 8, 3, 2, .rwq⟩
def RS_REF_CTL_NEED_AUTH : Fld := ⟨0x40050100, 11, 1, 1, .rw⟩
def RS_REF_CTL_QUAL_S : Fld := ⟨0x40050100, 16, 16, 0x3c, .rw⟩
/-- RS_REF_CTL_n: reference control. -/
def R_RS_REF_CTL : RegD := ⟨.RS, 0x40050100, 8, 0x80, 1, 0x4, 1,
  [RS_REF_CTL_EN, RS_REF_CTL_RANK, RS_REF_CTL_MODE, RS_REF_CTL_ASYM_MODE, RS_REF_CTL_LANE, RS_REF_CTL_NEED_AUTH, RS_REF_CTL_QUAL_S]⟩
def RS_REF_CMD_DISQUALIFY : Fld := ⟨0x40050104, 0, 1, 0, .wo⟩
def RS_REF_CMD_ACCEPT : Fld := ⟨0x40050104, 1, 1, 0, .wo⟩
def RS_REF_CMD_CLR_DISPUTE : Fld := ⟨0x40050104, 2, 1, 0, .wo⟩
def RS_REF_CMD_CLR_COMP : Fld := ⟨0x40050104, 3, 1, 0, .wo⟩
/-- RS_REF_CMD_n: reference command. -/
def R_RS_REF_CMD : RegD := ⟨.RS, 0x40050104, 8, 0x80, 1, 0x4, 1,
  [RS_REF_CMD_DISQUALIFY, RS_REF_CMD_ACCEPT, RS_REF_CMD_CLR_DISPUTE, RS_REF_CMD_CLR_COMP]⟩
def RS_REF_STATUS_STATE : Fld := ⟨0x40050108, 0, 3, 0, .ro⟩
def RS_REF_STATUS_DISPUTED : Fld := ⟨0x40050108, 3, 1, 0, .ro⟩
def RS_REF_STATUS_SUSPECT : Fld := ⟨0x40050108, 4, 1, 0, .ro⟩
def RS_REF_STATUS_FREQ_VALID : Fld := ⟨0x40050108, 5, 1, 0, .ro⟩
def RS_REF_STATUS_REASON : Fld := ⟨0x40050108, 8, 4, 0, .ro⟩
def RS_REF_STATUS_QUAL_REMAIN : Fld := ⟨0x40050108, 16, 16, 0, .ro⟩
/-- RS_REF_STATUS_n: reference status. -/
def R_RS_REF_STATUS : RegD := ⟨.RS, 0x40050108, 8, 0x80, 1, 0x4, 1,
  [RS_REF_STATUS_STATE, RS_REF_STATUS_DISPUTED, RS_REF_STATUS_SUSPECT, RS_REF_STATUS_FREQ_VALID, RS_REF_STATUS_REASON, RS_REF_STATUS_QUAL_REMAIN]⟩
def RS_PHASE_PHASE : Fld := ⟨0x40050110, 0, 64, 0, .ro⟩
/-- RS_PHASE_n: phase. -/
def R_RS_PHASE : RegD := ⟨.RS, 0x40050110, 8, 0x80, 1, 0x8, 2,
  [RS_PHASE_PHASE]⟩
def RS_SAMPLE_WNC : Fld := ⟨0x40050118, 0, 48, 0, .ro⟩
def RS_SAMPLE_SEQ : Fld := ⟨0x40050118, 48, 16, 0, .ro⟩
/-- RS_SAMPLE_n: measurement instant. -/
def R_RS_SAMPLE : RegD := ⟨.RS, 0x40050118, 8, 0x80, 1, 0x8, 2,
  [RS_SAMPLE_WNC, RS_SAMPLE_SEQ]⟩
def RS_FREQ_Y : Fld := ⟨0x40050120, 0, 32, 0, .ro⟩
/-- RS_FREQ_n: frequency. -/
def R_RS_FREQ : RegD := ⟨.RS, 0x40050120, 8, 0x80, 1, 0x4, 1,
  [RS_FREQ_Y]⟩
def RS_UNC_UNC : Fld := ⟨0x40050124, 0, 32, 0xffffffff, .ro⟩
/-- RS_UNC_n: reference uncertainty. -/
def R_RS_UNC : RegD := ⟨.RS, 0x40050124, 8, 0x80, 1, 0x4, 1,
  [RS_UNC_UNC]⟩
def RS_DELAY_DELAY : Fld := ⟨0x40050128, 0, 32, 0, .rwq⟩
/-- RS_DELAY_n: delay correction. -/
def R_RS_DELAY : RegD := ⟨.RS, 0x40050128, 8, 0x80, 1, 0x4, 1,
  [RS_DELAY_DELAY]⟩
def RS_DELAY_UNC_UNC : Fld := ⟨0x4005012c, 0, 32, 0, .rw⟩
/-- RS_DELAY_UNC_n: delay uncertainty. -/
def R_RS_DELAY_UNC : RegD := ⟨.RS, 0x4005012c, 8, 0x80, 1, 0x4, 1,
  [RS_DELAY_UNC_UNC]⟩
def RS_FREQ_LIMIT_LIMIT : Fld := ⟨0x40050130, 0, 32, 0xf4240, .rw⟩
/-- RS_FREQ_LIMIT_n: frequency limit. -/
def R_RS_FREQ_LIMIT : RegD := ⟨.RS, 0x40050130, 8, 0x80, 1, 0x4, 1,
  [RS_FREQ_LIMIT_LIMIT]⟩
def RS_WANDER_LIMIT_LIMIT : Fld := ⟨0x40050134, 0, 32, 0x64, .rw⟩
/-- RS_WANDER_LIMIT_n: wander limit. -/
def R_RS_WANDER_LIMIT : RegD := ⟨.RS, 0x40050134, 8, 0x80, 1, 0x4, 1,
  [RS_WANDER_LIMIT_LIMIT]⟩
def RS_LOSS_MS_MS : Fld := ⟨0x40050138, 0, 32, 0x9c4, .rw⟩
/-- RS_LOSS_MS_n: presence limit. -/
def R_RS_LOSS_MS : RegD := ⟨.RS, 0x40050138, 8, 0x80, 1, 0x4, 1,
  [RS_LOSS_MS_MS]⟩
def RS_ASYM_COMP_COMP : Fld := ⟨0x4005013c, 0, 32, 0, .ro⟩
/-- RS_ASYM_COMP_n: asymmetry compensation. -/
def R_RS_ASYM_COMP : RegD := ⟨.RS, 0x4005013c, 8, 0x80, 1, 0x4, 1,
  [RS_ASYM_COMP_COMP]⟩
def RS_PKT_CFG_MAX_CLASS : Fld := ⟨0x40050140, 0, 8, 6, .rw⟩
/-- RS_PKT_CFG_n: packet limits. -/
def R_RS_PKT_CFG : RegD := ⟨.RS, 0x40050140, 8, 0x80, 1, 0x4, 1,
  [RS_PKT_CFG_MAX_CLASS]⟩
def RS_REMOTE_UNC_UNC : Fld := ⟨0x40050144, 0, 32, 0x186a0, .rw⟩
/-- RS_REMOTE_UNC_n: assumed remote bound. -/
def R_RS_REMOTE_UNC : RegD := ⟨.RS, 0x40050144, 8, 0x80, 1, 0x4, 1,
  [RS_REMOTE_UNC_UNC]⟩
def RS_UP_MAX_BOUND_BOUND : Fld := ⟨0x40050148, 0, 32, 0xc350, .rw⟩
/-- RS_UP_MAX_BOUND_n: upstream bound limit. -/
def R_RS_UP_MAX_BOUND : RegD := ⟨.RS, 0x40050148, 8, 0x80, 1, 0x4, 1,
  [RS_UP_MAX_BOUND_BOUND]⟩
def RS_TOD_SEC : Fld := ⟨0x40050150, 0, 48, 0, .wo⟩
def RS_TOD_EDGE_SEQ : Fld := ⟨0x40050150, 64, 32, 0, .wo⟩
/-- RS_TOD_n: time-of-day label. -/
def R_RS_TOD : RegD := ⟨.RS, 0x40050150, 8, 0x80, 1, 0xc, 3,
  [RS_TOD_SEC, RS_TOD_EDGE_SEQ]⟩
def RS_TOD_LATE_COUNT : Fld := ⟨0x40050160, 0, 32, 0, .rc⟩
/-- RS_TOD_LATE_n: unmatched labels. -/
def R_RS_TOD_LATE : RegD := ⟨.RS, 0x40050160, 8, 0x80, 1, 0x4, 1,
  [RS_TOD_LATE_COUNT]⟩
def RS_SUSPECT_PHASE_PHASE : Fld := ⟨0x40050168, 0, 64, 0, .ro⟩
/-- RS_SUSPECT_PHASE_n: withheld phase. -/
def R_RS_SUSPECT_PHASE : RegD := ⟨.RS, 0x40050168, 8, 0x80, 1, 0x8, 2,
  [RS_SUSPECT_PHASE_PHASE]⟩

/-! ### Registers of 06_holdover_and_error_bound.md -/

def HO_CTL_EN : Fld := ⟨0x40060000, 0, 1, 0, .rw⟩
def HO_CTL_AUTO : Fld := ⟨0x40060000, 1, 1, 0, .rw⟩
def HO_CTL_ARM_EN : Fld := ⟨0x40060000, 2, 1, 0, .rw⟩
def HO_CTL_B0_ADD_CUR : Fld := ⟨0x40060000, 3, 1, 1, .rw⟩
def HO_CTL_TEMP_SRC : Fld := ⟨0x40060000, 4, 1, 0, .rwq⟩
/-- HO_CTL: holdover control. -/
def R_HO_CTL : RegD := ⟨.HO, 0x40060000, 1, 0x4, 1, 0x4, 1,
  [HO_CTL_EN, HO_CTL_AUTO, HO_CTL_ARM_EN, HO_CTL_B0_ADD_CUR, HO_CTL_TEMP_SRC]⟩
def HO_STATUS_SUMMING : Fld := ⟨0x40060004, 0, 1, 0, .ro⟩
def HO_STATUS_HOLD_READY : Fld := ⟨0x40060004, 1, 1, 0, .ro⟩
def HO_STATUS_DRIVING : Fld := ⟨0x40060004, 2, 1, 0, .ro⟩
def HO_STATUS_TEMP_STALE : Fld := ⟨0x40060004, 3, 1, 0, .ro⟩
def HO_STATUS_HOLD_SRC : Fld := ⟨0x40060004, 4, 2, 0, .ro⟩
/-- HO_STATUS: holdover status. -/
def R_HO_STATUS : RegD := ⟨.HO, 0x40060004, 1, 0x4, 1, 0x4, 1,
  [HO_STATUS_SUMMING, HO_STATUS_HOLD_READY, HO_STATUS_DRIVING, HO_STATUS_TEMP_STALE, HO_STATUS_HOLD_SRC]⟩
def HO_EVENT_LOSS : Fld := ⟨0x40060008, 0, 1, 0, .w1c⟩
def HO_EVENT_LOST : Fld := ⟨0x40060008, 1, 1, 0, .w1c⟩
def HO_EVENT_ARM_COMMIT : Fld := ⟨0x40060008, 2, 1, 0, .w1c⟩
def HO_EVENT_IMPLAUSIBLE : Fld := ⟨0x40060008, 3, 1, 0, .w1c⟩
def HO_EVENT_EXEMPT : Fld := ⟨0x40060008, 4, 1, 0, .w1c⟩
/-- HO_EVENT: holdover events. -/
def R_HO_EVENT : RegD := ⟨.HO, 0x40060008, 1, 0x4, 1, 0x4, 1,
  [HO_EVENT_LOSS, HO_EVENT_LOST, HO_EVENT_ARM_COMMIT, HO_EVENT_IMPLAUSIBLE, HO_EVENT_EXEMPT]⟩
def HO_HIST_BASE_OFFSET : Fld := ⟨0x40060010, 4, 20, 0xc0000, .rwq⟩
/-- HO_HIST_BASE: history location. -/
def R_HO_HIST_BASE : RegD := ⟨.HO, 0x40060010, 1, 0x4, 1, 0x4, 1,
  [HO_HIST_BASE_OFFSET]⟩
def HO_AVG_CFG_LOOKBACK_S : Fld := ⟨0x40060014, 0, 16, 0x258, .rwq⟩
def HO_AVG_CFG_WINDOW_S : Fld := ⟨0x40060014, 16, 16, 0xe10, .rwq⟩
/-- HO_AVG_CFG: averaging window. -/
def R_HO_AVG_CFG : RegD := ⟨.HO, 0x40060014, 1, 0x4, 1, 0x4, 1,
  [HO_AVG_CFG_LOOKBACK_S, HO_AVG_CFG_WINDOW_S]⟩
def HO_MIN_COUNT_COUNT : Fld := ⟨0x40060018, 0, 16, 0x258, .rw⟩
def HO_MIN_COUNT_NEED_WARM : Fld := ⟨0x40060018, 16, 1, 1, .rw⟩
/-- HO_MIN_COUNT: minimum entries. -/
def R_HO_MIN_COUNT : RegD := ⟨.HO, 0x40060018, 1, 0x4, 1, 0x4, 1,
  [HO_MIN_COUNT_COUNT, HO_MIN_COUNT_NEED_WARM]⟩
def HO_AVG_INC_DEV : Fld := ⟨0x40060020, 0, 48, 0, .ro⟩
/-- HO_AVG_INC: window mean deviation. -/
def R_HO_AVG_INC : RegD := ⟨.HO, 0x40060020, 1, 0x8, 1, 0x8, 2,
  [HO_AVG_INC_DEV]⟩
def HO_AVG_TEMP_TEMP : Fld := ⟨0x40060028, 0, 16, 0, .ro⟩
/-- HO_AVG_TEMP: window mean temperature. -/
def R_HO_AVG_TEMP : RegD := ⟨.HO, 0x40060028, 1, 0x4, 1, 0x4, 1,
  [HO_AVG_TEMP_TEMP]⟩
def HO_AVG_COUNT_COUNT : Fld := ⟨0x4006002c, 0, 32, 0, .ro⟩
/-- HO_AVG_COUNT: window entries. -/
def R_HO_AVG_COUNT : RegD := ⟨.HO, 0x4006002c, 1, 0x4, 1, 0x4, 1,
  [HO_AVG_COUNT_COUNT]⟩
def HO_HOLD_INC_INC : Fld := ⟨0x40060030, 0, 64, 0x5000000000000, .ro⟩
/-- HO_HOLD_INC: holdover increment. -/
def R_HO_HOLD_INC : RegD := ⟨.HO, 0x40060030, 1, 0x8, 1, 0x8, 2,
  [HO_HOLD_INC_INC]⟩
def HO_HOLD_TEMP_TEMP : Fld := ⟨0x40060038, 0, 16, 0, .ro⟩
/-- HO_HOLD_TEMP: holdover temperature. -/
def R_HO_HOLD_TEMP : RegD := ⟨.HO, 0x40060038, 1, 0x4, 1, 0x4, 1,
  [HO_HOLD_TEMP_TEMP]⟩
def HO_ELAPSED_SEC : Fld := ⟨0x4006003c, 0, 32, 0, .ro⟩
/-- HO_ELAPSED: time since loss. -/
def R_HO_ELAPSED : RegD := ⟨.HO, 0x4006003c, 1, 0x4, 1, 0x4, 1,
  [HO_ELAPSED_SEC]⟩
def HO_LOSS_TIME_TIME : Fld := ⟨0x40060040, 0, 128, 0, .ro⟩
/-- HO_LOSS_TIME: loss instant. -/
def R_HO_LOSS_TIME : RegD := ⟨.HO, 0x40060040, 1, 0x10, 1, 0x10, 4,
  [HO_LOSS_TIME_TIME]⟩
def HO_AGING_RATE : Fld := ⟨0x40060050, 0, 32, 0, .rw⟩
/-- HO_AGING: aging rate. -/
def R_HO_AGING : RegD := ⟨.HO, 0x40060050, 1, 0x4, 1, 0x4, 1,
  [HO_AGING_RATE]⟩
def HO_TEMPCO_COEF : Fld := ⟨0x40060054, 0, 32, 0, .rw⟩
/-- HO_TEMPCO: temperature coefficient. -/
def R_HO_TEMPCO : RegD := ⟨.HO, 0x40060054, 1, 0x4, 1, 0x4, 1,
  [HO_TEMPCO_COEF]⟩
def HO_TEMP_BOARD_TEMP : Fld := ⟨0x40060058, 0, 16, 0, .rw⟩
/-- HO_TEMP_BOARD: board temperature. -/
def R_HO_TEMP_BOARD : RegD := ⟨.HO, 0x40060058, 1, 0x4, 1, 0x4, 1,
  [HO_TEMP_BOARD_TEMP]⟩
def HO_TEMP_CFG_AGE_MAX_MS : Fld := ⟨0x4006005c, 0, 16, 0x1388, .rw⟩
/-- HO_TEMP_CFG: temperature freshness. -/
def R_HO_TEMP_CFG : RegD := ⟨.HO, 0x4006005c, 1, 0x4, 1, 0x4, 1,
  [HO_TEMP_CFG_AGE_MAX_MS]⟩
def HO_TEMP_DIE_TEMP : Fld := ⟨0x40060060, 0, 16, 0, .ro⟩
/-- HO_TEMP_DIE_n: die temperature. -/
def R_HO_TEMP_DIE : RegD := ⟨.HO, 0x40060060, 4, 0x4, 1, 0x4, 1,
  [HO_TEMP_DIE_TEMP]⟩
def HO_LOST_THRESH_NS : Fld := ⟨0x40060070, 0, 32, 0x64, .rw⟩
/-- HO_LOST_THRESH: LOST threshold. -/
def R_HO_LOST_THRESH : RegD := ⟨.HO, 0x40060070, 1, 0x4, 1, 0x4, 1,
  [HO_LOST_THRESH_NS]⟩
def HO_ARM_COEF_B0 : Fld := ⟨0x40060080, 0, 32, 0, .rw⟩
def HO_ARM_COEF_B1 : Fld := ⟨0x40060080, 32, 32, 0, .rw⟩
def HO_ARM_COEF_B2 : Fld := ⟨0x40060080, 64, 48, 0, .rw⟩
/-- HO_ARM_COEF: armed coefficients. -/
def R_HO_ARM_COEF : RegD := ⟨.HO, 0x40060080, 1, 0x10, 1, 0x10, 4,
  [HO_ARM_COEF_B0, HO_ARM_COEF_B1, HO_ARM_COEF_B2]⟩
def HO_PLAUS_CFG_MARGIN_NS : Fld := ⟨0x40060090, 0, 16, 0, .rw⟩
def HO_PLAUS_CFG_AGREE_S : Fld := ⟨0x40060090, 16, 16, 0x3c, .rw⟩
/-- HO_PLAUS_CFG: plausibility. -/
def R_HO_PLAUS_CFG : RegD := ⟨.HO, 0x40060090, 1, 0x4, 1, 0x4, 1,
  [HO_PLAUS_CFG_MARGIN_NS, HO_PLAUS_CFG_AGREE_S]⟩
def HO_PLAUS_GROUP_GROUP_0 : Fld := ⟨0x40060094, 0, 3, 0, .rw⟩
def HO_PLAUS_GROUP_GROUP_1 : Fld := ⟨0x40060094, 4, 3, 1, .rw⟩
def HO_PLAUS_GROUP_GROUP_2 : Fld := ⟨0x40060094, 8, 3, 2, .rw⟩
def HO_PLAUS_GROUP_GROUP_3 : Fld := ⟨0x40060094, 12, 3, 3, .rw⟩
def HO_PLAUS_GROUP_GROUP_4 : Fld := ⟨0x40060094, 16, 3, 4, .rw⟩
def HO_PLAUS_GROUP_GROUP_5 : Fld := ⟨0x40060094, 20, 3, 5, .rw⟩
def HO_PLAUS_GROUP_GROUP_6 : Fld := ⟨0x40060094, 24, 3, 6, .rw⟩
def HO_PLAUS_GROUP_GROUP_7 : Fld := ⟨0x40060094, 28, 3, 7, .rw⟩
/-- HO_PLAUS_GROUP: independence groups. -/
def R_HO_PLAUS_GROUP : RegD := ⟨.HO, 0x40060094, 1, 0x4, 1, 0x4, 1,
  [HO_PLAUS_GROUP_GROUP_0, HO_PLAUS_GROUP_GROUP_1, HO_PLAUS_GROUP_GROUP_2, HO_PLAUS_GROUP_GROUP_3, HO_PLAUS_GROUP_GROUP_4, HO_PLAUS_GROUP_GROUP_5, HO_PLAUS_GROUP_GROUP_6, HO_PLAUS_GROUP_GROUP_7]⟩
def HO_REF_FLAGS_PLAUS_EXEMPT : Fld := ⟨0x40060098, 0, 8, 0, .ro⟩
/-- HO_REF_FLAGS: plausibility exemptions. -/
def R_HO_REF_FLAGS : RegD := ⟨.HO, 0x40060098, 1, 0x4, 1, 0x4, 1,
  [HO_REF_FLAGS_PLAUS_EXEMPT]⟩

/-! ### Registers of 07_sequencer_programming_model.md -/

def SQ_SEM_HELD : Fld := ⟨0x48000080, 0, 1, 0, .ro⟩
def SQ_SEM_OWNER : Fld := ⟨0x48000080, 1, 4, 0, .ro⟩
def SQ_SEM_ACQUIRE : Fld := ⟨0x48000080, 8, 1, 0, .wo⟩
def SQ_SEM_RELEASE : Fld := ⟨0x48000080, 9, 1, 0, .wo⟩
def SQ_SEM_FORCE_RELEASE : Fld := ⟨0x48000080, 10, 1, 0, .wo⟩
/-- SQ_SEM_s: semaphore. -/
def R_SQ_SEM : RegD := ⟨.SQ, 0x48000080, 32, 0x4, 1, 0x4, 1,
  [SQ_SEM_HELD, SQ_SEM_OWNER, SQ_SEM_ACQUIRE, SQ_SEM_RELEASE, SQ_SEM_FORCE_RELEASE]⟩
def SQ_CTL_EN : Fld := ⟨0x48000100, 0, 1, 0, .rw⟩
def SQ_CTL_RESET : Fld := ⟨0x48000100, 1, 1, 0, .wo⟩
def SQ_CTL_START_USER : Fld := ⟨0x48000100, 2, 1, 0, .rwq⟩
/-- SQ_CTL_n: sequencer control. -/
def R_SQ_CTL : RegD := ⟨.SQ, 0x48000100, 8, 0x40, 1, 0x4, 1,
  [SQ_CTL_EN, SQ_CTL_RESET, SQ_CTL_START_USER]⟩
def SQ_STATUS_BUSY : Fld := ⟨0x48000104, 0, 1, 0, .ro⟩
def SQ_STATUS_RUNNING : Fld := ⟨0x48000104, 1, 1, 0, .ro⟩
def SQ_STATUS_WAITING : Fld := ⟨0x48000104, 2, 1, 0, .ro⟩
def SQ_STATUS_HALTED : Fld := ⟨0x48000104, 3, 1, 0, .ro⟩
def SQ_STATUS_USER : Fld := ⟨0x48000104, 4, 1, 0, .ro⟩
def SQ_STATUS_IN_EXC : Fld := ⟨0x48000104, 5, 1, 0, .ro⟩
def SQ_STATUS_RETIRED : Fld := ⟨0x48000104, 6, 1, 0, .ro⟩
def SQ_STATUS_MBOX_DROP : Fld := ⟨0x48000104, 7, 1, 0, .w1c⟩
def SQ_STATUS_LAST_CAUSE : Fld := ⟨0x48000104, 16, 5, 0, .ro⟩
/-- SQ_STATUS_n: sequencer status. -/
def R_SQ_STATUS : RegD := ⟨.SQ, 0x48000104, 8, 0x40, 1, 0x4, 1,
  [SQ_STATUS_BUSY, SQ_STATUS_RUNNING, SQ_STATUS_WAITING, SQ_STATUS_HALTED, SQ_STATUS_USER, SQ_STATUS_IN_EXC, SQ_STATUS_RETIRED, SQ_STATUS_MBOX_DROP, SQ_STATUS_LAST_CAUSE]⟩
def SQ_PC_PC : Fld := ⟨0x48000108, 0, 16, 0x100, .ro⟩
/-- SQ_PC_n: program counter. -/
def R_SQ_PC : RegD := ⟨.SQ, 0x48000108, 8, 0x40, 1, 0x4, 1,
  [SQ_PC_PC]⟩
def SQ_ENTRY_ENTRY : Fld := ⟨0x4800010c, 0, 16, 0x100, .rwq⟩
/-- SQ_ENTRY_n: entry point. -/
def R_SQ_ENTRY : RegD := ⟨.SQ, 0x4800010c, 8, 0x40, 1, 0x4, 1,
  [SQ_ENTRY_ENTRY]⟩
def SQ_VECTOR_BASE : Fld := ⟨0x48000110, 8, 8, 0, .rwq⟩
/-- SQ_VECTOR_n: exception vectors. -/
def R_SQ_VECTOR : RegD := ⟨.SQ, 0x48000110, 8, 0x40, 1, 0x4, 1,
  [SQ_VECTOR_BASE]⟩
def SQ_USER_PORTS_GROUPS : Fld := ⟨0x48000114, 0, 8, 0, .rwq⟩
/-- SQ_USER_PORTS_n: user port groups. -/
def R_SQ_USER_PORTS : RegD := ⟨.SQ, 0x48000114, 8, 0x40, 1, 0x4, 1,
  [SQ_USER_PORTS_GROUPS]⟩
def SQ_USER_TARGETS_TARGETS : Fld := ⟨0x48000118, 0, 9, 0, .rwq⟩
def SQ_USER_TARGETS_SEQ_RAM : Fld := ⟨0x48000118, 10, 1, 0, .rwq⟩
/-- SQ_USER_TARGETS_n: user matrix targets. -/
def R_SQ_USER_TARGETS : RegD := ⟨.SQ, 0x48000118, 8, 0x40, 1, 0x4, 1,
  [SQ_USER_TARGETS_TARGETS, SQ_USER_TARGETS_SEQ_RAM]⟩
def SQ_RING_RING : Fld := ⟨0x4800011c, 0, 6, 0x20, .rwq⟩
/-- SQ_RING_n: event ring. -/
def R_SQ_RING : RegD := ⟨.SQ, 0x4800011c, 8, 0x40, 1, 0x4, 1,
  [SQ_RING_RING]⟩
def SQ_WDOG_LIMIT : Fld := ⟨0x48000120, 0, 32, 0, .rw⟩
/-- SQ_WDOG_n: watchdog limit. -/
def R_SQ_WDOG : RegD := ⟨.SQ, 0x48000120, 8, 0x40, 1, 0x4, 1,
  [SQ_WDOG_LIMIT]⟩
def SQ_DOORBELL_BELL : Fld := ⟨0x48000124, 0, 32, 0, .w1s⟩
/-- SQ_DOORBELL_n: host doorbell. -/
def R_SQ_DOORBELL : RegD := ⟨.SQ, 0x48000124, 8, 0x40, 1, 0x4, 1,
  [SQ_DOORBELL_BELL]⟩
def SQ_MBOX_WORD : Fld := ⟨0x48000128, 0, 32, 0, .wo⟩
/-- SQ_MBOX_n: host mailbox send. -/
def R_SQ_MBOX : RegD := ⟨.SQ, 0x48000128, 8, 0x40, 1, 0x4, 1,
  [SQ_MBOX_WORD]⟩
def SQ_EXC_EPC : Fld := ⟨0x4800012c, 0, 16, 0, .ro⟩
def SQ_EXC_CAUSE : Fld := ⟨0x4800012c, 16, 5, 0, .ro⟩
def SQ_EXC_IMPRECISE : Fld := ⟨0x4800012c, 21, 1, 0, .ro⟩
def SQ_EXC_EMODE : Fld := ⟨0x4800012c, 22, 1, 0, .ro⟩
def SQ_EXC_VALID : Fld := ⟨0x4800012c, 31, 1, 0, .w1c⟩
/-- SQ_EXC_n: latest exception. -/
def R_SQ_EXC : RegD := ⟨.SQ, 0x4800012c, 8, 0x40, 1, 0x4, 1,
  [SQ_EXC_EPC, SQ_EXC_CAUSE, SQ_EXC_IMPRECISE, SQ_EXC_EMODE, SQ_EXC_VALID]⟩

/-! ### Registers of 09_boot_measurement_attestation.md -/

def BT_STATUS_ROM_READY : Fld := ⟨0x48010000, 0, 1, 0, .ro⟩
def BT_STATUS_LOADING : Fld := ⟨0x48010000, 1, 1, 0, .ro⟩
def BT_STATUS_LAUNCHED : Fld := ⟨0x48010000, 2, 1, 0, .ro⟩
def BT_STATUS_EXT_BUSY : Fld := ⟨0x48010000, 3, 1, 0, .ro⟩
/-- BT_STATUS: boot status. -/
def R_BT_STATUS : RegD := ⟨.BT, 0x48010000, 1, 0x4, 1, 0x4, 1,
  [BT_STATUS_ROM_READY, BT_STATUS_LOADING, BT_STATUS_LAUNCHED, BT_STATUS_EXT_BUSY]⟩
def BT_LOAD_GO : Fld := ⟨0x48010004, 0, 1, 0, .wo⟩
/-- BT_LOAD: load command. -/
def R_BT_LOAD : RegD := ⟨.BT, 0x48010004, 1, 0x4, 1, 0x4, 1,
  [BT_LOAD_GO]⟩
def BT_LOAD_STATUS_RESULT : Fld := ⟨0x48010008, 0, 4, 0, .ro⟩
def BT_LOAD_STATUS_SECTION : Fld := ⟨0x48010008, 8, 8, 0, .ro⟩
def BT_LOAD_STATUS_LOADS : Fld := ⟨0x48010008, 16, 16, 0, .ro⟩
/-- BT_LOAD_STATUS: load result. -/
def R_BT_LOAD_STATUS : RegD := ⟨.BT, 0x48010008, 1, 0x4, 1, 0x4, 1,
  [BT_LOAD_STATUS_RESULT, BT_LOAD_STATUS_SECTION, BT_LOAD_STATUS_LOADS]⟩
def BT_LAUNCH_START_MASK : Fld := ⟨0x4801000c, 0, 8, 0, .wo⟩
/-- BT_LAUNCH: launch. -/
def R_BT_LAUNCH : RegD := ⟨.BT, 0x4801000c, 1, 0x4, 1, 0x4, 1,
  [BT_LAUNCH_START_MASK]⟩
def BT_MODE_MODE : Fld := ⟨0x48010010, 0, 2, 0, .ro⟩
def BT_MODE_REQ : Fld := ⟨0x48010010, 4, 2, 0, .wo⟩
def BT_MODE_REFUSED : Fld := ⟨0x48010010, 8, 1, 0, .w1c⟩
def BT_MODE_REASON : Fld := ⟨0x48010010, 12, 4, 0, .ro⟩
/-- BT_MODE: operating mode. -/
def R_BT_MODE : RegD := ⟨.BT, 0x48010010, 1, 0x4, 1, 0x4, 1,
  [BT_MODE_MODE, BT_MODE_REQ, BT_MODE_REFUSED, BT_MODE_REASON]⟩
def BT_WARM_KEY : Fld := ⟨0x48010014, 0, 8, 0, .wo⟩
def BT_WARM_GO : Fld := ⟨0x48010014, 8, 1, 0, .wo⟩
/-- BT_WARM: warm reset command. -/
def R_BT_WARM : RegD := ⟨.BT, 0x48010014, 1, 0x4, 1, 0x4, 1,
  [BT_WARM_KEY, BT_WARM_GO]⟩
def BT_RESET_CAUSE_COLD : Fld := ⟨0x48010018, 0, 1, 1, .ro⟩
def BT_RESET_CAUSE_WARM_PIN : Fld := ⟨0x48010018, 1, 1, 0, .ro⟩
def BT_RESET_CAUSE_WARM_CMD : Fld := ⟨0x48010018, 2, 1, 0, .ro⟩
def BT_RESET_CAUSE_FATAL : Fld := ⟨0x48010018, 3, 1, 0, .ro⟩
/-- BT_RESET_CAUSE: last reset. -/
def R_BT_RESET_CAUSE : RegD := ⟨.BT, 0x48010018, 1, 0x4, 1, 0x4, 1,
  [BT_RESET_CAUSE_COLD, BT_RESET_CAUSE_WARM_PIN, BT_RESET_CAUSE_WARM_CMD, BT_RESET_CAUSE_FATAL]⟩
def BT_IRAM_LOCK_LOCK : Fld := ⟨0x4801001c, 0, 8, 0, .w1s⟩
/-- BT_IRAM_LOCK: instruction RAM locks. -/
def R_BT_IRAM_LOCK : RegD := ⟨.BT, 0x4801001c, 1, 0x4, 1, 0x4, 1,
  [BT_IRAM_LOCK_LOCK]⟩
def BT_EXTEND_GO : Fld := ⟨0x48010020, 0, 1, 0, .wo⟩
/-- BT_EXTEND: host extension. -/
def R_BT_EXTEND : RegD := ⟨.BT, 0x48010020, 1, 0x4, 1, 0x4, 1,
  [BT_EXTEND_GO]⟩
def BT_EXT_DATA_DATA : Fld := ⟨0x48010030, 0, 384, 0, .rw⟩
/-- BT_EXT_DATA: extension value. -/
def R_BT_EXT_DATA : RegD := ⟨.BT, 0x48010030, 1, 0x30, 1, 0x30, 12,
  [BT_EXT_DATA_DATA]⟩
def BT_NET_CFG_PORT : Fld := ⟨0x48010060, 0, 16, 0, .rw⟩
def BT_NET_CFG_COST : Fld := ⟨0x48010060, 16, 8, 0x40, .rw⟩
/-- BT_NET_CFG: network attestation. -/
def R_BT_NET_CFG : RegD := ⟨.BT, 0x48010060, 1, 0x4, 1, 0x4, 1,
  [BT_NET_CFG_PORT, BT_NET_CFG_COST]⟩
def BT_NET_RATE_RATE : Fld := ⟨0x48010064, 0, 16, 0x64, .rw⟩
/-- BT_NET_RATE: global quote budget. -/
def R_BT_NET_RATE : RegD := ⟨.BT, 0x48010064, 1, 0x4, 1, 0x4, 1,
  [BT_NET_RATE_RATE]⟩
def BT_NET_SENT_COUNT : Fld := ⟨0x48010068, 0, 32, 0, .rc⟩
/-- BT_NET_SENT: responses sent. -/
def R_BT_NET_SENT : RegD := ⟨.BT, 0x48010068, 1, 0x4, 1, 0x4, 1,
  [BT_NET_SENT_COUNT]⟩
def BT_NET_DROP_COUNT : Fld := ⟨0x4801006c, 0, 32, 0, .rc⟩
/-- BT_NET_DROP: requests dropped. -/
def R_BT_NET_DROP : RegD := ⟨.BT, 0x4801006c, 1, 0x4, 1, 0x4, 1,
  [BT_NET_DROP_COUNT]⟩
def BT_MA_MA : Fld := ⟨0x48010100, 0, 384, 0, .ro⟩
/-- BT_MA_n: measurement accumulator. -/
def R_BT_MA : RegD := ⟨.BT, 0x48010100, 12, 0x40, 1, 0x30, 12,
  [BT_MA_MA]⟩
def BT_Q_CTL_GO : Fld := ⟨0x48010400, 0, 1, 0, .wo⟩
def BT_Q_CTL_VECTOR : Fld := ⟨0x48010400, 8, 8, 0, .rw⟩
def BT_Q_CTL_IRQ_EN : Fld := ⟨0x48010400, 16, 1, 0, .rw⟩
/-- BT_Q_CTL_s: quote control. -/
def R_BT_Q_CTL : RegD := ⟨.BT, 0x48010400, 2, 0x400, 1, 0x4, 1,
  [BT_Q_CTL_GO, BT_Q_CTL_VECTOR, BT_Q_CTL_IRQ_EN]⟩
def BT_Q_STATUS_BUSY : Fld := ⟨0x48010404, 0, 1, 0, .ro⟩
def BT_Q_STATUS_DONE : Fld := ⟨0x48010404, 1, 1, 0, .w1c⟩
/-- BT_Q_STATUS_s: quote status. -/
def R_BT_Q_STATUS : RegD := ⟨.BT, 0x48010404, 2, 0x400, 1, 0x4, 1,
  [BT_Q_STATUS_BUSY, BT_Q_STATUS_DONE]⟩
def BT_Q_NONCE_NONCE : Fld := ⟨0x48010420, 0, 256, 0, .rw⟩
/-- BT_Q_NONCE_s: quote nonce. -/
def R_BT_Q_NONCE : RegD := ⟨.BT, 0x48010420, 2, 0x400, 1, 0x20, 8,
  [BT_Q_NONCE_NONCE]⟩
def BT_Q_OUT_QUOTE : Fld := ⟨0x48010500, 0, 5888, 0, .ro⟩
/-- BT_Q_OUT_s: quote. -/
def R_BT_Q_OUT : RegD := ⟨.BT, 0x48010500, 2, 0x400, 1, 0x2e0, 184,
  [BT_Q_OUT_QUOTE]⟩

/-! ### Registers of 10_keys_and_life_cycle.md -/

def KS_STATUS_ID_READY : Fld := ⟨0x50000000, 0, 1, 0, .ro⟩
def KS_STATUS_DERIVING : Fld := ⟨0x50000000, 1, 1, 0, .ro⟩
def KS_STATUS_CMD_BUSY : Fld := ⟨0x50000000, 2, 1, 0, .ro⟩
def KS_STATUS_TAG_FAIL_SEEN : Fld := ⟨0x50000000, 3, 1, 0, .w1c⟩
/-- KS_STATUS: key store status. -/
def R_KS_STATUS : RegD := ⟨.KS, 0x50000000, 1, 0x4, 1, 0x4, 1,
  [KS_STATUS_ID_READY, KS_STATUS_DERIVING, KS_STATUS_CMD_BUSY, KS_STATUS_TAG_FAIL_SEEN]⟩
def KS_REFUSE_REASON : Fld := ⟨0x50000004, 0, 4, 0, .ro⟩
def KS_REFUSE_ACTOR : Fld := ⟨0x50000004, 4, 4, 0, .ro⟩
def KS_REFUSE_SLOT : Fld := ⟨0x50000004, 8, 8, 0, .ro⟩
def KS_REFUSE_VALID : Fld := ⟨0x50000004, 31, 1, 0, .w1c⟩
/-- KS_REFUSE: latest refusal. -/
def R_KS_REFUSE : RegD := ⟨.KS, 0x50000004, 1, 0x4, 1, 0x4, 1,
  [KS_REFUSE_REASON, KS_REFUSE_ACTOR, KS_REFUSE_SLOT, KS_REFUSE_VALID]⟩
def KS_COMMIT_GO : Fld := ⟨0x50000008, 0, 1, 0, .wo⟩
/-- KS_COMMIT: PF0 commit. -/
def R_KS_COMMIT : RegD := ⟨.KS, 0x50000008, 1, 0x4, 1, 0x4, 1,
  [KS_COMMIT_GO]⟩
def KS_STAGE_SLOT : Fld := ⟨0x5000000c, 0, 8, 0, .wo⟩
def KS_STAGE_STAGE : Fld := ⟨0x5000000c, 8, 1, 0, .wo⟩
def KS_STAGE_DISCARD : Fld := ⟨0x5000000c, 9, 1, 0, .wo⟩
def KS_STAGE_COUNT : Fld := ⟨0x5000000c, 16, 4, 0, .ro⟩
/-- KS_STAGE: PF0 staging. -/
def R_KS_STAGE : RegD := ⟨.KS, 0x5000000c, 1, 0x4, 1, 0x4, 1,
  [KS_STAGE_SLOT, KS_STAGE_STAGE, KS_STAGE_DISCARD, KS_STAGE_COUNT]⟩
def KS_INVAL_SLOT : Fld := ⟨0x50000010, 0, 8, 0, .wo⟩
def KS_INVAL_GO : Fld := ⟨0x50000010, 8, 1, 0, .wo⟩
/-- KS_INVAL: invalidate. -/
def R_KS_INVAL : RegD := ⟨.KS, 0x50000010, 1, 0x4, 1, 0x4, 1,
  [KS_INVAL_SLOT, KS_INVAL_GO]⟩
def KS_GEN_CFG_KEK_PAIR : Fld := ⟨0x50000014, 0, 1, 0, .rw⟩
def KS_GEN_CFG_NTS_PAIR : Fld := ⟨0x50000014, 1, 1, 0, .rw⟩
def KS_GEN_CFG_RCPT_ALG : Fld := ⟨0x50000014, 2, 1, 0, .rw⟩
/-- KS_GEN_CFG: family configuration. -/
def R_KS_GEN_CFG : RegD := ⟨.KS, 0x50000014, 1, 0x4, 1, 0x4, 1,
  [KS_GEN_CFG_KEK_PAIR, KS_GEN_CFG_NTS_PAIR, KS_GEN_CFG_RCPT_ALG]⟩
def KS_GEN_STAGE_KEK_CUR : Fld := ⟨0x50000020, 0, 32, 0, .rw⟩
def KS_GEN_STAGE_KEK_PREV : Fld := ⟨0x50000020, 32, 32, 0, .rw⟩
def KS_GEN_STAGE_NTS_CUR : Fld := ⟨0x50000020, 64, 32, 0, .rw⟩
def KS_GEN_STAGE_NTS_PREV : Fld := ⟨0x50000020, 96, 32, 0, .rw⟩
def KS_GEN_STAGE_RCPT_CUR : Fld := ⟨0x50000020, 128, 32, 0, .rw⟩
def KS_GEN_STAGE_RCPT_PREV : Fld := ⟨0x50000020, 160, 32, 0, .rw⟩
def KS_GEN_STAGE_VALID : Fld := ⟨0x50000020, 192, 6, 0, .rw⟩
/-- KS_GEN_STAGE: staged generations. -/
def R_KS_GEN_STAGE : RegD := ⟨.KS, 0x50000020, 1, 0x1c, 1, 0x1c, 7,
  [KS_GEN_STAGE_KEK_CUR, KS_GEN_STAGE_KEK_PREV, KS_GEN_STAGE_NTS_CUR, KS_GEN_STAGE_NTS_PREV, KS_GEN_STAGE_RCPT_CUR, KS_GEN_STAGE_RCPT_PREV, KS_GEN_STAGE_VALID]⟩
def KS_GEN_ACTIVE_GEN : Fld := ⟨0x50000040, 0, 224, 0, .ro⟩
/-- KS_GEN_ACTIVE: committed generations. -/
def R_KS_GEN_ACTIVE : RegD := ⟨.KS, 0x50000040, 1, 0x1c, 1, 0x1c, 7,
  [KS_GEN_ACTIVE_GEN]⟩
def KS_PARTNER_ID_KEY : Fld := ⟨0x50000060, 0, 768, 0, .rw⟩
/-- KS_PARTNER_ID: partner IDENTITY key. -/
def R_KS_PARTNER_ID : RegD := ⟨.KS, 0x50000060, 1, 0x60, 1, 0x60, 24,
  [KS_PARTNER_ID_KEY]⟩
def KS_CMD_OP : Fld := ⟨0x500000c0, 0, 2, 0, .wo⟩
def KS_CMD_SLOT : Fld := ⟨0x500000c0, 8, 8, 0, .wo⟩
def KS_CMD_GO : Fld := ⟨0x500000c0, 16, 1, 0, .wo⟩
/-- KS_CMD: blob command. -/
def R_KS_CMD : RegD := ⟨.KS, 0x500000c0, 1, 0x4, 1, 0x4, 1,
  [KS_CMD_OP, KS_CMD_SLOT, KS_CMD_GO]⟩
def KS_CMD_STATUS_DONE : Fld := ⟨0x500000c4, 0, 1, 0, .w1c⟩
def KS_CMD_STATUS_FAILED : Fld := ⟨0x500000c4, 1, 1, 0, .w1c⟩
/-- KS_CMD_STATUS: blob command result. -/
def R_KS_CMD_STATUS : RegD := ⟨.KS, 0x500000c4, 1, 0x4, 1, 0x4, 1,
  [KS_CMD_STATUS_DONE, KS_CMD_STATUS_FAILED]⟩
def KS_CMD_SRC_ADDR : Fld := ⟨0x500000c8, 0, 40, 0, .rw⟩
/-- KS_CMD_SRC: blob source. -/
def R_KS_CMD_SRC : RegD := ⟨.KS, 0x500000c8, 1, 0x8, 1, 0x8, 2,
  [KS_CMD_SRC_ADDR]⟩
def KS_CMD_DEST_ADDR : Fld := ⟨0x500000d0, 0, 40, 0, .rw⟩
/-- KS_CMD_DEST: blob destination. -/
def R_KS_CMD_DEST : RegD := ⟨.KS, 0x500000d0, 1, 0x8, 1, 0x8, 2,
  [KS_CMD_DEST_ADDR]⟩
def KS_STAGE_REC_RECORD : Fld := ⟨0x50000100, 0, 2048, 0, .wo⟩
/-- KS_STAGE_REC: PF0 staging record. -/
def R_KS_STAGE_REC : RegD := ⟨.KS, 0x50000100, 1, 0x100, 1, 0x100, 64,
  [KS_STAGE_REC_RECORD]⟩
def KS_SLOT_STATUS_STATE : Fld := ⟨0x50000400, 0, 2, 0, .ro⟩
def KS_SLOT_STATUS_TYPE : Fld := ⟨0x50000400, 8, 8, 0, .ro⟩
def KS_SLOT_STATUS_PARENT : Fld := ⟨0x50000400, 16, 8, 0xff, .ro⟩
def KS_SLOT_STATUS_EXPORTABLE : Fld := ⟨0x50000400, 24, 1, 0, .ro⟩
def KS_SLOT_STATUS_INTERNAL : Fld := ⟨0x50000400, 25, 1, 0, .ro⟩
def KS_SLOT_STATUS_DERIVED : Fld := ⟨0x50000400, 26, 1, 0, .ro⟩
def KS_SLOT_STATUS_STAGED : Fld := ⟨0x50000400, 27, 1, 0, .ro⟩
/-- KS_SLOT_STATUS_n: slot status. -/
def R_KS_SLOT_STATUS : RegD := ⟨.KS, 0x50000400, 256, 0x4, 1, 0x4, 1,
  [KS_SLOT_STATUS_STATE, KS_SLOT_STATUS_TYPE, KS_SLOT_STATUS_PARENT, KS_SLOT_STATUS_EXPORTABLE, KS_SLOT_STATUS_INTERNAL, KS_SLOT_STATUS_DERIVED, KS_SLOT_STATUS_STAGED]⟩
def KS_STMT_CTL_SLOT : Fld := ⟨0x50000800, 0, 8, 0, .rw⟩
def KS_STMT_CTL_GO : Fld := ⟨0x50000800, 8, 1, 0, .wo⟩
def KS_STMT_CTL_BUSY : Fld := ⟨0x50000800, 9, 1, 0, .ro⟩
def KS_STMT_CTL_DONE : Fld := ⟨0x50000800, 10, 1, 0, .w1c⟩
/-- KS_STMT_CTL_s: statement control. -/
def R_KS_STMT_CTL : RegD := ⟨.KS, 0x50000800, 2, 0x200, 1, 0x4, 1,
  [KS_STMT_CTL_SLOT, KS_STMT_CTL_GO, KS_STMT_CTL_BUSY, KS_STMT_CTL_DONE]⟩
def KS_STMT_NONCE_NONCE : Fld := ⟨0x50000820, 0, 256, 0, .rw⟩
/-- KS_STMT_NONCE_s: statement nonce. -/
def R_KS_STMT_NONCE : RegD := ⟨.KS, 0x50000820, 2, 0x200, 1, 0x20, 8,
  [KS_STMT_NONCE_NONCE]⟩
def KS_STMT_OUT_STATEMENT : Fld := ⟨0x50000840, 0, 2624, 0, .ro⟩
/-- KS_STMT_OUT_s: statement. -/
def R_KS_STMT_OUT : RegD := ⟨.KS, 0x50000840, 2, 0x200, 1, 0x148, 82,
  [KS_STMT_OUT_STATEMENT]⟩
def LC_STATE_CODE : Fld := ⟨0x48020000, 0, 2, 0, .ro⟩
def LC_STATE_RESET_REQUIRED : Fld := ⟨0x48020000, 2, 1, 0, .ro⟩
def LC_STATE_FUSE_SUPPLY_OK : Fld := ⟨0x48020000, 3, 1, 0, .ro⟩
def LC_STATE_PREPARED : Fld := ⟨0x48020000, 4, 1, 0, .ro⟩
def LC_STATE_ADVANCING : Fld := ⟨0x48020000, 5, 1, 0, .ro⟩
/-- LC_STATE: life-cycle state. -/
def R_LC_STATE : RegD := ⟨.LC, 0x48020000, 1, 0x4, 1, 0x4, 1,
  [LC_STATE_CODE, LC_STATE_RESET_REQUIRED, LC_STATE_FUSE_SUPPLY_OK, LC_STATE_PREPARED, LC_STATE_ADVANCING]⟩
def LC_UNIT_ID_ID : Fld := ⟨0x48020008, 0, 64, 0, .ro⟩
/-- LC_UNIT_ID: unit ID. -/
def R_LC_UNIT_ID : RegD := ⟨.LC, 0x48020008, 1, 0x8, 1, 0x8, 2,
  [LC_UNIT_ID_ID]⟩
def LC_FUSE_REC_RECORD : Fld := ⟨0x48020010, 0, 256, 0, .ro⟩
/-- LC_FUSE_REC: fuse configuration record. -/
def R_LC_FUSE_REC : RegD := ⟨.LC, 0x48020010, 1, 0x20, 1, 0x20, 8,
  [LC_FUSE_REC_RECORD]⟩
def LC_ADVANCE_KEY : Fld := ⟨0x48020040, 0, 8, 0, .wo⟩
def LC_ADVANCE_TARGET : Fld := ⟨0x48020040, 8, 2, 0, .wo⟩
def LC_ADVANCE_PREPARE : Fld := ⟨0x48020040, 10, 1, 0, .wo⟩
def LC_ADVANCE_COMMIT : Fld := ⟨0x48020040, 11, 1, 0, .wo⟩
/-- LC_ADVANCE: life-cycle advance. -/
def R_LC_ADVANCE : RegD := ⟨.LC, 0x48020040, 1, 0x4, 1, 0x4, 1,
  [LC_ADVANCE_KEY, LC_ADVANCE_TARGET, LC_ADVANCE_PREPARE, LC_ADVANCE_COMMIT]⟩
def LC_ADVANCE_STATUS_REASON : Fld := ⟨0x48020044, 0, 4, 0, .ro⟩
def LC_ADVANCE_STATUS_REFUSED : Fld := ⟨0x48020044, 31, 1, 0, .w1c⟩
/-- LC_ADVANCE_STATUS: advance result. -/
def R_LC_ADVANCE_STATUS : RegD := ⟨.LC, 0x48020044, 1, 0x4, 1, 0x4, 1,
  [LC_ADVANCE_STATUS_REASON, LC_ADVANCE_STATUS_REFUSED]⟩
def LC_TRANSITION_STATEMENT : Fld := ⟨0x48020100, 0, 2624, 0, .ro⟩
/-- LC_TRANSITION: transition statement. -/
def R_LC_TRANSITION : RegD := ⟨.LC, 0x48020100, 1, 0x148, 1, 0x148, 82,
  [LC_TRANSITION_STATEMENT]⟩

/-! ### Registers of 11_serial_lanes_and_irnak_phy.md -/

def SL_GRP_CFG_MODE : Fld := ⟨0x44000200, 0, 2, 0, .rwq⟩
def SL_GRP_CFG_FEC100 : Fld := ⟨0x44000200, 2, 1, 1, .rwq⟩
def SL_GRP_CFG_AN_EN : Fld := ⟨0x44000200, 3, 1, 0, .rwq⟩
/-- SL_GRP_CFG_g: port group configuration. -/
def R_SL_GRP_CFG : RegD := ⟨.SL, 0x44000200, 4, 0x4, 1, 0x4, 1,
  [SL_GRP_CFG_MODE, SL_GRP_CFG_FEC100, SL_GRP_CFG_AN_EN]⟩
def SL_ETH_CTL_EN : Fld := ⟨0x44000000, 0, 1, 0, .rw⟩
def SL_ETH_CTL_RATE : Fld := ⟨0x44000000, 1, 1, 1, .rwq⟩
def SL_ETH_CTL_FEC : Fld := ⟨0x44000000, 2, 2, 0, .rwq⟩
def SL_ETH_CTL_TX_INV : Fld := ⟨0x44000000, 4, 1, 0, .rwq⟩
def SL_ETH_CTL_RX_INV : Fld := ⟨0x44000000, 5, 1, 0, .rwq⟩
def SL_ETH_CTL_LOOP : Fld := ⟨0x44000000, 6, 2, 0, .rwq⟩
def SL_ETH_CTL_TRAIN_EN : Fld := ⟨0x44000000, 8, 1, 1, .rwq⟩
def SL_ETH_CTL_AN_EN : Fld := ⟨0x44000000, 9, 1, 0, .rwq⟩
/-- SL_ETH_CTL_n: Ethernet lane control. -/
def R_SL_ETH_CTL : RegD := ⟨.SL, 0x44000000, 16, 0x20, 1, 0x4, 1,
  [SL_ETH_CTL_EN, SL_ETH_CTL_RATE, SL_ETH_CTL_FEC, SL_ETH_CTL_TX_INV, SL_ETH_CTL_RX_INV, SL_ETH_CTL_LOOP, SL_ETH_CTL_TRAIN_EN, SL_ETH_CTL_AN_EN]⟩
def SL_ETH_STATUS_UP : Fld := ⟨0x44000004, 0, 1, 0, .ro⟩
def SL_ETH_STATUS_TRAINING : Fld := ⟨0x44000004, 1, 1, 0, .ro⟩
def SL_ETH_STATUS_CAL_DONE : Fld := ⟨0x44000004, 2, 1, 0, .ro⟩
def SL_ETH_STATUS_BUSY : Fld := ⟨0x44000004, 3, 1, 0, .ro⟩
def SL_ETH_STATUS_LINK_LOST : Fld := ⟨0x44000004, 4, 1, 0, .w1c⟩
/-- SL_ETH_STATUS_n: Ethernet lane status. -/
def R_SL_ETH_STATUS : RegD := ⟨.SL, 0x44000004, 16, 0x20, 1, 0x4, 1,
  [SL_ETH_STATUS_UP, SL_ETH_STATUS_TRAINING, SL_ETH_STATUS_CAL_DONE, SL_ETH_STATUS_BUSY, SL_ETH_STATUS_LINK_LOST]⟩
def SL_ETH_TX_DELAY_DELAY : Fld := ⟨0x44000008, 0, 32, 0, .ro⟩
/-- SL_ETH_TX_DELAY_n: transmit delay. -/
def R_SL_ETH_TX_DELAY : RegD := ⟨.SL, 0x44000008, 16, 0x20, 1, 0x4, 1,
  [SL_ETH_TX_DELAY_DELAY]⟩
def SL_ETH_RX_DELAY_DELAY : Fld := ⟨0x4400000c, 0, 32, 0, .ro⟩
/-- SL_ETH_RX_DELAY_n: receive delay. -/
def R_SL_ETH_RX_DELAY : RegD := ⟨.SL, 0x4400000c, 16, 0x20, 1, 0x4, 1,
  [SL_ETH_RX_DELAY_DELAY]⟩
def SL_ETH_FEC_CORR_COUNT : Fld := ⟨0x44000010, 0, 32, 0, .rc⟩
/-- SL_ETH_FEC_CORR_n: corrected codewords. -/
def R_SL_ETH_FEC_CORR : RegD := ⟨.SL, 0x44000010, 16, 0x20, 1, 0x4, 1,
  [SL_ETH_FEC_CORR_COUNT]⟩
def SL_ETH_FEC_UNCORR_COUNT : Fld := ⟨0x44000014, 0, 32, 0, .rc⟩
/-- SL_ETH_FEC_UNCORR_n: uncorrectable codewords. -/
def R_SL_ETH_FEC_UNCORR : RegD := ⟨.SL, 0x44000014, 16, 0x20, 1, 0x4, 1,
  [SL_ETH_FEC_UNCORR_COUNT]⟩
def SL_ITL_CTL_EN : Fld := ⟨0x44000400, 0, 1, 0, .rw⟩
def SL_ITL_CTL_ROLE : Fld := ⟨0x44000400, 1, 2, 0, .rwq⟩
def SL_ITL_CTL_TX_INV : Fld := ⟨0x44000400, 3, 1, 0, .rwq⟩
def SL_ITL_CTL_RX_INV : Fld := ⟨0x44000400, 4, 1, 0, .rwq⟩
def SL_ITL_CTL_LOOP : Fld := ⟨0x44000400, 5, 2, 0, .rwq⟩
/-- SL_ITL_CTL_n: Irnak lane control. -/
def R_SL_ITL_CTL : RegD := ⟨.SL, 0x44000400, 8, 0x80, 1, 0x4, 1,
  [SL_ITL_CTL_EN, SL_ITL_CTL_ROLE, SL_ITL_CTL_TX_INV, SL_ITL_CTL_RX_INV, SL_ITL_CTL_LOOP]⟩
def SL_ITL_STATUS_UP : Fld := ⟨0x44000404, 0, 1, 0, .ro⟩
def SL_ITL_STATUS_TRAINING : Fld := ⟨0x44000404, 1, 1, 0, .ro⟩
def SL_ITL_STATUS_HDR_LOCK : Fld := ⟨0x44000404, 2, 1, 0, .ro⟩
def SL_ITL_STATUS_CAL_DONE : Fld := ⟨0x44000404, 3, 1, 0, .ro⟩
def SL_ITL_STATUS_BUSY : Fld := ⟨0x44000404, 4, 1, 0, .ro⟩
def SL_ITL_STATUS_PEER_VALID : Fld := ⟨0x44000404, 5, 1, 0, .ro⟩
def SL_ITL_STATUS_TIME_VALID : Fld := ⟨0x44000404, 6, 1, 0, .ro⟩
def SL_ITL_STATUS_LINK_LOST : Fld := ⟨0x44000404, 7, 1, 0, .w1c⟩
/-- SL_ITL_STATUS_n: Irnak lane status. -/
def R_SL_ITL_STATUS : RegD := ⟨.SL, 0x44000404, 8, 0x80, 1, 0x4, 1,
  [SL_ITL_STATUS_UP, SL_ITL_STATUS_TRAINING, SL_ITL_STATUS_HDR_LOCK, SL_ITL_STATUS_CAL_DONE, SL_ITL_STATUS_BUSY, SL_ITL_STATUS_PEER_VALID, SL_ITL_STATUS_TIME_VALID, SL_ITL_STATUS_LINK_LOST]⟩
def SL_ITL_FFE_INIT_PRE : Fld := ⟨0x44000408, 0, 4, 4, .rwq⟩
def SL_ITL_FFE_INIT_MAIN : Fld := ⟨0x44000408, 4, 6, 0x30, .rwq⟩
def SL_ITL_FFE_INIT_POST : Fld := ⟨0x44000408, 10, 5, 8, .rwq⟩
/-- SL_ITL_FFE_INIT_n: initial coefficients. -/
def R_SL_ITL_FFE_INIT : RegD := ⟨.SL, 0x44000408, 8, 0x80, 1, 0x4, 1,
  [SL_ITL_FFE_INIT_PRE, SL_ITL_FFE_INIT_MAIN, SL_ITL_FFE_INIT_POST]⟩
def SL_ITL_FFE_COEF : Fld := ⟨0x4400040c, 0, 15, 0, .ro⟩
/-- SL_ITL_FFE_n: coefficients in use. -/
def R_SL_ITL_FFE : RegD := ⟨.SL, 0x4400040c, 8, 0x80, 1, 0x4, 1,
  [SL_ITL_FFE_COEF]⟩
def SL_ITL_ASYM_ASYM : Fld := ⟨0x44000410, 0, 32, 0, .rwsSuperword⟩
/-- SL_ITL_ASYM_n: medium asymmetry. -/
def R_SL_ITL_ASYM : RegD := ⟨.SL, 0x44000410, 8, 0x80, 1, 0x4, 1,
  [SL_ITL_ASYM_ASYM]⟩
def SL_ITL_TX_DELAY_DELAY : Fld := ⟨0x44000414, 0, 32, 0, .ro⟩
/-- SL_ITL_TX_DELAY_n: transmit delay. -/
def R_SL_ITL_TX_DELAY : RegD := ⟨.SL, 0x44000414, 8, 0x80, 1, 0x4, 1,
  [SL_ITL_TX_DELAY_DELAY]⟩
def SL_ITL_RX_DELAY_DELAY : Fld := ⟨0x44000418, 0, 32, 0, .ro⟩
/-- SL_ITL_RX_DELAY_n: receive delay. -/
def R_SL_ITL_RX_DELAY : RegD := ⟨.SL, 0x44000418, 8, 0x80, 1, 0x4, 1,
  [SL_ITL_RX_DELAY_DELAY]⟩
def SL_ITL_OFFSET_OFFSET : Fld := ⟨0x44000420, 0, 64, 0, .ro⟩
/-- SL_ITL_OFFSET_n: link offset. -/
def R_SL_ITL_OFFSET : RegD := ⟨.SL, 0x44000420, 8, 0x80, 1, 0x8, 2,
  [SL_ITL_OFFSET_OFFSET]⟩
def SL_ITL_DELAY_DELAY : Fld := ⟨0x44000428, 0, 64, 0, .ro⟩
/-- SL_ITL_DELAY_n: mean path delay. -/
def R_SL_ITL_DELAY : RegD := ⟨.SL, 0x44000428, 8, 0x80, 1, 0x8, 2,
  [SL_ITL_DELAY_DELAY]⟩
def SL_ITL_CRC_ERR_COUNT : Fld := ⟨0x44000430, 0, 32, 0, .rc⟩
/-- SL_ITL_CRC_ERR_n: failed superwords. -/
def R_SL_ITL_CRC_ERR : RegD := ⟨.SL, 0x44000430, 8, 0x80, 1, 0x4, 1,
  [SL_ITL_CRC_ERR_COUNT]⟩
def SL_ITL_ALT_COUNT : Fld := ⟨0x44000434, 0, 32, 0, .rc⟩
/-- SL_ITL_ALT_n: alternate superwords sent. -/
def R_SL_ITL_ALT : RegD := ⟨.SL, 0x44000434, 8, 0x80, 1, 0x4, 1,
  [SL_ITL_ALT_COUNT]⟩
def SL_ITL_VOID_COUNT : Fld := ⟨0x44000438, 0, 32, 0, .rc⟩
/-- SL_ITL_VOID_n: void superwords sent. -/
def R_SL_ITL_VOID : RegD := ⟨.SL, 0x44000438, 8, 0x80, 1, 0x4, 1,
  [SL_ITL_VOID_COUNT]⟩
def SL_ITL_PEER_RECORD : Fld := ⟨0x44000440, 0, 288, 0, .ro⟩
/-- SL_ITL_PEER_n: latest far-end record. -/
def R_SL_ITL_PEER : RegD := ⟨.SL, 0x44000440, 8, 0x80, 1, 0x24, 9,
  [SL_ITL_PEER_RECORD]⟩

/-! ### Registers of 12_ethernet_mac_ports.md -/

def MC_BUF_WM_HI : Fld := ⟨0x44104000, 0, 16, 0x1c00, .rw⟩
def MC_BUF_WM_LO : Fld := ⟨0x44104000, 16, 16, 0x1800, .rw⟩
/-- MC_BUF_WM: buffer watermarks. -/
def R_MC_BUF_WM : RegD := ⟨.MC, 0x44104000, 1, 0x4, 1, 0x4, 1,
  [MC_BUF_WM_HI, MC_BUF_WM_LO]⟩
def MC_BUF_LEVEL_LEVEL : Fld := ⟨0x44104004, 0, 14, 0, .ro⟩
/-- MC_BUF_LEVEL: buffer occupancy. -/
def R_MC_BUF_LEVEL : RegD := ⟨.MC, 0x44104004, 1, 0x4, 1, 0x4, 1,
  [MC_BUF_LEVEL_LEVEL]⟩
def MC_CTL_EN : Fld := ⟨0x44100000, 0, 1, 0, .rw⟩
def MC_CTL_FC_MODE : Fld := ⟨0x44100000, 1, 2, 0, .rwq⟩
def MC_CTL_TX_FC : Fld := ⟨0x44100000, 3, 1, 0, .rw⟩
def MC_CTL_RX_FC : Fld := ⟨0x44100000, 4, 1, 0, .rw⟩
def MC_CTL_PREEMPT_EN : Fld := ⟨0x44100000, 5, 1, 0, .rwq⟩
def MC_CTL_MUTE : Fld := ⟨0x44100000, 6, 1, 0, .rw⟩
def MC_CTL_WAKE_EN : Fld := ⟨0x44100000, 7, 1, 1, .rw⟩
def MC_CTL_ALL_MULTI : Fld := ⟨0x44100000, 8, 1, 1, .rw⟩
def MC_CTL_PROMISC : Fld := ⟨0x44100000, 9, 1, 0, .rw⟩
/-- MC_CTL_n: instance control. -/
def R_MC_CTL : RegD := ⟨.MC, 0x44100000, 16, 0x400, 1, 0x4, 1,
  [MC_CTL_EN, MC_CTL_FC_MODE, MC_CTL_TX_FC, MC_CTL_RX_FC, MC_CTL_PREEMPT_EN, MC_CTL_MUTE, MC_CTL_WAKE_EN, MC_CTL_ALL_MULTI, MC_CTL_PROMISC]⟩
def MC_STATUS_BUSY : Fld := ⟨0x44100004, 0, 1, 0, .ro⟩
def MC_STATUS_LINK_UP : Fld := ⟨0x44100004, 1, 1, 0, .ro⟩
def MC_STATUS_XOFF : Fld := ⟨0x44100004, 2, 1, 0, .ro⟩
def MC_STATUS_HELD : Fld := ⟨0x44100004, 3, 1, 0, .ro⟩
def MC_STATUS_PREEMPT_ACTIVE : Fld := ⟨0x44100004, 4, 1, 0, .ro⟩
def MC_STATUS_VERIFY_STATE : Fld := ⟨0x44100004, 5, 3, 0, .ro⟩
def MC_STATUS_MUTED : Fld := ⟨0x44100004, 8, 1, 0, .ro⟩
def MC_STATUS_WAKING : Fld := ⟨0x44100004, 9, 1, 0, .ro⟩
def MC_STATUS_WAKE_EVENT : Fld := ⟨0x44100004, 10, 1, 0, .w1c⟩
/-- MC_STATUS_n: instance status. -/
def R_MC_STATUS : RegD := ⟨.MC, 0x44100004, 16, 0x400, 1, 0x4, 1,
  [MC_STATUS_BUSY, MC_STATUS_LINK_UP, MC_STATUS_XOFF, MC_STATUS_HELD, MC_STATUS_PREEMPT_ACTIVE, MC_STATUS_VERIFY_STATE, MC_STATUS_MUTED, MC_STATUS_WAKING, MC_STATUS_WAKE_EVENT]⟩
def MC_MAC_ADDR_ADDR : Fld := ⟨0x44100008, 0, 48, 0, .rwq⟩
/-- MC_MAC_ADDR_n: station address. -/
def R_MC_MAC_ADDR : RegD := ⟨.MC, 0x44100008, 16, 0x400, 1, 0x8, 2,
  [MC_MAC_ADDR_ADDR]⟩
def MC_MAX_FRAME_OCTETS : Fld := ⟨0x44100010, 0, 14, 0x5f2, .rwq⟩
/-- MC_MAX_FRAME_n: maximum frame. -/
def R_MC_MAX_FRAME : RegD := ⟨.MC, 0x44100010, 16, 0x400, 1, 0x4, 1,
  [MC_MAX_FRAME_OCTETS]⟩
def MC_FC_WM_HI : Fld := ⟨0x44100014, 0, 16, 0x200, .rw⟩
def MC_FC_WM_LO : Fld := ⟨0x44100014, 16, 16, 0x100, .rw⟩
/-- MC_FC_WM_n: instance watermarks. -/
def R_MC_FC_WM : RegD := ⟨.MC, 0x44100014, 16, 0x400, 1, 0x4, 1,
  [MC_FC_WM_HI, MC_FC_WM_LO]⟩
def MC_PFC_CFG_GEN_PRIO : Fld := ⟨0x44100018, 0, 8, 0xff, .rw⟩
def MC_PFC_CFG_DEF_PRIO : Fld := ⟨0x44100018, 8, 3, 0, .rwq⟩
/-- MC_PFC_CFG_n: priority flow control. -/
def R_MC_PFC_CFG : RegD := ⟨.MC, 0x44100018, 16, 0x400, 1, 0x4, 1,
  [MC_PFC_CFG_GEN_PRIO, MC_PFC_CFG_DEF_PRIO]⟩
def MC_FC_STATE_REMAIN : Fld := ⟨0x4410001c, 0, 16, 0, .ro⟩
def MC_FC_STATE_PFC_HELD : Fld := ⟨0x4410001c, 16, 8, 0, .ro⟩
/-- MC_FC_STATE_n: flow-control state. -/
def R_MC_FC_STATE : RegD := ⟨.MC, 0x4410001c, 16, 0x400, 1, 0x4, 1,
  [MC_FC_STATE_REMAIN, MC_FC_STATE_PFC_HELD]⟩
def MC_PREEMPT_ADD_FRAG : Fld := ⟨0x44100020, 0, 2, 0, .rwq⟩
def MC_PREEMPT_VERIFY_DIS : Fld := ⟨0x44100020, 2, 1, 0, .rwq⟩
def MC_PREEMPT_VERIFY_MS : Fld := ⟨0x44100020, 3, 8, 0xa, .rwq⟩
/-- MC_PREEMPT_n: preemption. -/
def R_MC_PREEMPT : RegD := ⟨.MC, 0x44100020, 16, 0x400, 1, 0x4, 1,
  [MC_PREEMPT_ADD_FRAG, MC_PREEMPT_VERIFY_DIS, MC_PREEMPT_VERIFY_MS]⟩
def MC_AGE_AGE_US : Fld := ⟨0x44100024, 0, 16, 0x3e8, .rw⟩
/-- MC_AGE_n: egress aging. -/
def R_MC_AGE : RegD := ⟨.MC, 0x44100024, 16, 0x400, 1, 0x4, 1,
  [MC_AGE_AGE_US]⟩
def MC_LEVEL_LEVEL : Fld := ⟨0x44100028, 0, 14, 0, .ro⟩
def MC_LEVEL_LAUNCHES : Fld := ⟨0x44100028, 14, 8, 0, .ro⟩
/-- MC_LEVEL_n: instance occupancy. -/
def R_MC_LEVEL : RegD := ⟨.MC, 0x44100028, 16, 0x400, 1, 0x4, 1,
  [MC_LEVEL_LEVEL, MC_LEVEL_LAUNCHES]⟩
def MC_STAT_COUNT : Fld := ⟨0x44100200, 0, 64, 0, .rc⟩
/-- MC_STAT_n_k: statistics counter. -/
def R_MC_STAT : RegD := ⟨.MC, 0x44100200, 16, 0x400, 48, 0x8, 2,
  [MC_STAT_COUNT]⟩

/-! ### Registers of 13_time_service_engine.md -/

def TS_CTL_EN : Fld := ⟨0x44200000, 0, 1, 0, .rw⟩
def TS_CTL_HOST_RING : Fld := ⟨0x44200000, 1, 4, 0, .rwq⟩
def TS_CTL_TTL : Fld := ⟨0x44200000, 5, 8, 0x40, .rwq⟩
/-- TS_CTL: time service control. -/
def R_TS_CTL : RegD := ⟨.TS, 0x44200000, 1, 0x4, 1, 0x4, 1,
  [TS_CTL_EN, TS_CTL_HOST_RING, TS_CTL_TTL]⟩
def TS_STATUS_BUSY : Fld := ⟨0x44200004, 0, 1, 0, .ro⟩
def TS_STATUS_SERVING : Fld := ⟨0x44200004, 1, 1, 0, .ro⟩
def TS_STATUS_STOPPED : Fld := ⟨0x44200004, 2, 1, 0, .ro⟩
def TS_STATUS_CT_FULL : Fld := ⟨0x44200004, 3, 1, 0, .w1c⟩
def TS_STATUS_GATE_FULL : Fld := ⟨0x44200004, 4, 1, 0, .w1c⟩
/-- TS_STATUS: time service status. -/
def R_TS_STATUS : RegD := ⟨.TS, 0x44200004, 1, 0x4, 1, 0x4, 1,
  [TS_STATUS_BUSY, TS_STATUS_SERVING, TS_STATUS_STOPPED, TS_STATUS_CT_FULL, TS_STATUS_GATE_FULL]⟩
def TS_LATENCY_NS : Fld := ⟨0x44200008, 0, 17, 0x7d0, .rw⟩
/-- TS_LATENCY: service latency. -/
def R_TS_LATENCY : RegD := ⟨.TS, 0x44200008, 1, 0x4, 1, 0x4, 1,
  [TS_LATENCY_NS]⟩
def TS_ORG_ID_OUI : Fld := ⟨0x4420000c, 0, 24, 0, .rw⟩
/-- TS_ORG_ID: bound TLV organization. -/
def R_TS_ORG_ID : RegD := ⟨.TS, 0x4420000c, 1, 0x4, 1, 0x4, 1,
  [TS_ORG_ID_OUI]⟩
def TS_NTP_CFG_EXT_TYPE : Fld := ⟨0x44200010, 0, 16, 0, .rw⟩
def TS_NTP_CFG_MINPOLL : Fld := ⟨0x44200010, 16, 8, 4, .rw⟩
def TS_NTP_CFG_MAXPOLL : Fld := ⟨0x44200010, 24, 8, 0xa, .rw⟩
/-- TS_NTP_CFG: NTP settings. -/
def R_TS_NTP_CFG : RegD := ⟨.TS, 0x44200010, 1, 0x4, 1, 0x4, 1,
  [TS_NTP_CFG_EXT_TYPE, TS_NTP_CFG_MINPOLL, TS_NTP_CFG_MAXPOLL]⟩
def TS_NTP_REFID_REFID : Fld := ⟨0x44200014, 0, 32, 0, .rw⟩
/-- TS_NTP_REFID: NTP reference ID. -/
def R_TS_NTP_REFID : RegD := ⟨.TS, 0x44200014, 1, 0x4, 1, 0x4, 1,
  [TS_NTP_REFID_REFID]⟩
def TS_STATE_CFG_CLASS_LOCKED : Fld := ⟨0x44200018, 0, 8, 6, .rw⟩
def TS_STATE_CFG_CLASS_HOLDOVER : Fld := ⟨0x44200018, 8, 8, 7, .rw⟩
def TS_STATE_CFG_CLASS_ACQUIRING : Fld := ⟨0x44200018, 16, 8, 0x34, .rw⟩
def TS_STATE_CFG_STOP_FREE_RUN : Fld := ⟨0x44200018, 24, 1, 1, .rw⟩
def TS_STATE_CFG_STOP_ACQUIRING : Fld := ⟨0x44200018, 25, 1, 0, .rw⟩
def TS_STATE_CFG_STOP_LOST : Fld := ⟨0x44200018, 26, 1, 0, .rw⟩
/-- TS_STATE_CFG: per-state service. -/
def R_TS_STATE_CFG : RegD := ⟨.TS, 0x44200018, 1, 0x4, 1, 0x4, 1,
  [TS_STATE_CFG_CLASS_LOCKED, TS_STATE_CFG_CLASS_HOLDOVER, TS_STATE_CFG_CLASS_ACQUIRING, TS_STATE_CFG_STOP_FREE_RUN, TS_STATE_CFG_STOP_ACQUIRING, TS_STATE_CFG_STOP_LOST]⟩
def TS_RL_CFG_RATE : Fld := ⟨0x4420001c, 0, 16, 0x10, .rw⟩
def TS_RL_CFG_BURST : Fld := ⟨0x4420001c, 16, 16, 0x20, .rw⟩
/-- TS_RL_CFG: rate buckets. -/
def R_TS_RL_CFG : RegD := ⟨.TS, 0x4420001c, 1, 0x4, 1, 0x4, 1,
  [TS_RL_CFG_RATE, TS_RL_CFG_BURST]⟩
def TS_RL_TIMING_KOD_MS : Fld := ⟨0x44200020, 0, 16, 0x3e8, .rw⟩
def TS_RL_TIMING_IDLE_S : Fld := ⟨0x44200020, 16, 16, 0x40, .rw⟩
/-- TS_RL_TIMING: kiss and idle limits. -/
def R_TS_RL_TIMING : RegD := ⟨.TS, 0x44200020, 1, 0x4, 1, 0x4, 1,
  [TS_RL_TIMING_KOD_MS, TS_RL_TIMING_IDLE_S]⟩
def TS_RL_OVF_RATE : Fld := ⟨0x44200024, 0, 32, 0xf4240, .rw⟩
/-- TS_RL_OVF: overflow bucket. -/
def R_TS_RL_OVF : RegD := ⟨.TS, 0x44200024, 1, 0x4, 1, 0x4, 1,
  [TS_RL_OVF_RATE]⟩
def TS_CT_CFG_SETS_LOG2 : Fld := ⟨0x44200028, 0, 5, 0x16, .rwq⟩
/-- TS_CT_CFG: client table size. -/
def R_TS_CT_CFG : RegD := ⟨.TS, 0x44200028, 1, 0x4, 1, 0x4, 1,
  [TS_CT_CFG_SETS_LOG2]⟩
def TS_CT_BASE_ADDR : Fld := ⟨0x44200030, 0, 40, 0, .rwq⟩
/-- TS_CT_BASE: client table location. -/
def R_TS_CT_BASE : RegD := ⟨.TS, 0x44200030, 1, 0x8, 1, 0x8, 2,
  [TS_CT_BASE_ADDR]⟩
def TS_CT_GRANTS_COUNT : Fld := ⟨0x44200038, 0, 26, 0, .ro⟩
/-- TS_CT_GRANTS: grants held. -/
def R_TS_CT_GRANTS : RegD := ⟨.TS, 0x44200038, 1, 0x4, 1, 0x4, 1,
  [TS_CT_GRANTS_COUNT]⟩
def TS_ANNOUNCE_GO : Fld := ⟨0x44200040, 0, 1, 0, .wo⟩
def TS_ANNOUNCE_REPEAT : Fld := ⟨0x44200040, 1, 3, 0, .wo⟩
/-- TS_ANNOUNCE: announcement command. -/
def R_TS_ANNOUNCE : RegD := ⟨.TS, 0x44200040, 1, 0x4, 1, 0x4, 1,
  [TS_ANNOUNCE_GO, TS_ANNOUNCE_REPEAT]⟩
def TS_MINT_SRC_ADDR : Fld := ⟨0x44200048, 0, 40, 0, .rw⟩
/-- TS_MINT_SRC: mint key source. -/
def R_TS_MINT_SRC : RegD := ⟨.TS, 0x44200048, 1, 0x8, 1, 0x8, 2,
  [TS_MINT_SRC_ADDR]⟩
def TS_MINT_DEST_ADDR : Fld := ⟨0x44200050, 0, 40, 0, .rw⟩
/-- TS_MINT_DEST: mint destination. -/
def R_TS_MINT_DEST : RegD := ⟨.TS, 0x44200050, 1, 0x8, 1, 0x8, 2,
  [TS_MINT_DEST_ADDR]⟩
def TS_MINT_CTL_COUNT : Fld := ⟨0x44200058, 0, 4, 0, .wo⟩
def TS_MINT_CTL_GO : Fld := ⟨0x44200058, 8, 1, 0, .wo⟩
def TS_MINT_CTL_BUSY : Fld := ⟨0x44200058, 16, 1, 0, .ro⟩
def TS_MINT_CTL_DONE : Fld := ⟨0x44200058, 17, 1, 0, .w1c⟩
def TS_MINT_CTL_FAILED : Fld := ⟨0x44200058, 18, 1, 0, .w1c⟩
/-- TS_MINT_CTL: mint command. -/
def R_TS_MINT_CTL : RegD := ⟨.TS, 0x44200058, 1, 0x4, 1, 0x4, 1,
  [TS_MINT_CTL_COUNT, TS_MINT_CTL_GO, TS_MINT_CTL_BUSY, TS_MINT_CTL_DONE, TS_MINT_CTL_FAILED]⟩
def TS_CNT_COUNT : Fld := ⟨0x44200100, 0, 64, 0, .rc⟩
/-- TS_CNT_k: service counter. -/
def R_TS_CNT : RegD := ⟨.TS, 0x44200100, 27, 0x8, 1, 0x8, 2,
  [TS_CNT_COUNT]⟩
def TS_SA_CTL_EN : Fld := ⟨0x44201000, 0, 1, 0, .rw⟩
def TS_SA_CTL_IPV6 : Fld := ⟨0x44201000, 1, 1, 0, .rwq⟩
def TS_SA_CTL_NTP : Fld := ⟨0x44201000, 2, 1, 0, .rwq⟩
def TS_SA_CTL_NTS : Fld := ⟨0x44201000, 3, 1, 0, .rwq⟩
def TS_SA_CTL_PTP : Fld := ⟨0x44201000, 4, 1, 0, .rwq⟩
def TS_SA_CTL_ARP_ND : Fld := ⟨0x44201000, 5, 1, 1, .rwq⟩
def TS_SA_CTL_LEAP_SMEAR : Fld := ⟨0x44201000, 6, 1, 0, .rwq⟩
def TS_SA_CTL_TAGGED : Fld := ⟨0x44201000, 7, 1, 0, .rwq⟩
def TS_SA_CTL_VLAN : Fld := ⟨0x44201000, 8, 12, 0, .rwq⟩
/-- TS_SA_CTL_n: service address control. -/
def R_TS_SA_CTL : RegD := ⟨.TS, 0x44201000, 64, 0x40, 1, 0x4, 1,
  [TS_SA_CTL_EN, TS_SA_CTL_IPV6, TS_SA_CTL_NTP, TS_SA_CTL_NTS, TS_SA_CTL_PTP, TS_SA_CTL_ARP_ND, TS_SA_CTL_LEAP_SMEAR, TS_SA_CTL_TAGGED, TS_SA_CTL_VLAN]⟩
def TS_SA_ADDR_ADDR : Fld := ⟨0x44201010, 0, 128, 0, .rwq⟩
/-- TS_SA_ADDR_n: service address. -/
def R_TS_SA_ADDR : RegD := ⟨.TS, 0x44201010, 64, 0x40, 1, 0x10, 4,
  [TS_SA_ADDR_ADDR]⟩
def TS_SA_MACS_MASK : Fld := ⟨0x44201020, 0, 16, 0, .rwq⟩
/-- TS_SA_MACS_n: instance mask. -/
def R_TS_SA_MACS : RegD := ⟨.TS, 0x44201020, 64, 0x40, 1, 0x4, 1,
  [TS_SA_MACS_MASK]⟩
def TS_PTP_CTL_EN : Fld := ⟨0x44202000, 0, 1, 0, .rw⟩
def TS_PTP_CTL_TRANSPORT : Fld := ⟨0x44202000, 1, 2, 0, .rwq⟩
def TS_PTP_CTL_DELAY : Fld := ⟨0x44202000, 3, 1, 0, .rwq⟩
def TS_PTP_CTL_MCAST : Fld := ⟨0x44202000, 4, 1, 1, .rwq⟩
def TS_PTP_CTL_UNICAST : Fld := ⟨0x44202000, 5, 1, 0, .rwq⟩
def TS_PTP_CTL_NEED_AUTH : Fld := ⟨0x44202000, 6, 1, 1, .rwq⟩
def TS_PTP_CTL_TX_SA : Fld := ⟨0x44202000, 7, 4, 0, .rwq⟩
def TS_PTP_CTL_TX_AUTH : Fld := ⟨0x44202000, 11, 1, 0, .rwq⟩
def TS_PTP_CTL_DOMAIN : Fld := ⟨0x44202000, 16, 8, 0, .rwq⟩
/-- TS_PTP_CTL_m: PTP port control. -/
def R_TS_PTP_CTL : RegD := ⟨.TS, 0x44202000, 16, 0x40, 1, 0x4, 1,
  [TS_PTP_CTL_EN, TS_PTP_CTL_TRANSPORT, TS_PTP_CTL_DELAY, TS_PTP_CTL_MCAST, TS_PTP_CTL_UNICAST, TS_PTP_CTL_NEED_AUTH, TS_PTP_CTL_TX_SA, TS_PTP_CTL_TX_AUTH, TS_PTP_CTL_DOMAIN]⟩
def TS_PTP_ID_IDENTITY : Fld := ⟨0x44202008, 0, 64, 0, .rwq⟩
/-- TS_PTP_ID_m: clock identity. -/
def R_TS_PTP_ID : RegD := ⟨.TS, 0x44202008, 16, 0x40, 1, 0x8, 2,
  [TS_PTP_ID_IDENTITY]⟩
def TS_PTP_DS_PRIORITY1 : Fld := ⟨0x44202010, 0, 8, 0x80, .rw⟩
def TS_PTP_DS_PRIORITY2 : Fld := ⟨0x44202010, 8, 8, 0x80, .rw⟩
def TS_PTP_DS_ACCURACY : Fld := ⟨0x44202010, 16, 8, 0x21, .rw⟩
def TS_PTP_DS_TIME_SOURCE : Fld := ⟨0x44202010, 24, 8, 0x20, .rw⟩
/-- TS_PTP_DS_m: announced quality. -/
def R_TS_PTP_DS : RegD := ⟨.TS, 0x44202010, 16, 0x40, 1, 0x4, 1,
  [TS_PTP_DS_PRIORITY1, TS_PTP_DS_PRIORITY2, TS_PTP_DS_ACCURACY, TS_PTP_DS_TIME_SOURCE]⟩
def TS_PTP_VAR_VARIANCE : Fld := ⟨0x44202014, 0, 16, 0x4e5d, .rw⟩
def TS_PTP_VAR_PORT_NUM : Fld := ⟨0x44202014, 16, 16, 1, .rwq⟩
/-- TS_PTP_VAR_m: variance and port number. -/
def R_TS_PTP_VAR : RegD := ⟨.TS, 0x44202014, 16, 0x40, 1, 0x4, 1,
  [TS_PTP_VAR_VARIANCE, TS_PTP_VAR_PORT_NUM]⟩
def TS_PTP_LOG_ANN_LOG : Fld := ⟨0x44202018, 0, 8, 1, .rw⟩
def TS_PTP_LOG_SYNC_LOG : Fld := ⟨0x44202018, 8, 8, 0, .rw⟩
def TS_PTP_LOG_MIN_SYNC_LOG : Fld := ⟨0x44202018, 16, 8, 0xf9, .rw⟩
def TS_PTP_LOG_MIN_ANN_LOG : Fld := ⟨0x44202018, 24, 8, 0xfd, .rw⟩
/-- TS_PTP_LOG_m: message intervals. -/
def R_TS_PTP_LOG : RegD := ⟨.TS, 0x44202018, 16, 0x40, 1, 0x4, 1,
  [TS_PTP_LOG_ANN_LOG, TS_PTP_LOG_SYNC_LOG, TS_PTP_LOG_MIN_SYNC_LOG, TS_PTP_LOG_MIN_ANN_LOG]⟩
def TS_PTP_GRANT_MAX_DURATION : Fld := ⟨0x4420201c, 0, 16, 0x12c, .rw⟩
def TS_PTP_GRANT_MIN_DRESP_LOG : Fld := ⟨0x4420201c, 16, 8, 0xf9, .rw⟩
/-- TS_PTP_GRANT_m: grant limits. -/
def R_TS_PTP_GRANT : RegD := ⟨.TS, 0x4420201c, 16, 0x40, 1, 0x4, 1,
  [TS_PTP_GRANT_MAX_DURATION, TS_PTP_GRANT_MIN_DRESP_LOG]⟩
def TS_PTP_SA_SPP : Fld := ⟨0x44203000, 0, 8, 0, .rw⟩
def TS_PTP_SA_SLOT : Fld := ⟨0x44203000, 8, 8, 0, .rw⟩
def TS_PTP_SA_VALID : Fld := ⟨0x44203000, 31, 1, 0, .rw⟩
def TS_PTP_SA_KEY_ID : Fld := ⟨0x44203000, 32, 32, 0, .rw⟩
/-- TS_PTP_SA_k: security association. -/
def R_TS_PTP_SA : RegD := ⟨.TS, 0x44203000, 16, 0x8, 1, 0x8, 2,
  [TS_PTP_SA_SPP, TS_PTP_SA_SLOT, TS_PTP_SA_VALID, TS_PTP_SA_KEY_ID]⟩
def TS_PKT_CTL_EN : Fld := ⟨0x44203100, 0, 1, 0, .rw⟩
def TS_PKT_CTL_MAC : Fld := ⟨0x44203100, 1, 4, 0, .rwq⟩
def TS_PKT_CTL_TRANSPORT : Fld := ⟨0x44203100, 5, 2, 0, .rwq⟩
def TS_PKT_CTL_DELAY : Fld := ⟨0x44203100, 7, 1, 0, .rwq⟩
def TS_PKT_CTL_NEGOTIATE : Fld := ⟨0x44203100, 8, 1, 1, .rwq⟩
def TS_PKT_CTL_SA : Fld := ⟨0x44203100, 9, 4, 0, .rwq⟩
def TS_PKT_CTL_DOMAIN : Fld := ⟨0x44203100, 16, 8, 0, .rwq⟩
/-- TS_PKT_CTL_n: time receiver control. -/
def R_TS_PKT_CTL : RegD := ⟨.TS, 0x44203100, 2, 0x40, 1, 0x4, 1,
  [TS_PKT_CTL_EN, TS_PKT_CTL_MAC, TS_PKT_CTL_TRANSPORT, TS_PKT_CTL_DELAY, TS_PKT_CTL_NEGOTIATE, TS_PKT_CTL_SA, TS_PKT_CTL_DOMAIN]⟩
def TS_PKT_REMOTE_ADDR : Fld := ⟨0x44203110, 0, 128, 0, .rwq⟩
/-- TS_PKT_REMOTE_n: remote time transmitter. -/
def R_TS_PKT_REMOTE : RegD := ⟨.TS, 0x44203110, 2, 0x40, 1, 0x10, 4,
  [TS_PKT_REMOTE_ADDR]⟩
def TS_PKT_LOG_SYNC_LOG : Fld := ⟨0x44203120, 0, 8, 0xfc, .rwq⟩
def TS_PKT_LOG_DREQ_LOG : Fld := ⟨0x44203120, 8, 8, 0xfc, .rwq⟩
def TS_PKT_LOG_ANN_LOG : Fld := ⟨0x44203120, 16, 8, 0, .rwq⟩
/-- TS_PKT_LOG_n: requested intervals. -/
def R_TS_PKT_LOG : RegD := ⟨.TS, 0x44203120, 2, 0x40, 1, 0x4, 1,
  [TS_PKT_LOG_SYNC_LOG, TS_PKT_LOG_DREQ_LOG, TS_PKT_LOG_ANN_LOG]⟩
def TS_PKT_STATUS_GRANT_ANN : Fld := ⟨0x44203124, 0, 1, 0, .ro⟩
def TS_PKT_STATUS_GRANT_SYNC : Fld := ⟨0x44203124, 1, 1, 0, .ro⟩
def TS_PKT_STATUS_GRANT_DRESP : Fld := ⟨0x44203124, 2, 1, 0, .ro⟩
def TS_PKT_STATUS_TWO_STEP : Fld := ⟨0x44203124, 3, 1, 0, .ro⟩
def TS_PKT_STATUS_EXCHANGES : Fld := ⟨0x44203124, 16, 16, 0, .ro⟩
/-- TS_PKT_STATUS_n: time receiver status. -/
def R_TS_PKT_STATUS : RegD := ⟨.TS, 0x44203124, 2, 0x40, 1, 0x4, 1,
  [TS_PKT_STATUS_GRANT_ANN, TS_PKT_STATUS_GRANT_SYNC, TS_PKT_STATUS_GRANT_DRESP, TS_PKT_STATUS_TWO_STEP, TS_PKT_STATUS_EXCHANGES]⟩

/-! ### Registers of 14_receipt_service.md -/

def RC_CTL_EN : Fld := ⟨0x44300000, 0, 1, 0, .rw⟩
def RC_CTL_SOLO : Fld := ⟨0x44300000, 1, 1, 0, .rw⟩
def RC_CTL_LOOSE_DEFAULT : Fld := ⟨0x44300000, 2, 1, 0, .rw⟩
def RC_CTL_ARCH_RING : Fld := ⟨0x44300000, 8, 4, 1, .rwq⟩
def RC_CTL_FREE_RING : Fld := ⟨0x44300000, 12, 4, 0, .rwq⟩
/-- RC_CTL: receipt control. -/
def R_RC_CTL : RegD := ⟨.RC, 0x44300000, 1, 0x4, 1, 0x4, 1,
  [RC_CTL_EN, RC_CTL_SOLO, RC_CTL_LOOSE_DEFAULT, RC_CTL_ARCH_RING, RC_CTL_FREE_RING]⟩
def RC_STATUS_BUSY : Fld := ⟨0x44300004, 0, 1, 0, .ro⟩
def RC_STATUS_ACCEPTING : Fld := ⟨0x44300004, 1, 1, 0, .ro⟩
def RC_STATUS_MIRROR_UP : Fld := ⟨0x44300004, 2, 1, 0, .ro⟩
def RC_STATUS_BATCH_OPEN : Fld := ⟨0x44300004, 3, 1, 0, .ro⟩
def RC_STATUS_JRN_FULL : Fld := ⟨0x44300004, 4, 1, 0, .w1c⟩
def RC_STATUS_ARCH_WAIT : Fld := ⟨0x44300004, 5, 1, 0, .ro⟩
def RC_STATUS_SIGN_QUEUE : Fld := ⟨0x44300004, 6, 7, 0, .ro⟩
/-- RC_STATUS: receipt status. -/
def R_RC_STATUS : RegD := ⟨.RC, 0x44300004, 1, 0x4, 1, 0x4, 1,
  [RC_STATUS_BUSY, RC_STATUS_ACCEPTING, RC_STATUS_MIRROR_UP, RC_STATUS_BATCH_OPEN, RC_STATUS_JRN_FULL, RC_STATUS_ARCH_WAIT, RC_STATUS_SIGN_QUEUE]⟩
def RC_PORT_PORT : Fld := ⟨0x44300008, 0, 16, 0, .rwq⟩
/-- RC_PORT: request port. -/
def R_RC_PORT : RegD := ⟨.RC, 0x44300008, 1, 0x4, 1, 0x4, 1,
  [RC_PORT_PORT]⟩
def RC_TALLY_US : Fld := ⟨0x4430000c, 0, 20, 0x3e8, .rwsSecond⟩
/-- RC_TALLY: tally period. -/
def R_RC_TALLY : RegD := ⟨.RC, 0x4430000c, 1, 0x4, 1, 0x4, 1,
  [RC_TALLY_US]⟩
def RC_MIRROR_TO_US : Fld := ⟨0x44300010, 0, 10, 0x32, .rw⟩
/-- RC_MIRROR_TO: mirror timeout. -/
def R_RC_MIRROR_TO : RegD := ⟨.RC, 0x44300010, 1, 0x4, 1, 0x4, 1,
  [RC_MIRROR_TO_US]⟩
def RC_JRN_BASE_ADDR : Fld := ⟨0x44300018, 0, 40, 0, .rwq⟩
/-- RC_JRN_BASE: journal location. -/
def R_RC_JRN_BASE : RegD := ⟨.RC, 0x44300018, 1, 0x8, 1, 0x8, 2,
  [RC_JRN_BASE_ADDR]⟩
def RC_JRN_CFG_LOG : Fld := ⟨0x44300020, 0, 5, 0x1a, .rwq⟩
/-- RC_JRN_CFG: journal size. -/
def R_RC_JRN_CFG : RegD := ⟨.RC, 0x44300020, 1, 0x4, 1, 0x4, 1,
  [RC_JRN_CFG_LOG]⟩
def RC_JRN_WRITE_INDEX : Fld := ⟨0x44300024, 0, 32, 0, .ro⟩
/-- RC_JRN_WRITE: write index. -/
def R_RC_JRN_WRITE : RegD := ⟨.RC, 0x44300024, 1, 0x4, 1, 0x4, 1,
  [RC_JRN_WRITE_INDEX]⟩
def RC_JRN_RELEASE_INDEX : Fld := ⟨0x44300028, 0, 32, 0, .rw⟩
/-- RC_JRN_RELEASE: release index. -/
def R_RC_JRN_RELEASE : RegD := ⟨.RC, 0x44300028, 1, 0x4, 1, 0x4, 1,
  [RC_JRN_RELEASE_INDEX]⟩
def RC_JRN_ARCHIVED_INDEX : Fld := ⟨0x4430002c, 0, 32, 0, .ro⟩
/-- RC_JRN_ARCHIVED: archive index. -/
def R_RC_JRN_ARCHIVED : RegD := ⟨.RC, 0x4430002c, 1, 0x4, 1, 0x4, 1,
  [RC_JRN_ARCHIVED_INDEX]⟩
def RC_IDX_BASE_ADDR : Fld := ⟨0x44300030, 0, 40, 0, .rwq⟩
/-- RC_IDX_BASE: duplicate index location. -/
def R_RC_IDX_BASE : RegD := ⟨.RC, 0x44300030, 1, 0x8, 1, 0x8, 2,
  [RC_IDX_BASE_ADDR]⟩
def RC_SUB_BASE_ADDR : Fld := ⟨0x44300038, 0, 40, 0, .rwq⟩
/-- RC_SUB_BASE: submitter table location. -/
def R_RC_SUB_BASE : RegD := ⟨.RC, 0x44300038, 1, 0x8, 1, 0x8, 2,
  [RC_SUB_BASE_ADDR]⟩
def RC_BATCH_NEXT_NUMBER : Fld := ⟨0x44300040, 0, 64, 0, .rwq⟩
/-- RC_BATCH_NEXT: next batch number. -/
def R_RC_BATCH_NEXT : RegD := ⟨.RC, 0x44300040, 1, 0x8, 1, 0x8, 2,
  [RC_BATCH_NEXT_NUMBER]⟩
def RC_PREV_ROOT_ROOT : Fld := ⟨0x44300050, 0, 256, 0, .rwq⟩
/-- RC_PREV_ROOT: chain seed. -/
def R_RC_PREV_ROOT : RegD := ⟨.RC, 0x44300050, 1, 0x20, 1, 0x20, 8,
  [RC_PREV_ROOT_ROOT]⟩
def RC_SUB_CMD_OP : Fld := ⟨0x44300080, 0, 3, 0, .wo⟩
def RC_SUB_CMD_GO : Fld := ⟨0x44300080, 3, 1, 0, .wo⟩
def RC_SUB_CMD_BUSY : Fld := ⟨0x44300080, 8, 1, 0, .ro⟩
def RC_SUB_CMD_DONE : Fld := ⟨0x44300080, 9, 1, 0, .w1c⟩
def RC_SUB_CMD_FAILED : Fld := ⟨0x44300080, 10, 1, 0, .w1c⟩
def RC_SUB_CMD_REASON : Fld := ⟨0x44300080, 16, 4, 0, .ro⟩
/-- RC_SUB_CMD: submitter command. -/
def R_RC_SUB_CMD : RegD := ⟨.RC, 0x44300080, 1, 0x4, 1, 0x4, 1,
  [RC_SUB_CMD_OP, RC_SUB_CMD_GO, RC_SUB_CMD_BUSY, RC_SUB_CMD_DONE, RC_SUB_CMD_FAILED, RC_SUB_CMD_REASON]⟩
def RC_SUB_ID_ID : Fld := ⟨0x44300084, 0, 32, 0, .rw⟩
/-- RC_SUB_ID: submitter ID. -/
def R_RC_SUB_ID : RegD := ⟨.RC, 0x44300084, 1, 0x4, 1, 0x4, 1,
  [RC_SUB_ID_ID]⟩
def RC_SUB_CFG_LOOSE : Fld := ⟨0x44300088, 0, 1, 0, .rw⟩
def RC_SUB_CFG_POLICY_SET : Fld := ⟨0x44300088, 1, 1, 0, .rw⟩
def RC_SUB_CFG_SET_LAST : Fld := ⟨0x44300088, 2, 1, 0, .rw⟩
def RC_SUB_CFG_SUSPENDED : Fld := ⟨0x44300088, 3, 1, 0, .ro⟩
def RC_SUB_CFG_RATE_K : Fld := ⟨0x44300088, 16, 16, 0, .rw⟩
/-- RC_SUB_CFG: submitter settings. -/
def R_RC_SUB_CFG : RegD := ⟨.RC, 0x44300088, 1, 0x4, 1, 0x4, 1,
  [RC_SUB_CFG_LOOSE, RC_SUB_CFG_POLICY_SET, RC_SUB_CFG_SET_LAST, RC_SUB_CFG_SUSPENDED, RC_SUB_CFG_RATE_K]⟩
def RC_SUB_LAST_LAST : Fld := ⟨0x44300090, 0, 64, 0, .rw⟩
/-- RC_SUB_LAST: last sequence. -/
def R_RC_SUB_LAST : RegD := ⟨.RC, 0x44300090, 1, 0x8, 1, 0x8, 2,
  [RC_SUB_LAST_LAST]⟩
def RC_SUB_BLOB_ADDR : Fld := ⟨0x44300098, 0, 40, 0, .rw⟩
/-- RC_SUB_BLOB: blob source. -/
def R_RC_SUB_BLOB : RegD := ⟨.RC, 0x44300098, 1, 0x8, 1, 0x8, 2,
  [RC_SUB_BLOB_ADDR]⟩
def RC_CNT_COUNT : Fld := ⟨0x44300100, 0, 64, 0, .rc⟩
/-- RC_CNT_k: receipt counter. -/
def R_RC_CNT : RegD := ⟨.RC, 0x44300100, 20, 0x8, 1, 0x8, 2,
  [RC_CNT_COUNT]⟩

/-! ### Registers of 15_twin_operation.md -/

def TW_CTL_EN : Fld := ⟨0x44400000, 0, 1, 0, .rw⟩
def TW_CTL_ALONE : Fld := ⟨0x44400000, 1, 1, 1, .rwq⟩
def TW_CTL_SOLO_ON_LOSS : Fld := ⟨0x44400000, 2, 1, 0, .rw⟩
def TW_CTL_SWAP_EN : Fld := ⟨0x44400000, 3, 1, 1, .rw⟩
/-- TW_CTL: twin control. -/
def R_TW_CTL : RegD := ⟨.TW, 0x44400000, 1, 0x4, 1, 0x4, 1,
  [TW_CTL_EN, TW_CTL_ALONE, TW_CTL_SOLO_ON_LOSS, TW_CTL_SWAP_EN]⟩
def TW_STATUS_ROLE : Fld := ⟨0x44400004, 0, 3, 0, .ro⟩
def TW_STATUS_SENIOR : Fld := ⟨0x44400004, 3, 1, 0, .ro⟩
def TW_STATUS_LEASE : Fld := ⟨0x44400004, 4, 1, 0, .ro⟩
def TW_STATUS_PARTNER_BREATH : Fld := ⟨0x44400004, 5, 1, 0, .ro⟩
def TW_STATUS_PARTNER_WITNESS : Fld := ⟨0x44400004, 6, 1, 0, .ro⟩
def TW_STATUS_MIRROR : Fld := ⟨0x44400004, 7, 1, 0, .ro⟩
def TW_STATUS_HISTORY_PARTIAL : Fld := ⟨0x44400004, 8, 1, 0, .ro⟩
def TW_STATUS_JOIN_WAIT : Fld := ⟨0x44400004, 9, 1, 0, .ro⟩
def TW_STATUS_DISAGREE : Fld := ⟨0x44400004, 10, 1, 0, .ro⟩
def TW_STATUS_UNFIT : Fld := ⟨0x44400004, 11, 1, 0, .ro⟩
def TW_STATUS_SELF_FAIL : Fld := ⟨0x44400004, 12, 1, 0, .ro⟩
def TW_STATUS_LINK_LOST : Fld := ⟨0x44400004, 13, 1, 0, .ro⟩
def TW_STATUS_BUSY : Fld := ⟨0x44400004, 14, 1, 0, .ro⟩
/-- TW_STATUS: twin status. -/
def R_TW_STATUS : RegD := ⟨.TW, 0x44400004, 1, 0x4, 1, 0x4, 1,
  [TW_STATUS_ROLE, TW_STATUS_SENIOR, TW_STATUS_LEASE, TW_STATUS_PARTNER_BREATH, TW_STATUS_PARTNER_WITNESS, TW_STATUS_MIRROR, TW_STATUS_HISTORY_PARTIAL, TW_STATUS_JOIN_WAIT, TW_STATUS_DISAGREE, TW_STATUS_UNFIT, TW_STATUS_SELF_FAIL, TW_STATUS_LINK_LOST, TW_STATUS_BUSY]⟩
def TW_EVENT_ROLE_CHG : Fld := ⟨0x44400008, 0, 1, 0, .w1c⟩
def TW_EVENT_DUAL : Fld := ⟨0x44400008, 1, 1, 0, .w1c⟩
def TW_EVENT_PARTNER_LOST : Fld := ⟨0x44400008, 2, 1, 0, .w1c⟩
def TW_EVENT_ARB_DONE : Fld := ⟨0x44400008, 3, 1, 0, .w1c⟩
def TW_EVENT_SWAP_DONE : Fld := ⟨0x44400008, 4, 1, 0, .w1c⟩
def TW_EVENT_SWAP_REFUSED : Fld := ⟨0x44400008, 5, 1, 0, .w1c⟩
def TW_EVENT_EPOCH_DISCARD : Fld := ⟨0x44400008, 6, 1, 0, .w1c⟩
/-- TW_EVENT: twin events. -/
def R_TW_EVENT : RegD := ⟨.TW, 0x44400008, 1, 0x4, 1, 0x4, 1,
  [TW_EVENT_ROLE_CHG, TW_EVENT_DUAL, TW_EVENT_PARTNER_LOST, TW_EVENT_ARB_DONE, TW_EVENT_SWAP_DONE, TW_EVENT_SWAP_REFUSED, TW_EVENT_EPOCH_DISCARD]⟩
def TW_CMD_SWAP_NOW : Fld := ⟨0x4440000c, 0, 1, 0, .wo⟩
def TW_CMD_PROMOTE : Fld := ⟨0x4440000c, 1, 1, 0, .wo⟩
def TW_CMD_DEMOTE : Fld := ⟨0x4440000c, 2, 1, 0, .wo⟩
def TW_CMD_CLR_UNFIT : Fld := ⟨0x4440000c, 3, 1, 0, .wo⟩
/-- TW_CMD: twin command. -/
def R_TW_CMD : RegD := ⟨.TW, 0x4440000c, 1, 0x4, 1, 0x4, 1,
  [TW_CMD_SWAP_NOW, TW_CMD_PROMOTE, TW_CMD_DEMOTE, TW_CMD_CLR_UNFIT]⟩
def TW_LEASE_LEASE_US : Fld := ⟨0x44400010, 0, 16, 0x190, .rwq⟩
def TW_LEASE_SILENCE_US : Fld := ⟨0x44400010, 16, 16, 0x258, .rwq⟩
/-- TW_LEASE: lease timing. -/
def R_TW_LEASE : RegD := ⟨.TW, 0x44400010, 1, 0x4, 1, 0x4, 1,
  [TW_LEASE_LEASE_US, TW_LEASE_SILENCE_US]⟩
def TW_CMP_CFG_THRESH_NS : Fld := ⟨0x44400014, 0, 16, 0xa, .rw⟩
def TW_CMP_CFG_SUSTAIN_MS : Fld := ⟨0x44400014, 16, 16, 0x3e8, .rw⟩
/-- TW_CMP_CFG: comparison. -/
def R_TW_CMP_CFG : RegD := ⟨.TW, 0x44400014, 1, 0x4, 1, 0x4, 1,
  [TW_CMP_CFG_THRESH_NS, TW_CMP_CFG_SUSTAIN_MS]⟩
def TW_PPS_DELAY_DELAY : Fld := ⟨0x44400018, 0, 32, 0, .rw⟩
/-- TW_PPS_DELAY: partner pulse delay. -/
def R_TW_PPS_DELAY : RegD := ⟨.TW, 0x44400018, 1, 0x4, 1, 0x4, 1,
  [TW_PPS_DELAY_DELAY]⟩
def TW_SWAP_CFG_PERIOD_MIN : Fld := ⟨0x4440001c, 0, 14, 0x5a0, .rw⟩
def TW_SWAP_CFG_ANN_REPEAT : Fld := ⟨0x4440001c, 16, 3, 3, .rw⟩
/-- TW_SWAP_CFG: swaps. -/
def R_TW_SWAP_CFG : RegD := ⟨.TW, 0x4440001c, 1, 0x4, 1, 0x4, 1,
  [TW_SWAP_CFG_PERIOD_MIN, TW_SWAP_CFG_ANN_REPEAT]⟩
def TW_SWAP_NEXT_SEC : Fld := ⟨0x44400020, 0, 48, 0, .rw⟩
/-- TW_SWAP_NEXT: next swap. -/
def R_TW_SWAP_NEXT : RegD := ⟨.TW, 0x44400020, 1, 0x8, 1, 0x8, 2,
  [TW_SWAP_NEXT_SEC]⟩
def TW_EPOCH_CFG_EPOCH_MS : Fld := ⟨0x44400028, 0, 10, 0xa, .rwq⟩
/-- TW_EPOCH_CFG: state epochs. -/
def R_TW_EPOCH_CFG : RegD := ⟨.TW, 0x44400028, 1, 0x4, 1, 0x4, 1,
  [TW_EPOCH_CFG_EPOCH_MS]⟩
def TW_STAGE_BASE_ADDR : Fld := ⟨0x44400030, 0, 40, 0, .rwq⟩
/-- TW_STAGE_BASE: epoch staging. -/
def R_TW_STAGE_BASE : RegD := ⟨.TW, 0x44400030, 1, 0x8, 1, 0x8, 2,
  [TW_STAGE_BASE_ADDR]⟩
def TW_EPOCH_STATUS_APPLIED : Fld := ⟨0x44400038, 0, 32, 0, .ro⟩
/-- TW_EPOCH_STATUS: applied epoch. -/
def R_TW_EPOCH_STATUS : RegD := ⟨.TW, 0x44400038, 1, 0x4, 1, 0x4, 1,
  [TW_EPOCH_STATUS_APPLIED]⟩
def TW_DIFF_LINK_D : Fld := ⟨0x44400040, 0, 64, 0, .ro⟩
/-- TW_DIFF_LINK: link difference. -/
def R_TW_DIFF_LINK : RegD := ⟨.TW, 0x44400040, 1, 0x8, 1, 0x8, 2,
  [TW_DIFF_LINK_D]⟩
def TW_DIFF_PPS_D : Fld := ⟨0x44400048, 0, 64, 0, .ro⟩
/-- TW_DIFF_PPS: pulse difference. -/
def R_TW_DIFF_PPS : RegD := ⟨.TW, 0x44400048, 1, 0x8, 1, 0x8, 2,
  [TW_DIFF_PPS_D]⟩
def TW_PARTNER_ID_ID : Fld := ⟨0x44400050, 0, 64, 0, .ro⟩
/-- TW_PARTNER_ID: partner unit ID. -/
def R_TW_PARTNER_ID : RegD := ⟨.TW, 0x44400050, 1, 0x8, 1, 0x8, 2,
  [TW_PARTNER_ID_ID]⟩
def TW_ARB_RESULT : Fld := ⟨0x44400058, 0, 2, 0, .ro⟩
def TW_ARB_VOTES_ACTIVE : Fld := ⟨0x44400058, 8, 8, 0, .ro⟩
def TW_ARB_VOTES_STANDBY : Fld := ⟨0x44400058, 16, 8, 0, .ro⟩
/-- TW_ARB: latest verdict. -/
def R_TW_ARB : RegD := ⟨.TW, 0x44400058, 1, 0x4, 1, 0x4, 1,
  [TW_ARB_RESULT, TW_ARB_VOTES_ACTIVE, TW_ARB_VOTES_STANDBY]⟩
def TW_CNT_COUNT : Fld := ⟨0x44400100, 0, 64, 0, .rc⟩
/-- TW_CNT_k: twin counter. -/
def R_TW_CNT : RegD := ⟨.TW, 0x44400100, 16, 0x8, 1, 0x8, 2,
  [TW_CNT_COUNT]⟩

/-! ### Registers of 16_matrix_memory_host.md -/

def BM_REMAP_REMAP : Fld := ⟨0x48050000, 0, 1, 0, .ro⟩
/-- BM_REMAP: remap state. -/
def R_BM_REMAP : RegD := ⟨.BM, 0x48050000, 1, 0x4, 1, 0x4, 1,
  [BM_REMAP_REMAP]⟩
def BM_AGING_STEP : Fld := ⟨0x48050004, 0, 16, 0x100, .rw⟩
def BM_AGING_STARVE : Fld := ⟨0x48050004, 16, 16, 0x400, .rw⟩
/-- BM_AGING: aging. -/
def R_BM_AGING : RegD := ⟨.BM, 0x48050004, 1, 0x4, 1, 0x4, 1,
  [BM_AGING_STEP, BM_AGING_STARVE]⟩
def BM_CTRL_RESET_CTRL : Fld := ⟨0x48050008, 0, 14, 0, .wo⟩
/-- BM_CTRL_RESET: controller reset. -/
def R_BM_CTRL_RESET : RegD := ⟨.BM, 0x48050008, 1, 0x4, 1, 0x4, 1,
  [BM_CTRL_RESET_CTRL]⟩
def BM_CTRL_STATUS_IN_RESET : Fld := ⟨0x4805000c, 0, 14, 0, .ro⟩
/-- BM_CTRL_STATUS: controller state. -/
def R_BM_CTRL_STATUS : RegD := ⟨.BM, 0x4805000c, 1, 0x4, 1, 0x4, 1,
  [BM_CTRL_STATUS_IN_RESET]⟩
def BM_ERR_ADDR : Fld := ⟨0x48050010, 0, 40, 0, .ro⟩
def BM_ERR_CTRL : Fld := ⟨0x48050010, 40, 4, 0, .ro⟩
def BM_ERR_TARGET : Fld := ⟨0x48050010, 44, 4, 0, .ro⟩
def BM_ERR_KIND : Fld := ⟨0x48050010, 48, 2, 0, .ro⟩
def BM_ERR_VALID : Fld := ⟨0x48050010, 63, 1, 0, .w1c⟩
/-- BM_ERR: latest matrix error. -/
def R_BM_ERR : RegD := ⟨.BM, 0x48050010, 1, 0x8, 1, 0x8, 2,
  [BM_ERR_ADDR, BM_ERR_CTRL, BM_ERR_TARGET, BM_ERR_KIND, BM_ERR_VALID]⟩
def BM_PRIO_PRIO : Fld := ⟨0x48050100, 0, 56, 0x2a9999aedbcc68, .rw⟩
/-- BM_PRIO_t: target priorities. -/
def R_BM_PRIO : RegD := ⟨.BM, 0x48050100, 11, 0x8, 1, 0x8, 2,
  [BM_PRIO_PRIO]⟩
def BM_STARVED_COUNT : Fld := ⟨0x48050200, 0, 32, 0, .rc⟩
/-- BM_STARVED_t: urgent grants. -/
def R_BM_STARVED : RegD := ⟨.BM, 0x48050200, 11, 0x4, 1, 0x4, 1,
  [BM_STARVED_COUNT]⟩
def DR_CFG_WIDTH : Fld := ⟨0x48060000, 0, 2, 0, .rwq⟩
def DR_CFG_DENSITY : Fld := ⟨0x48060000, 2, 2, 1, .rwq⟩
def DR_CFG_RANKS : Fld := ⟨0x48060000, 4, 1, 0, .rwq⟩
def DR_CFG_RDIMM : Fld := ⟨0x48060000, 5, 1, 0, .rwq⟩
def DR_CFG_RATE : Fld := ⟨0x48060000, 6, 2, 2, .rwq⟩
/-- DR_CFG_c: channel configuration. -/
def R_DR_CFG : RegD := ⟨.DR, 0x48060000, 2, 0x100, 1, 0x4, 1,
  [DR_CFG_WIDTH, DR_CFG_DENSITY, DR_CFG_RANKS, DR_CFG_RDIMM, DR_CFG_RATE]⟩
def DR_CTL_INIT : Fld := ⟨0x48060004, 0, 1, 0, .wo⟩
def DR_CTL_ZERO : Fld := ⟨0x48060004, 1, 1, 0, .wo⟩
/-- DR_CTL_c: channel control. -/
def R_DR_CTL : RegD := ⟨.DR, 0x48060004, 2, 0x100, 1, 0x4, 1,
  [DR_CTL_INIT, DR_CTL_ZERO]⟩
def DR_STATUS_INIT_DONE : Fld := ⟨0x48060008, 0, 1, 0, .ro⟩
def DR_STATUS_TRAINING : Fld := ⟨0x48060008, 1, 1, 0, .ro⟩
def DR_STATUS_ZERO_BUSY : Fld := ⟨0x48060008, 2, 1, 0, .ro⟩
def DR_STATUS_SELF_REFRESH : Fld := ⟨0x48060008, 3, 1, 0, .ro⟩
def DR_STATUS_RANK_RETIRED : Fld := ⟨0x48060008, 4, 2, 0, .ro⟩
def DR_STATUS_CAPACITY : Fld := ⟨0x48060008, 6, 6, 0, .ro⟩
/-- DR_STATUS_c: channel status. -/
def R_DR_STATUS : RegD := ⟨.DR, 0x48060008, 2, 0x100, 1, 0x4, 1,
  [DR_STATUS_INIT_DONE, DR_STATUS_TRAINING, DR_STATUS_ZERO_BUSY, DR_STATUS_SELF_REFRESH, DR_STATUS_RANK_RETIRED, DR_STATUS_CAPACITY]⟩
def DR_SCRUB_HOURS : Fld := ⟨0x4806000c, 0, 8, 0x18, .rw⟩
/-- DR_SCRUB_c: patrol scrub. -/
def R_DR_SCRUB : RegD := ⟨.DR, 0x4806000c, 2, 0x100, 1, 0x4, 1,
  [DR_SCRUB_HOURS]⟩
def DR_CE_COUNT : Fld := ⟨0x48060010, 0, 32, 0, .rc⟩
/-- DR_CE_c: corrected errors. -/
def R_DR_CE : RegD := ⟨.DR, 0x48060010, 2, 0x100, 1, 0x4, 1,
  [DR_CE_COUNT]⟩
def DR_UE_COUNT : Fld := ⟨0x48060014, 0, 32, 0, .rc⟩
/-- DR_UE_c: uncorrectable errors. -/
def R_DR_UE : RegD := ⟨.DR, 0x48060014, 2, 0x100, 1, 0x4, 1,
  [DR_UE_COUNT]⟩
def DR_ERR_ADDR_ADDR : Fld := ⟨0x48060018, 0, 40, 0, .ro⟩
def DR_ERR_ADDR_RANK : Fld := ⟨0x48060018, 40, 1, 0, .ro⟩
def DR_ERR_ADDR_VALID : Fld := ⟨0x48060018, 63, 1, 0, .w1c⟩
/-- DR_ERR_ADDR_c: latest uncorrectable error. -/
def R_DR_ERR_ADDR : RegD := ⟨.DR, 0x48060018, 2, 0x100, 1, 0x8, 2,
  [DR_ERR_ADDR_ADDR, DR_ERR_ADDR_RANK, DR_ERR_ADDR_VALID]⟩
def RG_CTL_EN : Fld := ⟨0x48070000, 0, 1, 0, .rw⟩
def RG_CTL_LOC : Fld := ⟨0x48070000, 1, 2, 0, .rwq⟩
def RG_CTL_SIZE_LOG2 : Fld := ⟨0x48070000, 3, 5, 8, .rwq⟩
def RG_CTL_FREE : Fld := ⟨0x48070000, 8, 4, 0, .rwq⟩
def RG_CTL_CONSUMER : Fld := ⟨0x48070000, 12, 3, 0, .rwq⟩
def RG_CTL_RESTART : Fld := ⟨0x48070000, 15, 1, 0, .wo⟩
/-- RG_CTL_r: ring control. -/
def R_RG_CTL : RegD := ⟨.RG, 0x48070000, 64, 0x40, 1, 0x4, 1,
  [RG_CTL_EN, RG_CTL_LOC, RG_CTL_SIZE_LOG2, RG_CTL_FREE, RG_CTL_CONSUMER, RG_CTL_RESTART]⟩
def RG_STATUS_BUSY : Fld := ⟨0x48070004, 0, 1, 0, .ro⟩
def RG_STATUS_STOPPED : Fld := ⟨0x48070004, 1, 1, 0, .ro⟩
def RG_STATUS_REASON : Fld := ⟨0x48070004, 2, 3, 0, .ro⟩
def RG_STATUS_FULL : Fld := ⟨0x48070004, 5, 1, 0, .w1c⟩
/-- RG_STATUS_r: ring status. -/
def R_RG_STATUS : RegD := ⟨.RG, 0x48070004, 64, 0x40, 1, 0x4, 1,
  [RG_STATUS_BUSY, RG_STATUS_STOPPED, RG_STATUS_REASON, RG_STATUS_FULL]⟩
def RG_BASE_ADDR : Fld := ⟨0x48070008, 0, 64, 0, .rwq⟩
/-- RG_BASE_r: ring location. -/
def R_RG_BASE : RegD := ⟨.RG, 0x48070008, 64, 0x40, 1, 0x8, 2,
  [RG_BASE_ADDR]⟩
def RG_PROD_COUNT : Fld := ⟨0x48070010, 0, 32, 0, .rw⟩
/-- RG_PROD_r: produced count. -/
def R_RG_PROD : RegD := ⟨.RG, 0x48070010, 64, 0x40, 1, 0x4, 1,
  [RG_PROD_COUNT]⟩
def RG_CONS_COUNT : Fld := ⟨0x48070014, 0, 32, 0, .rw⟩
/-- RG_CONS_r: consumed count. -/
def R_RG_CONS : RegD := ⟨.RG, 0x48070014, 64, 0x40, 1, 0x4, 1,
  [RG_CONS_COUNT]⟩
def RG_SEQ_START : Fld := ⟨0x48070018, 0, 32, 0, .rwq⟩
/-- RG_SEQ_r: sequence start. -/
def R_RG_SEQ : RegD := ⟨.RG, 0x48070018, 64, 0x40, 1, 0x4, 1,
  [RG_SEQ_START]⟩
def RG_IRQ_VECTOR : Fld := ⟨0x4807001c, 0, 8, 0, .rw⟩
def RG_IRQ_EN : Fld := ⟨0x4807001c, 8, 1, 0, .rw⟩
def RG_IRQ_COUNT : Fld := ⟨0x4807001c, 16, 8, 1, .rw⟩
def RG_IRQ_TIME_US : Fld := ⟨0x4807001c, 24, 8, 0, .rw⟩
/-- RG_IRQ_r: ring interrupt. -/
def R_RG_IRQ : RegD := ⟨.RG, 0x4807001c, 64, 0x40, 1, 0x4, 1,
  [RG_IRQ_VECTOR, RG_IRQ_EN, RG_IRQ_COUNT, RG_IRQ_TIME_US]⟩
def RG_DROP_COUNT : Fld := ⟨0x48070020, 0, 32, 0, .rc⟩
/-- RG_DROP_r: dropped descriptors. -/
def R_RG_DROP : RegD := ⟨.RG, 0x48070020, 64, 0x40, 1, 0x4, 1,
  [RG_DROP_COUNT]⟩
def PE_STATUS_LINK_UP : Fld := ⟨0x48080000, 0, 1, 0, .ro⟩
def PE_STATUS_SPEED : Fld := ⟨0x48080000, 1, 3, 0, .ro⟩
def PE_STATUS_WIDTH : Fld := ⟨0x48080000, 4, 4, 0, .ro⟩
def PE_STATUS_BME_PF0 : Fld := ⟨0x48080000, 8, 1, 0, .ro⟩
def PE_STATUS_BME_PF1 : Fld := ⟨0x48080000, 9, 1, 0, .ro⟩
def PE_STATUS_LINK_LOST : Fld := ⟨0x48080000, 10, 1, 0, .w1c⟩
/-- PE_STATUS: link status. -/
def R_PE_STATUS : RegD := ⟨.PE, 0x48080000, 1, 0x4, 1, 0x4, 1,
  [PE_STATUS_LINK_UP, PE_STATUS_SPEED, PE_STATUS_WIDTH, PE_STATUS_BME_PF0, PE_STATUS_BME_PF1, PE_STATUS_LINK_LOST]⟩
def PE_ERR_COUNT : Fld := ⟨0x48080010, 0, 32, 0, .rc⟩
/-- PE_ERR_k: PCI Express error counts. -/
def R_PE_ERR : RegD := ⟨.PE, 0x48080010, 4, 0x4, 1, 0x4, 1,
  [PE_ERR_COUNT]⟩
def GP_UART_CTL_EN : Fld := ⟨0x48090000, 0, 1, 0, .rw⟩
def GP_UART_CTL_READER : Fld := ⟨0x48090000, 1, 1, 0, .rwq⟩
/-- GP_UART_CTL_n: UART control. -/
def R_GP_UART_CTL : RegD := ⟨.GP, 0x48090000, 2, 0x40, 1, 0x4, 1,
  [GP_UART_CTL_EN, GP_UART_CTL_READER]⟩
def GP_UART_BAUD_BAUD : Fld := ⟨0x48090004, 0, 20, 0x1c200, .rwq⟩
/-- GP_UART_BAUD_n: UART rate. -/
def R_GP_UART_BAUD : RegD := ⟨.GP, 0x48090004, 2, 0x40, 1, 0x4, 1,
  [GP_UART_BAUD_BAUD]⟩
def GP_UART_STATUS_RX_LEVEL : Fld := ⟨0x48090008, 0, 7, 0, .ro⟩
def GP_UART_STATUS_TX_LEVEL : Fld := ⟨0x48090008, 8, 7, 0, .ro⟩
def GP_UART_STATUS_BUSY : Fld := ⟨0x48090008, 15, 1, 0, .ro⟩
def GP_UART_STATUS_TX_OVF : Fld := ⟨0x48090008, 16, 1, 0, .w1c⟩
def GP_UART_STATUS_RX_LOST : Fld := ⟨0x48090008, 17, 1, 0, .w1c⟩
def GP_UART_STATUS_FRAMING : Fld := ⟨0x48090008, 18, 1, 0, .w1c⟩
def GP_UART_STATUS_TX_ACTIVE : Fld := ⟨0x48090008, 19, 1, 0, .ro⟩
/-- GP_UART_STATUS_n: UART status. -/
def R_GP_UART_STATUS : RegD := ⟨.GP, 0x48090008, 2, 0x40, 1, 0x4, 1,
  [GP_UART_STATUS_RX_LEVEL, GP_UART_STATUS_TX_LEVEL, GP_UART_STATUS_BUSY, GP_UART_STATUS_TX_OVF, GP_UART_STATUS_RX_LOST, GP_UART_STATUS_FRAMING, GP_UART_STATUS_TX_ACTIVE]⟩
def GP_UART_TX_DATA : Fld := ⟨0x4809000c, 0, 8, 0, .wo⟩
/-- GP_UART_TX_n: UART transmit. -/
def R_GP_UART_TX : RegD := ⟨.GP, 0x4809000c, 2, 0x40, 1, 0x4, 1,
  [GP_UART_TX_DATA]⟩
def GP_UART_RX_ENTRY : Fld := ⟨0x48090010, 0, 128, 0, .ro⟩
/-- GP_UART_RX_n: UART receive head. -/
def R_GP_UART_RX : RegD := ⟨.GP, 0x48090010, 2, 0x40, 1, 0x10, 4,
  [GP_UART_RX_ENTRY]⟩
def GP_UART_RX_LOST_COUNT : Fld := ⟨0x48090020, 0, 32, 0, .rc⟩
/-- GP_UART_RX_LOST_n: received bytes lost. -/
def R_GP_UART_RX_LOST : RegD := ⟨.GP, 0x48090020, 2, 0x40, 1, 0x4, 1,
  [GP_UART_RX_LOST_COUNT]⟩
def GP_I2C_CTL_EN : Fld := ⟨0x48090100, 0, 1, 0, .rw⟩
def GP_I2C_CTL_MODE : Fld := ⟨0x48090100, 1, 1, 0, .rwq⟩
def GP_I2C_CTL_IRQ_EN : Fld := ⟨0x48090100, 2, 1, 0, .rw⟩
def GP_I2C_CTL_VECTOR : Fld := ⟨0x48090100, 3, 8, 0, .rw⟩
/-- GP_I2C_CTL: I²C control. -/
def R_GP_I2C_CTL : RegD := ⟨.GP, 0x48090100, 1, 0x4, 1, 0x4, 1,
  [GP_I2C_CTL_EN, GP_I2C_CTL_MODE, GP_I2C_CTL_IRQ_EN, GP_I2C_CTL_VECTOR]⟩
def GP_I2C_CMD_ADDR : Fld := ⟨0x48090104, 0, 7, 0, .wo⟩
def GP_I2C_CMD_WLEN : Fld := ⟨0x48090104, 8, 4, 0, .wo⟩
def GP_I2C_CMD_RLEN : Fld := ⟨0x48090104, 12, 4, 0, .wo⟩
def GP_I2C_CMD_GO : Fld := ⟨0x48090104, 16, 1, 0, .wo⟩
def GP_I2C_CMD_BUSY : Fld := ⟨0x48090104, 17, 1, 0, .ro⟩
def GP_I2C_CMD_DONE : Fld := ⟨0x48090104, 18, 1, 0, .w1c⟩
def GP_I2C_CMD_NACK : Fld := ⟨0x48090104, 19, 1, 0, .w1c⟩
def GP_I2C_CMD_TIMEOUT : Fld := ⟨0x48090104, 20, 1, 0, .w1c⟩
def GP_I2C_CMD_COLLIDE : Fld := ⟨0x48090104, 21, 1, 0, .w1c⟩
/-- GP_I2C_CMD: I²C command. -/
def R_GP_I2C_CMD : RegD := ⟨.GP, 0x48090104, 1, 0x4, 1, 0x4, 1,
  [GP_I2C_CMD_ADDR, GP_I2C_CMD_WLEN, GP_I2C_CMD_RLEN, GP_I2C_CMD_GO, GP_I2C_CMD_BUSY, GP_I2C_CMD_DONE, GP_I2C_CMD_NACK, GP_I2C_CMD_TIMEOUT, GP_I2C_CMD_COLLIDE]⟩
def GP_I2C_WDATA_DATA : Fld := ⟨0x48090108, 0, 64, 0, .rw⟩
/-- GP_I2C_WDATA: I²C write data. -/
def R_GP_I2C_WDATA : RegD := ⟨.GP, 0x48090108, 1, 0x8, 1, 0x8, 2,
  [GP_I2C_WDATA_DATA]⟩
def GP_I2C_RDATA_DATA : Fld := ⟨0x48090110, 0, 64, 0, .ro⟩
/-- GP_I2C_RDATA: I²C read data. -/
def R_GP_I2C_RDATA : RegD := ⟨.GP, 0x48090110, 1, 0x8, 1, 0x8, 2,
  [GP_I2C_RDATA_DATA]⟩
def GP_SPI_CFG_EN : Fld := ⟨0x48090200, 0, 1, 0, .rw⟩
def GP_SPI_CFG_MODE : Fld := ⟨0x48090200, 1, 2, 0, .rwq⟩
def GP_SPI_CFG_DIV : Fld := ⟨0x48090200, 3, 8, 1, .rwq⟩
def GP_SPI_CFG_CS : Fld := ⟨0x48090200, 11, 2, 0, .rwq⟩
def GP_SPI_CFG_IRQ_EN : Fld := ⟨0x48090200, 13, 1, 0, .rw⟩
def GP_SPI_CFG_VECTOR : Fld := ⟨0x48090200, 14, 8, 0, .rw⟩
/-- GP_SPI_CFG: SPI configuration. -/
def R_GP_SPI_CFG : RegD := ⟨.GP, 0x48090200, 1, 0x4, 1, 0x4, 1,
  [GP_SPI_CFG_EN, GP_SPI_CFG_MODE, GP_SPI_CFG_DIV, GP_SPI_CFG_CS, GP_SPI_CFG_IRQ_EN, GP_SPI_CFG_VECTOR]⟩
def GP_SPI_CMD_LEN : Fld := ⟨0x48090204, 0, 6, 0, .wo⟩
def GP_SPI_CMD_KEEP_CS : Fld := ⟨0x48090204, 6, 1, 0, .wo⟩
def GP_SPI_CMD_GO : Fld := ⟨0x48090204, 8, 1, 0, .wo⟩
def GP_SPI_CMD_BUSY : Fld := ⟨0x48090204, 9, 1, 0, .ro⟩
def GP_SPI_CMD_HELD : Fld := ⟨0x48090204, 10, 1, 0, .ro⟩
def GP_SPI_CMD_DONE : Fld := ⟨0x48090204, 11, 1, 0, .w1c⟩
def GP_SPI_CMD_COLLIDE : Fld := ⟨0x48090204, 12, 1, 0, .w1c⟩
/-- GP_SPI_CMD: SPI command. -/
def R_GP_SPI_CMD : RegD := ⟨.GP, 0x48090204, 1, 0x4, 1, 0x4, 1,
  [GP_SPI_CMD_LEN, GP_SPI_CMD_KEEP_CS, GP_SPI_CMD_GO, GP_SPI_CMD_BUSY, GP_SPI_CMD_HELD, GP_SPI_CMD_DONE, GP_SPI_CMD_COLLIDE]⟩
def GP_SPI_TX_DATA : Fld := ⟨0x48090220, 0, 256, 0, .rw⟩
/-- GP_SPI_TX: SPI transmit buffer. -/
def R_GP_SPI_TX : RegD := ⟨.GP, 0x48090220, 1, 0x20, 1, 0x20, 8,
  [GP_SPI_TX_DATA]⟩
def GP_SPI_RX_DATA : Fld := ⟨0x48090240, 0, 256, 0, .ro⟩
/-- GP_SPI_RX: SPI receive buffer. -/
def R_GP_SPI_RX : RegD := ⟨.GP, 0x48090240, 1, 0x20, 1, 0x20, 8,
  [GP_SPI_RX_DATA]⟩
def GP_GPIO_DIR_DIR : Fld := ⟨0x48090300, 0, 16, 0, .rw⟩
/-- GP_GPIO_DIR: GPIO direction. -/
def R_GP_GPIO_DIR : RegD := ⟨.GP, 0x48090300, 1, 0x4, 1, 0x4, 1,
  [GP_GPIO_DIR_DIR]⟩
def GP_GPIO_OUT_OUT : Fld := ⟨0x48090304, 0, 16, 0, .rw⟩
/-- GP_GPIO_OUT: GPIO output levels. -/
def R_GP_GPIO_OUT : RegD := ⟨.GP, 0x48090304, 1, 0x4, 1, 0x4, 1,
  [GP_GPIO_OUT_OUT]⟩
def GP_GPIO_SET_SET : Fld := ⟨0x48090308, 0, 16, 0, .wo⟩
/-- GP_GPIO_SET: GPIO set. -/
def R_GP_GPIO_SET : RegD := ⟨.GP, 0x48090308, 1, 0x4, 1, 0x4, 1,
  [GP_GPIO_SET_SET]⟩
def GP_GPIO_CLR_CLR : Fld := ⟨0x4809030c, 0, 16, 0, .wo⟩
/-- GP_GPIO_CLR: GPIO clear. -/
def R_GP_GPIO_CLR : RegD := ⟨.GP, 0x4809030c, 1, 0x4, 1, 0x4, 1,
  [GP_GPIO_CLR_CLR]⟩
def GP_GPIO_IN_IN : Fld := ⟨0x48090310, 0, 16, 0, .ro⟩
/-- GP_GPIO_IN: GPIO levels. -/
def R_GP_GPIO_IN : RegD := ⟨.GP, 0x48090310, 1, 0x4, 1, 0x4, 1,
  [GP_GPIO_IN_IN]⟩
def GP_GPIO_EDGE_EDGE : Fld := ⟨0x48090314, 0, 16, 0, .w1c⟩
/-- GP_GPIO_EDGE: GPIO changes. -/
def R_GP_GPIO_EDGE : RegD := ⟨.GP, 0x48090314, 1, 0x4, 1, 0x4, 1,
  [GP_GPIO_EDGE_EDGE]⟩
def GP_GPIO_PULL_PULL : Fld := ⟨0x48090318, 0, 16, 0xffff, .rw⟩
/-- GP_GPIO_PULL: GPIO pull-downs. -/
def R_GP_GPIO_PULL : RegD := ⟨.GP, 0x48090318, 1, 0x4, 1, 0x4, 1,
  [GP_GPIO_PULL_PULL]⟩

/-! ### Registers of 17_faults_and_performance_counters.md -/

def FM_CTL_FATAL_POLICY : Fld := ⟨0x48030000, 0, 2, 0, .rw⟩
def FM_CTL_ALERT_PERM : Fld := ⟨0x48030000, 2, 1, 0, .rw⟩
def FM_CTL_IRQ_EN : Fld := ⟨0x48030000, 3, 1, 0, .rw⟩
def FM_CTL_VECTOR : Fld := ⟨0x48030000, 4, 8, 0, .rw⟩
/-- FM_CTL: fault manager control. -/
def R_FM_CTL : RegD := ⟨.FM, 0x48030000, 1, 0x4, 1, 0x4, 1,
  [FM_CTL_FATAL_POLICY, FM_CTL_ALERT_PERM, FM_CTL_IRQ_EN, FM_CTL_VECTOR]⟩
def FM_STATUS_LEVEL : Fld := ⟨0x48030004, 0, 7, 0, .ro⟩
def FM_STATUS_OVERFLOW : Fld := ⟨0x48030004, 7, 1, 0, .w1c⟩
def FM_STATUS_FATAL : Fld := ⟨0x48030004, 8, 1, 0, .ro⟩
def FM_STATUS_PERM_SEEN : Fld := ⟨0x48030004, 9, 1, 0, .w1c⟩
def FM_STATUS_ALERT : Fld := ⟨0x48030004, 10, 1, 0, .ro⟩
/-- FM_STATUS: fault manager status. -/
def R_FM_STATUS : RegD := ⟨.FM, 0x48030004, 1, 0x4, 1, 0x4, 1,
  [FM_STATUS_LEVEL, FM_STATUS_OVERFLOW, FM_STATUS_FATAL, FM_STATUS_PERM_SEEN, FM_STATUS_ALERT]⟩
def FM_QUEUE_RECORD : Fld := ⟨0x48030010, 0, 128, 0, .ro⟩
/-- FM_QUEUE: queue head. -/
def R_FM_QUEUE : RegD := ⟨.FM, 0x48030010, 1, 0x10, 1, 0x10, 4,
  [FM_QUEUE_RECORD]⟩
def FM_TRANSIENT_CFG_COUNT : Fld := ⟨0x48030020, 0, 8, 8, .rw⟩
def FM_TRANSIENT_CFG_WINDOW_S : Fld := ⟨0x48030020, 8, 16, 0x3c, .rw⟩
/-- FM_TRANSIENT_CFG: escalation. -/
def R_FM_TRANSIENT_CFG : RegD := ⟨.FM, 0x48030020, 1, 0x4, 1, 0x4, 1,
  [FM_TRANSIENT_CFG_COUNT, FM_TRANSIENT_CFG_WINDOW_S]⟩
def FM_BACKOFF_MIN_MS : Fld := ⟨0x48030024, 0, 16, 1, .rw⟩
def FM_BACKOFF_MAX_MS : Fld := ⟨0x48030024, 16, 16, 0x3e8, .rw⟩
/-- FM_BACKOFF: retry backoff. -/
def R_FM_BACKOFF : RegD := ⟨.FM, 0x48030024, 1, 0x4, 1, 0x4, 1,
  [FM_BACKOFF_MIN_MS, FM_BACKOFF_MAX_MS]⟩
def FM_DROPPED_COUNT : Fld := ⟨0x48030028, 0, 32, 0, .rc⟩
/-- FM_DROPPED: lost records. -/
def R_FM_DROPPED : RegD := ⟨.FM, 0x48030028, 1, 0x4, 1, 0x4, 1,
  [FM_DROPPED_COUNT]⟩
def FM_INJECT_CODE : Fld := ⟨0x48030030, 0, 16, 0, .wo⟩
def FM_INJECT_CLASS : Fld := ⟨0x48030030, 16, 2, 0, .wo⟩
def FM_INJECT_CHANNEL : Fld := ⟨0x48030030, 32, 16, 0, .wo⟩
def FM_INJECT_DETAIL : Fld := ⟨0x48030030, 48, 16, 0, .wo⟩
/-- FM_INJECT: fault injection. -/
def R_FM_INJECT : RegD := ⟨.FM, 0x48030030, 1, 0x8, 1, 0x8, 2,
  [FM_INJECT_CODE, FM_INJECT_CLASS, FM_INJECT_CHANNEL, FM_INJECT_DETAIL]⟩
def FM_LAST_FATAL_RECORD : Fld := ⟨0x48030040, 0, 128, 0, .ro⟩
/-- FM_LAST_FATAL: latest FATAL record. -/
def R_FM_LAST_FATAL : RegD := ⟨.FM, 0x48030040, 1, 0x10, 1, 0x10, 4,
  [FM_LAST_FATAL_RECORD]⟩
def FM_CHAN_RETIRED : Fld := ⟨0x48030400, 0, 1, 0, .ro⟩
def FM_CHAN_RETRY_PENDING : Fld := ⟨0x48030400, 1, 1, 0, .ro⟩
def FM_CHAN_TRANSIENTS : Fld := ⟨0x48030400, 2, 8, 0, .ro⟩
def FM_CHAN_REENABLE : Fld := ⟨0x48030400, 16, 1, 0, .wo⟩
/-- FM_CHAN_k_i: channel state. -/
def R_FM_CHAN : RegD := ⟨.FM, 0x48030480, 11, 0x40, 16, 0x4, 1,
  [FM_CHAN_RETIRED, FM_CHAN_RETRY_PENDING, FM_CHAN_TRANSIENTS, FM_CHAN_REENABLE]⟩
def PC_CTL_USER_READ : Fld := ⟨0x48040000, 0, 1, 0, .rw⟩
def PC_CTL_SEQ_EN : Fld := ⟨0x48040000, 8, 4, 0, .ro⟩
/-- PC_CTL: counter control. -/
def R_PC_CTL : RegD := ⟨.PC, 0x48040000, 1, 0x4, 1, 0x4, 1,
  [PC_CTL_USER_READ, PC_CTL_SEQ_EN]⟩
def PC_CYCLE_COUNT : Fld := ⟨0x48040100, 0, 64, 0, .rw⟩
/-- PC_CYCLE_n: cycle counter. -/
def R_PC_CYCLE : RegD := ⟨.PC, 0x48040100, 8, 0x80, 1, 0x8, 2,
  [PC_CYCLE_COUNT]⟩
def PC_OVF_OVF : Fld := ⟨0x48040108, 0, 8, 0, .w1c⟩
def PC_OVF_CYC_OVF : Fld := ⟨0x48040108, 8, 1, 0, .w1c⟩
/-- PC_OVF_n: overflow bits. -/
def R_PC_OVF : RegD := ⟨.PC, 0x48040108, 8, 0x80, 1, 0x4, 1,
  [PC_OVF_OVF, PC_OVF_CYC_OVF]⟩
def PC_CFG_EVENT : Fld := ⟨0x48040110, 0, 7, 0, .rw⟩
def PC_CFG_EN : Fld := ⟨0x48040110, 7, 1, 0, .rw⟩
def PC_CFG_CHAIN : Fld := ⟨0x48040110, 8, 1, 0, .rw⟩
/-- PC_CFG_n_k: counter configuration. -/
def R_PC_CFG : RegD := ⟨.PC, 0x48040110, 8, 0x80, 8, 0x4, 1,
  [PC_CFG_EVENT, PC_CFG_EN, PC_CFG_CHAIN]⟩
def PC_CNT_COUNT : Fld := ⟨0x48040130, 0, 48, 0, .rw⟩
/-- PC_CNT_n_k: programmable counter. -/
def R_PC_CNT : RegD := ⟨.PC, 0x48040130, 8, 0x80, 8, 0x8, 2,
  [PC_CNT_COUNT]⟩
def PC_FB_COUNT : Fld := ⟨0x48041000, 0, 32, 0, .ro⟩
/-- PC_FB_e: fall-back counter. -/
def R_PC_FB : RegD := ⟨.PC, 0x48041000, 256, 0x4, 1, 0x4, 1,
  [PC_FB_COUNT]⟩
def PC_FB_OVF_OVF : Fld := ⟨0x48041400, 0, 32, 0, .w1c⟩
/-- PC_FB_OVF_w: fall-back overflow bits. -/
def R_PC_FB_OVF : RegD := ⟨.PC, 0x48041400, 8, 0x4, 1, 0x4, 1,
  [PC_FB_OVF_OVF]⟩

/-- The registers of chapter 02. -/
def regs02 : List RegD :=
  [R_TC_CTL, R_TC_STATUS, R_TC_INCREMENT, R_TC_INC_APPLIED, R_TC_TIME, R_TC_TIME_SET, R_TC_WNC, R_TC_SLIDE_OFFSET, R_TC_SLIDE_REMAIN, R_TC_SLIDE_SLOPE, R_TC_STEP_OFFSET, R_TC_STEP_ACCEPT, R_TC_UTC_OFFSET, R_TC_LEAP_CTL, R_TC_LEAP_TIME, R_TC_SMEAR_WINDOW, R_TC_SAFE_INC, R_TC_EPOCH, R_TC_EPOCH_MISS, R_BG_CTL] ++
  [R_BG_COEF, R_BG_ACTIVE, R_BG_DT, R_BG_WIDEN, R_BG_CURRENT, R_BG_ANCHOR, R_PO_CTL, R_PO_STATUS, R_PO_EMITTED, R_PO_START, R_PO_PERIOD, R_PO_WIDTH, R_PO_TRIM, R_PO_NEXT]

/-- The registers of chapter 03. -/
def regs03 : List RegD :=
  [R_TM_CAL_CTL, R_TM_LOSC_CTL, R_TM_LOSC_STATUS, R_TM_WARM_FREQ, R_TM_LOOP_CTL, R_TM_CH_CTL, R_TM_CH_STATUS, R_TM_PRESCALE, R_TM_TIMEOUT, R_TM_TRIM, R_TM_TRIM_UNC, R_TM_LEVEL, R_TM_LOST, R_TM_DEAD, R_TM_OFFSET, R_TM_CAL_AGE, R_TM_FIFO]

/-- The registers of chapter 04. -/
def regs04 : List RegD :=
  [R_SY_ROOT_CFG, R_SY_ROOT_CMD, R_SY_ROOT_STATUS, R_SY_RELOCK_COUNT, R_SY_SAFE_MEAS, R_SY_SAFE_DRIFT, R_SY_SAFE_UNC, R_SY_BAND_TABLE, R_SY_OPLL_CTL, R_SY_OPLL_STATUS, R_SY_OPLL_MULT, R_SY_OPLL_MEFF, R_SY_CKO_CTL, R_SY_CKO_DIV, R_SY_CKO_TRIM, R_SY_CKO_STATUS, R_SY_CKO_SWALLOW]

/-- The registers of chapter 05. -/
def regs05 : List RegD :=
  [R_RS_CTL, R_RS_SELECT, R_RS_STATE, R_RS_EVENT, R_RS_LOCK_CFG, R_RS_EQ_CFG, R_RS_ASYM_CFG, R_RS_REF_CTL, R_RS_REF_CMD, R_RS_REF_STATUS, R_RS_PHASE, R_RS_SAMPLE, R_RS_FREQ, R_RS_UNC, R_RS_DELAY, R_RS_DELAY_UNC, R_RS_FREQ_LIMIT, R_RS_WANDER_LIMIT, R_RS_LOSS_MS, R_RS_ASYM_COMP] ++
  [R_RS_PKT_CFG, R_RS_REMOTE_UNC, R_RS_UP_MAX_BOUND, R_RS_TOD, R_RS_TOD_LATE, R_RS_SUSPECT_PHASE]

/-- The registers of chapter 06. -/
def regs06 : List RegD :=
  [R_HO_CTL, R_HO_STATUS, R_HO_EVENT, R_HO_HIST_BASE, R_HO_AVG_CFG, R_HO_MIN_COUNT, R_HO_AVG_INC, R_HO_AVG_TEMP, R_HO_AVG_COUNT, R_HO_HOLD_INC, R_HO_HOLD_TEMP, R_HO_ELAPSED, R_HO_LOSS_TIME, R_HO_AGING, R_HO_TEMPCO, R_HO_TEMP_BOARD, R_HO_TEMP_CFG, R_HO_TEMP_DIE, R_HO_LOST_THRESH, R_HO_ARM_COEF] ++
  [R_HO_PLAUS_CFG, R_HO_PLAUS_GROUP, R_HO_REF_FLAGS]

/-- The registers of chapter 07. -/
def regs07 : List RegD :=
  [R_SQ_SEM, R_SQ_CTL, R_SQ_STATUS, R_SQ_PC, R_SQ_ENTRY, R_SQ_VECTOR, R_SQ_USER_PORTS, R_SQ_USER_TARGETS, R_SQ_RING, R_SQ_WDOG, R_SQ_DOORBELL, R_SQ_MBOX, R_SQ_EXC]

/-- The registers of chapter 09. -/
def regs09 : List RegD :=
  [R_BT_STATUS, R_BT_LOAD, R_BT_LOAD_STATUS, R_BT_LAUNCH, R_BT_MODE, R_BT_WARM, R_BT_RESET_CAUSE, R_BT_IRAM_LOCK, R_BT_EXTEND, R_BT_EXT_DATA, R_BT_NET_CFG, R_BT_NET_RATE, R_BT_NET_SENT, R_BT_NET_DROP, R_BT_MA, R_BT_Q_CTL, R_BT_Q_STATUS, R_BT_Q_NONCE, R_BT_Q_OUT]

/-- The registers of chapter 10. -/
def regs10 : List RegD :=
  [R_KS_STATUS, R_KS_REFUSE, R_KS_COMMIT, R_KS_STAGE, R_KS_INVAL, R_KS_GEN_CFG, R_KS_GEN_STAGE, R_KS_GEN_ACTIVE, R_KS_PARTNER_ID, R_KS_CMD, R_KS_CMD_STATUS, R_KS_CMD_SRC, R_KS_CMD_DEST, R_KS_STAGE_REC, R_KS_SLOT_STATUS, R_KS_STMT_CTL, R_KS_STMT_NONCE, R_KS_STMT_OUT, R_LC_STATE, R_LC_UNIT_ID] ++
  [R_LC_FUSE_REC, R_LC_ADVANCE, R_LC_ADVANCE_STATUS, R_LC_TRANSITION]

/-- The registers of chapter 11. -/
def regs11 : List RegD :=
  [R_SL_GRP_CFG, R_SL_ETH_CTL, R_SL_ETH_STATUS, R_SL_ETH_TX_DELAY, R_SL_ETH_RX_DELAY, R_SL_ETH_FEC_CORR, R_SL_ETH_FEC_UNCORR, R_SL_ITL_CTL, R_SL_ITL_STATUS, R_SL_ITL_FFE_INIT, R_SL_ITL_FFE, R_SL_ITL_ASYM, R_SL_ITL_TX_DELAY, R_SL_ITL_RX_DELAY, R_SL_ITL_OFFSET, R_SL_ITL_DELAY, R_SL_ITL_CRC_ERR, R_SL_ITL_ALT, R_SL_ITL_VOID, R_SL_ITL_PEER]

/-- The registers of chapter 12. -/
def regs12 : List RegD :=
  [R_MC_BUF_WM, R_MC_BUF_LEVEL, R_MC_CTL, R_MC_STATUS, R_MC_MAC_ADDR, R_MC_MAX_FRAME, R_MC_FC_WM, R_MC_PFC_CFG, R_MC_FC_STATE, R_MC_PREEMPT, R_MC_AGE, R_MC_LEVEL, R_MC_STAT]

/-- The registers of chapter 13. -/
def regs13 : List RegD :=
  [R_TS_CTL, R_TS_STATUS, R_TS_LATENCY, R_TS_ORG_ID, R_TS_NTP_CFG, R_TS_NTP_REFID, R_TS_STATE_CFG, R_TS_RL_CFG, R_TS_RL_TIMING, R_TS_RL_OVF, R_TS_CT_CFG, R_TS_CT_BASE, R_TS_CT_GRANTS, R_TS_ANNOUNCE, R_TS_MINT_SRC, R_TS_MINT_DEST, R_TS_MINT_CTL, R_TS_CNT, R_TS_SA_CTL, R_TS_SA_ADDR] ++
  [R_TS_SA_MACS, R_TS_PTP_CTL, R_TS_PTP_ID, R_TS_PTP_DS, R_TS_PTP_VAR, R_TS_PTP_LOG, R_TS_PTP_GRANT, R_TS_PTP_SA, R_TS_PKT_CTL, R_TS_PKT_REMOTE, R_TS_PKT_LOG, R_TS_PKT_STATUS]

/-- The registers of chapter 14. -/
def regs14 : List RegD :=
  [R_RC_CTL, R_RC_STATUS, R_RC_PORT, R_RC_TALLY, R_RC_MIRROR_TO, R_RC_JRN_BASE, R_RC_JRN_CFG, R_RC_JRN_WRITE, R_RC_JRN_RELEASE, R_RC_JRN_ARCHIVED, R_RC_IDX_BASE, R_RC_SUB_BASE, R_RC_BATCH_NEXT, R_RC_PREV_ROOT, R_RC_SUB_CMD, R_RC_SUB_ID, R_RC_SUB_CFG, R_RC_SUB_LAST, R_RC_SUB_BLOB, R_RC_CNT]

/-- The registers of chapter 15. -/
def regs15 : List RegD :=
  [R_TW_CTL, R_TW_STATUS, R_TW_EVENT, R_TW_CMD, R_TW_LEASE, R_TW_CMP_CFG, R_TW_PPS_DELAY, R_TW_SWAP_CFG, R_TW_SWAP_NEXT, R_TW_EPOCH_CFG, R_TW_STAGE_BASE, R_TW_EPOCH_STATUS, R_TW_DIFF_LINK, R_TW_DIFF_PPS, R_TW_PARTNER_ID, R_TW_ARB, R_TW_CNT]

/-- The registers of chapter 16. -/
def regs16 : List RegD :=
  [R_BM_REMAP, R_BM_AGING, R_BM_CTRL_RESET, R_BM_CTRL_STATUS, R_BM_ERR, R_BM_PRIO, R_BM_STARVED, R_DR_CFG, R_DR_CTL, R_DR_STATUS, R_DR_SCRUB, R_DR_CE, R_DR_UE, R_DR_ERR_ADDR, R_RG_CTL, R_RG_STATUS, R_RG_BASE, R_RG_PROD, R_RG_CONS, R_RG_SEQ] ++
  [R_RG_IRQ, R_RG_DROP, R_PE_STATUS, R_PE_ERR, R_GP_UART_CTL, R_GP_UART_BAUD, R_GP_UART_STATUS, R_GP_UART_TX, R_GP_UART_RX, R_GP_UART_RX_LOST, R_GP_I2C_CTL, R_GP_I2C_CMD, R_GP_I2C_WDATA, R_GP_I2C_RDATA, R_GP_SPI_CFG, R_GP_SPI_CMD, R_GP_SPI_TX, R_GP_SPI_RX, R_GP_GPIO_DIR, R_GP_GPIO_OUT] ++
  [R_GP_GPIO_SET, R_GP_GPIO_CLR, R_GP_GPIO_IN, R_GP_GPIO_EDGE, R_GP_GPIO_PULL]

/-- The registers of chapter 17. -/
def regs17 : List RegD :=
  [R_FM_CTL, R_FM_STATUS, R_FM_QUEUE, R_FM_TRANSIENT_CFG, R_FM_BACKOFF, R_FM_DROPPED, R_FM_INJECT, R_FM_LAST_FATAL, R_FM_CHAN, R_PC_CTL, R_PC_CYCLE, R_PC_OVF, R_PC_CFG, R_PC_CNT, R_PC_FB, R_PC_FB_OVF]

/-- Every register of the engine. -/
def allRegs : List RegD :=
  regs02 ++ regs03 ++ regs04 ++ regs05 ++ regs06 ++ regs07 ++ regs09 ++ regs10 ++ regs11 ++ regs12 ++ regs13 ++ regs14 ++ regs15 ++ regs16 ++ regs17

end Sys2Proof.Machine
end

