-- ==== Sys2Proof/Machine/State.lean ====
section
/-! DEFINITION. The state of the engine as plain data: every register field in one list, and beside it what each block
holds that no register shows. An association list is read through smGet of Ops.lean, with a default for keys not listed. -/

namespace Sys2Proof.Machine

/-- Why the model stops. -/
inductive Fault where
  /-- A command names a unit, index or length outside what the spec gives the engine (WellFormed.lean says which).
  Raised by every meaning that takes such an operand; safe: the spec gives such a command no effect, since the part has
  no such unit. -/
  | noSuchUnit
  deriving DecidableEq, Repr

/-- Why the model has no meaning for a command. -/
inductive Refusal where
  /-- The command's arm has no meaning yet; raised by the dispatcher alone; safe. -/
  | notModelled (mnemonic : String)
  deriving DecidableEq, Repr

/-- What leaves the engine, in the order the block sends it, latest first (log entry 8). -/
inductive Out where
  /-- The value a read returned to an actor (R7, R9). -/
  | read (a : Actor) (addr value : Nat)
  /-- An error response to an actor (R389, R417). -/
  | busError (a : Actor) (addr : Nat)
  /-- An edge of pulse output n: leading or trailing, the level the ball takes, its distance from the present tick in 1/4096
  ticks (R66, R70). -/
  | pulse (n : Nat) (leading level : Bool) (steps : Int)
  /-- An MSI-X message: function, vector (R416). -/
  | msix (fn vector : Nat)
  /-- A frame leaving a MAC port: port, express, launch time (0 for none), bytes. -/
  | frame (port : Nat) (express : Bool) (launch : Nat) (bytes : List Nat)
  /-- A pause or PFC frame leaving a MAC port: priority mask (256 for PAUSE), time in quanta. -/
  | pause (port mask quanta : Nat)
  /-- A superword on an Irnak lane (R263, R264): kind (0 normal, 1 alternate, 2 void), the 120 payload bytes, the 1,024 line
  bits, the first sent most significant. -/
  | superword (lane kind : Nat) (payload : List Nat) (line : Nat)
  /-- The waveform of CKO_n from here on (R108, R109): its VCO divided by `div`, high for `high` half VCO periods of each; `div` 0:
  it completes its high phase and rests low. -/
  | clock (n div high : Nat)
  /-- The divider of CKO_n restarts at the VCO edge nearest the engine time `at_` in ps (R111). -/
  | clockAlign (n : Nat) (at_ : Int)
  /-- A falling edge of CKO_n that the period guard holds until `at_` fs after its rising edge (R110). -/
  | clockFall (n at_ : Nat)
  /-- A low pulse on WITNESS: length in us. -/
  | witness (us : Nat)
  /-- A byte on UART n. -/
  | uart (n byte : Nat)
  /-- Bytes on I2C or SPI: bus (0 I2C, 1 SPI), address or chip select, bytes. -/
  | bus (which sel : Nat) (bytes : List Nat)
  /-- A quote or statement delivered: source, bytes. -/
  | signed (src : Nat) (bytes : List Nat)
  /-- Any other signal at a ball: name code and value (see each use). -/
  | ball (code value : Nat)
  deriving DecidableEq, Repr

/-- A run of past ticks with one increment, bound and DISTURBED, and no step in it (R19, R20, R66): the tick it began on with its
elapsed and engine time, what each of its ticks added, the published bound, DISTURBED, SAFE_CLOCK. -/
structure TickMark where
  tick  : Nat
  from_ : Nat
  now   : Nat
  inc   : Nat
  bound : Nat
  dist  : Bool
  safe  : Bool
  deriving DecidableEq, Repr

/-- The time core and bound generator beyond their registers. Times are engine time as one number of 2^-48 ns. -/
structure TimeSt where
  /-- engine time (TIME128 as one number; R46) -/
  now        : Nat
  /-- the sum of the increments applied (R433), untouched by steps -/
  elapsed    : Nat
  /-- CLK200 ticks since reset (R172) -/
  ticks      : Nat
  /-- remaining slide, 2^-48 ns (R53); whether the offset that waits was written by the matrix or a port (R128) -/
  slideRem   : Int
  slideHost  : Bool
  /-- the pending step of SERVICE mode, 2^-16 ns (R50) -/
  stepPend   : Option Int
  /-- a step to apply on the next tick, 2^-16 ns (R50) -/
  stepDue    : Option Int
  /-- a TC_TIME_SET to apply on the next tick (R49) -/
  setDue     : Option Nat
  /-- engine time before the step applied on the coming tick (R52) -/
  stepFrom   : Option Nat
  /-- an engine-second boundary stands at this tick and has not been taken (R56); a step crossed it (R52) -/
  secondDue  : Bool
  secondStep : Bool
  /-- a step since the latest epoch record (R56 flag 18) -/
  stepFlag   : Bool
  /-- the core clocks have returned to the root; DISTURBED clears at the next engine second (R48) -/
  distClear  : Bool
  /-- the instant the armed leap belongs to, and the smear's start, length and sign while one runs (R59, R62) -/
  leapL      : Nat
  leapDel    : Bool
  /-- the second and the direction of the latest leap that took effect, and the offset before it (R61, R62) -/
  lastL      : Nat
  lastDel    : Bool
  lastOff    : Int
  smearFrom  : Nat
  smearTo    : Nat
  /-- a next-second write of TC_UTC_OFFSET committed at this boundary (R60) -/
  utcWritten : Bool
  /-- elapsed engine time since the last RESTART, 2^-48 ns (R64) -/
  dt         : Nat
  /-- the end of a 1 us interval has been reached and not yet taken (R64) -/
  boundDue   : Bool
  /-- the published bound has risen in this interval (R441 event 87) -/
  rose       : Bool
  /-- BG_WIDEN exactly, in 2^-8 ps (R102) -/
  widenAcc   : Nat
  /-- the ticks of the last 2 ms, latest first, from which a stamp of an earlier instant is taken (R19, R20): the model's own
  field (log entry 103) -/
  marks      : List TickMark
  deriving DecidableEq, Repr

def TimeSt.init : TimeSt :=
  { now := 0, elapsed := 0, ticks := 0, slideRem := 0, slideHost := false, stepPend := none, stepDue := none, setDue := none,
    stepFrom := none, secondDue := false, secondStep := false, stepFlag := false, distClear := false, leapL := 0,
    leapDel := false, lastL := 0, lastDel := false, lastOff := 0, smearFrom := 0, smearTo := 0, utcWritten := false, dt := 0,
    boundDue := false, rose := false, widenAcc := 0, marks := [] }

/-- One pulse output beyond its registers (R66 to R70). -/
structure PoSt where
  /-- the next scheduled leading edge, before trim -/
  next  : Option Nat
  /-- leading edges counted toward COUNT since arming -/
  cnt   : Nat
  /-- the programmed trailing edge of a pulse that is high -/
  high  : Option Nat
  /-- the engine second at which the width last changed, and the width before (R68), 2^-48 ns -/
  widS  : Nat
  widOld : Nat
  deriving DecidableEq, Repr

def PoSt.init : PoSt := { next := none, cnt := 0, high := none, widS := 0, widOld := 0 }

/-- An open interval of a TDC channel (R86): the start's WNC48, its polarity and SEQ, and the elapsed time of the timeout. -/
structure TmOpen where
  wnc     : Nat
  falling : Bool
  seq     : Nat
  /-- elapsed time at which TM_TIMEOUT_n has passed since the start -/
  until_  : Int
  deriving DecidableEq, Repr

/-- One TDC channel beyond its registers (R72 to R88). A table or histogram is keyed line × 512 + code; positions are in
2^-24 ns. -/
structure TmSt where
  /-- records held, oldest first, at most 256 (R81) -/
  fifo    : List Nat
  /-- the next SEQ (R80) -/
  seq     : Nat
  /-- edges since enable that count toward the prescaler (R80) -/
  presc   : Nat
  /-- an edge or record was lost since the previous record (R79, R81) -/
  ovf     : Bool
  /-- the instant of the latest edge taken, in 2^-26/1000 ns after tick 0 (R79) -/
  last    : Option Int
  open_   : Option TmOpen
  /-- elapsed time at which the running offset calibration began (R74) -/
  calFrom : Option Nat
  /-- the first tick after OFS_CAL cleared (R74) -/
  liveAt  : Nat
  /-- the histogram being built and its hits (R75) -/
  hist    : List (Nat × Nat)
  hits    : Nat
  /-- the active table, whether there is one, and the elapsed time at which it completed (R75, R77) -/
  table   : List (Nat × Nat)
  hasTab  : Bool
  tabAt   : Nat
  /-- a completed table that becomes active at the next tick (R75, R76) -/
  newTab  : Option (List (Nat × Nat))
  deriving DecidableEq, Repr

def TmSt.init : TmSt :=
  { fifo := [], seq := 0, presc := 0, ovf := false, last := none, open_ := none, calFrom := none, liveAt := 0, hist := [],
    hits := 0, table := [], hasTab := false, tabAt := 0, newTab := none }

/-- A window of the warm-up estimator (R92): the count at which it began, in ticks of 32 root cycles; the edges of the source in it
and the instants of the first and the last, in 2^-26 ps of that count at its nominal rate; whether the root has lost lock. -/
structure WarmWin where
  from_ : Nat
  edges : Nat
  first : Int
  last  : Int
  lost  : Bool
  deriving DecidableEq, Repr

/-- The rest of the edge-measurement block: loop generator, LOSC and the warm-up estimator (R89 to R93). -/
structure TmBlk where
  loopNext : Option Nat
  phase    : Nat
  /-- y of the latest counted window, in 1e-15, and the run of passing windows (R92) -/
  warmY    : Option Int
  warmRun  : Nat
  /-- the free-running count of root cycles in ticks of 32, and the window in progress (R92) -/
  root     : Nat
  win      : Option WarmWin
  /-- the level of LOSC_READY (R91) -/
  ready    : Bool
  /-- copies of the records of channels 0 to 3 and 10, oldest first, for RS and TW (R83); keyed by channel -/
  copies   : List (Nat × List Nat)
  deriving DecidableEq, Repr

def TmBlk.init : TmBlk :=
  { loopNext := none, phase := 0, warmY := none, warmRun := 0, root := 0, win := none, ready := false, copies := [] }

/-- The root synthesizer beyond its registers (R97 to R104). -/
structure SySt where
  /-- where the relock stands: 0 none, 5 at step 5 waiting for lock, 6 locked, 8 core clocks back on the root -/
  phase     : Nat
  /-- SY_ROOT_CFG has been latched and a band chosen for this attempt -/
  latched   : Bool
  /-- lock time counted with LOSC present (R104), 2^-48 ns, and whether the attempt's fault has been logged -/
  lockTime  : Nat
  failed    : Bool
  /-- a write held in steps 8 to 10: 0 none, 1 RELOCK, 2 SWEEP (R101) -/
  heldCmd   : Nat
  /-- elapsed time of step 2 while the lane PLLs are frozen (R104) -/
  freezeAt  : Option Nat
  /-- the last 64 SAFE_OSC windows, latest first: period, and whether it followed the one before directly (R103) -/
  safeWins  : List (Nat × Bool)
  /-- the latest window lies in the present period of lock -/
  safeLink  : Bool
  deriving DecidableEq, Repr

def SySt.init : SySt :=
  { phase := 0, latched := false, lockTime := 0, failed := false, heldCmd := 0, freezeAt := none, safeWins := [],
    safeLink := false }

/-- One output PLL beyond its registers (R107, R109): elapsed times of the relock's start and of lock, the lock failure logged,
its outputs in their hold interval. -/
structure OpllSt where
  startAt  : Nat
  lockedAt : Option Nat
  failed   : Bool
  hold     : Bool
  deriving DecidableEq, Repr

def OpllSt.init : OpllSt := { startAt := 0, lockedAt := none, failed := false, hold := false }

/-- One clock output beyond its registers (R108, R111): whether it may run, whether ALIGN is in effect, and the engine
second at which its OPLL settled while an alignment is still to start. -/
structure CkoSt where
  runs    : Bool
  alignOn : Bool
  waitSec : Option Nat
  deriving DecidableEq, Repr

def CkoSt.init : CkoSt := { runs := false, alignOn := false, waitSec := none }


/-- What a sequencer's stalled or waiting instruction waits for (R158, R159, R168, R201, R202). -/
inductive Wait where
  | none_
  /-- an event wait: destination and mask -/
  | event (d mask : Nat)
  /-- a time wait on a TIME128 value -/
  | time (t : Nat)
  | fence
  /-- a key instruction: function, destination, slot, data RAM address -/
  | key (fn d slot addr : Nat)
  /-- a ring instruction: pop, destination, ring, data RAM address -/
  | ring (pop : Bool) (d ring addr : Nat)
  deriving DecidableEq, Repr

/-- An outstanding matrix transaction of a sequencer (R167): store or load, 16 bytes or a word, the register a load fills,
the address, the data of a store, the address of the instruction, and whether user mode issued it. -/
structure Txn where
  store : Bool
  wide  : Bool
  dest  : Nat
  addr  : Nat
  data  : Nat
  pc    : Nat
  um    : Bool
  deriving DecidableEq, Repr

/-- One event sequencer beyond its registers (R150). Mode, IN_EXC and PC are in SQ_STATUS_n and SQ_PC_n. -/
structure Seqr where
  /-- v1 to v15, t0 to t3 (TIME128) and acc0 to acc3, by number -/
  v      : List (Nat × Nat)
  t      : List (Nat × Nat)
  acc    : List (Nat × Int)
  zf     : Bool
  nf     : Bool
  cf     : Bool
  vf     : Bool
  epc    : Nat
  ecause : Nat
  eaddr  : Nat
  /-- return addresses, the latest first, at most 16 -/
  ret    : List Nat
  /-- latched event bits (R156, R157) -/
  events : Nat
  /-- watchdog count (R177) -/
  wdog   : Nat
  /-- armed comparators of events 28 to 31 (R196) -/
  cmp    : List (Nat × Option Nat)
  wait   : Wait
  /-- exceptions raised while a fence, key or ring instruction is past its first tick, in order: cause, address of the
  instruction, imprecise, matrix address (R184) -/
  late   : List (Nat × Nat × Bool × Nat)
  /-- outstanding matrix transactions, oldest first, at most 8 -/
  txns   : List Txn
  /-- the mailbox: source and word, oldest first, at most 8, and its flags (R170, R171) -/
  mbox        : List (Nat × Nat)
  recvDrop    : Bool
  sentDrop    : Bool
  semForeign  : Bool
  /-- the two words last written, the queued program cell, and the received cells, at most 8 (R164) -/
  cellHeld    : Nat
  cellQueued  : Option Nat
  replaced    : Bool
  cellFifo    : List Nat
  rxDrop      : Bool
  /-- snapshots of the received cell and of the counter of rdcnt -/
  cellSnap    : Nat
  cntSnap     : Nat
  deriving DecidableEq, Repr

def Seqr.init : Seqr :=
  { v := [], t := [], acc := [], zf := false, nf := false, cf := false, vf := false, epc := 0, ecause := 0, eaddr := 0,
    ret := [], events := 0, wdog := 0, cmp := [], wait := .none_, late := [], txns := [], mbox := [], recvDrop := false,
    sentDrop := false, semForeign := false, cellHeld := 0, cellQueued := none, replaced := false, cellFifo := [],
    rxDrop := false, cellSnap := 0, cntSnap := 0 }

/-- One UART beyond its registers (R418, R419): received entries of 128 bits, oldest first, at most 64; bytes to send; a
byte lost since the latest entry. -/
structure UartSt where
  rx    : List Nat
  tx    : List Nat
  lost  : Bool
  deriving DecidableEq, Repr

def UartSt.init : UartSt := { rx := [], tx := [], lost := false }
/-- One record of the fault queue (R428). -/
structure FaultRec where
  code    : Nat
  cls     : Nat
  esc     : Bool
  retired : Bool
  count   : Nat
  chan    : Nat
  detail  : Nat
  sec     : Nat
  ns      : Nat
  deriving DecidableEq, Repr

/-- The fault manager beyond its registers (R429 to R436). -/
structure FmSt where
  /-- the queue, oldest first, at most 64 -/
  queue    : List FaultRec
  /-- elapsed times of the TRANSIENT faults of each channel, latest first (R433) -/
  history  : List (Nat × List Nat)
  /-- when the scheduled retry of each channel falls due (R433) -/
  retry    : List (Nat × Option Nat)
  /-- channels retired whose blocks have not yet acted (R434) -/
  todo     : List Nat
  /-- a first FATAL fault whose policy has not been carried out (R436) -/
  fatalDue : Bool
  /-- elapsed time at which policy WARM resets the engine (R436) -/
  warmAt   : Option Nat
  deriving DecidableEq, Repr

def FmSt.init : FmSt := { queue := [], history := [], retry := [], todo := [], fatalDue := false, warmAt := none }

/-- PCI Express beyond its registers (R413, R416). A vector is keyed function × 256 + vector. -/
structure PeSt where
  /-- unmasked MSI-X table entries -/
  unmasked : List Nat
  /-- pending bits of masked entries -/
  pend     : List Nat
  /-- address and data words of the table entries, keyed vector × 4 + word -/
  table    : List (Nat × Nat)
  deriving DecidableEq, Repr

def PeSt.init : PeSt := { unmasked := [], pend := [], table := [] }

/-- One ring beyond its registers: descriptors the engine has produced or consumed since the latest message, and the
elapsed time of the first of them (R412); the next descriptor a consuming engine uses, and those it has finished with
before their turn (R409). -/
structure RgSt where
  since : Nat
  first : Nat
  fetch : Nat
  fin   : List Nat
  /-- descriptors to be written back once Bus Master Enable is set again, oldest first (R417) -/
  back  : List (Nat × Nat)
  deriving DecidableEq, Repr

def RgSt.init : RgSt := { since := 0, first := 0, fetch := 0, fin := [], back := [] }


/-- The holdover block beyond its registers (R135 to R146). -/
structure HoSt where
  /-- the second the next history entry describes (R135) -/
  sec     : Nat
  /-- sum of TC_INCREMENT over the ticks of that second, and the ticks (R136) -/
  incSum  : Nat
  ticks   : Nat
  /-- sum and number of the die readings of that second -/
  dieSum  : Int
  dieCnt  : Nat
  /-- LOCKED on every tick, DISTURBED clear throughout, a step in it, SLIDE_ACTIVE on some tick -/
  locked  : Bool
  clean   : Bool
  stepped : Bool
  slid    : Bool
  /-- the entries counted in the running sums: second, deviation, temperature (R138) -/
  counted : List (Nat × Int × Int)
  /-- the latched values are still being formed (R139) -/
  wait    : Bool
  /-- TC_INCREMENT on the loss tick and the loss second (R139) -/
  lossInc : Nat
  lossSec : Nat
  /-- what the choice of the source is made from as it stood on the loss tick: HO_MIN_COUNT, L, W, and whether the sums stood (R139) -/
  lossMin : Nat
  lossL   : Nat
  lossW   : Nat
  lossSum : Bool
  /-- elapsed time of the latest write of HO_TEMP_BOARD (R141) -/
  tempAt  : Nat
  /-- agreement runs in seconds, keyed a × 8 + b with a < b (R146) -/
  runs    : List (Nat × Nat)
  deriving DecidableEq, Repr

def HoSt.init : HoSt :=
  { sec := 0, incSum := 0, ticks := 0, dieSum := 0, dieCnt := 0, locked := true, clean := true, stepped := false,
    slid := false, counted := [], wait := false, lossInc := 0, lossSec := 0, lossMin := 0, lossL := 0,
    lossW := 0, lossSum := false, tempAt := 0, runs := [] }

/-- An exchange held by the reroute detector (R133): mean path delay and offset in 2^-17 ns, the exact phase in 2^-16/1000 ns,
the engine time and elapsed time of the measurement, its uncertainty, and the reason it fails a source criterion for (0 none). -/
structure PktEx where
  d     : Int
  o     : Int
  p     : Int
  at_   : Nat
  el    : Nat
  unc   : Nat
  fail  : Nat
  deriving DecidableEq, Repr

/-- A label of R117: EDGE_SEQ, SEC, and the elapsed time at which it is discarded. -/
structure TodLabel where
  seq   : Nat
  sec   : Nat
  until_ : Nat
  deriving DecidableEq, Repr

/-- A PPS record waiting for its label (R117): SEQ, engine time of the stamp in 2^-48 ns, elapsed time of its discard. -/
structure TodRec where
  seq   : Nat
  at_   : Nat
  until_ : Nat
  deriving DecidableEq, Repr

/-- One reference beyond its registers (R113 to R134). -/
structure RefSt where
  /-- the latest phase exactly, as a fraction of 2^-16 ns, and its engine time -/
  pNum    : Int
  pDen    : Nat
  at_     : Option Nat
  /-- elapsed time of the latest counted measurement, or of the entry into QUALIFYING before there is one (R122) -/
  seen    : Nat
  /-- elapsed time of the first measurement of the present run without a gap (R125) -/
  present : Option Nat
  /-- elapsed time at which the count of R123 began -/
  qualAt  : Nat
  /-- a retry has been granted since the disqualification (R125) -/
  granted : Bool
  /-- the channel has been re-enabled, and EN written as 0 since (R126) -/
  reenab  : Bool
  /-- a measurement has been taken in the present engine second (R146) -/
  fresh   : Bool
  /-- phase measurements of the last 128 s, latest first: engine time and RS_PHASE (R121, R122) -/
  meas    : List (Nat × Int)
  labels  : List TodLabel
  recs    : List TodRec
  /-- the last eight exchanges before SUSPECT, oldest first, and those since (R133) -/
  exch    : List PktEx
  susp    : List PktEx
  /-- the references it disagreed with (R132), and the one that outvoted it (R125) -/
  foes    : List Nat
  victor  : Nat
  /-- sum, in 2^-62 ns, and number of the superword offsets of the present 1 ms (R120) -/
  itlSum  : Int
  itlCnt  : Nat
  /-- that millisecond of engine time -/
  itlMs   : Nat
  deriving DecidableEq, Repr

def RefSt.init : RefSt :=
  { pNum := 0, pDen := 1, at_ := none, seen := 0, present := none, qualAt := 0, granted := false, reenab := false,
    fresh := false, meas := [], labels := [], recs := [], exch := [], susp := [], foes := [], victor := 0,
    itlSum := 0, itlCnt := 0, itlMs := 0 }

/-- Selection beyond its registers (R121, R127, R130, R133). -/
structure RsSt where
  /-- the 64 s window in progress -/
  win     : Nat
  /-- the selected reference's latest judgement: within the lock window -/
  inWin   : Bool
  /-- elapsed times at which the present run inside, or outside, the lock window began -/
  inFrom  : Option Nat
  outFrom : Option Nat
  /-- elapsed time of the latest step, TC_TIME_SET or tick on SAFE_OSC -/
  disturb : Option Nat
  deriving DecidableEq, Repr

def RsSt.init : RsSt := { win := 0, inWin := false, inFrom := none, outFrom := none, disturb := none }

/-- A quote or statement waiting for signature (R228): source 0 and 1 quote slots, 2 network, 3 and 4 statement slots; the
bytes to sign; the signer (1 IDENTITY, 2 ATTEST); request ID, and where a network response goes (port, source address). -/
structure SignItem where
  src    : Nat
  body   : List Nat
  signer : Nat
  req    : Nat
  port   : Nat
  peer   : Nat
  deriving DecidableEq, Repr

/-- Boot, measurement, resets and the fuses beyond their registers (R211 to R233, R254, R255). -/
structure BtSt where
  /-- the engine is held in reset and power-up has not run -/
  held    : Bool
  /-- a GO waits for ROM_READY (R211) -/
  goHeld  : Bool
  /-- an accepted image waits for its launch: START_MASK -/
  launch  : Option Nat
  /-- bytes of working SRAM protected while LOADING (R213) -/
  imgLen  : Nat
  /-- extensions whose hash has not completed: accumulator and event record, oldest first (R217) -/
  exts    : List (Nat × List Nat)
  /-- quotes captured since reset; DEBUG_USED; TEST entered (R226) -/
  quotes  : Nat
  debug   : Bool
  test    : Bool
  /-- a change of mode that takes effect on the next tick (R224) -/
  modeDue : Option Nat
  /-- the latest request for a mode of this tick (R224) -/
  modeReq : Option Nat
  signQ   : List SignItem
  /-- the engine second of the present network budget, and quotes taken in it (R231) -/
  netSec  : Nat
  netUsed : Nat
  /-- fuses blown of the three of each state step (R255) -/
  fuse1   : Nat
  fuse2   : Nat
  fuse3   : Nat
  /-- the target of a prepared, or preparing, advance, and of one whose fuses are being blown (R254) -/
  prep    : Option Nat
  blow    : Option Nat
  /-- the supplies are out of range; PERST_N, WARM_N history is the sender's -/
  brown   : Bool
  deriving DecidableEq, Repr

def BtSt.init : BtSt :=
  { held := true, goHeld := false, launch := none, imgLen := 0, exts := [], quotes := 0, debug := false, test := false,
    modeDue := none, modeReq := none, signQ := [], netSec := 0, netUsed := 0, fuse1 := 3, fuse2 := 0, fuse3 := 0, prep := none,
    blow := none, brown := false }

/-- A key slot beyond its status word (R240). -/
structure KeySlot where
  usage : Nat
  gen   : Nat
  keyId : List Nat
  key   : List Nat
  pub   : List Nat
  /-- made in PAIR scope -/
  pair  : Bool
  /-- the integrity tag (R242); empty in a slot that holds nothing -/
  tag   : List Nat
  deriving DecidableEq, Repr

def KeySlot.init : KeySlot := { usage := 0, gen := 0, keyId := [], key := [], pub := [], pair := false, tag := [] }

/-- A staged slot write (R243): actor (0 PF0, 1 to 8 sequencers), slot, its record, EXPORTABLE, INTERNAL, PARENT. -/
structure Staged where
  actor  : Nat
  slot   : Nat
  rec_   : KeySlot
  exp    : Bool
  intern : Bool
  parent : Nat
  deriving DecidableEq, Repr

/-- A blob command in progress (R246). -/
structure KsCmd where
  op    : Nat
  actor : Nat
  slot  : Nat
  src   : Nat
  dest  : Nat
  deriving DecidableEq, Repr

/-- A derivation in progress (R235, R238, R243): the staged generations in the layout of KS_GEN_STAGE, and KS_GEN_CFG and the
pair secret as GO found them. -/
structure Deriv where
  gens    : Nat
  kekPair : Bool
  ntsPair : Bool
  ed      : Bool
  pairKey : List Nat
  deriving DecidableEq, Repr

/-- The key store beyond its registers (R239 to R250). -/
structure KsSt where
  slots  : List (Nat × KeySlot)
  staged : List Staged
  /-- the tag key drawn at reset (R242) -/
  tagKey : Nat
  /-- the derivation in progress, and a GO held behind it -/
  deriv  : Option Deriv
  held   : Bool
  cmd    : Option KsCmd
  /-- the scope bits (KEK, NTS), the pair secrets and the receipt algorithm under which the generations in effect were derived -/
  kekPair : Bool
  ntsPair : Bool
  kekP   : List Nat
  ntsP   : List Nat
  ed     : Bool
  deriving DecidableEq, Repr

def KsSt.init : KsSt :=
  { slots := [], staged := [], tagKey := 0, deriv := none, held := false, cmd := none, kekPair := false, ntsPair := false,
    kekP := [], ntsP := [], ed := false }

/-! ### Lanes (R258 to R279) -/

/-- One Ethernet lane beyond its registers: where it stands (0 off, 1 calibrating, 2 training or bringing up, 3 up, 4 and 5
waiting for a retry of 1 or of 2, 6 reset until a relock's step 7), the elapsed time of EN, and the LOOP in effect. -/
structure EthSt where
  phase : Nat
  from_ : Nat
  loop  : Nat
  /-- both delays as calibrated, whose ratio the tracking keeps (R279) -/
  calTx : Nat
  calRx : Nat
  deriving DecidableEq, Repr

def EthSt.init : EthSt := { phase := 0, from_ := 0, loop := 0, calTx := 0, calRx := 0 }

/-- One Irnak lane beyond its registers. -/
structure ItlSt where
  /-- 0 off, 1 step 1, 2 steps 2 to 4, 5 the alignment run, 6 up, 7 waiting for a retry, 8 reset until a
  relock's step 7 (R104, R276) -/
  phase   : Nat
  /-- elapsed time of step 2, and the LOOP in effect -/
  from_   : Nat
  loop    : Nat
  /-- both delays as calibrated, whose ratio the tracking keeps (R279) -/
  calTx   : Nat
  calRx   : Nat
  /-- transmitter: the last 31 scrambler bits; the control cell (TYPE and BODY) and data cells of the payload formed one
  superword ahead, which a void superword leaves waiting (R264 to R266); the tick of its latest grid edge -/
  scr     : Nat
  ahead   : Option (Nat × List Nat)
  edge    : Option Nat
  /-- the status record being sent and the next slice (R270) -/
  rec_    : List Nat
  slice   : Nat
  /-- receiver: the last 31 descrambler bits, runs of decodable and of undecodable headers, the superword count, the counts at
  which CRC failed -/
  desc    : Nat
  good    : Nat
  bad     : Nat
  sw      : Nat
  fails   : List Nat
  /-- training: the request awaiting its response and when it was sent, the response owed, READY cells sent and received in
  a row, ALIGN superwords sent and received in a row (R275, R276) -/
  req     : Nat
  reqAt   : Option Nat
  rsp     : Nat
  rdyTx   : Nat
  rdyRx   : Nat
  alTx    : Nat
  alRx    : Nat
  /-- the record being received, the slices taken of it, the TX_TIME of its slice 0, and the same of the accepted record with
  its arrival in engine time and in elapsed time (R270, R271) -/
  part    : List Nat
  parts   : Nat
  /-- superwords lost since its latest slice -/
  lost    : Nat
  partX   : Nat
  accX    : Option Nat
  accAt   : Nat
  accEl   : Nat
  /-- the millisecond of engine time being measured and the sums over it, in 2^-62 ns, of a and of o and of the path delay,
  with their number; DISTURBED seen in it; the latest MEAN_A with its window and flags (R272, R273) -/
  win     : Nat
  sumA    : Int
  sumO    : Int
  sumD    : Int
  cnt     : Nat
  dist    : Bool
  meanA   : Int
  meanWin : Nat
  meanOk  : Bool
  meanDist : Bool
  /-- whether any superword of that window gave a measurement (R274) -/
  meanHas  : Bool
  deriving DecidableEq, Repr

def ItlSt.init : ItlSt :=
  { phase := 0, from_ := 0, loop := 0, calTx := 0, calRx := 0, scr := 0, ahead := none, edge := none, rec_ := [], slice := 0,
    desc := 0, good := 0, bad := 0, sw := 0, fails := [], req := 0, reqAt := none, rsp := 0, rdyTx := 0, rdyRx := 0, alTx := 0, alRx := 0,
    part := [], parts := 0, lost := 0, partX := 0, accX := none, accAt := 0, accEl := 0, win := 0, sumA := 0, sumO := 0, sumD := 0,
    cnt := 0, dist := false, meanA := 0, meanWin := 0, meanOk := false, meanDist := false, meanHas := false }

/-! ### MAC instances and the time service (R280 to R331) -/

/-- Where a request came from and where its answer goes (R303): source MAC address and outermost tag; net 0 IPv4, 1 IPv6,
2 Ethernet; source address and port; the address and port it was sent to. -/
structure Peer where
  mac   : Nat
  tag   : Option Nat
  net   : Nat
  addr  : Nat
  port  : Nat
  here  : Nat
  hport : Nat
  deriving DecidableEq, Repr

def Peer.init : Peer := { mac := 0, tag := none, net := 0, addr := 0, port := 0, here := 0, hport := 0 }

/-- A received frame without its FCS: instance, stamp as engine time in 2^-48 ns, its bound, the instance's ingress
sequence. -/
structure RxFrame where
  inst  : Nat
  bytes : List Nat
  stamp : Nat
  bound : Nat
  seq   : Nat
  /-- SAFE_CLOCK (R334) and DISTURBED (R114) at its stamp -/
  safe  : Bool := false
  dist  : Bool := false
  deriving DecidableEq, Repr

/-- A frame being received (R284, R285): the stamp of its reference point with the bound, SAFE_CLOCK and DISTURBED of that
instant; that instant as elapsed time; the octets reserved for it, none when no room was left. -/
structure RxHead where
  stamp : Nat
  bound : Nat
  safe  : Bool
  dist  : Bool
  at_   : Nat
  room  : Nat
  deriving DecidableEq, Repr

/-- A frame classified for a service (R302): tag 1 NTP/NTS, 2 receipt, 3 attestation, 4 Delay_Req, 5 Pdelay_Req, 6 grant
request, 7 grant cancel, 8 Sync, Follow_Up or Announce for a PKT instance, 9 Delay_Resp or Pdelay_Resp for one, 10 a grant
answer for one. `body` is the UDP payload or the PTP message; `unit_` the service address, PTP port or PKT instance. -/
structure SvcReq where
  tag   : Nat
  unit_ : Nat
  inst  : Nat
  peer  : Peer
  body  : List Nat
  stamp : Nat
  bound : Nat
  /-- of its frame: ingress sequence, SAFE_CLOCK and DISTURBED at its stamp -/
  seq   : Nat := 0
  safe  : Bool := false
  dist  : Bool := false
  deriving DecidableEq, Repr

/-- A timed launch (R306 to R308): kind 0 NTP, 1 NTS, 2 Sync, 3 Pdelay_Resp, 4 Delay_Req, 5 Pdelay_Req; the request it
answers; an NTS response's two client keys and the cookies sealed into it; misses; T3 and its bound; whether the seal is
complete, and whether the gate has passed its clear instant; the frame without its FCS. -/
structure Resp where
  kind    : Nat
  inst    : Nat
  rq      : SvcReq
  seqId   : Nat
  keys    : List Nat
  cookies : List (List Nat)
  tries   : Nat
  t3      : Nat
  b3      : Nat
  sealed  : Bool
  cleared : Bool
  bytes   : List Nat
  deriving DecidableEq, Repr

/-- A preemptable frame (R291): class, bytes without FCS; the host descriptor it came from (ring, index, STAMP), the elapsed
time it has waited since, whether it has been promoted, octets of it already sent, fragments of it sent. -/
structure TxFrame where
  cls   : Nat
  bytes : List Nat
  host  : Option (Nat × Nat × Bool)
  since : Nat
  aged  : Bool
  sent  : Nat
  frags : Nat
  deriving DecidableEq, Repr

/-- One MAC instance beyond its registers. Times are elapsed times, of the ball for what is on the medium. -/
structure McSt where
  /-- frames being received, the latest started first -/
  rx     : List RxHead
  /-- frames that the pipeline has not taken, oldest first, and the next ingress sequence -/
  stored : List RxFrame
  seq    : Nat
  /-- the frame in transmission: a preemptable frame, or none of its own for an express one; the instant of its reference
  point, and whether its lane was calibrated then; the end of what is on the medium, the interframe gap included -/
  cur    : Option TxFrame
  curAt  : Nat
  curCal : Bool
  curEnd : Nat
  /-- a preempted frame waiting to resume -/
  part   : Option TxFrame
  /-- flow-control frames queued: priority mask (256 PAUSE), quanta (R286, R287) -/
  ctl    : List (Nat × Nat)
  /-- preemptable frames queued, oldest first -/
  pre    : List TxFrame
  /-- launches held, in order of T3 (R294) -/
  gate   : List Resp
  /-- holds: priority (8 PAUSE), from (none until the frame in transmission ends), until (R288) -/
  holds  : List (Nat × Option Nat × Nat)
  /-- XOFF: when it was entered, when its frame was last sent, the priorities paused (R286) -/
  xoff   : Option (Nat × Nat × Nat)
  /-- the elapsed times up to which TX_HELD_NS and TX_XOFF_NS have counted (R301) -/
  heldTo : Nat
  xoffTo : Nat
  /-- verify mPackets sent, and when the latest was (R292) -/
  verTry : Nat
  verAt  : Nat
  deriving DecidableEq, Repr

def McSt.init : McSt :=
  { rx := [], stored := [], seq := 0, cur := none, curAt := 0, curCal := false, curEnd := 0, part := none, ctl := [],
    pre := [], gate := [], holds := [], xoff := none, heldTo := 0, xoffTo := 0, verTry := 0, verAt := 0 }

/-- One PTP port beyond its registers: sequenceIds of multicast Sync and Announce, elapsed times of the latest (R323). -/
structure PtpSt where
  syncSeq : Nat
  annSeq  : Nat
  syncAt  : Option Nat
  annAt   : Option Nat
  deriving DecidableEq, Repr

def PtpSt.init : PtpSt := { syncSeq := 0, annSeq := 0, syncAt := none, annAt := none }

/-- One PKT instance beyond its registers (R328): the latest Sync with t1 (sequenceId, t1 and t2 in 2^-16 ns, its
correction counted in t1), a Sync waiting for its Follow_Up (sequenceId, correction, t2), the Delay_Req sent (sequenceId,
t3 in 2^-16 ns, bound) with the Sync it is paired with (sequenceId, t1 and t2 once they are known, excluded by R114), the next
sequenceId, the elapsed time of the latest request; expiries of the Announce, Sync and Delay_Resp grants in engine seconds;
the remote's clockClass, the bounds in its latest Sync and Announce, whether its latest message was authenticated, and where
that came from. -/
structure PktSt where
  sync   : Option (Nat × Int × Int)
  wait   : Option (Nat × Int × Int)
  dreq   : Option (Nat × Int × Nat)
  pair   : Option (Nat × Option (Int × Int) × Bool)
  seq    : Nat
  dreqAt : Option Nat
  grants : List (Nat × Nat)
  cls    : Nat
  bSync  : Option Nat
  bAnn   : Option Nat
  auth   : Bool
  from_  : Option Peer
  /-- the stamp of the latest Sync is excluded by R114 -/
  syncBad : Bool
  deriving DecidableEq, Repr

def PktSt.init : PktSt :=
  { sync := none, wait := none, dreq := none, pair := none, seq := 0, dreqAt := none, grants := [], cls := 255, bSync := none,
    bAnn := none, auth := false, from_ := none, syncBad := false }

/-- The time service beyond its registers. -/
structure TsSt where
  /-- classified requests waiting, oldest first -/
  queue  : List SvcReq
  /-- launches being sealed or sealed and not handed over -/
  sealing : List Resp
  /-- frames for the host on staging rings 48 and 49, oldest first -/
  staged : List (Nat × RxFrame)
  /-- the key of the client table's hash, the overflow bucket's tokens (2^-8), their time and the time of its latest
  kiss in engine ms (R318 to R320) -/
  hkey   : Nat
  ovfTok : Int
  ovfAt  : Nat
  ovfKod : Option Nat
  /-- attestation requests whose quotes wait for signature, oldest first (R228, R230) -/
  attest : List SvcReq
  /-- announcement rounds left and the elapsed time of the latest (R305) -/
  rounds : Nat
  roundAt : Nat
  /-- a mint command running: COUNT and the client keys (R317) -/
  mint   : Option (Nat × List Nat)
  ptp    : List (Nat × PtpSt)
  pkt    : List (Nat × PktSt)
  /-- the next unicast Sync (0) or Announce (1) of a grant entry, keyed address × 2 + type: elapsed time (R327) -/
  due    : List (Nat × Nat)
  deriving DecidableEq, Repr

def TsSt.init : TsSt :=
  { queue := [], sealing := [], staged := [], hkey := 0, ovfTok := 0, ovfAt := 0, ovfKod := none, attest := [], rounds := 0, roundAt := 0, mint := none,
    ptp := [], pkt := [], due := [] }

/-! ### The receipt service (R330 to R352) -/

/-- A submitter entry (R330): ID, LOOSE, RATE_K, LAST, its blob, SUSPENDED; its bucket in tokens of 10^9 x 2^48 parts and the
elapsed time at which that stood. -/
structure Submit where
  id    : Nat
  loose : Bool
  rate  : Nat
  last  : Nat
  blob  : List Nat
  susp  : Bool
  tok   : Nat
  at_   : Nat
  deriving DecidableEq, Repr

/-- An accepted request (R335 to R341): the datagram it came in, submitter ID, sequence, digest, the key it latched, accepted
over a gap, LAST before it, and the repeats that wait for its outcome; once placed its batch, leaf index, slot and leaf hash,
accepted in solo mode, its journal write done, and the elapsed time of that write. -/
structure Rcpt where
  rq     : SvcReq
  sub    : Nat
  seq    : Nat
  digest : List Nat
  key    : List Nat
  gap    : Bool
  prev   : Nat
  waiters : List SvcReq
  batch  : Nat
  idx    : Nat
  slot   : Nat
  hash   : Nat
  solo   : Bool
  written : Bool
  at_    : Nat
  deriving DecidableEq, Repr

/-- One held leaf of the duplicate index (R335, R336, R367): submitter, sequence, slot, batch, the unit ID that accepted it. -/
structure IdxE where
  sub   : Nat
  seq   : Nat
  slot  : Nat
  batch : Nat
  unit_ : Nat
  deriving DecidableEq, Repr

/-- The open batch (R345, R346): number, START, the next tally boundary, slot of its OPEN entry, its leaves in order
(hash, arrival, bound, SOLO), CHAIN_START, and the reason and END once it is closing. -/
structure Batch where
  num    : Nat
  start  : Nat
  bound_ : Nat
  slot   : Nat
  leaves : List (Nat × Nat × Nat × Bool)
  chain  : Bool
  close  : Option (Nat × Nat)
  deriving DecidableEq, Repr

/-- A closed batch on its way to the archive (R347 to R352): number, the root record (192 bytes until it is signed), stage (0
awaiting signature, 1 signed and not yet held by the partner, 2 released), the slots from OPEN to past CLOSE, how many of them
have been streamed, END, largest bound, closed for KEY. -/
structure RootRec where
  num    : Nat
  bytes  : List Nat
  stage  : Nat
  slot   : Nat
  len    : Nat
  pos    : Nat
  end_   : Nat
  maxB   : Nat
  key    : Bool
  deriving DecidableEq, Repr

/-- The receipt engine beyond its registers. -/
structure RcSt where
  /-- the submitter table, by ID bits [15:0] (R330) -/
  subs   : List (Nat × Option Submit)
  /-- key-cache lines: table entry, KEK generation, key; latest first, at most 4,096 (R332) -/
  cache  : List (Nat × Nat × List Nat)
  /-- accepted and not placed; placed and not resolved, in journal order -/
  acc    : List Rcpt
  placed : List Rcpt
  idx    : List IdxE
  batch  : Option Batch
  recs   : List RootRec
  /-- engine time at which batches may open again after EN or an early close (R345) -/
  early  : Nat
  /-- no batch has opened since EN (R349) -/
  fresh  : Bool
  /-- a FETCH out: slot and the elapsed time at which it was issued; slots that cannot be recovered (R351, R369) -/
  fetch  : Option (Nat × Nat)
  lost   : List Nat
  /-- the root records that ring 50 still holds, oldest first: ARCHIVED passes each as it leaves (R352) -/
  arch   : List RootRec
  deriving DecidableEq, Repr

def RcSt.init : RcSt :=
  { subs := [], cache := [], acc := [], placed := [], idx := [], batch := none, recs := [], early := 0, fresh := true,
    fetch := none, lost := [], arch := [] }

/-! ### Twin operation (R353 to R386) -/

/-- A message of R364: TYPE, header bytes 4 to 15, body; the elapsed time of its latest sending (none while it waits to be
sent) and of its first. -/
structure TwMsg where
  typ   : Nat
  hdr   : List Nat
  body  : List Nat
  at_   : Option Nat
  first : Nat
  deriving DecidableEq, Repr

/-- The twin block beyond its registers. Times are elapsed times. -/
structure TwSt where
  /-- the level of the SENIOR ball, the level in effect, and the partner's from its status record (R354, R459) -/
  ball    : Bool
  senior  : Bool
  partner : Option Bool
  /-- when INIT was entered; the tick from which a new ACTIVE engine serves (R356, R374) -/
  initAt  : Nat
  serve   : Nat
  /-- the next breath number; breaths not yet sent, by lane; transmit times of the latest 64; when one was last formed -/
  seq     : Nat
  brOut   : List (Nat × Nat)
  brSent  : List (Nat × Nat)
  formed  : Nat
  /-- the tick on which the latest breath was formed (R358) -/
  brTick  : Option Nat
  /-- received breaths that wait (lane, BODY, arrival); the latest partner breath and its arrival (R357) -/
  brIn    : List (Nat × Nat × Nat)
  peer    : Option (Nat × Nat)
  /-- latest partner pulse on WITNESS and whether it read ACTIVE; latest senior pulse; failed, and well-formed pulses since -/
  pulse   : Option (Nat × Bool)
  senPulse : Option Nat
  witBad  : Bool
  witGood : Nat
  /-- the end of the lease (R359) -/
  lease   : Option Nat
  /-- a silent partner, a lost link, a partner ACTIVE beside this engine already acted on (R378 to R380) -/
  lostTold : Bool
  linkTold : Bool
  dual    : Bool
  /-- messages to send or unconfirmed, in order; the rest of the message each lane is sending; what each lane is receiving
  (body cells still missing, cells so far); messages received that wait -/
  out     : List TwMsg
  outPart : List (Nat × List Nat)
  inPart  : List (Nat × Nat × List Nat)
  inbox   : List (Nat × List Nat × List Nat)
  /-- the active end of a join: confirmation awaited; the next HISTORY slot to send and their end; when MIRROR was set (R370) -/
  joining : Bool
  histOut : Option (Nat × Nat)
  mirAt   : Nat
  /-- the standby end: the next HISTORY slot awaited and their end; slots written beyond CONFIRMED; JOIN_WAIT for a
  configuration that differs; root records held, latest first; batches
  opened by the partner with its unit ID and the root before them (R367, R368) -/
  histIn  : Option (Nat × Nat)
  ahead   : List Nat
  misfit  : Bool
  recs    : List (Nat × List Nat)
  owners  : List (Nat × Nat × Nat)
  /-- grant epochs (R371): the number being gathered, its entries sent and when it began; messages staged (epoch, index,
  entry); EPOCH_ENDs staged (epoch, count, CRC, arrival); when one was last applied; RESYNC as standby,
  and RESYNC answered as active -/
  epoch   : Nat
  gather  : List (List Nat)
  epochAt : Nat
  stage   : List (Nat × Nat × List Nat)
  ends    : List (Nat × Nat × Nat × Nat)
  applied : Option Nat
  resync  : Bool
  resyncTold : Bool
  /-- a demotion running: when it was detected, for a failed check, for arbitration; consecutive failures of the three checks
  of R376; SERVING cleared by the guard of R377 -/
  demote  : Option (Nat × Bool × Bool)
  fails   : Nat × Nat × Nat
  guard_  : Bool
  /-- comparison (R381, R382): since when every d_link sample exceeds the threshold; the latest d_link and d_pps; d_pps samples
  above it in a row; the latest sample above it; since when DISAGREE is clear (R384) -/
  overFrom : Option Nat
  dLink   : Option (Int × Nat)
  dPps    : Option (Int × Nat)
  ppsOver : Nat
  overAt  : Nat
  calmAt  : Nat
  /-- arbitration (R383): the next number, the engine second of the latest ARB, this engine's and the partner's report -/
  arbNo   : Nat
  arbSec  : Option Nat
  arbMine : Option (List Nat × List Nat)
  arbPeer : Option (List Nat × List Nat)
  /-- swaps (R385, R386): the second proposed, the second agreed, awaiting HANDOVER, HANDOVER owed -/
  propose : Option Nat
  swapAt  : Option Nat
  waitHand : Bool
  oweHand : Bool
  deriving DecidableEq, Repr

def TwSt.init : TwSt := {
  ball := false, senior := false, partner := none, initAt := 0, serve := 0, seq := 0, brOut := [], brSent := [], formed := 0, brTick := none, brIn := [],
  peer := none, pulse := none, senPulse := none, witBad := false, witGood := 0, lease := none, lostTold := false,
  linkTold := false, dual := false, out := [], outPart := [], inPart := [], inbox := [], joining := false, histOut := none, mirAt := 0, histIn := none, ahead := [], misfit := false,
  recs := [], owners := [], epoch := 0, gather := [], epochAt := 0, stage := [], ends := [], applied := none, resync := false, resyncTold := false,
  demote := none, fails := (0, 0, 0), guard_ := false, overFrom := none, dLink := none, dPps := none, ppsOver := 0, overAt := 0,
  calmAt := 0, arbNo := 0, arbSec := none, arbMine := none, arbPeer := none, propose := none, swapAt := none,
  waitHand := false, oweHand := false }

/-! ### Board interfaces, DRAM configuration, sensors, crypto self-test, test access port -/

/-- What the board interfaces and the remaining blocks hold beyond their registers. -/
structure BrdSt where
  /-- the I2C transaction running: ADDR, WLEN, RLEN; the SPI transfer running: LEN, KEEP_CS (R421, R422) -/
  i2c    : Option (Nat × Nat × Nat)
  spi    : Option (Nat × Bool)
  /-- the instruction in the test access port (R464) -/
  tap    : Nat
  /-- die sensors whose rise through 105 C has been logged; since when one has read 115 C or more, elapsed time -/
  warned : List Nat
  hot    : Option Nat
  /-- crypto pipelines that take no work until their retry -/
  kat    : List Nat
  /-- DR_CFG_c as latched at INIT, by channel (R401) -/
  drCfg  : List (Nat × Nat)
  deriving DecidableEq, Repr

def BrdSt.init : BrdSt := { i2c := none, spi := none, tap := 1, warned := [], hot := none, kat := [], drCfg := [] }
/-- What a semaphore has seen on the present tick (R172): its holder once the releases are applied, whose acquire was refused latest
before the tick, the acquirers in the order of R172, each with the register it reads into and whether Z follows. -/
structure SemTick where
  from_ : Option Nat
  ref   : Option Nat
  asks  : List (Nat × Option (Nat × Bool))
  deriving DecidableEq, Repr

/-- What the present tick has seen, emptied by every TICK (R12, R44). The rules about what happens on one tick are followed
whatever the order of the commands of that tick (log entry 6). -/
structure TickSt where
  /-- bits of W1C fields that the engine has set, by field key (R12) -/
  w1c  : List (Nat × Nat)
  /-- fields written through the port space, by field key: one more than the highest sequencer that wrote it (R44, R161) -/
  port : List (Nat × Nat)
  /-- FIFOs that a sequencer has read through the port space: one more than its number (R161) -/
  pops : List (Nat × Nat)
  /-- the semaphores touched (R172) -/
  sems : List (Nat × Option SemTick)
  /-- words that have entered each mailbox (R170) -/
  mail : List (Nat × Nat)
  /-- channels whose fault records were begun, and channels that had a PERMANENT fault (R430) -/
  recs : List Nat
  perm : List Nat
  /-- performance counters written: the value before, by sequencer × 8 + counter, 64 + sequencer for its cycle counter; and
  configurations written: EVENT and EN before (R440, R443) -/
  cnts : List (Nat × Option Nat)
  cfgs : List (Nat × Option Nat)
  deriving DecidableEq, Repr

def TickSt.init : TickSt :=
  { w1c := [], port := [], pops := [], sems := [], mail := [], recs := [], perm := [], cnts := [], cfgs := [] }

/-- A matrix request to a DRAM address that the matrix holds while the channel is in self-refresh (R23, R24): a write of `bytes`, or a
read of `len` bytes. -/
structure HeldReq where
  actor : Actor
  write : Bool
  addr  : Nat
  len   : Nat
  bytes : List Nat
  deriving DecidableEq, Repr

/-- The state of the block. -/
structure State where
  /-- every register field that does not hold its reset value -/
  regs    : List (Nat × Nat)
  /-- RWS fields written and not yet committed (R9, R11) -/
  shadows : List (Nat × Option Nat)
  /-- values that commit at the engine second of this tick, once it is taken (R11) -/
  due     : List (Nat × Option Nat)
  /-- held lower words, by actor and address (R6) -/
  held    : List (Nat × Option Nat)
  /-- snapshots of multi-word registers, by actor and register address (R6) -/
  snaps   : List (Nat × Option Nat)
  ti      : TimeSt
  po      : List (Nat × PoSt)
  tm      : List (Nat × TmSt)
  tmb     : TmBlk
  sy      : SySt
  opll    : List (Nat × OpllSt)
  cko     : List (Nat × CkoSt)
  seqs    : List (Nat × Seqr)
  /-- who was refused each semaphore latest: 0 to 7 sequencer, 8 host (R156 event 15) -/
  semRef  : List (Nat × Option Nat)
  uart    : List (Nat × UartSt)
  ho      : HoSt
  rs      : RsSt
  refs    : List (Nat × RefSt)
  bt      : BtSt
  ks      : KsSt
  eth     : List (Nat × EthSt)
  itl     : List (Nat × ItlSt)
  mc      : List (Nat × McSt)
  ts      : TsSt
  rc      : RcSt
  tw      : TwSt
  brd     : BrdSt
  fm      : FmSt
  pe      : PeSt
  rg      : List (Nat × RgSt)
  mem     : List Host.Cell
  hostMem : List Host.Cell
  poison  : List Nat
  /-- DRAM requests held by the matrix, oldest first (R23) -/
  waits   : List HeldReq
  /-- occurrences in the present tick of what the performance counters count (R440) -/
  evc     : List (Nat × Nat)
  /-- how many free values have been taken: the model's own field -/
  freeCtr : Nat
  tk      : TickSt
  /-- what the engine has sent, latest first: the model's own field -/
  out     : List Out
  /-- commands waiting, first in, first out: the model's own field -/
  pending : List Instr
  deriving DecidableEq, Repr

/-- The register fields whose reset value depends on the unit: RS_LOSS_MS_n and SL_ITL_CTL_n.ROLE. -/
def resetRegs : List (Nat × Nat) :=
  [(RS_LOSS_MS_MS.key 4, 1000), (RS_LOSS_MS_MS.key 5, 1000), (RS_LOSS_MS_MS.key 6, 1), (RS_LOSS_MS_MS.key 7, 1),
   (SL_ITL_CTL_ROLE.key 0, 3), (SL_ITL_CTL_ROLE.key 1, 3)]

/-- Right after a cold reset: every field at the reset value of its table, TIME128 zero, core clocks on SAFE_OSC, nothing
in flight. The register list is empty but for the fields whose reset value depends on the unit. -/
def State.reset : State :=
  { regs := resetRegs, shadows := [], due := [], held := [], snaps := [], ti := TimeSt.init, po := [], tm := [], tmb := TmBlk.init, sy := SySt.init, opll := [], cko := [], seqs := [], semRef := [], uart := [], ho := HoSt.init, rs := RsSt.init, refs := [], bt := BtSt.init, ks := KsSt.init,
    eth := [], itl := [], mc := [], ts := TsSt.init, rc := RcSt.init, tw := TwSt.init, brd := BrdSt.init, fm := FmSt.init, pe := PeSt.init, rg := [], mem := [],
    hostMem := [], poison := [], waits := [], evc := [], freeCtr := 0, tk := TickSt.init, out := [], pending := [] }

end Sys2Proof.Machine
end

