-- ==== Sys2Proof/Machine/Ops.lean ====
section
/-! DEFINITION. Named operations over the state's lists: association lists, register fields, memory bytes, event counts,
engine time. Every other file reads and writes the state through these. -/

namespace Sys2Proof.Machine

/-! ### Association lists in key order -/

/-- The value at key `i`, or the default. -/
def smGet {V : Type} (d : V) : List (Nat × V) → Nat → V
  | [], _ => d
  | (k, v) :: m, i => if k = i then v else smGet d m i

/-- The list without key `i`. -/
def smDel {V : Type} : List (Nat × V) → Nat → List (Nat × V)
  | [], _ => []
  | (k, v) :: m, i => if k = i then smDel m i else (k, v) :: smDel m i

/-- The list with the pair (i, v) before the first key that is not smaller. -/
def smIns {V : Type} : List (Nat × V) → Nat → V → List (Nat × V)
  | [], i, v => [(i, v)]
  | (k, w) :: m, i, v => if k < i then (k, w) :: smIns m i v else (i, v) :: (k, w) :: m

/-- The list with `v` at key `i`; a default value leaves no entry, so equal maps are equal lists. -/
def smSet {V : Type} [DecidableEq V] (d : V) (m : List (Nat × V)) (i : Nat) (v : V) : List (Nat × V) :=
  if v = d then smDel m i else smIns (smDel m i) i v

/-! ### Register fields (R8, R9) -/

/-- The value held by field `f` of unit `n`. -/
def State.fld (s : State) (f : Fld) (n : Nat) : Nat := smGet f.rst s.regs (f.key n)

/-- The bits of a W1C field that the engine has set in the present tick (R12). -/
def State.freshBits (s : State) (f : Fld) (n : Nat) : Nat := smGet 0 s.tk.w1c (f.key n)

/-- What the tick has seen once the engine sets field `f` to `x`: of a W1C field the bits that this sets; a field of one bit
may be set again. -/
def State.tickNote (s : State) (f : Fld) (n x : Nat) : TickSt :=
  if f.acc = .w1c then
    let old := smGet f.rst s.regs (f.key n)
    let set := if f.width = 1 then x else x - (x &&& old)
    { s.tk with w1c := smSet 0 s.tk.w1c (f.key n) (s.freshBits f n ||| set) }
  else s.tk

/-- Field `f` of unit `n` takes `v`, kept to its width. -/
def State.setFld (s : State) (f : Fld) (n v : Nat) : State :=
  { s with regs := smSet f.rst s.regs (f.key n) (v % 2 ^ f.width), tk := s.tickNote f n (v % 2 ^ f.width) }

/-- A write of 1 clears a bit of a W1C field, unless the engine sets it on the same tick (R9, R12). -/
def State.clearBits (s : State) (f : Fld) (n x : Nat) : State :=
  let y := x - (x &&& s.freshBits f n)
  { s with regs := smSet f.rst s.regs (f.key n) ((s.fld f n - (s.fld f n &&& y)) % 2 ^ f.width) }

/-- Whether the field is not zero. -/
def State.flag (s : State) (f : Fld) (n : Nat) : Bool := s.fld f n != 0

/-- The field set to 1, or to 0. -/
def State.set1 (s : State) (f : Fld) (n : Nat) : State := s.setFld f n 1
def State.clr (s : State) (f : Fld) (n : Nat) : State := s.setFld f n 0

/-- An RC counter counts `k` events and stops at all ones (R13). -/
def State.rcAdd (s : State) (f : Fld) (n k : Nat) : State :=
  s.setFld f n (min (2 ^ f.width - 1) (s.fld f n + k))

/-- A big-endian field of a frame. -/
def beAt (b : List Nat) (off k : Nat) : Nat := ofBytesBE ((b.drop off).take k)

/-- `g` when the condition holds. -/
def State.when (s : State) (b : Bool) (g : State → State) : State := if b then g s else s

/-- The fields of a list, for one unit, set back to their reset values. -/
def State.resetFlds (s : State) (fs : List Fld) (n : Nat) : State :=
  fs.foldl (fun t f => t.setFld f n f.rst) s

/-! ### Outputs, free values and event occurrences -/

/-- One more output. -/
def State.emit (s : State) (o : Out) : State := { s with out := o :: s.out }

/-- The next free value, and the state after it has been taken (log entry 3). -/
def State.free (s : State) : Nat × State :=
  (Config.freeValue s.freeCtr, { s with freeCtr := s.freeCtr + 1 })

/-- A quotient whose rounding the spec does not state: exact where it is whole, else one of the two neighbours, which one
being a free value (log entry 3). -/
def State.quot (s : State) (num : Int) (den : Nat) : Int × State :=
  if den = 0 then (0, s)
  else if num % (den : Int) = 0 then (num / (den : Int), s)
  else (num / (den : Int) + ((s.free.1 % 2 : Nat) : Int), s.free.2)

/-- A fraction rounded to the nearest whole number, a half toward plus infinity (R113). -/
def roundHalfUp (num : Int) (den : Nat) : Int := (2 * num + den) / (2 * (den : Int))

/-- One occurrence of the event that fall-back counter `e` counts (R441, R444), delivered to the counters by TICK. -/
def State.occur (s : State) (e : Nat) : State := { s with evc := smSet 0 s.evc e (smGet 0 s.evc e + 1) }

/-- An engine event of R441, number 16 to 127. -/
def State.engEv (s : State) (e : Nat) : State := s.occur (e + 112)

/-- An event of sequencer `n` of R441, number 0 to 15; and one that the rest of the tick has undone. -/
def State.seqEv (s : State) (n e : Nat) : State := s.occur (n * 16 + e)
def State.seqEvBack (s : State) (n e : Nat) : State :=
  { s with evc := smSet 0 s.evc (n * 16 + e) (smGet 0 s.evc (n * 16 + e) - 1) }

/-! ### Engine time (R14, R46) -/

/-- 1 ns, 1 us, 1 ms, 1 s in units of 2^-48 ns. -/
def nsU : Nat := 2 ^ 48
def usU : Nat := 1000 * 2 ^ 48
def msU : Nat := 1000000 * 2 ^ 48
def secU : Nat := 1000000000 * 2 ^ 48

/-- All engine times lie below this: 2^48 seconds. -/
def timeMod : Nat := 2 ^ 48 * secU

/-- The parts of an engine time. -/
def secOf (t : Nat) : Nat := t / secU
def nsOf (t : Nat) : Nat := t % secU / nsU
def fracOf (t : Nat) : Nat := t % nsU

/-- An engine time in the TIME128 layout of R14. -/
def toTime128 (t : Nat) : Nat := secOf t % 2 ^ 48 * 2 ^ 80 + nsOf t * 2 ^ 48 + fracOf t

/-- Whether a TIME128 value is valid (R15). -/
def time128Ok (v : Nat) : Bool := bits v 48 32 < 1000000000

/-- The engine time of a TIME128 value. -/
def ofTime128 (v : Nat) : Nat := bits v 80 48 * secU + bits v 48 32 * nsU + bits v 0 48

/-- WNC48 of an engine time (R55): nanoseconds modulo 2^32 and 16 fraction bits. -/
def wncOf (t : Nat) : Nat := t / 2 ^ 32 % 2 ^ 48

/-- Engine time now. -/
def State.now (s : State) : Nat := s.ti.now

/-- The operating mode (R2): 0 BOOT, 1 SERVICE, 2 TEST, 3 RECOVERY. -/
def State.mode (s : State) : Nat := s.fld BT_MODE_MODE 0
def State.service (s : State) : Bool := s.mode == 1
def State.recovery (s : State) : Bool := s.mode == 3

/-- Whether the core clocks run from SAFE_OSC (R22, R48). -/
def State.safe (s : State) : Bool := s.flag TC_STATUS_SAFE_CLOCK 0

/-- The life-cycle code (R253). -/
def State.lifeCycle (s : State) : Nat := s.fld LC_STATE_CODE 0

/-! ### Memory (R387, R392, R397) -/

/-- What a byte that nothing has written reads as (log entry 2). -/
def unlisted : BitVec 8 := 0

/-- The byte at an address. -/
def memGet (m : List Host.Cell) (a : Nat) : BitVec 8 := smGet unlisted m a

/-- The memory with one byte written. -/
def memSet (m : List Host.Cell) (a : Nat) (b : BitVec 8) : List Host.Cell := smSet unlisted m a b

/-- `k` bytes from an address, little-endian (R5). -/
def memNat (m : List Host.Cell) : Nat → Nat → Nat
  | _, 0 => 0
  | a, k + 1 => (memGet m a).toNat + 256 * memNat m (a + 1) k

/-- `k` bytes of `v` stored from an address, little-endian. -/
def memPut (m : List Host.Cell) : Nat → Nat → Nat → List Host.Cell
  | _, 0, _ => m
  | a, k + 1, v => memPut (memSet m a (BitVec.ofNat 8 v)) (a + 1) k (v / 256)

/-- The bytes from an address. -/
def memBytes (m : List Host.Cell) : Nat → Nat → List Nat
  | _, 0 => []
  | a, k + 1 => (memGet m a).toNat :: memBytes m (a + 1) k

/-- A byte string stored from an address. -/
def memPutBytes (m : List Host.Cell) : Nat → List Nat → List Host.Cell
  | _, [] => m
  | a, b :: bs => memPutBytes (memSet m a (BitVec.ofNat 8 b)) (a + 1) bs

/-- A range of addresses emptied back to what an unlisted address reads as. -/
def memClear (m : List Host.Cell) (lo len : Nat) : List Host.Cell :=
  m.filter (fun c => !(lo ≤ c.1 && c.1 < lo + len))

/-- The keys of a list rise strictly. -/
def keysRise {V : Type} : List (Nat × V) → Bool
  | [] => true
  | [_] => true
  | (a, _) :: (b, w) :: m => decide (a < b) && keysRise ((b, w) :: m)

/-- The canonical form of memory: addresses strictly rising, no entry equal to what an unlisted address reads as. -/
def Memory.wf (m : List Host.Cell) : Bool := keysRise m && m.all (fun c => c.2 != unlisted)

end Sys2Proof.Machine
end

