-- ==== Sys2Proof/Machine/Fault.lean ====
section
/-! DEFINITION. MSI-X messages (R416) and the fault manager's shared operation: a fault is logged and its class action
taken (R424, R428 to R437). The action of the block that owns a retired channel is taken by settle (Settle.lean). -/

namespace Sys2Proof.Machine

/-- An MSI-X message of function `fn` (R416): none while Bus Master Enable is clear; a masked entry sets its pending
bit. -/
def State.msix (s : State) (fn v : Nat) : State :=
  if fn * 256 + v ∈ s.pe.unmasked then
    if (fn = 0 ∧ s.flag PE_STATUS_BME_PF0 0 = false) ∨ (fn = 1 ∧ s.flag PE_STATUS_BME_PF1 0 = false) then s
    else s.emit (.msix fn v)
  else if fn * 256 + v ∈ s.pe.pend then s
  else { s with pe := { s.pe with pend := (fn * 256 + v) :: s.pe.pend } }

/-! ### Fault codes of R427 as (code, class) -/

def CFG_WHILE_RUNNING : Nat × Nat := (0x0001, 0)
def CFG_RANGE : Nat × Nat := (0x0002, 0)
def BAD_TIME_VALUE : Nat × Nat := (0x0003, 0)
def STEP_REFUSED : Nat × Nat := (0x0004, 0)
def MODE_REFUSED : Nat × Nat := (0x0005, 0)
def RECOVERY_WRITE : Nat × Nat := (0x0006, 0)
def EPOCH_RING_FULL : Nat × Nat := (0x0101, 0)
def LEAP_LATE : Nat × Nat := (0x0102, 0)
def ENGINE_LOST : Nat × Nat := (0x0103, 0)
def HOLD_FALLBACK : Nat × Nat := (0x0104, 0)
def FT_TEMP_STALE : Nat × Nat := (0x0105, 0)
def FT_TIME_CORE_PARITY : Nat × Nat := (0x0106, 3)
def FT_LOSC_LOST : Nat × Nat := (0x0201, 0)
def ROOT_UNLOCK : Nat × Nat := (0x0202, 0)
def FT_ROOT_LOCK_FAIL : Nat × Nat := (0x0203, 1)
def BAND_TABLE_MISS : Nat × Nat := (0x0204, 0)
def FT_OPLL_LOCK_FAIL : Nat × Nat := (0x0205, 1)
def CKO_GUARD : Nat × Nat := (0x0206, 0)
def REF_DISQUALIFIED : Nat × Nat := (0x0301, 1)
def REF_DISPUTE : Nat × Nat := (0x0302, 0)
def PKT_ASYMMETRY : Nat × Nat := (0x0303, 0)
def TDC_CAL_FAIL : Nat × Nat := (0x0401, 1)
def SEQ_EXCEPTION : Nat × Nat := (0x0501, 0)
def SEQ_DOUBLE_FAULT : Nat × Nat := (0x0502, 2)
def IMAGE_WRITE_BLOCKED : Nat × Nat := (0x0601, 0)
def IMAGE_REJECTED : Nat × Nat := (0x0602, 0)
def IRAM_PARTIAL_WRITE : Nat × Nat := (0x0603, 0)
def KEY_TAG_FAIL : Nat × Nat := (0x0701, 0)
def KEY_REFUSED : Nat × Nat := (0x0702, 0)
def KEY_STORE_FAIL : Nat × Nat := (0x0703, 3)
def FT_ETH_TRAIN_FAIL : Nat × Nat := (0x0801, 1)
def FT_ITL_TRAIN_FAIL : Nat × Nat := (0x0802, 1)
def ITL_LINK_DOWN : Nat × Nat := (0x0803, 1)
def LOOP_REFUSED : Nat × Nat := (0x0804, 0)
def LANE_CAL_FAIL : Nat × Nat := (0x0805, 1)
def CRYPTO_KAT_FAIL : Nat × Nat := (0x0901, 1)
def RCPT_MIRROR_TIMEOUT : Nat × Nat := (0x0A01, 1)
def RCPT_ENTRY_LOST : Nat × Nat := (0x0A02, 0)
def TWIN_SENIOR_CONFLICT : Nat × Nat := (0x0B01, 0)
def TWIN_TOO_FAR : Nat × Nat := (0x0B02, 0)
def TWIN_WITNESS_FAULT : Nat × Nat := (0x0B03, 0)
def TWIN_CFG_MISMATCH : Nat × Nat := (0x0B04, 2)
def TWIN_EPOCH_DISCARD : Nat × Nat := (0x0B05, 0)
def TWIN_SELF_FAIL : Nat × Nat := (0x0B06, 2)
def TWIN_LINK_LOST : Nat × Nat := (0x0B07, 1)
def TWIN_PARTNER_LOST : Nat × Nat := (0x0B08, 0)
def TWIN_DUAL_ACTIVE : Nat × Nat := (0x0B09, 0)
def TWIN_CMP_PATH : Nat × Nat := (0x0B0A, 0)
def TWIN_TIME_DISAGREE : Nat × Nat := (0x0B0B, 0)
def TWIN_ARB_UNRESOLVED : Nat × Nat := (0x0B0C, 0)
def TWIN_SWAP_REFUSED : Nat × Nat := (0x0B0D, 0)
def MATRIX_DECODE : Nat × Nat := (0x0C01, 0)
def FT_BRIDGE_TIMEOUT : Nat × Nat := (0x0C02, 0)
def SRAM_CE : Nat × Nat := (0x0C03, 0)
def SRAM_UE : Nat × Nat := (0x0C04, 3)
def DRAM_INIT_FAIL : Nat × Nat := (0x0D01, 1)
def DRAM_CE : Nat × Nat := (0x0D02, 0)
def DRAM_UE : Nat × Nat := (0x0D03, 1)
def RING_STOPPED : Nat × Nat := (0x0E01, 0)
def PCIE_DMA_ERR : Nat × Nat := (0x0E02, 1)
def FT_THERMAL_WARN : Nat × Nat := (0x0F01, 0)
def FT_THERMAL_TRIP : Nat × Nat := (0x0F02, 3)

/-- The block channel of R426. -/
def Blk.chan : Blk → Nat
  | .TC => 0x100 | .BG => 0x101 | .PO => 0x102 | .TM => 0x103 | .SY => 0x104 | .RS => 0x105 | .HO => 0x106
  | .SL => 0x107 | .MC => 0x108 | .TS => 0x109 | .RC => 0x10A | .TW => 0x10B | .SQ => 0x10C | .BT => 0x10D
  | .LC => 0x10E | .FM => 0x10F | .PC => 0x110 | .BM => 0x111 | .DR => 0x112 | .RG => 0x113 | .PE => 0x114
  | .GP => 0x115 | .KS => 0x116

/-- A channel ID of R426. -/
def chanId (kind i : Nat) : Nat := kind * 256 + i

/-- The number of indices of each channel kind (R426). -/
def chanCount : Nat → Nat
  | 0 => 1 | 1 => 23 | 2 => 8 | 3 => 16 | 4 => 16 | 5 => 8 | 6 => 12 | 7 => 8 | 8 => 8 | 9 => 4 | 10 => 8 | 11 => 8
  | 12 => 4 | _ => 0

/-- Whether R426 defines the channel. -/
def chanOk (ch : Nat) : Bool := ch % 256 < chanCount (ch / 256)

/-- Whether the channel can be retired (R426). -/
def chanRetirable (ch : Nat) : Bool := ch / 256 ≥ 2

/-- The unit of the FM_CHAN registers that a channel has. -/
def chanUnit (ch : Nat) : Nat := (ch / 256 - 2) * 16 + ch % 256

/-- Whether a channel is retired (R434). -/
def State.retired (s : State) (kind i : Nat) : Bool := s.flag FM_CHAN_RETIRED (chanUnit (chanId kind i))

/-! ### The queue (R428 to R431) -/

/-- The record as 128 bits (R428). -/
def FaultRec.bits (r : FaultRec) : Nat :=
  r.code % 2 ^ 16 + r.cls * 2 ^ 16 + b2n r.esc * 2 ^ 18 + b2n r.retired * 2 ^ 19 + r.count * 2 ^ 24 +
  2 ^ 32 * (r.chan + r.detail % 2 ^ 16 * 2 ^ 16) + 2 ^ 64 * (r.sec % 2 ^ 32) + 2 ^ 96 * r.ns

/-- A fault merged into the record its channel already has (R429). -/
def FaultRec.merge (old new : FaultRec) : FaultRec :=
  if new.cls > old.cls then
    { new with count := min 255 (old.count + 1), esc := old.esc || new.esc, retired := old.retired || new.retired }
  else
    { old with count := min 255 (old.count + 1), esc := old.esc || new.esc, retired := old.retired || new.retired,
               sec := new.sec, ns := new.ns }

/-- The queue with its channel's record merged. -/
def mergeIn (r : FaultRec) : List FaultRec → List FaultRec
  | [] => []
  | q :: qs => if q.chan = r.chan then q.merge r :: qs else q :: mergeIn r qs

/-- The queue without its oldest CORRECTED record (R431). -/
def dropCorrected : List FaultRec → List FaultRec
  | [] => []
  | q :: qs => if q.cls = 0 then qs else q :: dropCorrected qs

/-- The queue replaced. -/
def State.setQueue (s : State) (q : List FaultRec) : State := { s with fm := { s.fm with queue := q } }

/-- A new record among those begun on the same tick, whose channels are `new`: these stand in ascending channel ID (R430). -/
def placeIn (new : List Nat) (r : FaultRec) : List FaultRec → List FaultRec
  | [] => [r]
  | q :: qs => if new.contains q.chan = true ∧ r.chan < q.chan then r :: q :: qs else q :: placeIn new r qs

/-- A record begun on this tick enters the queue. -/
def State.newRec (s : State) (r : FaultRec) : State :=
  { s.setQueue (placeIn s.tk.recs r s.fm.queue) with tk := { s.tk with recs := r.chan :: s.tk.recs } }

/-- A record is lost (R431): FM_DROPPED advances and OVERFLOW sets. -/
def State.queueLost (s : State) : State := (s.rcAdd FM_DROPPED_COUNT 0 1).set1 FM_STATUS_OVERFLOW 0

/-- The record enters the queue (R429, R431). -/
def State.enqueue (s : State) (r : FaultRec) : State :=
  if s.fm.queue.any (fun q => q.chan == r.chan) then s.setQueue (mergeIn r s.fm.queue)
  else if s.fm.queue.length < 64 then s.newRec r
  else if r.cls = 3 ∧ s.fm.queue.any (fun q => q.cls == 0) then
    (s.setQueue (dropCorrected s.fm.queue ++ [r])).queueLost
  else s.queueLost

/-- The queue's message (R432): when LEVEL rises from 0 and on every FATAL fault. -/
def State.queueIrq (s : State) (before cls : Nat) : State :=
  if s.flag FM_CTL_IRQ_EN 0 = true ∧ ((before = 0 ∧ s.fm.queue.length ≠ 0) ∨ cls = 3) then
    s.msix 0 (s.fld FM_CTL_VECTOR 0)
  else s

/-! ### Class actions (R433 to R436) -/

/-- The retry pending on a channel is cancelled. -/
def State.cancelRetry (s : State) (ch : Nat) : State :=
  { s with fm := { s.fm with retry := smSet none s.fm.retry ch none } }.when (chanRetirable ch)
    (fun t => t.clr FM_CHAN_RETRY_PENDING (chanUnit ch))

/-- The elapsed times of the channel's TRANSIENT faults inside the window, this one first (R433). -/
def State.transients (s : State) (ch : Nat) : List Nat :=
  s.ti.elapsed :: (smGet [] s.fm.history ch).filter
    (fun t => s.ti.elapsed < t + s.fld FM_TRANSIENT_CFG_WINDOW_S 0 * secU)

/-- The backoff after the k-th transient (R433), in ms: MAX_MS once k reaches COUNT on a channel that never escalates. -/
def State.backoffMs (s : State) (k : Nat) : Nat :=
  if s.fld FM_TRANSIENT_CFG_COUNT 0 ≤ k then s.fld FM_BACKOFF_MAX_MS 0
  else min (s.fld FM_BACKOFF_MAX_MS 0) (s.fld FM_BACKOFF_MIN_MS 0 * 2 ^ (k - 1))

/-- The channel is retired (R434): RETIRED sets, its retry is cancelled, and its block is left to act. -/
def State.retireChan (s : State) (ch : Nat) : State :=
  let s := (s.cancelRetry ch).set1 FM_CHAN_RETIRED (chanUnit ch)
  { s with fm := { s.fm with todo := s.fm.todo ++ [ch] } }

/-- A retry is scheduled (R433). -/
def State.scheduleRetry (s : State) (ch k : Nat) : State :=
  { s with fm := { s.fm with retry := smSet none s.fm.retry ch (some (s.ti.elapsed + s.backoffMs k * msU)) } }.when
    (chanRetirable ch) (fun t => t.set1 FM_CHAN_RETRY_PENDING (chanUnit ch))

/-- The TRANSIENT action below escalation: none where a PERMANENT fault of the same tick has fallen on the channel (R430). -/
def State.retryFor (s : State) (ch k : Nat) : State := if s.tk.perm.contains ch then s else s.scheduleRetry ch k

/-- A PERMANENT fault of this tick on a channel is noted (R430). -/
def State.permNote (s : State) (ch : Nat) : State := { s with tk := { s.tk with perm := ch :: s.tk.perm } }

/-- The record of a channel as the queue holds it; `r` where it holds none. -/
def State.recOf (s : State) (ch : Nat) (r : FaultRec) : FaultRec := (s.fm.queue.find? (fun q => q.chan == ch)).getD r

/-- Every pending retry is cancelled (R435). -/
def State.cancelAllRetries (s : State) : State :=
  let s := s.fm.retry.foldl (fun t p => t.when (chanRetirable p.1) (fun u => u.clr FM_CHAN_RETRY_PENDING (chanUnit p.1))) s
  { s with fm := { s.fm with retry := [] } }

/-- A fault is logged against a channel and its class action taken (R424, R429 to R436): `f` is its code and class. -/
def State.logFault (s : State) (f : Nat × Nat) (ch detail : Nat) : State :=
  let r0 : FaultRec := { code := f.1, cls := f.2, esc := false, retired := false, count := 1, chan := ch,
                         detail := detail, sec := secOf s.now, ns := nsOf s.now }
  let n0 := s.fm.queue.length
  let s := s.engEv 108
  let isRet := chanRetirable ch && s.flag FM_CHAN_RETIRED (chanUnit ch)
  if f.2 = 0 then (s.enqueue r0).queueIrq n0 0
  else if f.2 = 1 then
    if isRet ∨ s.flag FM_STATUS_FATAL 0 = true then (s.enqueue r0).queueIrq n0 1
    else
      let h := s.transients ch
      let k := h.length
      let s := { s with fm := { s.fm with history := smSet [] s.fm.history ch h } }.when (chanRetirable ch)
        (fun t => t.setFld FM_CHAN_TRANSIENTS (chanUnit ch) (min 255 k))
      if chanRetirable ch = true ∧ k ≥ s.fld FM_TRANSIENT_CFG_COUNT 0 then
        (((s.retireChan ch).set1 FM_STATUS_PERM_SEEN 0).enqueue
          { r0 with cls := 2, esc := true, retired := true }).queueIrq n0 2
      else ((s.retryFor ch k).enqueue r0).queueIrq n0 1
  else if f.2 = 2 then
    let s := (s.set1 FM_STATUS_PERM_SEEN 0).permNote ch
    if isRet then (s.enqueue r0).queueIrq n0 2
    else if chanRetirable ch = true ∧ s.flag FM_STATUS_FATAL 0 = false then
      ((s.retireChan ch).enqueue { r0 with retired := true }).queueIrq n0 2
    else ((s.cancelRetry ch).enqueue r0).queueIrq n0 2
  else
    let first := !s.flag FM_STATUS_FATAL 0
    let s := (s.cancelAllRetries.set1 FM_STATUS_FATAL 0).enqueue r0
    let s := s.setFld FM_LAST_FATAL_RECORD 0 (s.recOf ch r0).bits
    { s with fm := { s.fm with fatalDue := s.fm.fatalDue || first } }.queueIrq n0 3

/-- A fault of a block (R424). -/
def State.log (s : State) (f : Nat × Nat) (b : Blk) : State := s.logFault f b.chan 0

/-- Whether the engine drives ALERT_N low (R437). -/
def State.alert (s : State) : Bool :=
  s.flag FM_STATUS_FATAL 0 || s.flag FM_STATUS_OVERFLOW 0 ||
    (s.flag FM_STATUS_PERM_SEEN 0 && s.flag FM_CTL_ALERT_PERM 0)

end Sys2Proof.Machine
end

