-- ==== Sys2Proof/Machine/Desc.lean ====
section
/-! DEFINITION. Descriptors and rings as shared operations (R404 to R408, R412), and the events a block raises in the
sequencers (R156, R157). -/

namespace Sys2Proof.Machine

/-! ### Sequencer units and latched events -/

/-- Sequencer `n`. -/
def State.seq (s : State) (n : Nat) : Seqr := smGet Seqr.init s.seqs n

/-- Sequencer `n` replaced. -/
def State.setSeq (s : State) (n : Nat) (q : Seqr) : State := { s with seqs := smSet Seqr.init s.seqs n q }

/-- A latched event bit set in one sequencer (R157). -/
def State.latchAt (s : State) (n bit : Nat) : State :=
  s.setSeq n { s.seq n with events := (s.seq n).events ||| 2 ^ bit }

/-- A latched event bit set in all eight sequencers (R156). -/
def State.latch (s : State) (bit : Nat) : State :=
  (List.range 8).foldl (fun t n => t.latchAt n bit) s

/-- The engine sets a W1C status bit; event `bit` of R156 when it became set. -/
def State.statusEvent (s : State) (f : Fld) (n bit : Nat) : State :=
  (s.set1 f n).when (!s.flag f n) (fun t => t.latch bit)

/-! ### Rings -/

/-- The size of ring `r` in descriptors (R405). -/
def State.ringSize (s : State) (r : Nat) : Nat := 2 ^ s.fld RG_CTL_SIZE_LOG2 r

/-- How many descriptors ring `r` holds (R406). -/
def State.ringLevel (s : State) (r : Nat) : Nat :=
  (s.fld RG_PROD_COUNT r + 2 ^ 32 - s.fld RG_CONS_COUNT r) % 2 ^ 32

/-- Whether ring `r` is enabled, and whether it has room. -/
def State.ringOn (s : State) (r : Nat) : Bool := s.flag RG_CTL_EN r
def State.ringFull (s : State) (r : Nat) : Bool := s.ringLevel r ≥ s.ringSize r

/-- Where descriptor `k` of ring `r` stands (R405, R406). -/
def State.descAddr (s : State) (r k : Nat) : Nat := s.fld RG_BASE_ADDR r + k % s.ringSize r * 32

/-- The eight words of descriptor `k` of ring `r`, as one number (word w in bits 32w+31..32w). -/
def State.descRead (s : State) (r k : Nat) : Nat :=
  if s.fld RG_CTL_LOC r = 2 then memNat s.hostMem (s.descAddr r k) 32 else memNat s.mem (s.descAddr r k) 32

/-- Descriptor `k` of ring `r` written (R408). -/
def State.descWrite (s : State) (r k d : Nat) : State :=
  if s.fld RG_CTL_LOC r = 2 then { s with hostMem := memPut s.hostMem (s.descAddr r k) 32 d }
  else { s with mem := memPut s.mem (s.descAddr r k) 32 d }

/-- The ring sequence of the next descriptor (R407). -/
def State.ringSeq (s : State) (r : Nat) : Nat := (s.fld RG_SEQ_START r + s.fld RG_PROD_COUNT r) % 2 ^ 32

/-- Ring `r` and its unit state. -/
def State.ring (s : State) (r : Nat) : RgSt := smGet RgSt.init s.rg r
def State.setRing (s : State) (r : Nat) (x : RgSt) : State := { s with rg := smSet RgSt.init s.rg r x }

/-- One descriptor produced or consumed by the engine counts toward the ring's message (R412). -/
def State.ringCount (s : State) (r : Nat) : State :=
  let x := s.ring r
  s.setRing r { x with since := x.since + 1, first := if x.since = 0 then s.ti.elapsed else x.first }

/-- A descriptor of words 0 and 2 to 7 with OWN set and the ring sequence in word 1 (R407, R408, R410). -/
def mkDesc (typ flags len seq w2 w3 w4 w5 w6 w7 : Nat) : Nat :=
  len % 2 ^ 16 + flags % 256 * 2 ^ 16 + typ % 128 * 2 ^ 24 + 2 ^ 31 + 2 ^ 32 * (seq % 2 ^ 32) +
  2 ^ 64 * (w2 % 2 ^ 32) + 2 ^ 96 * (w3 % 2 ^ 32) + 2 ^ 128 * (w4 % 2 ^ 32) + 2 ^ 160 * (w5 % 2 ^ 32) +
  2 ^ 192 * (w6 % 2 ^ 32) + 2 ^ 224 * (w7 % 2 ^ 32)

/-- Whether the ring can take one more descriptor of the engine: enabled, not full and, at LOC 2, Bus Master Enable set
(R406, R417). -/
def State.ringRoom (s : State) (r : Nat) : Bool :=
  s.ringOn r && !s.ringFull r && (s.fld RG_CTL_LOC r != 2 || s.flag PE_STATUS_BME_PF0 0)

/-- The engine produces a descriptor on a ring that has room (R408): written, then PROD advances; on rings 0 to 15 it
counts toward the message (R412). -/
def State.ringProduce (s : State) (r d : Nat) : State :=
  let t := (s.descWrite r (s.fld RG_PROD_COUNT r) d).setFld RG_PROD_COUNT r (s.fld RG_PROD_COUNT r + 1)
  (t.engEv 106).when (r < 16) (fun u => u.ringCount r)

/-- The engine offers a descriptor to a ring: produced when there is room; else FULL sets when the ring is full and the
second part says it was not taken. -/
def State.ringOffer (s : State) (r typ flags len : Nat) (w2 w3 w4 w5 w6 w7 : Nat) : State × Bool :=
  if s.ringRoom r then (s.ringProduce r (mkDesc typ flags len (s.ringSeq r) w2 w3 w4 w5 w6 w7), true)
  else (s.when (s.ringOn r && s.ringFull r) (fun t => t.set1 RG_STATUS_FULL r), false)

end Sys2Proof.Machine
end

