-- ==== Sys2Proof/Machine/Access.lean ====
section
/-! DEFINITION. Who may write what (R225, R415), and the shadows of RWS fields (R9, R11, R40). -/

namespace Sys2Proof.Machine

/-- Whether sequencer `n` runs in user mode (R153). -/
def State.user (s : State) (n : Nat) : Bool := s.flag SQ_STATUS_USER n

/-- A number for each actor. -/
def actorCode : Actor → Nat
  | .seq n => n
  | .pf0 => 16
  | .pf1 => 17
  | .ctrl c => 32 + c

/-- The key of an actor's held word or snapshot at an address (R6). -/
def actorKey (a : Actor) (addr : Nat) : Nat := actorCode a * 2 ^ 40 + addr % 2 ^ 40

/-- The actor's held words and snapshots discarded (R6, R151), and its requests that the matrix holds withdrawn (R398). -/
def State.dropHeld (s : State) (a : Actor) : State :=
  { s with waits := s.waits.filter (fun r => r.actor != a), held := s.held.filter (fun e => e.1 / 2 ^ 40 != actorCode a), snaps := s.snaps.filter (fun e => e.1 / 2 ^ 40 != actorCode a) }

/-- Blocks whose writes come only from PF0 and from supervisor-mode programs (chapter 17). -/
def Blk.supervised : Blk → Bool
  | .FM => true
  | .PC => true
  | _ => false

/-- The write permissions of R225. The slot registers that PF1 may write are not judged here. -/
def State.mayWrite (s : State) (a : Actor) (b : Blk) : Bool :=
  match a with
  | .pf0 => !s.recovery || b == .BT || b == .FM || b == .PC || b == .PE || b == .RG || b == .GP
  | .pf1 => false
  | .seq n => n < 8 && (!s.recovery || b == .BT || b == .FM || b == .PC) && !(b.supervised && s.user n)
  | .ctrl c => c == 13 && !s.recovery && s.lifeCycle ≤ 1 && !b.supervised

/-- Any access by controller 13 shows in DEBUG_USED of later quotes (R225). -/
def State.debugNote (s : State) (a : Actor) : State :=
  if a = .ctrl 13 then { s with bt := { s.bt with debug := true } } else s

/-- A write that R225 does not permit: ignored, with RECOVERY_WRITE in RECOVERY. -/
def State.gateLog (s : State) (b : Blk) : State := if s.recovery then s.log RECOVERY_WRITE b else s

/-- A write to block `b` by `a`: carried out when R225 permits it. -/
def State.gate (s : State) (a : Actor) (b : Blk) (k : State → State) : State :=
  if s.mayWrite a b then k (s.debugNote a) else (s.debugNote a).gateLog b

/-- Whether R225 lets `a` write memory: controller 13 as it may write blocks, PF1 never. -/
def State.memMay (s : State) (a : Actor) : Bool :=
  match a with
  | .pf1 => false
  | .ctrl c => c != 13 || (!s.recovery && s.lifeCycle ≤ 1)
  | _ => true

/-- Whether a port write of this tick has given field `f` its value, which a matrix write of the tick then leaves alone (R44). -/
def State.portHas (s : State) (f : Fld) (n : Nat) : Bool := smGet 0 s.tk.port (f.key n) != 0

/-- The value a field's shadow holds, when one waits. -/
def State.shadow (s : State) (f : Fld) (n : Nat) : Option Nat := smGet none s.shadows (f.key n)

/-- A write to an RWS field waits in its shadow; the last one holds (R11). -/
def State.setShadow (s : State) (f : Fld) (n v : Nat) : State :=
  { s with shadows := smSet none s.shadows (f.key n) (some (v % 2 ^ f.width)) }

/-- A matrix or port-space write of TC_SLIDE_OFFSET waits for the next tick (R53, R128). -/
def State.slideWrite (s : State) (v : Nat) : State :=
  { s.setShadow TC_SLIDE_OFFSET_OFFSET 0 v with ti := { s.ti with slideHost := true } }

/-- The shadow of a field emptied. -/
def State.dropShadow (s : State) (f : Fld) (n : Nat) : State :=
  { s with shadows := smSet none s.shadows (f.key n) none }

/-- The value that commits at the engine second of this tick, when there is one (R11). -/
def State.dueShadow (s : State) (f : Fld) (n : Nat) : Option Nat := smGet none s.due (f.key n)

/-- What a read of an RWS field returns (R9): the shadow, or the field where nothing waits. -/
def State.shadowed (s : State) (f : Fld) (n : Nat) : Nat := ((s.shadow f n).or (s.dueShadow f n)).getD (s.fld f n)

/-- The field takes its shadow (R40). -/
def State.commit (s : State) (f : Fld) (n : Nat) : State :=
  match s.shadow f n with
  | some v => (s.setFld f n v).dropShadow f n
  | none => s

/-- The fields that commit at the next engine second. -/
def secFlds : List Fld :=
  [TC_UTC_OFFSET_OFFSET, TC_LEAP_CTL_ARM, TC_LEAP_CTL_DIR, TC_LEAP_TIME_L, TC_SMEAR_WINDOW_W, PO_PERIOD_PERIOD,
   PO_WIDTH_WIDTH, RC_TALLY_US]

/-- Whether a shadow waits for an engine second. -/
def secKey (k : Nat) : Bool := secFlds.any (fun f => f.bit == k / 4096)

/-- An engine second begins: the values written for it are fixed, and a later write waits for the next one (R11). -/
def State.latchSecond (s : State) : State :=
  { s with
    due := (s.shadows.filter (fun e => secKey e.1)).foldl (fun m e => smSet none m e.1 e.2) s.due,
    shadows := s.shadows.filter (fun e => !secKey e.1) }

/-- The field takes the value fixed for this engine second (R40). -/
def State.commitDue (s : State) (f : Fld) (n : Nat) : State :=
  match s.dueShadow f n with
  | some v => { s.setFld f n v with due := smSet none s.due (f.key n) none }
  | none => s

end Sys2Proof.Machine
end

