-- ==== Sys2Proof/Machine/TimeCore.lean ====
section
/-! DEFINITION. The time core (R46 to R63) and the bound generator (R64, R65, R20, R102) as operations. The commands that
carry them out beside other blocks' parts are in Tick.lean and Second.lean. -/

namespace Sys2Proof.Machine

/-! ### Increment and slide (R47, R48, R53) -/

/-- TC_INCREMENT as committed, in 2^-48 ns. -/
def State.increment (s : State) : Nat := s.fld TC_INCREMENT_INC_NS 0 * 2 ^ 48 + s.fld TC_INCREMENT_INC_FRAC 0

/-- TC_INCREMENT set. -/
def State.setIncrement (s : State) (v : Nat) : State :=
  (s.setFld TC_INCREMENT_INC_NS 0 (v / 2 ^ 48)).setFld TC_INCREMENT_INC_FRAC 0 v

/-- The range of TC_INCREMENT (R47). -/
def incOk (v : Nat) : Bool := 0x0004000000000000 ≤ v && v ≤ 0x0005FFFFFFFFFFFF

/-- The range of TC_SAFE_INC (R48). -/
def safeIncOk (v : Nat) : Bool := 0x0008000000000000 ≤ v && v ≤ 0x000CFFFFFFFFFFFF

/-- The slope step s of R53. -/
def State.slopeStep (s : State) : Nat := s.fld TC_SLIDE_SLOPE_SLOPE 0 * 2 ^ 48 / 200000000000

/-- What the slide unit adds on a tick (R53, R48): nothing on SAFE_OSC. -/
def State.slideStep (s : State) : Int :=
  if s.safe then 0
  else if s.ti.slideRem.natAbs < s.slopeStep then s.ti.slideRem
  else if s.ti.slideRem < 0 then -(s.slopeStep : Int) else s.slopeStep

/-- What the time core adds on a tick (R47, R48). -/
def State.applied (s : State) : Nat :=
  if s.safe then s.fld TC_SAFE_INC_INC 0 else ((s.increment : Int) + s.slideStep).toNat

/-- The remaining slide replaced; SLIDE_ACTIVE says whether it is non-zero (R53). -/
def State.setSlide (s : State) (r : Int) : State :=
  { s with ti := { s.ti with slideRem := r } }.setFld TC_STATUS_SLIDE_ACTIVE 0 (b2n (r != 0))

/-- A slide offset in 2^-16 ns starts (R53). -/
def State.slideStart (s : State) (off : Int) : State := s.setSlide (off * 2 ^ 32)

/-! ### The bound (R20, R64, R102) -/

/-- BG_WIDEN in whole ps, rounded up and saturating (R102). -/
def widenPs (acc : Nat) : Nat := satBound (ceilDiv acc 256)

/-- B0, B1, B2 as committed (BG_ACTIVE). -/
def State.coef (s : State) (i : Nat) : Nat :=
  match i with
  | 0 => bits (s.fld BG_ACTIVE_COEF 0) 0 32
  | 1 => bits (s.fld BG_ACTIVE_COEF 0) 32 32
  | _ => bits (s.fld BG_ACTIVE_COEF 0) 64 48

/-- B0 + B1 Δt + B2 Δt² + W with Δt in us and W in ps, exact, rounded up to a whole ps, saturating (R64). -/
def boundAt (b0 b1 b2 us w : Nat) : Nat :=
  if w = 0xFFFFFFFF then 0xFFFFFFFF
  else satBound (b0 + w + ceilDiv (b1 * us * (2 ^ 24 * 10 ^ 6) + b2 * us * us) (2 ^ 32 * 10 ^ 12))

/-- Δt in whole us: it stops at 2^48 - 1 (R64), while the intervals go on. -/
def State.dtUs (s : State) : Nat := min (s.ti.dt / usU) (2 ^ 48 - 1)

/-- BG_WIDEN as it will stand at the end of the current interval (R20), in 2^-8 ps. -/
def State.widenEnd (s : State) : Nat :=
  if s.safe then
    s.ti.widenAcc + ceilDiv (usU - s.ti.dt % usU) (s.fld TC_SAFE_INC_INC 0) * s.fld SY_SAFE_UNC_UNC 0
  else s.ti.widenAcc

/-- The bound at the end of the current interval (R20, R64). -/
def State.boundNow (s : State) : Nat :=
  if s.flag BG_CTL_VALID 0 then
    boundAt (s.coef 0) (s.coef 1) (s.coef 2) (min (s.dtUs + 1) (2 ^ 48 - 1)) (widenPs s.widenEnd)
  else 0xFFFFFFFF

/-- Inside an interval the published bound may rise and never falls (R20). -/
def State.boundRaise (s : State) : State :=
  if s.boundNow > s.fld BG_CURRENT_BOUND 0 then
    { (s.setFld BG_CURRENT_BOUND 0 s.boundNow).when (!s.ti.rose) (fun t => t.engEv 87) with
      ti := { s.ti with rose := true } }
  else s

/-- An amount of ps added to BG_WIDEN in one piece (R20, R100, R134, R148). -/
def State.widenAdd (s : State) (ps : Nat) : State :=
  let acc := s.ti.widenAcc + ps * 256
  ({ s with ti := { s.ti with widenAcc := acc } }.setFld BG_WIDEN_W 0 (widenPs acc)).boundRaise

/-- BG_COEF commits (R65): the coefficients, then RESTART and CLR_WIDEN, then the published bound never falls. RESTART also begins
a new 1 us interval, since Δt is counted in whole us from it (log entry 106). -/
def State.coefCommit (s : State) (b0 b1 b2 : Nat) (restart clr : Bool) : State :=
  let s := s.setFld BG_ACTIVE_COEF 0 (b0 % 2 ^ 32 + b1 % 2 ^ 32 * 2 ^ 32 + b2 % 2 ^ 48 * 2 ^ 64)
  let s := s.when restart (fun t =>
    { t with ti := { t.ti with dt := 0, boundDue := false } }.setFld BG_ANCHOR_TIME 0 (toTime128 t.now))
  let s := s.when clr (fun t => { t with ti := { t.ti with widenAcc := 0 } }.setFld BG_WIDEN_W 0 0)
  s.boundRaise

/-- The five words of BG_COEF take their shadows and commit (R65). -/
def State.coefShadowCommit (s : State) : State :=
  if (s.shadow BG_COEF_RESTART 0).isSome then
    let s := ((((s.commit BG_COEF_B0 0).commit BG_COEF_B1 0).commit BG_COEF_B2 0).commit BG_COEF_RESTART 0).commit
      BG_COEF_CLR_WIDEN 0
    s.coefCommit (s.fld BG_COEF_B0 0) (s.fld BG_COEF_B1 0) (s.fld BG_COEF_B2 0) (s.flag BG_COEF_RESTART 0)
      (s.flag BG_COEF_CLR_WIDEN 0)
  else s

/-- The end of a 1 us interval (R64): the next interval's bound is published, and may be lower. -/
def State.boundPublish (s : State) : State :=
  let b := s.boundNow
  { (s.when (b > s.fld BG_CURRENT_BOUND 0) (fun t => t.engEv 87)).setFld BG_CURRENT_BOUND 0 b with
    ti := { s.ti with boundDue := false, rose := b > s.fld BG_CURRENT_BOUND 0 } }

/-! ### Counting (R46, R48) -/

/-- Engine time advances by `d` (R46, R64): it, the elapsed time and Δt; the end of a 1 us interval and a second that this
reaches are due, and the values written for the second are fixed. After a step the second is judged from before the step, so
that a step and its tick take one boundary (R52). -/
def State.advance (s : State) (d : Int) : State :=
  let now' := (((s.ti.now : Int) + d) % (timeMod : Int)).toNat
  let dt' := ((s.ti.dt : Int) + d).toNat
  let cross := secOf now' != secOf (s.ti.stepFrom.getD s.ti.now)
  let t := { s with ti := { s.ti with
    now := now', elapsed := ((s.ti.elapsed : Int) + d).toNat, dt := dt',
    boundDue := s.ti.boundDue || dt' / usU != s.ti.dt / usU,
    secondStep := if cross then s.ti.stepFrom.isSome else s.ti.secondStep,
    secondDue := s.ti.secondDue || cross, stepFrom := none } }
  t.when cross State.latchSecond

/-- The runs of past ticks that a stamp may still need: those of the last 2 ms before elapsed time `e`. -/
def keepMarks (e : Nat) : List TickMark → List TickMark
  | [] => []
  | m :: l => if m.from_ + 2 * msU < e then [m] else m :: keepMarks e l

/-- Whether the present tick, which adds `inc` from engine time `now`, goes on as the run `m` did. -/
def State.sameRun (s : State) (m : TickMark) (now inc : Nat) : Bool :=
  m.inc == inc && m.bound == s.fld BG_CURRENT_BOUND 0 && m.dist == s.flag TC_STATUS_DISTURBED 0 && m.safe == s.safe &&
    m.from_ + (s.ti.ticks - m.tick) * inc == s.ti.elapsed && (m.now + (s.ti.elapsed - m.from_)) % timeMod == now

/-- The present tick, which ends with `inc` added, is noted for later stamps. -/
def State.mark (s : State) (inc : Nat) : State :=
  let now := s.ti.stepFrom.getD s.ti.now
  let new : TickMark := { tick := s.ti.ticks, from_ := s.ti.elapsed, now := now, inc := inc,
                          bound := s.fld BG_CURRENT_BOUND 0, dist := s.flag TC_STATUS_DISTURBED 0, safe := s.safe }
  let l := match s.ti.marks with
    | m :: l => if s.sameRun m now inc then m :: l else new :: m :: l
    | [] => [new]
  { s with ti := { s.ti with marks := keepMarks s.ti.elapsed l } }

/-- One tick of the time core and the bound generator. -/
def State.tcTick (s : State) : State :=
  let sl := s.slideStep
  let acc := if s.safe then s.ti.widenAcc + s.fld SY_SAFE_UNC_UNC 0 else s.ti.widenAcc
  let t := (s.mark s.applied).advance s.applied
  let t := { t with ti := { t.ti with ticks := s.ti.ticks + 1, widenAcc := acc } }
  let t := (t.setSlide (s.ti.slideRem - sl)).setFld TC_INC_APPLIED_APPLIED 0 ((s.increment : Int) + sl).toNat
  (t.setFld BG_WIDEN_W 0 (widenPs acc)).boundRaise

/-! ### Stamps of earlier instants (R19, R20) -/

/-- The elapsed time between a point `arr` (1/8192 ticks) before the present tick and the tick, by the increments of the ticks
between. -/
def State.backOf (s : State) (arr : Nat) : Nat :=
  let x := s.ti.ticks * 8192 - arr
  match s.ti.marks.find? (fun m => m.tick * 8192 ≤ x) with
  | some m => s.ti.elapsed - (m.from_ + (x - m.tick * 8192) * m.inc / 8192)
  | none => arr * s.applied / 8192

/-- What the time core broadcast at an instant: engine time, the published bound, DISTURBED, SAFE_CLOCK. -/
structure Stamp where
  time  : Nat
  bound : Nat
  dist  : Bool
  safe  : Bool
  deriving DecidableEq, Repr

/-- The instant `back` of elapsed time (2^-48 ns) before the present tick: the engine time and the bound of its own tick, so that
a step, a setting or a new bound since then does not touch it. -/
def State.stampAt (s : State) (back : Nat) : Stamp :=
  let e := s.ti.elapsed - back
  let here : Stamp := { time := (s.ti.now + timeMod - back % timeMod) % timeMod, bound := s.fld BG_CURRENT_BOUND 0,
                        dist := s.flag TC_STATUS_DISTURBED 0, safe := s.safe }
  if back = 0 then here
  else
    match s.ti.marks.find? (fun m => m.from_ ≤ e) with
    | some m => { time := (m.now + (e - m.from_)) % timeMod, bound := m.bound, dist := m.dist, safe := m.safe }
    | none => here

/-- The distance of engine time `t` from the present tick in 1/4096 of the tick it lies in, to the nearest (R66). -/
def State.placeSteps (s : State) (t : Int) : Int :=
  let d : Int := t - s.ti.now
  let near := fun (num : Int) (den : Nat) => (2 * num + den) / (2 * (den : Int))
  let e := s.ti.elapsed - (-d).toNat
  if 0 ≤ d then near (d * 4096) s.applied
  else
    match s.ti.marks.find? (fun m => m.from_ ≤ e) with
    | some m =>
      let k := (e - m.from_) / m.inc
      near (((m.tick : Int) + k - s.ti.ticks) * 4096 * m.inc + ((e - m.from_) % m.inc * 4096 : Nat)) m.inc
    | none => near (d * 4096) s.applied

/-! ### Steps (R49 to R52) -/

/-- A write to TC_TIME_SET (R49, R15). In SERVICE mode only STEP_REFUSED is logged, whatever the value (log entry 104). -/
def State.timeSetWrite (s : State) (v : Nat) : State :=
  if s.service then s.log STEP_REFUSED .TC
  else if time128Ok v then { s with ti := { s.ti with setDue := some (ofTime128 v), stepDue := none } }
  else s.log BAD_TIME_VALUE .TC

/-- A write to TC_STEP_OFFSET (R50), in 2^-16 ns. -/
def State.stepWrite (s : State) (v : Nat) : State :=
  let s := (s.setFld TC_STEP_OFFSET_OFFSET 0 v).setFld TC_STATUS_STEP_SEQ 0 (s.fld TC_STATUS_STEP_SEQ 0 + 1)
  if s.service then
    { s with ti := { s.ti with stepPend := some (signed 64 v) } }.set1 TC_STATUS_STEP_PENDING 0
  else { s with ti := { s.ti with stepDue := some (signed 64 v), stepPend := none } }.clr TC_STATUS_STEP_PENDING 0

/-- A write to TC_STEP_ACCEPT (R50). -/
def State.stepAccept (s : State) (a : Actor) (seq : Nat) (go : Bool) : State :=
  match s.ti.stepPend with
  | some d =>
    if a = .pf0 ∧ go = true ∧ seq = s.fld TC_STATUS_STEP_SEQ 0 ∧ s.flag TC_CTL_STEP_EN 0 = true then
      { s with ti := { s.ti with stepPend := none, stepDue := some d } }
    else s.log STEP_REFUSED .TC
  | none => s.log STEP_REFUSED .TC

/-- A write to TC_STEP_ACCEPT by an actor other than PF0, which R225 need not admit at all: it is ignored and logged (R50). -/
def State.stepBarred (s : State) : State := s.log STEP_REFUSED .TC

/-- The engine time after a step of `d` units of 2^-16 ns, borrowing and carrying as R46 does. -/
def stepTime (now : Nat) (d : Int) : Nat := (((now : Int) + d * 2 ^ 32) % (timeMod : Int)).toNat

/-- The time core's part of an applied step or TC_TIME_SET (R51, R52): the new time, STEP_DONE, STEP_PENDING and the
slide cleared. The tick's own increment is added to it by the count, which also finds the one second boundary. A step written
after the accepted one stays pending, with STEP_PENDING 1 (log entry 104). -/
def State.tcStepTo (s : State) (t : Nat) : State :=
  let u := { s with ti := { s.ti with
    now := t % timeMod, stepDue := none, setDue := none, stepFlag := true,
    stepFrom := some (s.ti.stepFrom.getD s.ti.now) } }
  ((u.setSlide 0).statusEvent TC_STATUS_STEP_DONE 0 25).setFld TC_STATUS_STEP_PENDING 0 (b2n u.ti.stepPend.isSome)

/-- The time that a due step or setting gives, if one is due; a setting goes before a step of the same tick (log entry 104). -/
def State.stepTarget (s : State) : Option Nat :=
  match s.ti.setDue with
  | some t => some t
  | none => s.ti.stepDue.map (stepTime s.ti.now)

/-! ### Leap seconds and smear (R59 to R62) -/

/-- The leap takes effect (R60): the offset moves by one unless a written value commits on this second. -/
def State.leapNow (s : State) : State :=
  let o := signed 16 (s.fld TC_UTC_OFFSET_OFFSET 0)
  let s := s.when (!s.ti.utcWritten) (fun t =>
    t.setFld TC_UTC_OFFSET_OFFSET 0 (wrapTo 16 (if s.ti.leapDel then o - 1 else o + 1)))
  { ((s.clr TC_LEAP_CTL_ARM 0).clr TC_STATUS_LEAP_ARMED 0).statusEvent TC_STATUS_LEAP_DONE 0 25 with
    ti := { s.ti with lastL := s.ti.leapL, lastDel := s.ti.leapDel, lastOff := o } }

/-- Whether the armed leap's second has begun. -/
def State.leapReached (s : State) : Bool :=
  s.flag TC_STATUS_LEAP_ARMED 0 && s.ti.leapL * secU ≤ s.ti.now

/-- The smear of the armed leap begins, or ends (R62). -/
def State.smearStart (s : State) : State := s.set1 TC_STATUS_SMEAR_ACTIVE 0
def State.smearEnd (s : State) : State := s.clr TC_STATUS_SMEAR_ACTIVE 0
def State.smearStartDue (s : State) : Bool :=
  s.flag TC_STATUS_LEAP_ARMED 0 && !s.flag TC_STATUS_SMEAR_ACTIVE 0 && s.ti.smearFrom ≤ s.ti.now
    && s.ti.now < s.ti.smearTo
def State.smearEndDue (s : State) : Bool := s.flag TC_STATUS_SMEAR_ACTIVE 0 && s.ti.smearTo ≤ s.ti.now

/-- The instant of an engine-second boundary: the second's start, or after a step the stepped time (R40, R52). -/
def State.boundary (s : State) : Nat := if s.ti.secondStep then s.ti.now else secOf s.ti.now * secU

/-- ARM commits as 1 (R59, R62). -/
def State.leapArm (s : State) : State :=
  let l := s.fld TC_LEAP_TIME_L 0
  let w := s.fld TC_SMEAR_WINDOW_W 0
  if l * secU < s.boundary + 2 * secU ∨ s.flag TC_STATUS_SMEAR_ACTIVE 0 = true then
    (s.setFld TC_LEAP_CTL_ARM 0 (s.fld TC_STATUS_LEAP_ARMED 0)).log CFG_RANGE .TC
  else
    let half := w * secU / 2
    let t := { s with ti := { s.ti with
      leapL := l, leapDel := s.flag TC_LEAP_CTL_DIR 0, smearFrom := max (l * secU - half) s.ti.now,
      smearTo := l * secU + half } }.set1 TC_STATUS_LEAP_ARMED 0
    if s.ti.now > l * secU - half then (t.smearStart).log LEAP_LATE .TC else t

/-- ARM commits as 0 (R59). -/
def State.leapDisarm (s : State) : State :=
  if s.flag TC_STATUS_SMEAR_ACTIVE 0 then
    (s.setFld TC_LEAP_CTL_ARM 0 (s.fld TC_STATUS_LEAP_ARMED 0)).log CFG_RANGE .TC
  else { s with ti := { s.ti with smearFrom := 0, smearTo := 0 } }.clr TC_STATUS_LEAP_ARMED 0

/-- The next-second RWS fields of the time core commit, and a written ARM acts (R59, R40). -/
def State.tcCommitSecond (s : State) : State :=
  let armW := (s.dueShadow TC_LEAP_CTL_ARM 0).isSome
  let utcW := (s.dueShadow TC_UTC_OFFSET_OFFSET 0).isSome
  let s := ((((s.commitDue TC_UTC_OFFSET_OFFSET 0).commitDue TC_LEAP_CTL_ARM 0).commitDue TC_LEAP_CTL_DIR 0).commitDue
    TC_LEAP_TIME_L 0).commitDue TC_SMEAR_WINDOW_W 0
  let s := { s with ti := { s.ti with utcWritten := utcW } }
  if armW then (if s.flag TC_LEAP_CTL_ARM 0 then s.leapArm else s.leapDisarm) else s

/-! ### The epoch record (R56, R57) -/

/-- The record of this second as eight words, with the OWN bit and ring sequence given. -/
def State.epochRecord (s : State) (own : Bool) : Nat :=
  let armed := s.flag TC_STATUS_LEAP_ARMED 0
  let flags := b2n armed + 2 * b2n (armed && s.ti.leapDel) + 4 * b2n s.ti.stepFlag +
    8 * s.fld TC_STATUS_DISTURBED 0 + 16 * s.fld TC_STATUS_SMEAR_ACTIVE 0 + 32 * s.fld TC_STATUS_SLIDE_ACTIVE 0
  let t := s.ti.now
  mkDesc 0x01 flags 0 (s.ringSeq 0) (secOf t) (secOf t / 2 ^ 32 % 2 ^ 16 + s.fld TC_UTC_OFFSET_OFFSET 0 * 2 ^ 16)
    (wncOf t / 2 ^ 16) (wncOf t % 2 ^ 16 * 2 ^ 16) (s.fld BG_CURRENT_BOUND 0) (fracOf t) -
    (if own then 0 else 2 ^ 31)

/-- TC_EPOCH is updated, and the record posted on ring 0 when it is enabled and has room (R56, R57); at LOC 2 with Bus Master Enable
clear it has none (log entry 124). -/
def State.epochPost (s : State) : State :=
  let done := fun (t : State) => { t with ti := { t.ti with stepFlag := false } }
  if s.ringRoom 0 then
    let r := s.epochRecord true
    done (((s.ringProduce 0 r).setFld TC_EPOCH_RECORD 0 r).engEv 123)
  else
    let t := s.setFld TC_EPOCH_RECORD 0 (s.epochRecord false)
    done (if s.ringOn 0 then
      ((t.rcAdd TC_EPOCH_MISS_COUNT 0 1).set1 TC_STATUS_EPOCH_MISSED 0).log EPOCH_RING_FULL .TC
    else t)

/-- The time core's part of an engine second, in this order: commits, DISTURBED (R48), the leap, the smear, the event of
R156, the epoch record. -/
def State.tcSecond (s : State) : State :=
  let s := s.tcCommitSecond
  let s := if s.ti.distClear then { s.clr TC_STATUS_DISTURBED 0 with ti := { s.ti with distClear := false } } else s
  let s := s.when s.leapReached State.leapNow
  let s := s.when s.smearStartDue State.smearStart
  let s := s.when s.smearEndDue State.smearEnd
  let s := { s with ti := { s.ti with secondDue := false, secondStep := false, utcWritten := false } }
  ((s.latch 16).engEv 86).epochPost

end Sys2Proof.Machine
end

