-- ==== Sys2Proof/Machine/Pulse.lean ====
section
/-! DEFINITION. The pulse outputs TOUT_0 to TOUT_7 (R66 to R70). -/

namespace Sys2Proof.Machine

/-- Output `n` beyond its registers. -/
def State.pout (s : State) (n : Nat) : PoSt := smGet PoSt.init s.po n
def State.setPout (s : State) (n : Nat) (p : PoSt) : State := { s with po := smSet PoSt.init s.po n p }

/-- The first leading edge as a time, the period and the width in 2^-48 ns. -/
def State.poStart (s : State) (n : Nat) : Nat := ofTime128 (s.fld PO_START_TIME n)
def State.poPeriod (s : State) (n : Nat) : Nat := s.fld PO_PERIOD_PERIOD n * 2 ^ 32

/-- The width in effect: never more than the period less 5 ns (R68). -/
def State.poWidth (s : State) (n : Nat) : Nat :=
  min (s.fld PO_WIDTH_WIDTH n * nsU) (s.poPeriod n - 5 * nsU)

/-- The width of the pulse whose leading edge is at `t`: a new one from the first edge after its second on (R68). -/
def State.poWidthAt (s : State) (n t : Nat) : Nat :=
  if t ≤ (s.pout n).widS then (s.pout n).widOld else s.poWidth n

/-- Whether output `n` is PERIODIC. -/
def State.poPeriodic (s : State) (n : Nat) : Bool := s.flag PO_CTL_MODE n

/-- Whether the outputs are held at their inactive level (R69). -/
def State.poHeld (s : State) : Bool := s.safe || s.recovery

/-- The instant of an edge at the ball: the programmed one with the output's trim (R66), 2^-48 ns, a fraction of a unit going to
the later. -/
def State.poBall (s : State) (n t : Nat) : Int := t + -(-(signed 32 (s.fld PO_TRIM_TRIM n) * (2 ^ 48 : Int)) / 1000)

/-- The level of TOUT_n: its active level while a pulse is high, else its inactive level, low for POL 0 (R70). -/
def State.poLevel (s : State) (n : Nat) : Bool := (s.pout n).high.isSome != s.flag PO_CTL_POL n

/-- The edge that the output's level has just made leaves, `steps` from the present tick. -/
def State.poEdge (s : State) (n : Nat) (leading : Bool) (steps : Int) : State := s.emit (.pulse n leading (s.poLevel n) steps)

/-- A bit of PO_STATUS_n set, with the event of R156. -/
def State.poStatus (s : State) (f : Fld) (n : Nat) : State := s.statusEvent f n 24

/-- EN clears; BUSY reads 1 while a pulse is still high (R70). -/
def State.poStop (s : State) (n : Nat) : State :=
  ((s.clr PO_CTL_EN n).setFld PO_CTL_BUSY n (b2n (s.pout n).high.isSome)).setPout n { s.pout n with next := none }

/-- PO_NEXT_n follows the schedule. -/
def State.poSetNext (s : State) (n t : Nat) : State :=
  (s.setPout n { s.pout n with next := some t }).setFld PO_NEXT_TIME n (toTime128 t)

/-- The first instant t + k · p, k ≥ 0, at least 10 ns after `now`, and whether k > 0. -/
def firstFrom (t p now : Nat) : Nat × Bool :=
  if now + 10 * nsU ≤ t then (t, false) else (t + ceilDiv (now + 10 * nsU - t) p * p, true)

/-- The output arms from PO_START_n (R67). -/
def State.poArm (s : State) (n : Nat) : State :=
  let s := (s.set1 PO_CTL_EN n).setPout n { (s.pout n) with next := none, cnt := 0 }
  if s.poPeriodic n then
    let r := firstFrom (s.poStart n) (s.poPeriod n) s.ti.now
    (s.poSetNext n r.1).when r.2 (fun t => t.poStatus PO_STATUS_SKIPPED n)
  else if s.poStart n < s.ti.now + 10 * nsU then (s.poStatus PO_STATUS_MISSED n).poStop n
  else s.poSetNext n (s.poStart n)

/-- EN is cleared by a write (R70). -/
def State.poDisable (s : State) (n : Nat) : State := s.poStop n

/-- Whether output `n` has a leading edge whose instant at the ball has been reached. -/
def State.poLeadDue (s : State) (n : Nat) : Bool :=
  s.flag PO_CTL_EN n && (match (s.pout n).next with | some t => decide (s.poBall n t ≤ s.ti.now) | none => false)

/-- Whether output `n` has a trailing edge whose instant at the ball has been reached. -/
def State.poTrailDue (s : State) (n : Nat) : Bool :=
  match (s.pout n).high with | some t => decide (s.poBall n t ≤ s.ti.now) | none => false

/-- A leading edge falls due (R66, R67, R69): emitted, or held; it counts toward COUNT either way, and the next edge of a
periodic output follows. A retired output stays at its inactive level (R434). EN of a ONCE output clears at its one edge,
whatever COUNT holds (log entry 105). -/
def State.poLead (s : State) (n t : Nat) : State :=
  let held := s.poHeld
  let dead := s.retired 7 n
  let last := s.fld PO_CTL_COUNT n != 0 && (s.pout n).cnt + 1 ≥ s.fld PO_CTL_COUNT n
  let fin := last || !s.poPeriodic n
  let s1 :=
    if dead then s
    else if held then (s.poStatus PO_STATUS_HELD n).when (!s.poPeriodic n) (fun u => u.poStatus PO_STATUS_MISSED n)
    else ((s.setPout n { s.pout n with high := some (t + s.poWidthAt n t) }).rcAdd PO_EMITTED_COUNT n 1).poEdge n true
      (s.placeSteps (s.poBall n t))
  let s2 := s1.setPout n { s1.pout n with cnt := (s1.pout n).cnt + 1 }
  if fin then s2.poStop n else s2.poSetNext n (t + s2.poPeriod n)

/-- A trailing edge, `steps` from the present tick (R66, R70): the output returns to its inactive level. -/
def State.poEnd (s : State) (n : Nat) (steps : Int) : State :=
  ((s.setPout n { s.pout n with high := none }).clr PO_CTL_BUSY n).poEdge n false steps

/-- The trailing edge programmed for `t`. -/
def State.poTrail (s : State) (n t : Nat) : State := s.poEnd n (s.placeSteps (s.poBall n t))

/-- A high pulse ends at the instant of this tick, which no trim moves (R69). -/
def State.poCut (s : State) (n : Nat) : State := if (s.pout n).high.isSome then s.poEnd n 0 else s

/-- A hold of the outputs begins: every high pulse ends at this instant (R69). -/
def State.poHoldBegin (s : State) : State := (List.range 8).foldl State.poCut s

/-- After a step to the present time: the next leading edge is the first scheduled instant at least 10 ns later (R69). -/
def State.poStep1 (s : State) (n : Nat) : State :=
  let s := s.poCut n
  match (s.pout n).next with
  | none => s
  | some t =>
    if s.poPeriodic n then
      let base := if s.poStart n ≤ t then t - (t - s.poStart n) / s.poPeriod n * s.poPeriod n else t
      let t' := (firstFrom base (s.poPeriod n) s.ti.now).1
      (s.poSetNext n t').when (t < t') (fun u => u.poStatus PO_STATUS_SKIPPED n)
    else if t < s.ti.now + 10 * nsU then (s.poStatus PO_STATUS_MISSED n).poStop n
    else s

/-- Every output handles an applied step (R69). -/
def State.poStepped (s : State) : State := (List.range 8).foldl State.poStep1 s

/-- The new period or width of output `n` commits at the second just begun (R68). -/
def State.poRetime (s : State) (n : Nat) : State :=
  let perW := (s.dueShadow PO_PERIOD_PERIOD n).isSome
  let widW := (s.dueShadow PO_WIDTH_WIDTH n).isSome
  let oldP := s.poPeriod n
  let sec := s.boundary
  let s := s.when (perW || widW) (fun t => t.setPout n { t.pout n with widS := sec, widOld := t.poWidth n })
  let s := (s.commitDue PO_PERIOD_PERIOD n).commitDue PO_WIDTH_WIDTH n
  let s := s.when ((perW || widW) && decide (s.fld PO_WIDTH_WIDTH n * nsU > s.poPeriod n - 5 * nsU))
    (fun t => t.log CFG_RANGE .PO)
  match (s.pout n).next with
  | none => s
  | some t =>
    if perW ∧ s.poPeriodic n = true ∧ t > sec ∧ t ≥ s.poStart n + oldP then
      let base := t - oldP
      let r := firstFrom (base + s.poPeriod n) (s.poPeriod n) s.ti.now
      (s.poSetNext n r.1).when r.2 (fun u => u.poStatus PO_STATUS_SKIPPED n)
    else s

/-- The pulse outputs' part of an engine second (R68). -/
def State.poSecond (s : State) : State := (List.range 8).foldl State.poRetime s

/-- PULSE_ARM: EN of output `n` is set (R67). -/
def execPulseArm (n : Nat) (s : State) : Host.Outcome State Fault Refusal :=
  if n < 8 then .next (if s.flag PO_CTL_EN n then s else s.poArm n) else .fault .noSuchUnit

/-- PULSE_LEADING_EDGE (R66, R67, R69). -/
def execPulseLeadingEdge (n : Nat) (s : State) : Host.Outcome State Fault Refusal :=
  if n < 8 then
    .next (match (s.pout n).next with
      | some t => if s.poLeadDue n then s.poLead n t else s
      | none => s)
  else .fault .noSuchUnit

/-- PULSE_TRAILING_EDGE (R66, R70). -/
def execPulseTrailingEdge (n : Nat) (s : State) : Host.Outcome State Fault Refusal :=
  if n < 8 then
    .next (match (s.pout n).high with
      | some t => if s.poTrailDue n then s.poTrail n t else s
      | none => s)
  else .fault .noSuchUnit

/-- PULSE_DISABLE: EN of output `n` is cleared (R70). -/
def execPulseDisable (n : Nat) (s : State) : Host.Outcome State Fault Refusal :=
  if n < 8 then .next (if s.flag PO_CTL_EN n then s.poDisable n else s) else .fault .noSuchUnit

end Sys2Proof.Machine
end

