-- ==== Sys2Proof/Machine/EdgeMeas.lean ====
section
/-! DEFINITION. The edge-measurement block (R72 to R94). The LOSC commands, which act on the root too, are in Synth.lean. -/

namespace Sys2Proof.Machine

/-- TDC channel `n` beyond its registers. -/
def State.tdc (s : State) (n : Nat) : TmSt := smGet TmSt.init s.tm n
def State.setTdc (s : State) (n : Nat) (c : TmSt) : State := { s with tm := smSet TmSt.init s.tm n c }

/-- The age of the active table in us, saturating; all ones when none exists (TM_CAL_AGE_n). -/
def State.tmAge (s : State) (n : Nat) : Nat :=
  if (s.tdc n).hasTab then min 0xFFFFFFFF ((s.ti.elapsed - (s.tdc n).tabAt) / usU) else 0xFFFFFFFF

/-- Whether channel `n` is stale (R77). -/
def State.tmStale (s : State) (n : Nat) : Bool :=
  !(s.tdc n).hasTab || decide ((s.tdc n).tabAt + s.fld TM_CAL_CTL_STALE_MS 0 * msU < s.ti.elapsed)

/-- MODE with 3 treated as 0, and STOP_SEL and EDGE likewise. -/
def State.tmMode (s : State) (n : Nat) : Nat := s.fld TM_CH_CTL_MODE n % 3
def State.tmStopSel (s : State) (n : Nat) : Nat := s.fld TM_CH_CTL_STOP_SEL n % 3
def State.tmEdgeSel (s : State) (n : Nat) : Nat := s.fld TM_CH_CTL_EDGE n % 3

/-- Whether the channel's selected polarity takes an edge. -/
def State.tmSelected (s : State) (n : Nat) (falling : Bool) : Bool :=
  match s.tmEdgeSel n with
  | 0 => !falling
  | 1 => falling
  | _ => true

/-- N of the prescaler, 0 treated as 1 (R80). -/
def State.tmPrescale (s : State) (n : Nat) : Nat := max 1 (s.fld TM_PRESCALE_N n)

/-- The event record of R78 as 128 bits. -/
def tmRecord (ch edge : Nat) (ovf timeout stale dist : Bool) (wnc bound seq : Nat) : Nat :=
  seq % 2 ^ 32 + bound % 2 ^ 32 * 2 ^ 32 +
  (b2n ovf + 2 * b2n timeout + 4 * b2n stale + 8 * b2n dist + 64 * edge + 256 * ch + wnc % 2 ^ 16 * 2 ^ 16) * 2 ^ 64 +
  wnc / 2 ^ 16 % 2 ^ 32 * 2 ^ 96

/-- What a reader finds when no record is available (R71, R82). -/
def tmEmpty : Nat := 0xFF * 2 ^ 72

/-- The position of an edge after the tick's start, in units of 2^-26/1000 ns, before offset and trim: sample less the
mean of the four table positions (R72). On SAFE_OSC the delay lines are not used (R94). -/
def State.tmRaw (s : State) (n k : Nat) (c : List Nat) : Int :=
  if s.safe then 0
  else
    let sum := (c.zipIdx).foldl (fun a x => a + smGet 0 (s.tdc n).table (x.2 * 512 + x.1)) 0
    (((k % 4 + 1) * 1250 * 2 ^ 26 : Nat) : Int) - (sum : Int) * 1000

/-- The instant of an edge at its trimmed point after the tick's start, in units of 2^-26/1000 ns. -/
def State.tmT (s : State) (n : Nat) (raw : Int) : Int :=
  raw - signed 32 (s.fld TM_OFFSET_OFFSET n) * (1000 * 2 ^ 10) - signed 32 (s.fld TM_TRIM_TRIM n) * 2 ^ 26

/-- The elapsed time, 2^-48 ns, of an edge whose raw position is `raw`. -/
def State.tmEl (s : State) (n : Nat) (raw : Int) : Int :=
  if s.safe then s.ti.elapsed
  else (s.ti.elapsed : Int) + s.tmT n raw * (s.fld TC_INC_APPLIED_APPLIED 0 : Int) / (5000 * 2 ^ 26 : Int)

/-- The WNC48 of an edge whose raw position is `raw` (R72, R94). -/
def State.tmStamp (s : State) (n : Nat) (raw : Int) : Nat :=
  let w := wncOf s.ti.now
  if s.safe then w / 2 ^ 16 * 2 ^ 16
  else wrapTo 48 ((w : Int) + s.tmT n raw * (s.fld TC_INC_APPLIED_APPLIED 0 : Int) / (5000 * 2 ^ 58 : Int))

/-- The BOUND32 of a record of an edge (R73, R94, R21). -/
def State.tmBound (s : State) (n : Nat) : Nat :=
  if s.safe then addBound (addBound (s.fld BG_CURRENT_BOUND 0) 11200) (s.fld TM_TRIM_UNC_UNC n)
  else if s.tmStale n then 0xFFFFFFFF
  else addBound (addBound (s.fld BG_CURRENT_BOUND 0) 10) (s.fld TM_TRIM_UNC_UNC n)

/-- The BOUND32 of a record that stamps no edge but an instant with published bound `b` (R86, R88). -/
def State.tmBoundNoEdge (s : State) (n b : Nat) : Nat :=
  if !s.safe && s.tmStale n then 0xFFFFFFFF else b

/-- The CAL_STALE and DISTURBED flags of a record (R77, R78, R94). -/
def State.tmFlagStale (s : State) (n : Nat) : Bool := !s.safe && s.tmStale n
def State.tmFlagDist (s : State) : Bool := s.safe || s.flag TC_STATUS_DISTURBED 0

/-- A record is formed: its copy goes to RS or TW (R83), and it enters the FIFO or is lost (R81). -/
def State.tmForm (s : State) (n rec : Nat) : State :=
  let s := s.engEv (16 + n)
  let s := if n < 4 ∨ n = 10 then
      { s with tmb := { s.tmb with copies := smSet [] s.tmb.copies n (smGet [] s.tmb.copies n ++ [rec]) } }
    else s
  let c := s.tdc n
  if c.fifo.length < 256 then s.setTdc n { c with fifo := c.fifo ++ [rec], ovf := false }
  else (s.setTdc n { c with ovf := true }).rcAdd TM_LOST_COUNT n 1

/-- An edge of the warm-up estimator's source is counted in the window in progress (R92). -/
def State.warmEdge (s : State) (n : Nat) (raw : Int) : State :=
  match s.tmb.win with
  | some w =>
    if n = s.fld TM_LOSC_CTL_WARM_SRC 0 ∧ s.safe = false then
      let t := (s.tmb.root : Int) * (5000 * 2 ^ 26) + s.tmT n raw
      { s with tmb := { s.tmb with
          win := some { w with edges := w.edges + 1, first := if w.edges = 0 then t else w.first, last := t } } }
    else s
  | none => s

/-- An EDGE record (R78, R80). -/
def State.tmEdgeRec (s : State) (n : Nat) (falling : Bool) (raw : Int) : State :=
  let s := s.warmEdge n raw
  let c := s.tdc n
  let r := tmRecord n (b2n falling) c.ovf false (s.tmFlagStale n) s.tmFlagDist (s.tmStamp n raw) (s.tmBound n) c.seq
  (s.setTdc n { c with seq := (c.seq + 1) % 2 ^ 32 }).tmForm n r

/-- An interval opens, or its start is lost (R86). -/
def State.tmStart (s : State) (n : Nat) (falling : Bool) (raw : Int) : State :=
  let c := s.tdc n
  if c.fifo.length ≤ 254 then
    let w := s.tmStamp n raw
    let r := tmRecord n 2 c.ovf false (s.tmFlagStale n) s.tmFlagDist w (s.tmBound n) c.seq
    let o : TmOpen := { wnc := w, falling := falling, seq := c.seq,
                        until_ := s.tmEl n raw + (s.fld TM_TIMEOUT_NS n * nsU : Nat) }
    ((s.setTdc n { c with open_ := some o }).set1 TM_CH_STATUS_INTERVAL_OPEN n).tmForm n r
  else (s.setTdc n { c with ovf := true, seq := (c.seq + 1) % 2 ^ 32 }).rcAdd TM_LOST_COUNT n 1

/-- An open interval closes with a stop record (R86). -/
def State.tmClose (s : State) (n : Nat) (timeout stale dist : Bool) (wnc bound : Nat) : State :=
  let c := s.tdc n
  match c.open_ with
  | some o =>
    let r := tmRecord n 3 c.ovf timeout stale dist wnc bound o.seq
    ((s.setTdc n { c with open_ := none, seq := (o.seq + 1) % 2 ^ 32 }).clr TM_CH_STATUS_INTERVAL_OPEN n).tmForm n r
  | none => s

/-- The open interval of a channel whose timeout passed before elapsed time `e` closes with the start's WNC plus the timeout, and
with the bound and the flags of that instant (R86). -/
def State.tmExpire (s : State) (n : Nat) (e : Int) : State :=
  match (s.tdc n).open_ with
  | some o =>
    if o.until_ < e then
      let p := s.stampAt (s.ti.elapsed - o.until_.toNat)
      s.tmClose n true (s.tmFlagStale n) (p.safe || p.dist) ((o.wnc + s.fld TM_TIMEOUT_NS n * 2 ^ 16) % 2 ^ 48)
        (s.tmBoundNoEdge n p.bound)
    else s
  | none => s

/-- The open interval of a retired channel ends without a record: its records stop (R434). -/
def State.tmDrop (s : State) (n : Nat) : State :=
  let c := s.tdc n
  match c.open_ with
  | some o => (s.setTdc n { c with open_ := none, seq := (o.seq + 1) % 2 ^ 32 }).clr TM_CH_STATUS_INTERVAL_OPEN n
  | none => s

/-- An edge taken by channel `n` closes the open interval of channel `m`, unless its timeout came first (R85 to R87). -/
def State.tmStop (s : State) (m n : Nat) (raw : Int) : State :=
  (s.tmExpire m (s.tmEl n raw)).tmClose m false (s.tmFlagStale n) s.tmFlagDist (s.tmStamp n raw) (s.tmBound n)

/-- Whether channel `n` takes edges at all: enabled, not retired, not in offset calibration nor in the tick in which that ended;
channel 11 not while any channel calibrates its offset (R74, R89, R434). -/
def State.tmLive (s : State) (n : Nat) : Bool :=
  s.flag TM_CH_CTL_EN n && decide ((s.tdc n).liveAt ≤ s.ti.ticks) && !s.flag TM_CH_STATUS_OFS_CAL n && !s.retired 6 n &&
    !(n == 11 && (List.range 12).any (fun m => s.flag TM_CH_STATUS_OFS_CAL m))

/-- Whether an edge at this instant lies in the channel's dead time of 5.0 ns (R79). -/
def State.tmDead (s : State) (n : Nat) (inst : Int) : Bool :=
  match (s.tdc n).last with
  | some t => decide (inst < t + 5000 * 2 ^ 26)
  | none => false

/-- An edge inside the dead time (R79). -/
def State.tmLoseDead (s : State) (n : Nat) : State :=
  (s.setTdc n { s.tdc n with ovf := true }).rcAdd TM_DEAD_COUNT n 1

/-- The channel takes an edge: its dead time begins. -/
def State.tmTake (s : State) (n : Nat) (inst : Int) : State := s.setTdc n { s.tdc n with last := some inst }

/-- A taken edge counts toward the prescaler; whether it is one of those recorded (R80). -/
def State.tmPick (s : State) (n : Nat) : State × Bool :=
  let c := s.tdc n
  (s.setTdc n { c with presc := (c.presc + 1) % s.tmPrescale n }, c.presc % s.tmPrescale n == 0)

/-- An edge reaches channel `n` (R72, R79 to R87). -/
def State.tmEdge (s : State) (n : Nat) (falling : Bool) (k : Nat) (c : List Nat) : State :=
  if !s.tmLive n then s
  else
    let raw := s.tmRaw n k c
    let s := s.tmExpire n (s.tmEl n raw)
    let inst : Int := (s.ti.ticks : Int) * (5000 * 2 ^ 26) + raw
    let sel := s.tmSelected n falling
    match s.tmMode n with
    | 0 =>
      if !sel then s
      else if s.tmDead n inst then s.tmLoseDead n
      else
        let p := (s.tmTake n inst).tmPick n
        if p.2 then p.1.tmEdgeRec n falling raw else p.1
    | 1 =>
      match (s.tdc n).open_ with
      | some o =>
        let stops := (s.tmStopSel n == 0 && falling != o.falling) || (s.tmStopSel n == 1 && falling == o.falling)
        if (stops || sel) && s.tmDead n inst then s.tmLoseDead n
        else if stops then (s.tmTake n inst).tmStop n n raw
        else if sel then s.rcAdd TM_DEAD_COUNT n 1
        else s
      | none =>
        if !sel then s
        else if s.tmDead n inst then s.tmLoseDead n
        else
          let p := (s.tmTake n inst).tmPick n
          if p.2 then p.1.tmStart n falling raw else p.1
    | _ =>
      if !sel then s
      else if s.tmDead n inst then s.tmLoseDead n
      else (List.range 12).foldl (fun t m =>
        if t.tmMode m = 1 ∧ t.tmStopSel m = 2 ∧ t.fld TM_CH_CTL_STOP_CH m = n ∧ t.flag TM_CH_CTL_EN m = true
        then t.tmStop m n raw else t) (s.tmTake n inst)

/-! ### Offset calibration (R74) -/

/-- EN of the channel goes from 0 to 1. -/
def State.tmEnable (s : State) (n : Nat) : State :=
  let c := s.tdc n
  ((s.set1 TM_CH_CTL_EN n).set1 TM_CH_STATUS_OFS_CAL n).setTdc n
    { c with seq := 0, presc := 0, last := none,
             calFrom := if s.safe then none else some s.ti.elapsed }

/-- EN of the channel is cleared (R88). -/
def State.tmDisable (s : State) (n : Nat) : State :=
  let busy := (s.tdc n).open_.isSome
  let s := s.tmClose n true (s.tmFlagStale n) s.tmFlagDist (wncOf s.ti.now) (s.tmBoundNoEdge n (s.fld BG_CURRENT_BOUND 0))
  (((s.clr TM_CH_CTL_EN n).clr TM_CH_STATUS_OFS_CAL n).setTdc n { s.tdc n with calFrom := none }).setFld
    TM_CH_STATUS_BUSY n (b2n busy)

/-! ### Code-density calibration (R75 to R77) -/

/-- The histogram with one hit on each line. -/
def tmCount (h : List (Nat × Nat)) (c : List Nat) : List (Nat × Nat) :=
  (c.zipIdx).foldl (fun m x => smSet 0 m (x.2 * 512 + x.1) (smGet 0 m (x.2 * 512 + x.1) + 1)) h

/-- The positions of one line from its hit counts: 1,250 ps is 20,971,520 units of 2^-24 ns. DESIGN CHOICE: a width and its half
are truncated to that unit, which the spec does not say (log entry 110). -/
def tmLine (h : List (Nat × Nat)) (n j : Nat) : List (Nat × Nat) :=
  ((List.range 257).foldl (fun (a : Nat × List (Nat × Nat)) c =>
    let w := smGet 0 h (j * 512 + c) * 20971520 / n
    (a.1 + w, a.2 ++ [(j * 512 + c, a.1 + w / 2)])) (0, [])).2

/-- The distance between the positions of the first and the last code hit on a line. -/
def tmSpan (h tab : List (Nat × Nat)) (j : Nat) : Nat :=
  let ps := ((List.range 257).filter (fun c => smGet 0 h (j * 512 + c) != 0)).map (fun c => smGet 0 tab (j * 512 + c))
  ps.getLast?.getD 0 - ps.head?.getD 0

/-- A hit from the on-die source (R75). -/
def State.tmHit (s : State) (n : Nat) (c : List Nat) : State :=
  s.setTdc n { s.tdc n with hist := tmCount (s.tdc n).hist c, hits := (s.tdc n).hits + 1 }

/-- The histogram discarded. -/
def State.tmDropBuild (s : State) (n : Nat) : State := s.setTdc n { s.tdc n with hist := [], hits := 0 }

/-- Whether the table being built is complete (R75). -/
def State.tmComplete (s : State) (n : Nat) : Bool := (s.tdc n).hits ≥ 2 ^ s.fld TM_CAL_CTL_HITS_LOG2 0

/-- The new table, and whether it spans 1,200 ps on each line (R427 TDC_CAL_FAIL): 1,200 ps is 20,132,659.2 units. -/
def State.tmBuilt (s : State) (n : Nat) : List (Nat × Nat) :=
  let c := s.tdc n
  tmLine c.hist c.hits 0 ++ tmLine c.hist c.hits 1 ++ tmLine c.hist c.hits 2 ++ tmLine c.hist c.hits 3
def State.tmSpanOk (s : State) (n : Nat) : Bool :=
  (List.range 4).all (fun j => tmSpan (s.tdc n).hist (s.tmBuilt n) j ≥ 20132660)

/-- The completed table waits for the next tick; a new one is begun (R75, R76). -/
def State.tmSwap (s : State) (n : Nat) : State :=
  s.setTdc n { s.tdc n with newTab := some (s.tmBuilt n), tabAt := s.ti.elapsed, hist := [], hits := 0 }

/-- CAL_STALE follows the age of a channel's table (R77). -/
def State.tmStaleShow (s : State) (n : Nat) : State := s.setFld TM_CH_STATUS_CAL_STALE n (b2n (s.tmStale n))

/-- At a tick a table that waits becomes the active one (R76). -/
def State.tmSwap1 (s : State) (n : Nat) : State :=
  match (s.tdc n).newTab with
  | some t => (s.setTdc n { s.tdc n with table := t, hasTab := true, newTab := none }).tmStaleShow n
  | none => s
def State.tmSwaps (s : State) : State := (List.range 12).foldl State.tmSwap1 s

/-- HITS_LOG2 commits; another value discards every table being built (R77). -/
def State.tmHitsCommit (s : State) : State :=
  let old := s.fld TM_CAL_CTL_HITS_LOG2 0
  let s := s.commit TM_CAL_CTL_HITS_LOG2 0
  if s.fld TM_CAL_CTL_HITS_LOG2 0 = old then s else (List.range 12).foldl State.tmDropBuild s

/-! ### The safe oscillator (R74, R94) -/

/-- The core clocks switch to SAFE_OSC: tables and histograms are discarded and offset runs abandoned. -/
def State.tmSafeBegin (s : State) : State :=
  (List.range 12).foldl (fun t n =>
    (t.setTdc n { t.tdc n with hist := [], hits := 0, table := [], hasTab := false, newTab := none,
                                  calFrom := none }).set1
      TM_CH_STATUS_CAL_STALE n) s

/-- The core clocks return to the root: waiting offset runs start. -/
def State.tmRootReturn (s : State) : State :=
  (List.range 12).foldl (fun t n =>
    if t.flag TM_CH_STATUS_OFS_CAL n then t.setTdc n { t.tdc n with calFrom := some t.ti.elapsed } else t) s

/-! ### The FIFO's reader (R82) -/

/-- The head record of channel `n`, or the empty value. -/
def State.tmHead (s : State) (n : Nat) : Nat := (s.tdc n).fifo.head?.getD tmEmpty

/-- Whether an access is the reader's: a port access with READER 0 or 3, a matrix access with READER 1. -/
def State.tmIsReader (s : State) (n : Nat) (port : Bool) : Bool :=
  if port then s.fld TM_CH_CTL_READER n % 3 == 0 else s.fld TM_CH_CTL_READER n == 1

/-- The oldest record removed. -/
def State.tmPop (s : State) (n : Nat) : State := s.setTdc n { s.tdc n with fifo := (s.tdc n).fifo.tail }

/-! ### Commands -/

/-- INTERVAL_TIMEOUT (R86). -/
def execIntervalTimeout (n : Nat) (s : State) : Host.Outcome State Fault Refusal :=
  if n < 12 then .next (s.tmExpire n (s.ti.elapsed + 1)) else .fault .noSuchUnit

/-- TM_CHANNEL_ENABLE (R74, R80). -/
def execTmChannelEnable (n : Nat) (s : State) : Host.Outcome State Fault Refusal :=
  if n < 12 then .next (if s.flag TM_CH_CTL_EN n then s else s.tmEnable n) else .fault .noSuchUnit

/-- TM_CHANNEL_DISABLE (R88). -/
def execTmChannelDisable (n : Nat) (s : State) : Host.Outcome State Fault Refusal :=
  if n < 12 then .next (if s.flag TM_CH_CTL_EN n then s.tmDisable n else s) else .fault .noSuchUnit

/-- OFFSET_CAL_DONE: the run of 10 ms ends with the mean difference measured (R74). -/
def execOffsetCalDone (n offset : Nat) (s : State) : Host.Outcome State Fault Refusal :=
  if n < 12 then
    .next (match (s.tdc n).calFrom with
      | some t =>
        if s.flag TM_CH_STATUS_OFS_CAL n = true ∧ s.safe = false ∧ t + 10 * msU ≤ s.ti.elapsed then
          ((s.setFld TM_OFFSET_OFFSET n offset).clr TM_CH_STATUS_OFS_CAL n).setTdc n { s.tdc n with
            calFrom := none, liveAt := s.ti.ticks + 1 }
        else s
      | none => s)
  else .fault .noSuchUnit

/-- CAL_HIT: one hit with its four codes; `near` says that an input edge of the channel lies within 5.0 ns (R75). -/
def execCalHit (n c0 c1 c2 c3 : Nat) (near : Bool) (s : State) : Host.Outcome State Fault Refusal :=
  if n < 12 ∧ c0 ≤ 256 ∧ c1 ≤ 256 ∧ c2 ≤ 256 ∧ c3 ≤ 256 then
    .next (if s.safe ∨ near = true ∨ s.tmComplete n = true then s else s.tmHit n [c0, c1, c2, c3])
  else .fault .noSuchUnit

/-- CAL_STALE (R77). -/
def execCalStale (n : Nat) (s : State) : Host.Outcome State Fault Refusal :=
  if n < 12 then .next (s.tmStaleShow n) else .fault .noSuchUnit

/-- EVENT_DMA_POST: the oldest record of a READER 2 channel goes to the event DMA's staging ring 51, when it has room
(R84, R404). -/
def execEventDmaPost (n : Nat) (s : State) : Host.Outcome State Fault Refusal :=
  if n < 12 then
    .next (match (s.tdc n).fifo with
      | r :: _ =>
        if s.fld TM_CH_CTL_READER n = 2 ∧ s.ringRoom 51 = true then
          (s.ringProduce 51 (mkDesc 0x02 (bits r 70 2 + 4 * bits r 64 4) 0 (s.ringSeq 51) 0 0 (bits r 96 32)
            (bits r 80 16 * 2 ^ 16 + n) (bits r 32 32) (bits r 0 32))).tmPop n
        else s.when (s.fld TM_CH_CTL_READER n == 2 && s.ringOn 51 && s.ringFull 51) (fun t => t.set1 RG_STATUS_FULL 51)
      | [] => s)
  else .fault .noSuchUnit

/-- The edge that the loop generator emits reaches channel 11, sampled on CLK800 cycle `k` with line codes `c` (R89). -/
def State.loopEdge (s : State) (k : Nat) (c : List Nat) : State :=
  match s.tmb.loopNext with
  | some t =>
    if s.flag TM_LOOP_CTL_EN 0 = true ∧ t ≤ s.ti.ticks then
      ({ s with tmb := { s.tmb with
          loopNext := some (t + s.fld TM_LOOP_CTL_PERIOD 0),
          phase := (s.tmb.phase + s.fld TM_LOOP_CTL_PHASE_STEP 0) % 4096 } }.emit (.ball 0 s.tmb.phase)).tmEdge 11 false k c
    else s
  | none => s

/-- LOOP_EDGE: the loop generator's next edge (R89). -/
def execLoopEdge (k c0 c1 c2 c3 : Nat) (s : State) : Host.Outcome State Fault Refusal :=
  if k < 4 ∧ c0 ≤ 256 ∧ c1 ≤ 256 ∧ c2 ≤ 256 ∧ c3 ≤ 256 then .next (s.loopEdge k [c0, c1, c2, c3]) else .fault .noSuchUnit

/-- A signed value kept to 32 bits, saturating. -/
def satS32 (v : Int) : Int := max (-2 ^ 31) (min (2 ^ 31 - 1) v)

/-- 1 s and 64 s of the count of root cycles at its nominal rate: in 2^-26 ps, and in ticks of 32 cycles (R92). -/
def warmSec : Nat := 10 ^ 12 * 2 ^ 26
def warmLen : Nat := 64 * 200000000

/-- y = (n − 1) T / D − 1 of `n` edges that span `d` (2^-26 ps), as a fraction, with T the nearest of 1/k s to the mean spacing;
none when the window is not counted (R92). -/
def warmY (n d : Nat) : Option (Int × Nat) :=
  if n < 2 ∨ d = 0 then none
  else
    let dist := fun k => ((warmSec * (n - 1) : Nat) : Int) - (d * k : Nat)
    let best := (List.range 10).foldl (fun b i =>
      if (dist (i + 1)).natAbs * b < (dist b).natAbs * (i + 1) then i + 1 else b) 1
    if (dist best).natAbs * 10 > warmSec * (n - 1) then none else some (dist best, d * best)

/-- A counted window has y_k = `y` in 1e-15: TM_WARM_FREQ, and the test of R92. -/
def State.warmTake (s : State) (y : Int) : State :=
  let t := s.setFld TM_WARM_FREQ_Y 0 (wrapTo 32 (satS32 y))
  match s.tmb.warmY with
  | none => { t with tmb := { t.tmb with warmY := some y } }
  | some y0 =>
    let pass := (y - y0).natAbs < s.fld TM_LOSC_CTL_WARM_THRESH 0 * 1000
    let run := if pass then s.tmb.warmRun + 1 else 0
    { t.setFld TM_LOSC_STATUS_WARM_EST 0
        (b2n (pass && (run ≥ s.fld TM_LOSC_CTL_WARM_COUNT 0 || s.flag TM_LOSC_STATUS_WARM_EST 0))) with
      tmb := { t.tmb with warmY := some y, warmRun := run } }

/-- The window in progress ends when the count has passed its 64 s, and the next begins (R92). The rounding of y_k to whole 1e-15 is
open (log entry 3). -/
def State.warmEnd (s : State) : State :=
  match s.tmb.win with
  | some w =>
    if w.from_ + warmLen ≤ s.tmb.root then
      let t := { s with tmb := { s.tmb with win := some { from_ := w.from_ + warmLen, edges := 0, first := 0, last := 0, lost := false } } }
      match (if w.lost then none else warmY w.edges (w.last - w.first).toNat) with
      | some y =>
        let q := t.quot (y.1 * 10 ^ 15) y.2
        q.2.warmTake q.1
      | none => t
    else s
  | none => s

/-- WARM_WINDOW_END (R92). -/
def execWarmWindowEnd (s : State) : Host.Outcome State Fault Refusal := .next s.warmEnd

/-- A tick of the estimator (R92): the count advances by 32 cycles while the root is locked and clocks the core; the first window
begins on the first such tick, or after a change of WARM_SRC. -/
def State.warmTick (s : State) : State :=
  if s.flag SY_ROOT_STATUS_LOCKED 0 = true ∧ s.safe = false then
    let w := s.tmb.win.getD { from_ := s.tmb.root, edges := 0, first := 0, last := 0, lost := false }
    { s with tmb := { s.tmb with root := s.tmb.root + 1, win := some w } }
  else s

/-- The root has lost lock during the window in progress (R92). -/
def State.warmLost (s : State) : State :=
  { s with tmb := { s.tmb with win := s.tmb.win.map (fun w => { w with lost := true }) } }

/-- WARM under WARM_SEL (R93). -/
def State.warm (s : State) : Bool :=
  let pin := s.tmb.ready != s.flag TM_LOSC_CTL_READY_POL 0
  match s.fld TM_LOSC_CTL_WARM_SEL 0 with
  | 0 => pin
  | 1 => s.flag TM_LOSC_STATUS_WARM_EST 0
  | _ => pin && s.flag TM_LOSC_STATUS_WARM_EST 0

end Sys2Proof.Machine
end

