-- ==== Sys2Proof/Machine/Flags.lean ====
section
/-! DEFINITION. The sequencers' flags (R185, R186) and the arithmetic that sets them (R188 to R192), on plain words. -/

namespace Sys2Proof.Machine

/-- A result with the flags it sets: Z and N when `zn`, C and V when given. -/
structure Alu where
  res : Word
  zn  : Bool
  c   : Option Bool
  v   : Option Bool
  deriving DecidableEq, Repr

/-- A logical result: Z and N alone (R188). -/
def aluZN (r : Word) : Alu := { res := r, zn := true, c := none, v := none }

/-- a + b + carry: the carry out of bit 31 and the signed overflow (R185, R188). -/
def aluAdd (a b : Word) (cin : Bool) : Alu :=
  let k := b2n cin
  let sum := a.toInt + b.toInt + k
  { res := a + b + BitVec.ofNat 32 k, zn := true, c := some (decide (2 ^ 32 ≤ a.toNat + b.toNat + k)),
    v := some (decide (sum < -2 ^ 31 ∨ 2 ^ 31 ≤ sum)) }

/-- a − b − (1 − carry): C is 1 when there is no borrow (R185, R188). -/
def aluSub (a b : Word) (cin : Bool) : Alu :=
  let k := 1 - b2n cin
  let dif := a.toInt - b.toInt - k
  { res := a - b - BitVec.ofNat 32 k, zn := true, c := some (decide (b.toNat + k ≤ a.toNat)),
    v := some (decide (dif < -2 ^ 31 ∨ 2 ^ 31 ≤ dif)) }

/-- Shifts by an amount of 0 to 63 (R189). -/
def aluShl (a : Word) (k : Nat) : Alu :=
  { res := a <<< k, zn := true, c := if k = 0 then none else some (k ≤ 32 && a.getLsbD (32 - k)), v := none }
def aluShr (a : Word) (k : Nat) : Alu :=
  { res := a >>> k, zn := true, c := if k = 0 then none else some (a.getLsbD (k - 1)), v := none }
def aluAsr (a : Word) (k : Nat) : Alu :=
  { res := a.sshiftRight k, zn := true, c := if k = 0 then none else some (if k ≤ 32 then a.getLsbD (k - 1) else a.msb),
    v := none }

/-- Minima and maxima (R188). -/
def minS (a b : Word) : Word := if a.slt b then a else b
def maxS (a b : Word) : Word := if a.slt b then b else a
def minU (a b : Word) : Word := if a.ult b then a else b
def maxU (a b : Word) : Word := if a.ult b then b else a

/-- The high halves of products (R188). -/
def mulHiS (a b : Word) : Word := BitVec.ofInt 32 (a.toInt * b.toInt / 2 ^ 32)
def mulHiU (a b : Word) : Word := BitVec.ofNat 32 (a.toNat * b.toNat / 2 ^ 32)

/-- Leading zero bits (R188). -/
def clz (a : Word) : Nat := ((List.range 32).reverse.takeWhile (fun i => !a.getLsbD i)).length

/-- Whether a branch with condition code `k` is taken (R186); code 15 is not a condition. -/
def condHolds (k : Nat) (z n c v : Bool) : Bool :=
  match k with
  | 0 => true
  | 1 => z
  | 2 => !z
  | 3 => n
  | 4 => !n
  | 5 => c
  | 6 => !c
  | 7 => v
  | 8 => !v
  | 9 => c && !z
  | 10 => !c || z
  | 11 => n == v
  | 12 => n != v
  | 13 => !z && n == v
  | 14 => z || n != v
  | _ => false

/-- An accumulator kept to −2^95 to 2^95 − 1, and whether it saturated (R191). -/
def satAcc (x : Int) : Int × Bool :=
  if x > 2 ^ 95 - 1 then (2 ^ 95 - 1, true) else if x < -2 ^ 95 then (-2 ^ 95, true) else (x, false)

/-- A value kept to signed 32 bits, and whether it saturated (R192, R194). -/
def sat32 (x : Int) : Word × Bool :=
  if x > 2 ^ 31 - 1 then (0x7FFFFFFF, true) else if x < -2 ^ 31 then (0x80000000, true) else (BitVec.ofInt 32 x, false)

/-- The scaled accumulator of accrd before saturation (R192). -/
def accScale (x : Int) (sh : Nat) (round : Bool) : Int :=
  (if round && sh > 0 then x + 2 ^ (sh - 1) else x) / 2 ^ sh

/-- Word `k` of an accumulator's 96 bits, and the accumulator with that word replaced (R191). -/
def accWord (x : Int) (k : Nat) : Word := BitVec.ofNat 32 (bits (wrapTo 96 x) (32 * k) 32)
def accPut (x : Int) (k : Nat) (w : Word) : Int :=
  let u := wrapTo 96 x
  signed 96 (u - bits u (32 * k) 32 * 2 ^ (32 * k) + w.toNat * 2 ^ (32 * k))

end Sys2Proof.Machine
end

