-- ==== Sys2Proof/Machine/Operands.lean ====
section
/-! DEFINITION. The sequencers' instruction words (R180 to R183, R187): the opcode map as a table, the decoding of the word
at PC, and every operand form. -/

namespace Sys2Proof.Machine

/-- The sequencer instructions, by the names of chapter 8. -/
inductive SeqOp where
  | add | sub | and_ | or_ | xor_ | shl | shr | asr | min_ | max_ | minu | maxu | mul | mulhs | mulhu | clz | addc | subc
  | addi | subi | andi | ori | xori | ldi | shli | shri | asri
  | macs | macu | msbs | msbu | clracc | accmov | accset | accadd | accw | accwr | accrd
  | tnow | taddn | tmov | tadd | taddf | tdifn | tdiff | tcmp | tsec | tsech | tns | tfrac | twnc | tset | tseth | textw
  | waitt | arm | disarm | waite | in_ | out | sacq | srel | kstage | kcommit | kinval | kstat | rpush | rpop | rdcnt
  | ldw | ldh | ldhu | ldb | ldbu | stw | sth | stb | ldt | stt | mldw | mstw | mldt | mstt
  | bif | call | jr | callr | ret | trap | nop | rfe | halt | fence
  deriving DecidableEq, Repr

/-- What a register field names: nothing (it must be zero), a value register, a time register, an accumulator, a condition. -/
inductive Field where
  | zero | v | t | acc | cond
  deriving DecidableEq, Repr

/-- One row of the opcode map (R187): the opcode, the IMM bits that are free (`mask`) and the value of the others (`fn`),
what D, A and B name, whether D, A and B are written, and whether it may be extended. -/
structure OpRow where
  m    : SeqOp
  op   : Nat
  fn   : Nat
  mask : Nat
  d    : Field
  a    : Field
  b    : Field
  ext  : Bool
  deriving DecidableEq, Repr

/-- Opcode 0x00 (R188). -/
def rowsAlu : List OpRow := [
  ⟨.add, 0, 0x000, 0, .v, .v, .v, false⟩, ⟨.sub, 0, 0x001, 0, .v, .v, .v, false⟩, ⟨.and_, 0, 0x002, 0, .v, .v, .v, false⟩,
  ⟨.or_, 0, 0x003, 0, .v, .v, .v, false⟩, ⟨.xor_, 0, 0x004, 0, .v, .v, .v, false⟩, ⟨.shl, 0, 0x005, 0, .v, .v, .v, false⟩,
  ⟨.shr, 0, 0x006, 0, .v, .v, .v, false⟩, ⟨.asr, 0, 0x007, 0, .v, .v, .v, false⟩, ⟨.min_, 0, 0x008, 0, .v, .v, .v, false⟩,
  ⟨.max_, 0, 0x009, 0, .v, .v, .v, false⟩, ⟨.minu, 0, 0x00A, 0, .v, .v, .v, false⟩, ⟨.maxu, 0, 0x00B, 0, .v, .v, .v, false⟩,
  ⟨.mul, 0, 0x00C, 0, .v, .v, .v, false⟩, ⟨.mulhs, 0, 0x00D, 0, .v, .v, .v, false⟩, ⟨.mulhu, 0, 0x00E, 0, .v, .v, .v, false⟩,
  ⟨.clz, 0, 0x00F, 0, .v, .v, .zero, false⟩, ⟨.addc, 0, 0x010, 0, .v, .v, .v, false⟩, ⟨.subc, 0, 0x011, 0, .v, .v, .v, false⟩]

/-- The immediate forms (R189, R190). -/
def rowsImm : List OpRow := [
  ⟨.addi, 1, 0, 0x3FFF, .v, .v, .zero, true⟩, ⟨.subi, 2, 0, 0x3FFF, .v, .v, .zero, true⟩, ⟨.andi, 3, 0, 0x3FFF, .v, .v, .zero, true⟩,
  ⟨.ori, 4, 0, 0x3FFF, .v, .v, .zero, true⟩, ⟨.xori, 5, 0, 0x3FFF, .v, .v, .zero, true⟩, ⟨.shli, 6, 0, 0x1F, .v, .v, .zero, false⟩,
  ⟨.shri, 7, 0, 0x1F, .v, .v, .zero, false⟩, ⟨.asri, 8, 0, 0x1F, .v, .v, .zero, false⟩, ⟨.ldi, 9, 0, 0x3FFF, .v, .zero, .zero, true⟩]

/-- The accumulators (R191, R192). -/
def rowsAcc : List OpRow := [
  ⟨.macs, 0xC, 0, 0, .acc, .v, .v, false⟩, ⟨.macu, 0xC, 1, 0, .acc, .v, .v, false⟩, ⟨.msbs, 0xC, 2, 0, .acc, .v, .v, false⟩,
  ⟨.msbu, 0xC, 3, 0, .acc, .v, .v, false⟩, ⟨.clracc, 0xC, 4, 0, .acc, .zero, .zero, false⟩, ⟨.accmov, 0xC, 5, 0, .acc, .acc, .zero, false⟩,
  ⟨.accset, 0xE, 0, 0x3F, .acc, .v, .zero, false⟩, ⟨.accadd, 0xE, 0x40, 0x3F, .acc, .v, .zero, false⟩,
  ⟨.accw, 0xF, 0, 3, .v, .acc, .zero, false⟩, ⟨.accwr, 0xF, 4, 3, .acc, .v, .zero, false⟩, ⟨.accrd, 0xD, 0, 0xFF, .v, .acc, .zero, false⟩]

/-- Time (R193 to R196) and waiting on events. -/
def rowsTime : List OpRow := [
  ⟨.tnow, 0x10, 0, 0, .t, .zero, .zero, false⟩, ⟨.taddn, 0x11, 0, 0x3FFF, .t, .t, .zero, true⟩, ⟨.tmov, 0x12, 0, 0, .t, .t, .zero, false⟩,
  ⟨.tadd, 0x12, 1, 0, .t, .t, .v, false⟩, ⟨.taddf, 0x12, 2, 0, .t, .t, .v, false⟩, ⟨.tdifn, 0x12, 3, 0, .v, .t, .t, false⟩,
  ⟨.tdiff, 0x12, 4, 0, .v, .t, .t, false⟩, ⟨.tcmp, 0x12, 5, 0, .zero, .t, .t, false⟩, ⟨.tsec, 0x12, 6, 0, .v, .t, .zero, false⟩,
  ⟨.tsech, 0x12, 7, 0, .v, .t, .zero, false⟩, ⟨.tns, 0x12, 8, 0, .v, .t, .zero, false⟩, ⟨.tfrac, 0x12, 9, 0, .v, .t, .zero, false⟩,
  ⟨.twnc, 0x12, 0xA, 0, .v, .t, .zero, false⟩, ⟨.tset, 0x12, 0xB, 0, .t, .v, .v, false⟩, ⟨.tseth, 0x12, 0xC, 0, .t, .v, .zero, false⟩,
  ⟨.textw, 0x12, 0xD, 0, .t, .t, .v, false⟩, ⟨.waitt, 0x13, 0, 0, .zero, .t, .zero, false⟩, ⟨.arm, 0x14, 0, 0, .zero, .t, .zero, false⟩,
  ⟨.disarm, 0x14, 1, 0, .zero, .t, .zero, false⟩, ⟨.waite, 0x15, 0, 0x3FFF, .v, .zero, .zero, true⟩]

/-- Ports, semaphores, keys, rings, counters (R197, R198, R201 to R203). -/
def rowsPort : List OpRow := [
  ⟨.in_, 0x18, 0, 0xFFF, .v, .v, .zero, false⟩, ⟨.out, 0x19, 0, 0xFFF, .zero, .v, .v, false⟩, ⟨.sacq, 0x1A, 0, 0x1F, .v, .zero, .zero, false⟩,
  ⟨.srel, 0x1A, 0x2000, 0x1F, .zero, .zero, .zero, false⟩, ⟨.kstage, 0x1C, 0, 0, .zero, .v, .v, false⟩, ⟨.kcommit, 0x1C, 1, 0, .zero, .zero, .zero, false⟩,
  ⟨.kinval, 0x1C, 2, 0, .zero, .v, .zero, false⟩, ⟨.kstat, 0x1C, 3, 0, .v, .v, .zero, false⟩, ⟨.rpush, 0x1D, 0, 0, .v, .v, .v, false⟩,
  ⟨.rpop, 0x1D, 1, 0, .v, .v, .v, false⟩, ⟨.rdcnt, 0x1E, 0, 0x3FFF, .v, .zero, .zero, false⟩]

/-- Data RAM and matrix (R199, R200). -/
def rowsMem : List OpRow := [
  ⟨.ldw, 0x20, 0, 0x3FFF, .v, .v, .zero, true⟩, ⟨.ldh, 0x21, 0, 0x3FFF, .v, .v, .zero, true⟩, ⟨.ldhu, 0x22, 0, 0x3FFF, .v, .v, .zero, true⟩,
  ⟨.ldb, 0x23, 0, 0x3FFF, .v, .v, .zero, true⟩, ⟨.ldbu, 0x24, 0, 0x3FFF, .v, .v, .zero, true⟩, ⟨.stw, 0x25, 0, 0x3FFF, .zero, .v, .v, true⟩,
  ⟨.sth, 0x26, 0, 0x3FFF, .zero, .v, .v, true⟩, ⟨.stb, 0x27, 0, 0x3FFF, .zero, .v, .v, true⟩, ⟨.ldt, 0x28, 0, 0x3FFF, .t, .v, .zero, true⟩,
  ⟨.stt, 0x29, 0, 0x3FFF, .zero, .v, .t, true⟩, ⟨.mldw, 0x2A, 0, 0x3FFF, .v, .v, .v, true⟩, ⟨.mstw, 0x2B, 0, 0x3FFF, .v, .v, .v, true⟩,
  ⟨.mldt, 0x2C, 0, 0x3FFF, .t, .v, .v, true⟩, ⟨.mstt, 0x2D, 0, 0x3FFF, .t, .v, .v, true⟩]

/-- Control transfer and system functions (R204 to R206). -/
def rowsFlow : List OpRow := [
  ⟨.bif, 0x30, 0, 0x3FFF, .cond, .zero, .zero, false⟩, ⟨.call, 0x31, 0, 0x3FFF, .zero, .zero, .zero, false⟩, ⟨.trap, 0x32, 0, 0xFF, .zero, .zero, .zero, false⟩,
  ⟨.nop, 0x3E, 0, 0, .zero, .zero, .zero, false⟩, ⟨.jr, 0x3E, 1, 0, .zero, .v, .zero, false⟩, ⟨.callr, 0x3E, 2, 0, .zero, .v, .zero, false⟩,
  ⟨.ret, 0x3E, 3, 0, .zero, .zero, .zero, false⟩, ⟨.rfe, 0x3E, 4, 0, .zero, .zero, .zero, false⟩, ⟨.halt, 0x3E, 5, 0, .zero, .zero, .zero, false⟩,
  ⟨.fence, 0x3E, 6, 0, .zero, .zero, .zero, false⟩]

/-- The whole opcode map. -/
def opRows : List OpRow := rowsAlu ++ rowsImm ++ rowsAcc ++ rowsTime ++ rowsPort ++ rowsMem ++ rowsFlow

/-- A decoded instruction: its row, its fields, the extension word when it has one. -/
structure Ins where
  row : OpRow
  d   : Nat
  a   : Nat
  b   : Nat
  imm : Nat
  ext : Option Word
  deriving DecidableEq, Repr

/-- Whether a register field obeys R181. -/
def Field.ok (f : Field) (x : Nat) : Bool :=
  match f with
  | .zero => x == 0
  | .v => true
  | .t => x < 4
  | .acc => x < 4
  | .cond => x != 15

/-- The further encoding checks: k of accw and accwr, sh of accrd, the banks of rdcnt, the mask of waite (R191, R192, R203,
R158). -/
def immOk (m : SeqOp) (imm : Nat) (ext : Option Word) : Bool :=
  match m with
  | .accw => imm % 4 != 3
  | .accwr => imm % 4 != 3
  | .accrd => imm % 128 ≤ 95
  | .rdcnt =>
    match imm / 4096 with
    | 0 => imm % 4096 < 2
    | 1 => imm % 4096 < 16
    | 2 => imm % 4096 < 256
    | _ => imm % 4096 < 128
  | .waite => (match ext with | some e => e != 0 | none => imm != 0)
  | _ => true

/-- The fields obey the row. -/
def Ins.ok (i : Ins) : Bool :=
  i.row.d.ok i.d && i.row.a.ok i.a && i.row.b.ok i.b && immOk i.row.m i.imm i.ext

/-- The instruction of a word and the word after it; none for everything that raises ILLEGAL by its encoding (R181, R183,
R187). -/
def decodeIns (w e : Nat) : Option Ins :=
  let op := bits w 26 6
  let ins := fun (r : OpRow) (imm : Nat) (x : Option Word) =>
    let i : Ins := { row := r, d := bits w 22 4, a := bits w 18 4, b := bits w 14 4, imm := imm, ext := x }
    if i.ok then some i else none
  if op = 0x3F then
    if bits w 0 8 ≠ 0 then none
    else
      match opRows.find? (fun r => r.op == bits w 8 6 && r.ext) with
      | some r => ins r 0 (some (BitVec.ofNat 32 e))
      | none => none
  else
    match opRows.find? (fun r => r.op == op && bits w 0 14 - (bits w 0 14 &&& r.mask) == r.fn) with
    | some r => ins r (bits w 0 14) none
    | none => none

/-- The bytes an instruction takes. -/
def Ins.len (i : Ins) : Nat := if i.ext.isSome then 8 else 4

/-- The S and Z immediates (R182, R183). -/
def Ins.simm (i : Ins) : Word := i.ext.getD (BitVec.ofInt 32 (signed 14 i.imm))
def Ins.zimm (i : Ins) : Word := i.ext.getD (BitVec.ofNat 32 i.imm)

/-! ### Registers of a sequencer (R150) -/

/-- v`i`; v0 reads as zero. -/
def Seqr.rv (q : Seqr) (i : Nat) : Word := if i = 0 then 0 else BitVec.ofNat 32 (smGet 0 q.v i)

/-- v`i` written; a write to v0 is discarded. -/
def Seqr.wv (q : Seqr) (i : Nat) (w : Word) : Seqr := if i = 0 then q else { q with v := smSet 0 q.v i w.toNat }

/-- t`i` and acc`i`. -/
def Seqr.rt (q : Seqr) (i : Nat) : Nat := smGet 0 q.t i
def Seqr.wt (q : Seqr) (i x : Nat) : Seqr := { q with t := smSet 0 q.t i (x % 2 ^ 128) }
def Seqr.ra (q : Seqr) (i : Nat) : Int := smGet 0 q.acc i
def Seqr.wa (q : Seqr) (i : Nat) (x : Int) : Seqr := { q with acc := smSet 0 q.acc i x }

/-- A result with its flags written to v`i`. -/
def Seqr.alu (q : Seqr) (i : Nat) (r : Alu) : Seqr :=
  let q := if r.zn then { q with zf := r.res == 0, nf := r.res.msb } else q
  { q with cf := r.c.getD q.cf, vf := r.v.getD q.vf }.wv i r.res

/-- V set. -/
def Seqr.setVf (q : Seqr) (v : Bool) : Seqr := { q with vf := v }

/-- Whether a matrix load to v`i`, or to t`i`, is outstanding (R167). -/
def Seqr.vPend (q : Seqr) (i : Nat) : Bool := q.txns.any (fun t => !t.store && !t.wide && t.dest == i && i != 0)
def Seqr.tPend (q : Seqr) (i : Nat) : Bool := q.txns.any (fun t => !t.store && t.wide && t.dest == i)
def Field.pend (f : Field) (q : Seqr) (i : Nat) : Bool :=
  match f with
  | .v => q.vPend i
  | .t => q.tPend i
  | _ => false

/-- Whether the instruction reads or writes a pending register. -/
def Ins.blocked (i : Ins) (q : Seqr) : Bool := i.row.d.pend q i.d || i.row.a.pend q i.a || i.row.b.pend q i.b

/-! ### Where a sequencer's words stand -/

/-- The base of sequencer `n`'s instruction RAM and data RAM windows (R165, R166). -/
def iramBase (n : Nat) : Nat := 0x60000000 + n * 0x20000
def dramBase (n : Nat) : Nat := iramBase n + 0x10000

/-- The word at `pc` that sequencer `n` fetches (R166, R180); sequencer 0 fetches the boot ROM before remap (R215). -/
def State.fetchWord (s : State) (n pc : Nat) : Nat :=
  let a := pc % 65536
  if n = 0 ∧ s.flag BM_REMAP_REMAP 0 = false then
    ofBytes [Config.bootRom a, Config.bootRom (a + 1), Config.bootRom (a + 2), Config.bootRom (a + 3)]
  else memNat s.mem (iramBase n + a) 4

/-- PC of sequencer `n`. -/
def State.pc (s : State) (n : Nat) : Nat := s.fld SQ_PC_PC n
def State.setPc (s : State) (n p : Nat) : State := s.setFld SQ_PC_PC n p

/-- The instruction at PC. -/
def State.insAt (s : State) (n : Nat) : Option Ins :=
  decodeIns (s.fetchWord n (s.pc n)) (s.fetchWord n (s.pc n + 4))

end Sys2Proof.Machine
end

