-- ==== Sys2Proof/Machine/Seq.lean ====
section
/-! DEFINITION. The event sequencers' shared operations (R150 to R177, R207, R208): events, semaphores, mailboxes, taking an
exception and returning from one, halting, resetting, and the issue of an instruction. -/

namespace Sys2Proof.Machine

/-- Register vD of a sequencer written. -/
def State.putV (s : State) (n d v : Nat) : State := s.setSeq n ((s.seq n).wv d (BitVec.ofNat 32 v))

/-! ### Semaphores and mailboxes (R170 to R173) -/

/-- Semaphore `k` as the present tick has it. -/
def State.semTk (s : State) (k : Nat) : SemTick :=
  (smGet none s.tk.sems k).getD
    { from_ := if s.flag SQ_SEM_HELD k then some (s.fld SQ_SEM_OWNER k) else none, ref := smGet none s.semRef k, asks := [] }

/-- The order of a tick's acquires: the host, then the sequencers from (tick count mod 8) upward (R172). -/
def State.semRank (s : State) (w : Nat) : Nat := if w = 8 then 0 else 1 + (w + 8 - s.ti.ticks % 8) % 8

/-- Who holds the semaphore, and what acquirer `w` reads (R171). -/
def SemTick.holder (e : SemTick) : Option Nat :=
  match e.from_ with
  | some h => some h
  | none => e.asks.head?.map (·.1)
def SemTick.reads (e : SemTick) (w : Nat) : Nat :=
  match e.holder with
  | some h => if h = w then 0 else 1 + 2 * h
  | none => 0

/-- An acquirer put in its place among those of the tick. -/
def State.semIns (s : State) (x : Nat × Option (Nat × Bool)) (l : List (Nat × Option (Nat × Bool))) : List (Nat × Option (Nat × Bool)) :=
  l.filter (fun y => s.semRank y.1 < s.semRank x.1) ++ x :: l.filter (fun y => s.semRank x.1 < s.semRank y.1)

/-- Acquirer `x` gets what `new` gives it where `old` gave it another answer or none; refusals are counted (R441). -/
def State.semAnswer (old new : SemTick) (s : State) (x : Nat × Option (Nat × Bool)) : State :=
  let was := if old.asks.any (fun y => y.1 == x.1) then some (old.reads x.1) else none
  let v := new.reads x.1
  match x.2 with
  | some (d, z) =>
    if was = some v then s
    else
      let q := (s.seq x.1).wv d (BitVec.ofNat 32 v)
      let s := s.setSeq x.1 (if z then { q with zf := v == 0 } else q)
      if v ≠ 0 then (if was.getD 0 = 0 then s.seqEv x.1 8 else s)
      else if was.getD 0 = 0 then s else s.seqEvBack x.1 8
  | none => s

/-- Semaphore `k` takes the result of the tick so far. -/
def State.semSet (s : State) (k : Nat) (old new : SemTick) : State :=
  let s := { s with tk := { s.tk with sems := smSet none s.tk.sems k (some new) } }
  let s :=
    match new.holder with
    | some h => (s.set1 SQ_SEM_HELD k).setFld SQ_SEM_OWNER k h
    | none => (s.clr SQ_SEM_HELD k).setFld SQ_SEM_OWNER k 0
  let last := (new.asks.filter (fun x => new.reads x.1 != 0)).getLast?.map (·.1)
  let s := { s with semRef := smSet none s.semRef k (match last with | some w => some w | none => new.ref) }
  new.asks.foldl (State.semAnswer old new) s

/-- Event 15 of the sequencer whose acquire was refused latest (R156). -/
def State.semEvent (s : State) (w : Option Nat) : State :=
  match w with
  | some n => if n < 8 then s.latchAt n 15 else s
  | none => s

/-- Semaphore `k` is released: before the acquires of the tick, unless its holder took it on this very tick (R172). -/
def State.semFree (s : State) (k : Nat) : State :=
  let e := s.semTk k
  match e.from_ with
  | some h => (s.semEvent e.ref).semSet k e { e with from_ := none, asks := e.asks.filter (fun x => x.1 != h) }
  | none =>
    let e' : SemTick := { from_ := none, ref := smGet none s.semRef k, asks := [] }
    (s.semEvent e'.ref).semSet k e' e'

/-- Owner `w` (0 to 7 sequencer, 8 host) holds semaphore `k`. -/
def State.semHeldBy (s : State) (k w : Nat) : Bool := s.flag SQ_SEM_HELD k && s.fld SQ_SEM_OWNER k == w

/-- An acquire by `w`, which reads into the register that `d` names (R171, R172). -/
def State.semTake (s : State) (k w : Nat) (d : Option (Nat × Bool)) : State :=
  let e := s.semTk k
  s.semSet k e { e with asks := s.semIns (w, d) e.asks }

/-- A sequencer's write to semaphore `k` (R171). -/
def State.semWrite (s : State) (n k : Nat) : State :=
  if s.semHeldBy k n then s.semFree k else s.setSeq n { s.seq n with semForeign := true }

/-- Every semaphore that sequencer `n` holds is released (R173). -/
def State.semDropAll (s : State) (n : Nat) : State :=
  (List.range 32).foldl (fun t k => if t.semHeldBy k n then t.semFree k else t) s

/-- The sender of a word that a full mailbox discards is told (R170). -/
def State.mailDrop (s : State) (n src : Nat) : State :=
  if src = 8 then s.set1 SQ_STATUS_MBOX_DROP n else s.setSeq src { s.seq src with sentDrop := true }

/-- A word from source `src` enters the mailbox of sequencer `n`; the words of one tick stand in ascending source number, and
the last does not fit a full one (R170). -/
def State.mboxPush (s : State) (n src w : Nat) : State :=
  let q := s.seq n
  let k := smGet 0 s.tk.mail n
  let old := q.mbox.take (q.mbox.length - k)
  let new := q.mbox.drop (q.mbox.length - k)
  let all := old ++ (new.filter (fun x => x.1 ≤ src) ++ (src, w % 2 ^ 32) :: new.filter (fun x => src < x.1))
  if all.length ≤ 8 then
    let s := { s with tk := { s.tk with mail := smSet 0 s.tk.mail n (k + 1) } }
    (s.setSeq n { q with mbox := all }).seqEv n 13
  else
    (s.setSeq n { q with mbox := all.take 8, recvDrop := true }).mailDrop n ((all.getLast?.map (·.1)).getD src)

/-- The head of the mailbox removed (R163, R170). -/
def State.mboxPop (s : State) (n : Nat) : State × Nat :=
  let q := s.seq n
  match q.mbox with
  | m :: ms => (s.setSeq n { q with mbox := ms, recvDrop := q.recvDrop && !ms.isEmpty }, m.2)
  | [] => (s, 0)

/-! ### Events (R156 to R159) -/

/-- UART `n` beyond its registers. -/
def State.uartOf (s : State) (n : Nat) : UartSt := smGet UartSt.init s.uart n
def State.setUart (s : State) (n : Nat) (u : UartSt) : State := { s with uart := smSet UartSt.init s.uart n u }

/-- The level events of sequencer `n`. -/
def State.levelEvents (s : State) (n : Nat) : Nat :=
  let q := s.seq n
  (List.range 12).foldl (fun a c => a + (if s.tmIsReader c true && !(s.tdc c).fifo.isEmpty then 2 ^ c else 0)) 0 +
  2 ^ 12 * b2n (!(s.uartOf 0).rx.isEmpty) + 2 ^ 13 * b2n (!(s.uartOf 1).rx.isEmpty) + 2 ^ 14 * b2n (!q.mbox.isEmpty) +
  2 ^ 19 * b2n (!s.fm.queue.isEmpty && !s.user n) + 2 ^ 20 * b2n (!q.cellFifo.isEmpty) +
  2 ^ 21 * b2n (s.ringLevel (s.fld SQ_RING_RING n) != 0) + 2 ^ 22 * b2n q.txns.isEmpty +
  2 ^ 23 * b2n (s.fld SQ_DOORBELL_BELL n != 0)

/-- The bits that are latched (R156). -/
def latchedMask : Nat := 0xF3078000

/-- The pending bits of sequencer `n`. -/
def State.evPending (s : State) (n : Nat) : Nat := s.levelEvents n ||| ((s.seq n).events &&& latchedMask)

/-- Latched bits cleared. -/
def State.evClear (s : State) (n bs : Nat) : State :=
  s.setSeq n { s.seq n with events := (s.seq n).events - ((s.seq n).events &&& bs) }

/-- Whether engine time has reached a TIME128 value (R159). -/
def State.reached (s : State) (t : Nat) : Bool := t ≤ toTime128 s.now

/-! ### Halting, exceptions and the return (R174 to R177, R207, R208) -/

/-- The sequencer's wait ends. -/
def State.endWait (s : State) (n : Nat) : State := (s.clr SQ_STATUS_WAITING n).setSeq n { s.seq n with wait := .none_ }

/-- The matrix withdraws the transactions of a sequencer that is reset or stops (R398). -/
def State.txnsDrop (s : State) (n : Nat) : State := s.setSeq n { s.seq n with txns := [], late := [] }

/-- The sequencer halts (R176). -/
def State.seqHalt (s : State) (n : Nat) : State :=
  ((((((s.txnsDrop n).endWait n).clr SQ_STATUS_RUNNING n).set1 SQ_STATUS_HALTED n).clr SQ_CTL_EN n).clr SQ_STATUS_BUSY n).semDropAll n

/-- A sequencer's channel is retired (R176, R434). -/
def State.seqRetire (s : State) (n : Nat) : State := (s.seqHalt n).set1 SQ_STATUS_RETIRED n

/-- Exception entry (R174): `pc` is what EPC takes, `num` the trap number, `addr` the matrix address of a matrix cause. -/
def State.excEnter (s : State) (n cause pc num : Nat) (imprecise : Bool) (addr : Nat) : State :=
  let q := s.seq n
  let um := s.fld SQ_STATUS_USER n
  let s := (s.endWait n).setSeq n { q with
    wait := .none_, epc := pc % 65536, ecause := cause + 32 * b2n imprecise + 64 * um + 256 * (num % 256),
    eaddr := if imprecise || cause == 5 then addr % 2 ^ 40 else q.eaddr }
  let s := (((s.clr SQ_STATUS_USER n).set1 SQ_STATUS_IN_EXC n).setFld SQ_STATUS_LAST_CAUSE n cause).setPc n
    (s.fld SQ_VECTOR_BASE n * 256 + cause * 16)
  ((((s.setFld SQ_EXC_EPC n pc).setFld SQ_EXC_CAUSE n cause).setFld SQ_EXC_IMPRECISE n (b2n imprecise)).setFld
    SQ_EXC_EMODE n um).set1 SQ_EXC_VALID n

/-- An exception raised while IN_EXC is 1 (R176). -/
def State.doubleFault (s : State) (n cause : Nat) : State :=
  let s := ((s.setFld SQ_STATUS_LAST_CAUSE n cause).seqHalt n).logFault SEQ_DOUBLE_FAULT (chanId 11 n) cause
  if s.retired 11 n then
    let t := s.seqRetire n
    { t with fm := { t.fm with todo := t.fm.todo.erase (chanId 11 n) } }
  else s

/-- The watchdog restarts when it has reached LIMIT on the tick of an instruction's exception (R208). -/
def State.wdogRestart (s : State) (n : Nat) : State :=
  if s.fld SQ_WDOG_LIMIT n ≠ 0 ∧ s.fld SQ_WDOG_LIMIT n ≤ (s.seq n).wdog then s.setSeq n { s.seq n with wdog := 0 } else s

/-- TAKING AN EXCEPTION (R174, R176): entry, or the halt when one is being handled already. Each but TRAP is logged. -/
def State.takeExc (s : State) (n cause pc num : Nat) (imprecise : Bool) (addr : Nat) : State :=
  let s := (s.wdogRestart n).seqEv n 9
  if s.flag SQ_STATUS_IN_EXC n then s.doubleFault n cause
  else
    let s := s.excEnter n cause pc num imprecise addr
    if cause = 11 then s else s.logFault SEQ_EXCEPTION (chanId 11 n) cause

/-- Whether a fence, key or ring instruction is past its first tick; it completes before an exception is taken (R184). -/
def State.parked (s : State) (n : Nat) : Bool :=
  match (s.seq n).wait with
  | .fence => true
  | .key _ _ _ _ => true
  | .ring _ _ _ _ => true
  | _ => false

/-- An exception that no instruction raises on its first tick: taken now, or once the parked instruction has completed. -/
def State.raise (s : State) (n cause pc : Nat) (imprecise : Bool) (addr : Nat) : State :=
  if s.parked n then s.setSeq n { s.seq n with late := (s.seq n).late ++ [(cause, pc, imprecise, addr)] }
  else s.takeExc n cause pc 0 imprecise addr

/-- The exceptions that have waited are taken: EPC is the next instruction, or the one that issued the transaction. -/
def State.lateTake (s : State) (n : Nat) : State :=
  (s.seq n).late.foldl (fun t e => t.takeExc n e.1 (if e.2.2.1 then e.2.1 else t.pc n) 0 e.2.2.1 e.2.2.2)
    (s.setSeq n { s.seq n with late := [] })

/-- THE RETURN FROM EXCEPTION (R174): IN_EXC clears, the mode is restored, execution continues at EPC. -/
def State.excReturn (s : State) (n : Nat) : State :=
  let q := s.seq n
  ((s.clr SQ_STATUS_IN_EXC n).setFld SQ_STATUS_USER n (bits q.ecause 6 1)).setPc n q.epc

/-! ### Reset, enable, disable (R151, R152) -/

/-- A sequencer is reset; what the key store holds for it is discarded by seqReset of Keys.lean (R151). -/
def State.seqResetCore (s : State) (n : Nat) : State :=
  let s := (s.semDropAll n).setSeq n { Seqr.init with cellQueued := (s.seq n).cellQueued }
  let s := ((s.clr SQ_STATUS_IN_EXC n).clr SQ_STATUS_WAITING n).clr SQ_STATUS_HALTED n
  let s := (s.setFld SQ_STATUS_USER n (s.fld SQ_CTL_START_USER n)).setPc n (s.fld SQ_ENTRY_ENTRY n / 4 * 4)
  s.dropHeld (.seq n)

/-- Whether the sequencer has stopped (R152). -/
def State.seqDrain (s : State) (n : Nat) : State :=
  if s.flag SQ_STATUS_BUSY n = true ∧ (s.seq n).txns = [] ∧ (s.seq n).wait = .none_ then s.clr SQ_STATUS_BUSY n else s

/-- EN is set, or cleared: a sequencer in an event or time wait stops at once (R152, R176). -/
def State.seqEnable (s : State) (n : Nat) : State :=
  if s.flag SQ_STATUS_RETIRED n = true ∨ s.retired 11 n = true ∨ s.flag SQ_STATUS_HALTED n = true then s
  else (s.set1 SQ_CTL_EN n).set1 SQ_STATUS_RUNNING n
def State.seqDisable (s : State) (n : Nat) : State :=
  if s.flag SQ_CTL_EN n then
    let s := (s.clr SQ_CTL_EN n).clr SQ_STATUS_RUNNING n
    match (s.seq n).wait with
    | .event _ _ => s.endWait n
    | .time _ => s.endWait n
    | _ => (s.set1 SQ_STATUS_BUSY n).seqDrain n
  else s

/-! ### Issue (R155, R167, R174, R180 to R184, R207) -/

/-- What one instruction does: the state without its PC advance, a jump, a park at its own address, an exception with its
trap number or its matrix address, or a stall. -/
inductive Res where
  | done (s : State)
  | jump (s : State) (pc : Nat)
  | park (s : State)
  | exc (cause num : Nat)
  | excAt (cause addr : Nat)
  | stall (event : Nat)

/-- Whether sequencer `n` issues instructions: enabled, running, in no wait and stalled on nothing. -/
def State.canIssue (s : State) (n : Nat) : Bool :=
  s.flag SQ_CTL_EN n && s.flag SQ_STATUS_RUNNING n && !s.flag SQ_STATUS_HALTED n && (s.seq n).wait == .none_

/-- Sequencer `n` issues the instruction at PC when it is an `m`; a word that decodes to nothing raises ILLEGAL whatever
command names it; another instruction's word changes nothing (the command does not describe what the sequencer does). -/
def State.issue (s : State) (n : Nat) (m : SeqOp) (body : Ins → State → Res) : Host.Outcome State Fault Refusal :=
  if n < 8 then
    .next (if s.canIssue n then
      match s.insAt n with
      | none => (s.seqEv n 0).takeExc n 1 (s.pc n) 0 false 0
      | some i =>
        if i.row.m ≠ m then s
        else if i.blocked (s.seq n) then s.seqEv n 1
        else
          match body i s with
          | .done t => (t.setPc n (s.pc n + i.len)).seqEv n 0
          | .jump t p => (t.setPc n p).seqEv n 0
          | .park t => (t.setPc n (s.pc n)).seqEv n 0
          | .exc c k => (s.seqEv n 0).takeExc n c (s.pc n) k false 0
          | .excAt c a => (s.seqEv n 0).takeExc n c (s.pc n) 0 false a
          | .stall e => s.seqEv n e
    else s)
  else .fault .noSuchUnit

/-- An instruction that changes the sequencer's own registers alone. -/
def State.issueReg (s : State) (n : Nat) (m : SeqOp) (f : Ins → Seqr → Seqr) : Host.Outcome State Fault Refusal :=
  s.issue n m (fun i t => .done (t.setSeq n (f i (t.seq n))))

end Sys2Proof.Machine
end

