-- ==== Sys2Proof/Machine/Board.lean ====
section
/-! DEFINITION. The board interfaces (R418 to R423): UARTs, I2C, SPI and GPIO as operations. -/

namespace Sys2Proof.Machine

/-! ### UARTs (R418 to R420) -/

/-- The transmitter takes the next byte when it may: enabled, not on SAFE_OSC, no byte in transmission. -/
def State.uartNext (s : State) (n : Nat) : State :=
  match (s.uartOf n).tx with
  | b :: bs =>
    if s.flag GP_UART_CTL_EN n = true ∧ s.safe = false ∧ s.flag GP_UART_STATUS_TX_ACTIVE n = false then
      ((s.setUart n { s.uartOf n with tx := bs }).set1 GP_UART_STATUS_TX_ACTIVE n).emit (.uart n b)
    else s
  | [] => s

/-- A byte written to a transmit path. -/
def State.uartTx (s : State) (n b : Nat) : State :=
  if (s.uartOf n).tx.length < 64 then
    (s.setUart n { s.uartOf n with tx := (s.uartOf n).tx ++ [b % 256] }).uartNext n
  else s.set1 GP_UART_STATUS_TX_OVF n

/-- The byte in transmission ends; BUSY of a stopped UART clears. -/
def State.uartSent (s : State) (n : Nat) : State :=
  if s.flag GP_UART_STATUS_TX_ACTIVE n then
    ((s.clr GP_UART_STATUS_TX_ACTIVE n).clr GP_UART_STATUS_BUSY n).uartNext n
  else s

/-- EN is set, or cleared (R42). -/
def State.uartEnable (s : State) (n : Nat) : State := (s.set1 GP_UART_CTL_EN n).uartNext n
def State.uartDisable (s : State) (n : Nat) : State :=
  if s.flag GP_UART_CTL_EN n then
    (s.clr GP_UART_CTL_EN n).setFld GP_UART_STATUS_BUSY n (s.fld GP_UART_STATUS_TX_ACTIVE n)
  else s

/-- An entry of the receive FIFO in the layout of R163. -/
def uartEntry (byte : Nat) (framing lost : Bool) (wnc bound : Nat) : Nat :=
  byte % 256 + 256 * b2n framing + 512 * b2n lost + 2 ^ 31 + 2 ^ 32 * (wnc / 2 ^ 16) + 2 ^ 64 * (wnc % 2 ^ 16 * 2 ^ 16) +
    2 ^ 96 * bound

/-- A received byte: its start bit came `back` units of 2^-16 ns before this tick; `cut`: a switch of the core clocks fell
in it, so its bound is that of R21. -/
def State.uartRx (s : State) (n byte : Nat) (framing : Bool) (back : Nat) (cut : Bool) : State :=
  if s.flag GP_UART_CTL_EN n = false ∨ s.safe = true then s
  else
    let u := s.uartOf n
    if u.rx.length < 64 then
      let p := s.stampAt (back * 2 ^ 32)
      let e := uartEntry byte framing u.lost (wncOf p.time) (if cut then 0xFFFFFFFF else p.bound)
      (s.setUart n { u with rx := u.rx ++ [e], lost := false }).when framing (fun t => t.set1 GP_UART_STATUS_FRAMING n)
    else
      ((s.setUart n { u with lost := true }).rcAdd GP_UART_RX_LOST_COUNT n 1).set1 GP_UART_STATUS_RX_LOST n

/-- The core clocks return to the root (R420): the next entry carries the lost flag, and transmission goes on. -/
def State.uartThaw (s : State) : State :=
  (List.range 2).foldl (fun t n => (t.setUart n { t.uartOf n with lost := true }).uartNext n) s

/-- GP_UART_STATUS_n with its levels as it reads. -/
def State.uartLevels (s : State) (n : Nat) : State :=
  (s.setFld GP_UART_STATUS_RX_LEVEL n (s.uartOf n).rx.length).setFld GP_UART_STATUS_TX_LEVEL n (s.uartOf n).tx.length

/-- Whether an access is the reader's of R419: READER 0 a port, 1 the matrix (R415: never PF1). -/
def State.uartIsReader (s : State) (a : Actor) (n : Nat) (port : Bool) : Bool :=
  port == !s.flag GP_UART_CTL_READER n && a != .pf1

/-! ### I2C (R421) -/

/-- GO. -/
def State.i2cGo (s : State) (addr wlen rlen : Nat) : State :=
  if s.flag GP_I2C_CMD_BUSY 0 then s.set1 GP_I2C_CMD_COLLIDE 0
  else if wlen > 8 ∨ rlen > 8 then s.log CFG_RANGE .GP
  else if s.flag GP_I2C_CTL_EN 0 then
    { s.set1 GP_I2C_CMD_BUSY 0 with brd := { s.brd with i2c := some (addr % 128, wlen, rlen) } }.emit
      (.bus 0 (addr % 128) (toBytes wlen (s.fld GP_I2C_WDATA_DATA 0)))
  else s

/-- A value with its lowest bytes replaced by those of a list. -/
def lowBytes (v : Nat) (bs : List Nat) : Nat :=
  v - v % 2 ^ (8 * bs.length) + ofBytes bs % 2 ^ (8 * bs.length)

/-- The transaction ends: `data` holds the bytes received. -/
def State.i2cEnd (s : State) (nack timeout : Bool) (data : List Nat) : State :=
  match s.brd.i2c with
  | some (_, _, rlen) =>
    let s := s.setFld GP_I2C_RDATA_DATA 0 (lowBytes (s.fld GP_I2C_RDATA_DATA 0) (data.take rlen))
    let s := (s.when nack (fun t => t.set1 GP_I2C_CMD_NACK 0)).when timeout (fun t => t.set1 GP_I2C_CMD_TIMEOUT 0)
    let s := (s.clr GP_I2C_CMD_BUSY 0).set1 GP_I2C_CMD_DONE 0
    { s with brd := { s.brd with i2c := none } }.when (s.flag GP_I2C_CTL_IRQ_EN 0)
      (fun t => t.msix 0 (t.fld GP_I2C_CTL_VECTOR 0))
  | none => s

/-! ### SPI (R422) -/

/-- GO. -/
def State.spiGo (s : State) (len : Nat) (keep : Bool) : State :=
  if s.flag GP_SPI_CMD_BUSY 0 then s.set1 GP_SPI_CMD_COLLIDE 0
  else if len = 0 ∨ len > 32 then s.log CFG_RANGE .GP
  else if s.flag GP_SPI_CFG_EN 0 then
    { s.set1 GP_SPI_CMD_BUSY 0 with brd := { s.brd with spi := some (len, keep) } }.emit
      (.bus 1 (s.fld GP_SPI_CFG_CS 0) (toBytes len (s.fld GP_SPI_TX_DATA 0)))
  else s

/-- The transfer ends: chip select is held, or rises (ball code 0x300 + chip select). -/
def State.spiEnd (s : State) (data : List Nat) : State :=
  match s.brd.spi with
  | some (len, keep) =>
    let held := keep && s.flag GP_SPI_CFG_EN 0
    let s := s.setFld GP_SPI_RX_DATA 0 (lowBytes (s.fld GP_SPI_RX_DATA 0) ((data ++ List.replicate len 0).take len))
    let s := ((s.clr GP_SPI_CMD_BUSY 0).set1 GP_SPI_CMD_DONE 0).setFld GP_SPI_CMD_HELD 0 (b2n held)
    let s := s.when (!held) (fun t => t.emit (.ball (0x300 + t.fld GP_SPI_CFG_CS 0) 1))
    { s with brd := { s.brd with spi := none } }.when (s.flag GP_SPI_CFG_IRQ_EN 0)
      (fun t => t.msix 0 (t.fld GP_SPI_CFG_VECTOR 0))
  | none => s

/-- EN is cleared: a held chip select is released. -/
def State.spiOff (s : State) : State :=
  ((s.clr GP_SPI_CFG_EN 0).clr GP_SPI_CMD_HELD 0).when (s.flag GP_SPI_CMD_HELD 0)
    (fun t => t.emit (.ball (0x300 + t.fld GP_SPI_CFG_CS 0) 1))

/-! ### GPIO (R423) -/

/-- The synchronised levels become `v`: EDGE notes each change. A ball that the engine drives has the level of OUT. -/
def State.gpioLevels (s : State) (v : Nat) : State :=
  let dir := s.fld GP_GPIO_DIR_DIR 0
  let new := (v &&& (0xFFFF ^^^ dir)) ||| (s.fld GP_GPIO_OUT_OUT 0 &&& dir)
  (s.setFld GP_GPIO_EDGE_EDGE 0 (s.fld GP_GPIO_EDGE_EDGE 0 ||| (new ^^^ s.fld GP_GPIO_IN_IN 0))).setFld GP_GPIO_IN_IN 0 new

/-- The driven levels after a change of DIR or OUT. -/
def State.gpioSync (s : State) : State := s.gpioLevels (s.fld GP_GPIO_IN_IN 0)

/-- Bits of OUT set, or cleared. -/
def State.gpioSet (s : State) (m : Nat) : State := (s.setFld GP_GPIO_OUT_OUT 0 (s.fld GP_GPIO_OUT_OUT 0 ||| m)).gpioSync
def State.gpioClr (s : State) (m : Nat) : State :=
  (s.setFld GP_GPIO_OUT_OUT 0 (s.fld GP_GPIO_OUT_OUT 0 &&& (0xFFFF ^^^ m % 65536))).gpioSync

end Sys2Proof.Machine
end

