-- ==== Sys2Proof/Machine/Matrix.lean ====
section
/-! DEFINITION. The matrix (R387 to R403): the address map, what each access may reach, memory reads and writes with poison,
the instruction RAM windows with their measurement (R166, R219), and the measurement queue (R217). -/

namespace Sys2Proof.Machine

/-! ### The address map (R387, R388) -/

/-- The target of an address. -/
def targetOf (a : Nat) : Option Nat :=
  if a < 0x400000 then some 0
  else if 0x10000000 ≤ a ∧ a < 0x10040000 then some 1
  else if 0x20000000 ≤ a ∧ a < 0x20400000 then some 2
  else if 0x30000000 ≤ a ∧ a < 0x31000000 then some 3
  else if 0x40000000 ≤ a ∧ a < 0x44000000 then some 6
  else if 0x44000000 ≤ a ∧ a < 0x48000000 then some 7
  else if 0x48000000 ≤ a ∧ a < 0x4C000000 then some 8
  else if 0x50000000 ≤ a ∧ a < 0x50010000 then some 9
  else if 0x60000000 ≤ a ∧ a < 0x60100000 then some 10
  else if 0x1000000000 ≤ a ∧ a < 0x1800000000 then some 4
  else if 0x1800000000 ≤ a ∧ a < 0x2000000000 then some 5
  else none

/-- The base of each block (R388). -/
def blkBase : Blk → Nat
  | .TC => 0x40000000 | .BG => 0x40010000 | .PO => 0x40020000 | .TM => 0x40030000 | .SY => 0x40040000
  | .RS => 0x40050000 | .HO => 0x40060000 | .SL => 0x44000000 | .MC => 0x44100000 | .TS => 0x44200000
  | .RC => 0x44300000 | .TW => 0x44400000 | .SQ => 0x48000000 | .BT => 0x48010000 | .LC => 0x48020000
  | .FM => 0x48030000 | .PC => 0x48040000 | .BM => 0x48050000 | .DR => 0x48060000 | .RG => 0x48070000
  | .PE => 0x48080000 | .GP => 0x48090000 | .KS => 0x50000000

/-- All the register blocks. -/
def allBlks : List Blk :=
  [.TC, .BG, .PO, .TM, .SY, .RS, .HO, .SL, .MC, .TS, .RC, .TW, .SQ, .BT, .LC, .FM, .PC, .BM, .DR, .RG, .PE, .GP, .KS]

/-- The block an address lies in. -/
def blkAt (a : Nat) : Option Blk := allBlks.find? (fun b => blkBase b ≤ a && a < blkBase b + 0x10000)

/-- The controller of an actor's accesses (R391). -/
def ctrlOf : Actor → Nat
  | .pf0 => 0
  | .pf1 => 0
  | .seq n => 8 + n / 2
  | .ctrl c => c

/-- Where the byte of an address is kept: target 0 shows working SRAM after remap (R397). -/
def canon (a : Nat) : Nat := if a < 0x400000 then a + 0x20000000 else a

/-- The DRAM channel and rank of an address (R400). -/
def dramCh (a : Nat) : Nat := if a < 0x1800000000 then 0 else 1
def dramOff (a : Nat) : Nat := a - (if a < 0x1800000000 then 0x1000000000 else 0x1800000000)
def State.dramCap (s : State) (c : Nat) : Nat := s.fld DR_STATUS_CAPACITY c * 2 ^ 30
def State.dramRank (s : State) (a : Nat) : Nat :=
  if bitOf (smGet 0 s.brd.drCfg (dramCh a)) 4 && decide (s.dramCap (dramCh a) / 2 ≤ dramOff a) then 1 else 0

/-- Whether a DRAM address is served: initialised, populated, its rank not retired (R389, R401, R403). -/
def State.dramOk (s : State) (a : Nat) : Bool :=
  s.flag DR_STATUS_INIT_DONE (dramCh a) && decide (dramOff a < s.dramCap (dramCh a)) &&
    !bitOf (s.fld DR_STATUS_RANK_RETIRED (dramCh a)) (s.dramRank a)

/-- Whether an actor may use the key store's target (R390); a PF1 write there is ignored, not an error. -/
def State.ksReach (s : State) (a : Actor) : Bool :=
  match a with
  | .pf0 => true
  | .pf1 => true
  | .seq n => !s.user n
  | .ctrl c => c == 13 && s.lifeCycle ≤ 1

/-- Whether the matrix serves an access: what R389 and R390 leave (R166 and R219 are judged at the write). -/
def State.served (s : State) (a : Actor) (addr : Nat) (write : Bool) : Bool :=
  match targetOf addr with
  | some 0 => s.flag BM_REMAP_REMAP 0 || (!write && addr < 0x40000)
  | some 1 => !write
  | some 2 => true
  | some 3 => 0x30800000 ≤ addr
  | some 4 => s.dramOk addr
  | some 5 => s.dramOk addr
  | some 9 => s.ksReach a
  | some 10 => true
  | some _ => (blkAt addr).isSome
  | none => false

/-- Whether an address lies in a DRAM channel in self-refresh, whose requests the matrix holds (R23). -/
def State.asleep (s : State) (addr : Nat) : Bool :=
  match targetOf addr with
  | some 4 => s.flag DR_STATUS_SELF_REFRESH 0
  | some 5 => s.flag DR_STATUS_SELF_REFRESH 1
  | _ => false

/-- The same of the ring's descriptors. -/
def State.ringAsleep (s : State) (r : Nat) : Bool := s.fld RG_CTL_LOC r != 2 && s.asleep (s.fld RG_BASE_ADDR r)

/-! ### The transactions of a sequencer (R167) -/

/-- Whether no earlier transaction of the sequencer goes to the same target. -/
def firstAt (ts : List Txn) (i : Nat) (x : Txn) : Bool := (ts.take i).all (fun y => targetOf y.addr != targetOf x.addr)

/-- Transaction `i` of sequencer `n` is outstanding no more. -/
def State.txnTake (s : State) (n i : Nat) : State := s.setSeq n { s.seq n with txns := (s.seq n).txns.eraseIdx i }

/-- A load writes its destination. -/
def State.txnFill (s : State) (n : Nat) (x : Txn) (v : Nat) : State :=
  if x.store then s
  else if x.wide then s.setSeq n ((s.seq n).wt x.dest v)
  else s.putV n x.dest v

/-- An error is recorded in BM_ERR: kind 1 decode, 2 bridge timeout, 3 poisoned. -/
def State.bmErr (s : State) (c addr kind : Nat) : State :=
  ((((s.setFld BM_ERR_ADDR 0 addr).setFld BM_ERR_CTRL 0 c).setFld BM_ERR_TARGET 0 ((targetOf addr).getD 15)).setFld
    BM_ERR_KIND 0 kind).set1 BM_ERR_VALID 0

/-- A decode error (R389). -/
def State.decodeErr (s : State) (a : Actor) (addr : Nat) : State :=
  (s.bmErr (ctrlOf a) addr 1).logFault MATRIX_DECODE (Blk.chan .BM) (ctrlOf a)

/-! ### Measurement (R217, R218) -/

/-- Bytes padded with zeros to a length. -/
def padTo (k : Nat) (bs : List Nat) : List Nat := bs ++ List.replicate (k - bs.length) 0

/-- SHA-384 as 48 bytes. -/
def sha384b (bs : List Nat) : List Nat := toBytesBE 48 (sha384 bs)

/-- An event is queued for accumulator `i`; it commits when its hash completes. -/
def State.extend (s : State) (i : Nat) (e : List Nat) : State :=
  { s with bt := { s.bt with exts := s.bt.exts ++ [(i, e)] } }

/-- The accumulator's bytes. -/
def State.maBytes (s : State) (i : Nat) : List Nat := toBytes 48 (s.fld BT_MA_MA i)

/-- The oldest extension of accumulator `i` commits (R217). -/
def State.extCommit (s : State) (i : Nat) : State :=
  match s.bt.exts.find? (fun x => x.1 == i) with
  | some x =>
    let s := (s.setFld BT_MA_MA i (ofBytes (sha384b (s.maBytes i ++ x.2))))
    let s := { s with bt := { s.bt with exts := s.bt.exts.erase x } }
    if i = 11 then s.clr BT_STATUS_EXT_BUSY 0 else s
  | none => s

/-! ### Memory -/

/-- A byte as the matrix reads it: ROM at target 1 and, before remap, at target 0. -/
def State.byteAt (s : State) (a : Nat) : Nat :=
  if a < 0x400000 then
    (if s.flag BM_REMAP_REMAP 0 then (memGet s.mem (canon a)).toNat else Config.bootRom a % 256)
  else if 0x10000000 ≤ a ∧ a < 0x10040000 then Config.bootRom (a - 0x10000000) % 256
  else (memGet s.mem a).toNat

/-- Bytes from an address. -/
def State.bytesAt (s : State) (a : Nat) : Nat → List Nat
  | 0 => []
  | k + 1 => s.byteAt a :: s.bytesAt (a + 1) k

/-- Whether bytes from an address meet a poisoned DRAM line (R403). -/
def State.poisoned (s : State) (a len : Nat) : Bool :=
  s.poison.any (fun l => l * 64 < a + len && a < l * 64 + 64)

/-- Bytes stored; a full 64-byte write of a line ends its poison (R403). -/
def State.store (s : State) (a : Nat) (bs : List Nat) : State :=
  { s with mem := memPutBytes s.mem (canon a) bs,
           poison := s.poison.filter (fun l => !(a ≤ l * 64 && l * 64 + 64 ≤ a + bs.length)) }

/-- Whether a write of `len` bytes meets the image under load (R213). -/
def State.imgBlocked (s : State) (a : Actor) (addr len : Nat) : Bool :=
  s.flag BT_STATUS_LOADING 0 && ctrlOf a != 8 && 0x20000000 < canon addr + len && canon addr < 0x20000000 + s.bt.imgLen

/-- Bytes stored but for those that would fall into the image under load, which are ignored with one fault (R213). -/
def State.storeAround (s : State) (a : Actor) (addr : Nat) (bs : List Nat) : State :=
  if s.imgBlocked a addr bs.length then
    (s.store (0x20000000 + s.bt.imgLen) (bs.drop (0x20000000 + s.bt.imgLen - canon addr))).logFault IMAGE_WRITE_BLOCKED
      (Blk.chan .BT) (ctrlOf a)
  else s.store addr bs

/-! ### Instruction RAM (R166, R219 to R221) -/

/-- Whether sequencer `n`'s instruction RAM and settings are locked. -/
def State.iramLocked (s : State) (n : Nat) : Bool := bitOf (s.fld BT_IRAM_LOCK_LOCK 0) n

/-- Whether the sequencer of instruction RAM `n` is quiescent, or is sequencer 0 before remap (R166, R215). -/
def State.iramIdle (s : State) (n : Nat) : Bool :=
  (n == 0 && !s.flag BM_REMAP_REMAP 0) || (!s.flag SQ_CTL_EN n && !s.flag SQ_STATUS_BUSY n)

/-- Whether the instruction RAM of `n` accepts a write now. -/
def State.iramOpen (s : State) (n : Nat) : Bool := !s.iramLocked n && s.iramIdle n

/-- A word stored in an instruction RAM and measured (R219). -/
def State.iramPut (s : State) (n off w : Nat) : State :=
  { s with mem := memPut s.mem (iramBase n + off) 4 w }.extend (n + 1)
    (padTo 16 ([0x02, 0] ++ toBytesBE 2 off ++ toBytes 4 w))

/-- A write to an instruction RAM (R166, R219, R390): `strobes` the byte strobes. A refused write is a decode error too. -/
def State.iramWrite (s : State) (a : Actor) (n off w strobes : Nat) : State :=
  let s := s.when (!s.iramIdle n) (fun t => t.log CFG_WHILE_RUNNING .SQ)
  if strobes ≠ 15 ∨ off % 4 ≠ 0 then
    (s.logFault IRAM_PARTIAL_WRITE (Blk.chan .BT) n).decodeErr a (iramBase n + off)
  else if s.iramOpen n then s.iramPut n off w
  else s.decodeErr a (iramBase n + off)

/-- Words written one by one. -/
def State.iramWords (s : State) (a : Actor) (n off : Nat) : List Nat → State
  | b0 :: b1 :: b2 :: b3 :: bs => (s.iramWrite a n off (ofBytes [b0, b1, b2, b3]) 15).iramWords a n (off + 4) bs
  | [] => s
  | _ => s.iramWrite a n off 0 0

/-- A kind 0x08 event: register `r` of sequencer `n` took `v` (R220). -/
def State.settingEvent (s : State) (n r v : Nat) : State :=
  s.extend (n + 1) (padTo 16 ([0x08, r, 0, 0] ++ toBytesBE 4 v))

/-! ### Memory writes and reads of an actor -/

/-- A write of bytes to a memory target: done, ignored or an error; one to a register block that is not a word has no effect
(R392). -/
def State.memWrite (s : State) (a : Actor) (addr : Nat) (bs : List Nat) : State :=
  if !s.served a addr true then s.decodeErr a addr
  else if targetOf addr = some 10 ∧ (addr - 0x60000000) % 0x20000 < 0x10000 then
    s.iramWords a ((addr - 0x60000000) / 0x20000) ((addr - 0x60000000) % 0x10000) bs
  else if (blkAt addr).isSome then s
  else s.storeAround a addr bs

/-- Whether a write of the actor ends in an error response. -/
def State.writeErr (s : State) (a : Actor) (addr : Nat) (len : Nat) : Bool :=
  !s.served a addr true || (targetOf addr == some 10 && (addr - 0x60000000) % 0x20000 < 0x10000 &&
    !(addr % 4 == 0 && len % 4 == 0 && s.iramOpen ((addr - 0x60000000) / 0x20000)))

end Sys2Proof.Machine
end

