-- ==== Sys2Proof/Machine/Dram.lean ====
section
/-! DEFINITION. The DRAM channels (R400 to R403) and the reset of matrix controllers (R398) as operations. -/

namespace Sys2Proof.Machine

/-- The base address of a channel. -/
def chanBase (c : Nat) : Nat := if c = 0 then 0x1000000000 else 0x1800000000

/-- DR_CFG_c as one number in the layout of its register. -/
def State.drCfgNow (s : State) (c : Nat) : Nat :=
  s.fld DR_CFG_WIDTH c + 4 * s.fld DR_CFG_DENSITY c + 16 * s.fld DR_CFG_RANKS c + 32 * s.fld DR_CFG_RDIMM c +
    64 * s.fld DR_CFG_RATE c

/-- The capacity in GB that a configuration gives (R400): ranks x (64 / data width) x density / 8; data width 4, 8, 16. -/
def drCapacity (cfg : Nat) : Nat :=
  (bits cfg 4 1 + 1) * (16 / 2 ^ bits cfg 0 2) * (8 * (bits cfg 2 2 + 1)) / 8

/-- Whether a channel is training or initialised. -/
def State.drLive (s : State) (c : Nat) : Bool := s.flag DR_STATUS_TRAINING c || s.flag DR_STATUS_INIT_DONE c

/-- Whether INIT refuses the configuration: WIDTH 3, RATE 3, the capacity, or the rate of a live other channel. -/
def State.drRefused (s : State) (c : Nat) : Bool :=
  let g := s.drCfgNow c
  bits g 0 2 == 3 || bits g 6 2 == 3 || drCapacity g < 4 || 32 < drCapacity g ||
    (s.drLive (1 - c) && bits (smGet 0 s.brd.drCfg (1 - c)) 6 2 != bits g 6 2)

/-- INIT (R401): the configuration is latched and training starts. A write while the channel trains is ignored. -/
def State.drInit (s : State) (c : Nat) : State :=
  if s.flag DR_STATUS_TRAINING c then s
  else if s.drRefused c then s.log CFG_RANGE .DR
  else
    let s := { s with brd := { s.brd with drCfg := smSet 0 s.brd.drCfg c (s.drCfgNow c) } }
    ((s.set1 DR_STATUS_TRAINING c).clr DR_STATUS_INIT_DONE c).clr DR_STATUS_ZERO_BUSY c

/-- Training ends: the capacity shows, and the ranks whose channels are not retired return (R401, R434). -/
def State.drInitDone (s : State) (c : Nat) (ok : Bool) : State :=
  if s.flag DR_STATUS_TRAINING c then
    let s := s.clr DR_STATUS_TRAINING c
    if ok then
      ((s.set1 DR_STATUS_INIT_DONE c).setFld DR_STATUS_CAPACITY c (drCapacity (smGet 0 s.brd.drCfg c))).setFld
        DR_STATUS_RANK_RETIRED c (b2n (s.retired 12 (2 * c)) + 2 * b2n (s.retired 12 (2 * c + 1)))
    else s.logFault DRAM_INIT_FAIL (Blk.chan .DR) c
  else s

/-- ZERO (R401): from this tick every line not written by another requester reads zero. -/
def State.drZero (s : State) (c : Nat) : State :=
  if s.flag DR_STATUS_INIT_DONE c = false ∨ s.flag DR_STATUS_ZERO_BUSY c = true then s
  else
    { s.set1 DR_STATUS_ZERO_BUSY c with
      mem := memClear s.mem (chanBase c) 0x800000000,
      poison := s.poison.filter (fun l => !(chanBase c ≤ l * 64 && l * 64 < chanBase c + 0x800000000)) }

/-- The error found in a line read (R402, R403): 1 corrected, 2 uncorrectable. A line already marked poisoned returns
poisoned again and counts no new error. -/
def State.drError (s : State) (addr err : Nat) : State :=
  let c := dramCh addr
  let line := addr / 64
  let ch := chanId 12 (c * 2 + s.dramRank addr)
  if s.dramOk addr = false ∨ s.poison.contains line = true then s
  else if err = 1 then ((s.rcAdd DR_CE_COUNT c 1).engEv 103).logFault DRAM_CE ch 0
  else if err = 2 then
    let s := ({ s with poison := line :: s.poison }).rcAdd DR_UE_COUNT c 1
    (((s.setFld DR_ERR_ADDR_ADDR c (line * 64)).setFld DR_ERR_ADDR_RANK c (s.dramRank addr)).set1
      DR_ERR_ADDR_VALID c).logFault DRAM_UE ch 0
  else s

/-- BM_CTRL_RESET from PF0 (R398): bits 0 and 8 to 11 are ignored; requests that the matrix holds for a controller are
withdrawn. -/
def State.ctrlReset (s : State) (mask : Nat) : State :=
  { s.setFld BM_CTRL_STATUS_IN_RESET 0 (s.fld BM_CTRL_STATUS_IN_RESET 0 ||| (mask &&& 0x30FE)) with
    waits := s.waits.filter (fun r =>
      match r.actor with
      | .ctrl c => !bitOf (mask &&& 0x30FE) c
      | _ => true) }

/-- The last transaction of controller `c` has drained. -/
def State.ctrlDrained (s : State) (c : Nat) : State :=
  s.setFld BM_CTRL_STATUS_IN_RESET 0 (s.fld BM_CTRL_STATUS_IN_RESET 0 &&& (0x3FFF ^^^ 2 ^ c))

end Sys2Proof.Machine
end

