-- ==== Sys2Proof/Machine/Line.lean ====
section
/-! DEFINITION. The Irnak line code (R263 to R267): scrambling, stuffing, filler, the three kinds of superword, headers. -/

namespace Sys2Proof.Machine

/-- The three sync headers (R267): 0 normal, 1 alternate, 2 void. -/
def hdrPattern : Nat → Nat
  | 0 => 0xE41B
  | 1 => 0x1BE4
  | _ => 0xB14E

/-- How many of the low 16 bits differ. -/
def hamming16 (a b : Nat) : Nat := ((List.range 16).filter (fun i => bitOf a i != bitOf b i)).length

/-- The header within distance 3 of the received bits; none is a header error (R267). -/
def hdrKind (h : Nat) : Option Nat := [0, 1, 2].find? (fun k => hamming16 (hdrPattern k) h ≤ 3)

/-- The bits of a byte string, each byte most significant bit first. -/
def bytesBits : List Nat → List Bool
  | [] => []
  | b :: bs => [bitOf b 7, bitOf b 6, bitOf b 5, bitOf b 4, bitOf b 3, bitOf b 2, bitOf b 1, bitOf b 0] ++ bytesBits bs

/-- The bits as one number, the first most significant. -/
def bitsNat (l : List Bool) : Nat := l.foldl (fun a b => 2 * a + b2n b) 0

/-- The next bit of the scrambler with polynomial x^31 + x^28 + 1; `st` holds its last 31 bits, the latest in bit 0. -/
def scrBit (st : Nat) : Bool := bitOf st 30 != bitOf st 27
def scrNext (st : Nat) : Nat := (2 * st + b2n (scrBit st)) % 2 ^ 31

/-- The next `k` scrambler bits and the state after them (R264). -/
def scrBits : Nat → Nat → List Bool × Nat
  | 0, st => ([], st)
  | k + 1, st =>
    let r := scrBits k (scrNext st)
    (scrBit st :: r.1, r.2)

/-- Stuffing (R265): the coded bits after a line bit `last` that ends a run of `run`, with the number of stuff bits. After
a run of 20 the complement follows; after the last coded bit one follows when the header's leading bits, at most three
alike, could carry its run beyond 20 (DEDUCED, log entry 26). -/
def stuff : Bool → Nat → List Bool → List Bool × Nat
  | last, run, [] => if 17 < run then ([!last], 1) else ([], 0)
  | last, run, b :: bs =>
    let run' := if b = last then run + 1 else 1
    if 20 ≤ run' then
      let r := stuff (!b) 1 bs
      (b :: (!b) :: r.1, r.2 + 1)
    else
      let r := stuff b run' bs
      (b :: r.1, r.2)

/-- `k` filler bits after a line bit (R263). -/
def filler : Bool → Nat → List Bool
  | _, 0 => []
  | last, k + 1 => (!last) :: filler (!last) k

/-- The last bit of a list and the length of the run that it ends. -/
def runEnd : List Bool → Bool × Nat
  | l =>
    let b := l.getLast?.getD false
    (b, (l.reverse.takeWhile (fun x => x == b)).length)

/-- The bits of a header. -/
def hdrBits (kind : Nat) : List Bool := (List.range 16).map (fun i => bitOf (hdrPattern kind) (15 - i))

/-- The whole superword of 1,024 slots from what follows its header. -/
def lineOf (kind : Nat) (body : List Bool) : Nat :=
  let l := hdrBits kind ++ body
  bitsNat (l ++ filler (l.getLast?.getD false) (1024 - l.length))

/-- One XORed with the parity of its position (R264 step 3). -/
def altCode (l : List Bool) : List Bool := l.zipIdx.map (fun x => x.1 != (x.2 % 2 == 1))

/-- The 992 alternating bits of a void superword (R266). -/
def voidBits : List Bool := (List.range 992).map (fun i => i % 2 == 0)

/-- The bytes that RFC 3720 places on the wire for a CRC-32C: the least significant first. -/
def crcBytes (p : List Nat) : List Nat := toBytes 4 (crc32c p)

/-- A superword formed from 120 payload bytes and a scrambler state (R264 to R266): its kind, its line bits and the
scrambler state after it. -/
def formSuperword (payload : List Nat) (scr : Nat) : Nat × Nat × Nat :=
  let k := scrBits 992 scr
  let coded := ((bytesBits (payload ++ crcBytes payload)).zip k.1).map (fun x => x.1 != x.2)
  let put := fun (kind : Nat) (c : List Bool) =>
    let e := runEnd (hdrBits kind)
    stuff e.1 e.2 c
  let n := put 0 coded
  if n.2 ≤ 16 then (0, lineOf 0 n.1, k.2)
  else
    let a := put 1 (altCode coded)
    if a.2 ≤ 16 then (1, lineOf 1 a.1, k.2) else (2, lineOf 2 voidBits, k.2)

/-! ### The receiver (R264, R265, R276) -/

/-- The low `k` bits of a number, the most significant first. -/
def natBits (k v : Nat) : List Bool := (List.range k).map (fun i => bitOf v (k - 1 - i))

/-- The coded bits after a line bit `last` that ends a run of `run`, `due` when the next bit is a stuff bit; whether every stuff
bit was the complement of its run. The bit after each run of 20 is taken out. -/
def destuff : Bool → Nat → Bool → Nat → List Bool → List Bool × Bool
  | _, _, _, 0, _ => ([], true)
  | _, _, _, _ + 1, [] => ([], false)
  | last, run, due, k + 1, b :: bs =>
    if due then
      let r := destuff b 1 false (k + 1) bs
      (r.1, r.2 && b != last)
    else
      let run' := if b = last then run + 1 else 1
      let r := destuff b run' (decide (20 ≤ run')) k bs
      (b :: r.1, r.2)

/-- The bytes of a bit string, each byte most significant bit first. -/
def bitsBytes : Nat → List Bool → List Nat
  | 0, _ => []
  | k + 1, l => bitsNat (l.take 8) :: bitsBytes k (l.drop 8)

/-- The 992 coded bits of a received superword of kind 0 or 1 from its 1,008 slots after the header, the alternate form undone;
whether no line error was counted against it. -/
def lineCoded (kind line : Nat) : List Bool × Bool :=
  let e := runEnd (hdrBits kind)
  let r := destuff e.1 e.2 false 992 (natBits 1008 line)
  (if kind = 1 then altCode r.1 else r.1, r.2 && r.1.length == 992)

/-- Whether 124 bytes are a payload with its CRC. -/
def crcGood (b : List Nat) : Bool := crcBytes (b.take 120) == b.drop 120

/-- The payload of a received superword with descrambler state `desc`, and whether it passes its CRC (R268). -/
def readSuperword (kind line desc : Nat) : List Nat × Bool :=
  let c := lineCoded kind line
  let b := bitsBytes 124 ((c.1.zip (scrBits 992 desc).1).map (fun x => x.1 != x.2))
  (b.take 120, c.2 && crcGood b)

/-- The payload of an alignment superword: TYPE TRAIN with ALIGN, everything else zero (R275, R276). -/
def alignPayload : List Nat := toBytesBE 8 (3 * 2 ^ 28 + 2 ^ 14) ++ List.replicate 112 0

/-- Whether a received superword belongs to an alignment run, judged by the descrambler state that its first 31 coded bits
load; that state at the superword's end (R276 step 5). -/
def readAlign (kind line : Nat) : Option Nat :=
  let c := lineCoded kind line
  let k := scrBits 961 (bitsNat (c.1.take 31))
  let b := bitsBytes 124 (List.replicate 31 false ++ ((c.1.drop 31).zip k.1).map (fun x => x.1 != x.2))
  if c.2 && crcGood b && b.take 120 == alignPayload then some k.2 else none

end Sys2Proof.Machine
end

