-- ==== Sys2Proof/Machine/Keys.lean ====
section
/-! DEFINITION. Derivation, the key store and the life cycle (R234 to R257) as operations. -/

namespace Sys2Proof.Machine

/-! ### Derivation (R234, R235, R238) -/

/-- An ASCII string as bytes. -/
def ascii (t : String) : List Nat := t.toList.map Char.toNat

/-- The counter-mode KDF over `blocks` blocks of 48 bytes, `len` its length in bits (R234). -/
def kdfBlocks (k label ctx : List Nat) (len : Nat) : Nat → Nat → List Nat
  | 0, _ => []
  | b + 1, i => toBytesBE 48 (hmac384 k (toBytesBE 4 i ++ label ++ [0] ++ ctx ++ toBytesBE 4 len)) ++
      kdfBlocks k label ctx len b (i + 1)
def kdf (k : List Nat) (label : String) (ctx : List Nat) (len : Nat) : List Nat :=
  (kdfBlocks k (ascii label) ctx len (len / 384 + 1) 1).take (len / 8)

/-- The orders of P-256 and P-384 (FIPS 186-5; PRESUMED, log entry 9). -/
def n256 : Nat := 0xFFFFFFFF00000000FFFFFFFFFFFFFFFFBCE6FAADA7179E84F3B9CAC2FC632551
def n384 : Nat := 0xFFFFFFFFFFFFFFFFFFFFFFFFFFFFFFFFFFFFFFFFFFFFFFFFC7634D81F4372DDF581A0DB248B0A77AECEC196ACCC52973

/-- The domain key of a life-cycle code. -/
def domainKey (code : Nat) : List Nat :=
  kdf Config.rootSecret "JK-DOMAIN" (code :: toBytesBE 8 Config.unitId) 384

/-- The private keys of IDENTITY, ATTEST and a receipt generation. -/
def identityKey (code : Nat) : List Nat :=
  toBytesBE 48 (ofBytesBE (kdf (domainKey code) "JK-IDENTITY" [] 448) % (n384 - 1) + 1)
def attestKey (code : Nat) : List Nat :=
  toBytesBE 32 (ofBytesBE (kdf (domainKey code) "JK-ATTEST" [] 320) % (n256 - 1) + 1)
def receiptKey (code g : Nat) (ed : Bool) : List Nat :=
  if ed then kdf (domainKey code) "JK-RCPT" (toBytesBE 4 g ++ [2]) 256
  else toBytesBE 32 (ofBytesBE (kdf (domainKey code) "JK-RCPT" (toBytesBE 4 g ++ [1]) 320) % (n256 - 1) + 1)

/-- The pair secret P (R238). -/
def State.pairSecret (s : State) : List Nat :=
  let p := s.fld TW_PARTNER_ID_ID 0
  kdf (Config.ecdh (identityKey s.lifeCycle) (s.fld KS_PARTNER_ID_KEY 0)) "JK-PAIR"
    (toBytesBE 8 (min Config.unitId p) ++ toBytesBE 8 (max Config.unitId p)) 384

/-- K_s of R235, with the pair secret in effect. -/
def State.scopeKey (s : State) (pair : Bool) (p : List Nat) : List Nat := if pair then p else domainKey s.lifeCycle

/-! ### Slots (R239 to R242) -/

/-- A slot beyond its status word. -/
def State.kslot (s : State) (k : Nat) : KeySlot := smGet KeySlot.init s.ks.slots k
def State.slotState (s : State) (k : Nat) : Nat := s.fld KS_SLOT_STATUS_STATE k
def State.slotValid (s : State) (k : Nat) : Bool := s.slotState k == 1

/-- The status word of a slot, without STAGED. -/
def State.setStatus (s : State) (k st typ parent : Nat) (exp intern derived : Bool) : State :=
  (((((s.setFld KS_SLOT_STATUS_STATE k st).setFld KS_SLOT_STATUS_TYPE k typ).setFld KS_SLOT_STATUS_PARENT k
    parent).setFld KS_SLOT_STATUS_EXPORTABLE k (b2n exp)).setFld KS_SLOT_STATUS_INTERNAL k (b2n intern)).setFld
    KS_SLOT_STATUS_DERIVED k (b2n derived)

/-- Bytes 0 to 247 of slot `k` that holds `x` (R240). -/
def State.slotBytes (s : State) (k : Nat) (x : KeySlot) : List Nat :=
  [s.fld KS_SLOT_STATUS_TYPE k,
   b2n (s.flag KS_SLOT_STATUS_INTERNAL k && !s.flag KS_SLOT_STATUS_DERIVED k) + 2 * s.fld KS_SLOT_STATUS_EXPORTABLE k] ++
    toBytes 2 x.usage ++ toBytes 2 x.key.length ++ [0, 0] ++ toBytes 4 x.gen ++ [s.fld KS_SLOT_STATUS_PARENT k, 0, 0, 0] ++
    padTo 48 x.keyId ++ padTo 64 x.key ++ padTo 96 x.pub ++ List.replicate 24 0

/-- The integrity tag of slot `k` that holds `x` (R242). -/
def State.tagOf (s : State) (k : Nat) (x : KeySlot) : List Nat :=
  (toBytesBE 48 (hmac384 (toBytesBE 48 s.ks.tagKey) (k % 256 :: s.slotBytes k x))).take 8

/-- A slot's contents, whatever they are. -/
def State.setSlot (s : State) (k : Nat) (x : KeySlot) : State :=
  { s with ks := { s.ks with slots := smSet KeySlot.init s.ks.slots k x } }

/-- A slot's contents written, with their tag; the status word stands already. -/
def State.putSlot (s : State) (k : Nat) (x : KeySlot) : State := s.setSlot k { x with tag := s.tagOf k x }

/-- Whether the tag of a slot that holds something is the one its contents have. -/
def State.tagGood (s : State) (k : Nat) : Bool := (s.kslot k).tag == s.tagOf k (s.kslot k)

/-- The key identifiers of R241. -/
def keyIdSym (typ : Nat) (key : List Nat) : List Nat := sha384b (ascii "JK-KEYID" ++ [typ] ++ key)
def keyIdPub (pub : List Nat) : List Nat := sha384b pub

/-- A derived asymmetric key placed in its slot. -/
def State.putAsym (s : State) (k typ gen : Nat) (key : List Nat) : State :=
  let pub := Config.publicKey typ key
  (s.setStatus k 1 typ 0xFF false true true).putSlot k
    { usage := 0, gen := gen, keyId := keyIdPub pub, key := key, pub := pub, pair := false, tag := [] }

/-- A derived symmetric key placed in its slot. -/
def State.putSym (s : State) (k typ gen : Nat) (key : List Nat) (pair : Bool) : State :=
  (s.setStatus k 1 typ 0xFF false true true).putSlot k
    { usage := 0, gen := gen, keyId := keyIdSym typ key, key := key, pub := [], pair := pair, tag := [] }

/-- IDENTITY and ATTEST are derived (R236). -/
def State.deriveIds (s : State) : State :=
  (s.putAsym 0 5 0 (identityKey s.lifeCycle)).putAsym 1 4 0 (attestKey s.lifeCycle)

/-! ### Generations (R237), in the layout of KS_GEN_STAGE: families 0 KEK, 1 NTS, 2 RCPT -/

def genCur (g f : Nat) : Nat := bits g (64 * f) 32
def genPrev (g f : Nat) : Nat := bits g (64 * f + 32) 32
def genCurV (g f : Nat) : Bool := bitOf g (192 + 2 * f)
def genPrevV (g f : Nat) : Bool := genCurV g f && bitOf g (193 + 2 * f)

/-- What KS_GEN_STAGE holds. -/
def State.genStage (s : State) : Nat :=
  s.fld KS_GEN_STAGE_KEK_CUR 0 + s.fld KS_GEN_STAGE_KEK_PREV 0 * 2 ^ 32 + s.fld KS_GEN_STAGE_NTS_CUR 0 * 2 ^ 64 +
  s.fld KS_GEN_STAGE_NTS_PREV 0 * 2 ^ 96 + s.fld KS_GEN_STAGE_RCPT_CUR 0 * 2 ^ 128 +
  s.fld KS_GEN_STAGE_RCPT_PREV 0 * 2 ^ 160 + s.fld KS_GEN_STAGE_VALID 0 * 2 ^ 192

/-- Whether a family's slot is live, and the generation it holds (R237, R242). -/
def State.genLive (s : State) (f : Nat) (prev : Bool) : Bool := s.slotValid (2 + 2 * f + b2n prev)

/-- Whether a family's slot holds a generation that nothing has invalidated: live, or waiting in TAG_FAIL to be derived again. -/
def State.genHeld (s : State) (f : Nat) (prev : Bool) : Bool :=
  s.genLive f prev || s.slotState (2 + 2 * f + b2n prev) == 3
def State.genOf (s : State) (f : Nat) (prev : Bool) : Nat := (s.kslot (2 + 2 * f + b2n prev)).gen

/-- The slot of family `f` that holds live generation `g`. -/
def State.genSlot (s : State) (f g : Nat) : Option Nat :=
  if s.genLive f false = true ∧ s.genOf f false = g then some (2 + 2 * f)
  else if s.genLive f true = true ∧ s.genOf f true = g then some (3 + 2 * f)
  else none

/-- One derived slot of a family, under the scope, the pair secret and the algorithm in effect (R235, R238). -/
def State.deriveSlot (s : State) (f k g : Nat) : State :=
  match f with
  | 0 => s.putSym k 2 g (kdf (s.scopeKey s.ks.kekPair s.ks.kekP) "JK-KEK" (toBytesBE 4 g) 512) s.ks.kekPair
  | 1 => s.putSym k 3 g (kdf (s.scopeKey s.ks.ntsPair s.ks.ntsP) "JK-NTS" (toBytesBE 4 g) 256) s.ks.ntsPair
  | _ => s.putAsym k (if s.ks.ed then 6 else 4) g (receiptKey s.lifeCycle g s.ks.ed)

/-- A slot emptied. -/
def State.emptySlot (s : State) (k : Nat) : State := (s.setStatus k 0 0 0xFF false false false).setSlot k KeySlot.init

/-- A slot becomes INVALID. -/
def State.killSlot (s : State) (k : Nat) : State := s.setFld KS_SLOT_STATUS_STATE k 2

/-- Every slot whose PARENT chain leads to KEK generation `g` becomes INVALID (R248). -/
def State.killChildren (s : State) (g : Nat) : State :=
  (List.range 256).foldl (fun t k =>
    if 16 ≤ k ∧ t.slotValid k = true ∧ t.fld KS_SLOT_STATUS_PARENT k = 2 ∧ (t.kslot k).gen = g then t.killSlot k else t) s

/-- The generations of a family that nothing has invalidated. -/
def State.heldGens (s : State) (f : Nat) : List Nat :=
  (if s.genHeld f false then [s.genOf f false] else []) ++ (if s.genHeld f true then [s.genOf f true] else [])

/-- The KEK generations `before` that are gone take their children with them (R248); the receipt key cache follows in
Receipt.lean. -/
def State.kekDead (s : State) (before : List Nat) : State :=
  before.foldl (fun t g => if (t.heldGens 0).contains g then t else t.killChildren g) s

/-- Whether the generations `g` differ, in family `f`, from what the slots hold (R243, R248). -/
def State.famChanges (s : State) (g f : Nat) : Bool :=
  let differs := fun (v : Bool) (n : Nat) (prev : Bool) =>
    if v then !s.genLive f prev || s.genOf f prev != n else s.slotState (2 + 2 * f + b2n prev) != 0
  differs (genCurV g f) (genCur g f) false || differs (genPrevV g f) (genPrev g f) true

/-- Whether a commit of `g` would change a generation. -/
def State.genChanges (s : State) (g : Nat) : Bool :=
  g != s.fld KS_GEN_ACTIVE_GEN 0 || (List.range 3).any (s.famChanges g)

/-- A family whose generations change is derived anew, under what GO found (R235 to R238; log entry 114). -/
def State.famApply (s : State) (d : Deriv) (f : Nat) : State :=
  if !s.famChanges d.gens f then s
  else
    let s := { s with ks :=
      match f with
      | 0 => { s.ks with kekPair := d.kekPair, kekP := d.pairKey }
      | 1 => { s.ks with ntsPair := d.ntsPair, ntsP := d.pairKey }
      | _ => { s.ks with ed := d.ed } }
    let s := if genCurV d.gens f then s.deriveSlot f (2 + 2 * f) (genCur d.gens f) else s.emptySlot (2 + 2 * f)
    if genPrevV d.gens f then s.deriveSlot f (3 + 2 * f) (genPrev d.gens f) else s.emptySlot (3 + 2 * f)

/-- The generations that were derived take effect (R237, R243). -/
def State.genApply (s : State) (d : Deriv) : State :=
  ((List.range 3).foldl (fun t f => t.famApply d f) s).setFld KS_GEN_ACTIVE_GEN 0 d.gens

/-! ### Refusals (R245, R257) -/

/-- The number of an actor in KS_REFUSE and in the measurement events. -/
def actorNo : Actor → Nat
  | .pf0 => 0
  | .seq n => n + 1
  | _ => 9

/-- A refusal (R257). -/
def State.ksRefuse (s : State) (no slot why : Nat) : State :=
  ((((s.setFld KS_REFUSE_REASON 0 why).setFld KS_REFUSE_ACTOR 0 no).setFld KS_REFUSE_SLOT 0 slot).set1
    KS_REFUSE_VALID 0).logFault KEY_REFUSED (Blk.chan .KS) why

/-- A refusal of an actor: KS_REFUSE has no number for PF1, so ACTOR is then a free value (log entry 3). -/
def State.ksRefuseBy (s : State) (a : Actor) (slot why : Nat) : State :=
  if a = .pf1 then s.free.2.ksRefuse s.free.1 slot why else s.ksRefuse (actorNo a) slot why

/-- The refusals that come before any other: LIFE_CYCLE, MODE, PRIVILEGE (R236, R245, R254); 0 when none. -/
def State.ksGate (s : State) (a : Actor) : Nat :=
  if s.lifeCycle = 0 ∨ s.lifeCycle = 3 ∨ s.flag LC_STATE_RESET_REQUIRED 0 = true then 1
  else if s.recovery then 2
  else
    match a with
    | .pf0 => 0
    | .seq n => if s.user n then 3 else 0
    | _ => 3

/-- An operation behind that gate; the second part says whether it was refused. -/
def State.ksOp (s : State) (a : Actor) (slot : Nat) (k : State → State × Bool) : State × Bool :=
  if s.ksGate a ≠ 0 then (s.ksRefuseBy a slot (s.ksGate a), true) else k s

/-- A key register command: carried out, refused, or both not permitted by R225 and refused (R225, R245, R257). A controller
that does not reach the key store asks it nothing. -/
def State.keyGate (s : State) (a : Actor) (slot : Nat) (k : State → State) : State :=
  if s.mayWrite a .KS then k (s.debugNote a)
  else
    let t := (s.debugNote a).gateLog .KS
    if t.ksReach a = true ∧ t.ksGate a ≠ 0 then t.ksRefuseBy a slot (t.ksGate a) else t

/-! ### Staging and commit (R240, R243, R244) -/

/-- The writes an actor has staged. -/
def State.stagedBy (s : State) (no : Nat) : List Staged := s.ks.staged.filter (fun x => x.actor == no)

/-- STAGED of a slot and COUNT of KS_STAGE follow the staged writes. -/
def State.stageShow (s : State) (k : Nat) : State :=
  (s.setFld KS_SLOT_STATUS_STAGED k (b2n (s.ks.staged.any (fun x => x.slot == k)))).setFld KS_STAGE_COUNT 0
    (s.stagedBy 0).length

/-- One staged write added; a second one to the same slot replaces the first (R202). -/
def State.stageAdd (s : State) (x : Staged) : State :=
  ({ s with ks := { s.ks with
    staged := s.ks.staged.filter (fun (y : Staged) => !(y.actor == x.actor && y.slot == x.slot)) ++ [x] } }).stageShow x.slot

/-- Whether the actor has no room to stage slot `k`. -/
def State.stageFull (s : State) (no k : Nat) : Bool :=
  decide (8 ≤ (s.stagedBy no).length) && !(s.stagedBy no).any (fun x => x.slot == k)

/-- Whether a 256-byte slot record may be staged (R240). -/
def recOk (r : List Nat) : Bool :=
  let len := ofBytes ((r.drop 4).take 2)
  let usage := ofBytes ((r.drop 2).take 2)
  r[0]? == some 1 && r.getD 1 0 < 4 && usage != 0 && usage < 4 && 16 ≤ len && len ≤ 64 &&
    ofBytes ((r.drop 6).take 2) == 0 && ofBytes ((r.drop 13).take 3) == 0 && ofBytes ((r.drop 224).take 24) == 0

/-- A slot record is staged, or refused (R239, R240, R243, R202). -/
def State.ksStage (s : State) (a : Actor) (slot : Nat) (r : List Nat) : State × Bool :=
  s.ksOp a slot (fun t =>
    let no := actorNo a
    if slot < 16 ∨ 256 ≤ slot then (t.ksRefuse no slot 4, true)
    else if !recOk r then (t.ksRefuse no slot 6, true)
    else if t.stageFull no slot then (t.ksRefuse no slot 5, true)
    else
      let len := ofBytes ((r.drop 4).take 2)
      let gen := r.getD 1 0 % 2 == 1
      let key := if gen then toBytes len t.free.1 else (r.drop 64).take len
      let t := if gen then t.free.2 else t
      let x : KeySlot := { usage := ofBytes ((r.drop 2).take 2), gen := 0, keyId := keyIdSym 1 key, key := key, pub := [],
                           pair := false, tag := [] }
      (t.stageAdd { actor := no, slot := slot, rec_ := x, exp := bitOf (r.getD 1 0) 1, intern := gen, parent := 0xFF },
       false))

/-- An actor's staged writes discarded. -/
def State.ksDiscard (s : State) (no : Nat) : State :=
  let ks := (s.stagedBy no).map (·.slot)
  let s := { s with ks := { s.ks with staged := s.ks.staged.filter (fun x => x.actor != no) } }
  ks.foldl State.stageShow s

/-- A staged write takes effect (R243). -/
def State.ksImport (s : State) (x : Staged) : State :=
  (s.setStatus x.slot 1 1 x.parent x.exp x.intern false).putSlot x.slot x.rec_

/-- The kind 0x05 event of an import (R218, R223). -/
def importEvent (x : Staged) : List Nat := padTo 64 (padTo 16 [0x05, x.slot, x.actor] ++ x.rec_.keyId)

/-- The staged writes of an actor take effect, and are measured in ascending slot number (R223, R243). -/
def State.ksApply (s : State) (no : Nat) : State :=
  let xs := s.stagedBy no
  let s := xs.foldl State.ksImport (s.ksDiscard no)
  (List.range 256).foldl (fun t k =>
    match xs.find? (fun x => x.slot == k) with
    | some x => t.extend 10 (importEvent x)
    | none => t) s

/-- The reason a commit of generations `g` is refused (R237, R238, R256); 0 when it is not. -/
def State.genRefuse (s : State) (g : Nat) : Nat :=
  if (List.range 3).any (fun f => genPrevV g f && genCur g f == genPrev g f) then 6
  else if ((genCurV g 0 && s.flag KS_GEN_CFG_KEK_PAIR 0) || (genCurV g 1 && s.flag KS_GEN_CFG_NTS_PAIR 0)) &&
      (s.fld KS_PARTNER_ID_KEY 0 == 0 || !Config.onP384 (s.fld KS_PARTNER_ID_KEY 0)) then 13
  else 0

/-- What a derivation of the generations `g` uses: KS_GEN_CFG, and the pair secret where a family has PAIR scope, as they stand
at GO (R235, R238). -/
def State.derivOf (s : State) (g : Nat) : Deriv :=
  let kp := s.flag KS_GEN_CFG_KEK_PAIR 0
  let np := s.flag KS_GEN_CFG_NTS_PAIR 0
  { gens := g, kekPair := kp, ntsPair := np, ed := s.flag KS_GEN_CFG_RCPT_ALG 0, pairKey := if kp || np then s.pairSecret else [] }

/-- PF0's commit (R243); with nothing staged it has no effect. An algorithm that the option word does not permit refuses every
commit that has an effect (R256). -/
def State.ksCommit (s : State) : State :=
  let g := s.genStage
  if s.ks.deriv.isSome then { s with ks := { s.ks with held := true } }
  else if s.ksGate .pf0 ≠ 0 then s.ksRefuse 0 0 (s.ksGate .pf0)
  else if s.genChanges g = false ∧ s.stagedBy 0 = [] then s
  else if s.flag KS_GEN_CFG_RCPT_ALG 0 = true ∧ bitOf Config.fuseOptions 0 = false then s.ksRefuse 0 0 6
  else if !s.genChanges g then s.ksApply 0
  else if s.genRefuse g ≠ 0 then s.ksRefuse 0 0 (s.genRefuse g)
  else { s.set1 KS_STATUS_DERIVING 0 with ks := { s.ks with deriv := some (s.derivOf g) } }

/-- Derivation ends and the commit takes effect: slots and generations together, then what a generation that is gone takes with
it (R243, R248). -/
def State.ksDerived (s : State) : State :=
  match s.ks.deriv with
  | some d =>
    let held := s.ks.held
    let before := s.heldGens 0
    let s := ({ s with ks := { s.ks with deriv := none, held := false } }).clr KS_STATUS_DERIVING 0
    let s := ((s.ksApply 0).genApply d).kekDead before
    if held then s.ksCommit else s
  | none => s

/-- A sequencer's commit (R202, R243). -/
def State.ksCommitSeq (s : State) (n : Nat) : State × Bool := s.ksOp (.seq n) 0 (fun t => (t.ksApply (n + 1), false))

/-- An invalidation (R239, R248). -/
def State.ksInval (s : State) (a : Actor) (slot : Nat) : State × Bool :=
  s.ksOp a slot (fun t =>
    if slot < 2 ∨ (8 ≤ slot ∧ slot < 16) ∨ 256 ≤ slot then (t.ksRefuse (actorNo a) slot 4, true)
    else
      ((t.killSlot slot).kekDead (t.heldGens 0), false))

/-- The status word of a slot. -/
def State.statusWord (s : State) (k : Nat) : Nat :=
  s.fld KS_SLOT_STATUS_STATE k + s.fld KS_SLOT_STATUS_TYPE k * 2 ^ 8 + s.fld KS_SLOT_STATUS_PARENT k * 2 ^ 16 +
  s.fld KS_SLOT_STATUS_EXPORTABLE k * 2 ^ 24 + s.fld KS_SLOT_STATUS_INTERNAL k * 2 ^ 25 +
  s.fld KS_SLOT_STATUS_DERIVED k * 2 ^ 26 + s.fld KS_SLOT_STATUS_STAGED k * 2 ^ 27

/-- A slot's tag fails (R242): reported when the slot goes to TAG_FAIL. -/
def State.tagFail (s : State) (k : Nat) : State :=
  if s.slotState k = 3 then s
  else ((s.setFld KS_SLOT_STATUS_STATE k 3).set1 KS_STATUS_TAG_FAIL_SEEN 0).logFault KEY_TAG_FAIL (Blk.chan .KS) k

/-- The slots whose tag does not fit what they hold. -/
def State.tagsBad (s : State) : List Nat := (s.ks.slots.map (·.1)).filter (fun k => !s.tagGood k)

/-- A derived slot in TAG_FAIL is derived again (R242). -/
def State.deriveAgain (s : State) (k : Nat) : State :=
  if s.slotState k = 3 then
    if k = 0 then s.putAsym 0 5 0 (identityKey s.lifeCycle)
    else if k = 1 then s.putAsym 1 4 0 (attestKey s.lifeCycle)
    else if k < 8 then s.deriveSlot ((k - 2) / 2) k (s.kslot k).gen
    else s
  else s

/-- The key store zeroised (R250, R254). -/
def State.ksZero (s : State) : State :=
  let s := (List.range 256).foldl (fun t k => (t.emptySlot k).clr KS_SLOT_STATUS_STAGED k) s
  let s := ((((s.clr KS_STATUS_ID_READY 0).clr KS_STATUS_DERIVING 0).setFld KS_PARTNER_ID_KEY 0 0).setFld KS_STAGE_COUNT 0 0).setFld
    KS_STAGE_REC_RECORD 0 0
  { s with ks := { KsSt.init with tagKey := s.ks.tagKey, cmd := s.ks.cmd } }

/-! ### Blobs (R246, R247) -/

/-- Owner and partner of a blob in the present scope. -/
def State.blobOwner (s : State) (pair : Bool) : Nat × Nat :=
  if pair then (min Config.unitId (s.fld TW_PARTNER_ID_ID 0), max Config.unitId (s.fld TW_PARTNER_ID_ID 0))
  else (Config.unitId, 0)

/-- The 80 header bytes of a blob. -/
def State.blobHead (s : State) (x : KeySlot) (typ gen : Nat) (exp : Bool) : List Nat :=
  let o := s.blobOwner s.ks.kekPair
  [0x4A, 0x42, 0x01, 0x00, 0, 1, typ, b2n exp + 2 * b2n s.ks.kekPair] ++ toBytesBE 8 o.1 ++ toBytesBE 8 o.2 ++
    toBytesBE 4 gen ++ toBytesBE 2 x.usage ++ toBytesBE 2 x.key.length ++ padTo 48 x.keyId

/-- A blob of a key under the CUR KEK: 160 bytes. -/
def State.blobSeal (s : State) (x : KeySlot) (typ : Nat) (exp : Bool) : List Nat :=
  let h := s.blobHead x typ (s.genOf 0 false) exp
  h ++ (padTo 80 (sivSeal (s.kslot 2).key h (padTo 64 x.key))).take 80

/-- A blob opened (R247): a reason, or the key with its TYPE and EXPORTABLE. -/
def State.blobOpen (s : State) (b : List Nat) : Except Nat (KeySlot × Nat × Bool) :=
  let fl := b.getD 7 0
  let o := s.blobOwner s.ks.kekPair
  let gen := ofBytesBE ((b.drop 24).take 4)
  let len := ofBytesBE ((b.drop 30).take 2)
  if b.take 6 ≠ [0x4A, 0x42, 0x01, 0x00, 0, 1] ∨ fl ≥ 4 ∨ bitOf fl 1 ≠ s.ks.kekPair ∨
      ofBytesBE ((b.drop 8).take 8) ≠ o.1 ∨ ofBytesBE ((b.drop 16).take 8) ≠ o.2 then .error 9
  else
    match s.genSlot 0 gen with
    | none => .error 10
    | some k =>
      match sivOpen (s.kslot k).key (b.take 80) ((b.drop 80).take 80) with
      | none => .error 11
      | some p =>
        let key := p.take len
        let typ := b.getD 6 0
        if keyIdSym typ key ≠ (b.drop 32).take 48 then .error 11
        else .ok ({ usage := ofBytesBE ((b.drop 28).take 2), gen := gen, keyId := (b.drop 32).take 48, key := key, pub := [],
                    pair := s.ks.kekPair, tag := [] }, typ, bitOf fl 0)

/-- A blob command is refused (R257). -/
def State.cmdBad (s : State) (a : Actor) (slot why : Nat) : State := (s.ksRefuseBy a slot why).set1 KS_CMD_STATUS_FAILED 0

/-- A blob command starts, or is refused (R245, R246). -/
def State.cmdStart (s : State) (a : Actor) (op slot : Nat) : State :=
  if s.ksGate a ≠ 0 then s.cmdBad a slot (s.ksGate a)
  else if s.ks.cmd.isSome then s.cmdBad a slot 12
  else { s.set1 KS_STATUS_CMD_BUSY 0 with ks := { s.ks with
    cmd := some { op := op, actor := actorNo a, slot := slot, src := s.fld KS_CMD_SRC_ADDR 0, dest := s.fld KS_CMD_DEST_ADDR 0 } } }

/-- The outcome of a blob command: a reason, or the state it leaves (R247); LIFE_CYCLE when the fuses were blown under it
(R254). -/
def State.cmdRun (s : State) (c : KsCmd) : Except Nat State :=
  if s.flag LC_STATE_RESET_REQUIRED 0 then .error 1
  else
  match c.op with
  | 1 =>
    if !s.slotValid c.slot then .error 7
    else if !s.flag KS_SLOT_STATUS_EXPORTABLE c.slot ∨ c.slot < 16 then .error 8
    else if !s.genLive 0 false then .error 10
    else .ok (s.memWrite (.ctrl 4) c.dest
      (s.blobSeal (s.kslot c.slot) (s.fld KS_SLOT_STATUS_TYPE c.slot) (s.flag KS_SLOT_STATUS_EXPORTABLE c.slot)))
  | 2 =>
    if c.slot < 16 then .error 4
    else
      match s.blobOpen (s.bytesAt c.src 160) with
      | .error e => .error e
      | .ok x =>
        if s.stageFull c.actor c.slot then .error 5
        else .ok (s.stageAdd { actor := c.actor, slot := c.slot, rec_ := x.1, exp := x.2.2, intern := false, parent := 2 })
  | _ =>
    match s.blobOpen (s.bytesAt c.src 160) with
    | .error e => .error e
    | .ok x =>
      if !s.genLive 0 false then .error 10
      else .ok (s.memWrite (.ctrl 4) c.dest (s.blobSeal x.1 x.2.1 x.2.2))

/-- Whether a blob command waits for a DRAM channel that is in self-refresh (R23). -/
def State.cmdHeld (s : State) (c : KsCmd) : Bool := (c.op != 1 && s.asleep c.src) || (c.op != 2 && s.asleep c.dest)

/-- A blob command finishes (R246). -/
def State.cmdDone (s : State) : State :=
  match s.ks.cmd with
  | some c =>
    if s.cmdHeld c then s
    else
    let t := { s.clr KS_STATUS_CMD_BUSY 0 with ks := { s.ks with cmd := none } }
    match t.cmdRun c with
    | .ok u => u.set1 KS_CMD_STATUS_DONE 0
    | .error why => (t.ksRefuse c.actor c.slot why).set1 KS_CMD_STATUS_FAILED 0
  | none => s

/-! ### Statements (R251, R252) and the life cycle (R253 to R256) -/

/-- Bytes 0 to 231 of a statement. -/
def State.stmtBody (s : State) (code signer slot typ : Nat) (origin flags : Nat) (x : KeySlot) (nonce : List Nat) :
    List Nat :=
  [0x4A, 0x53, 0x01, 0x00, 0, 1] ++ toBytesBE 2 (if signer = 1 then 328 else 296) ++ toBytesBE 8 Config.unitId ++
    [code, signer, slot, typ, origin, flags] ++ toBytesBE 2 x.usage ++ toBytesBE 4 x.gen ++ [0, 0, 0, 0] ++
    padTo 32 nonce ++ padTo 48 x.keyId ++ padTo 96 x.pub ++ toBytesBE 16 (toTime128 s.now) ++
    toBytesBE 4 (s.fld BG_CURRENT_BOUND 0) ++ [0, 0, 0, 0]

/-- A statement about a slot, to be signed. -/
def State.stmtOf (s : State) (slot : Nat) (nonce : List Nat) : List Nat :=
  let x := s.kslot slot
  s.stmtBody s.lifeCycle (if slot = 1 then 1 else 2) slot (s.fld KS_SLOT_STATUS_TYPE slot)
    (if s.flag KS_SLOT_STATUS_INTERNAL slot then 1 else 2)
    (s.fld KS_SLOT_STATUS_EXPORTABLE slot + 4 * s.fld KS_SLOT_STATUS_DERIVED slot + 8 * b2n x.pair) x nonce

/-- A signature's bytes: P-384 by IDENTITY, P-256 by ATTEST; the per-message secret is a free value. -/
def State.signBy (s : State) (signer : Nat) (body : List Nat) : List Nat × State :=
  if signer = 1 then (toBytesBE 96 (Config.sign (s.kslot 0).key body s.free.1), s.free.2)
  else (toBytesBE 64 (Config.sign (s.kslot 1).key body s.free.1), s.free.2)

/-- STATEMENT: GO of statement slot `i` (R252, R254). -/
def State.stmtRequest (s : State) (i slot : Nat) : State :=
  let s := s.setFld KS_STMT_CTL_SLOT i slot
  let refuse := fun (why : Nat) => s.ksRefuseBy (if i = 0 then .pf0 else .pf1) slot why
  if s.flag KS_STMT_CTL_BUSY i then s
  else if s.lifeCycle = 0 ∨ s.flag LC_STATE_RESET_REQUIRED 0 = true then refuse 1
  else if s.recovery then refuse 2
  else if !s.slotValid slot then refuse 7
  else
    let b := s.stmtOf slot (toBytes 32 (s.fld KS_STMT_NONCE_NONCE i))
    { s.set1 KS_STMT_CTL_BUSY i with bt := { s.bt with signQ := s.bt.signQ ++
      [{ src := 3 + i, body := b, signer := if slot = 1 then 1 else 2, req := 0, port := 0, peer := 0 }] } }

/-- The life-cycle code that the fuses read as (R255). -/
def State.fuseCode (s : State) : Nat :=
  if s.bt.fuse3 ≥ 2 then 3 else if s.bt.fuse2 ≥ 2 then 2 else if s.bt.fuse1 ≥ 2 then 1 else 0

/-- The fuse configuration record (R256); its CRC over bytes 0 to 27. -/
def fuseRecord (code : Nat) : List Nat :=
  let b := [code, 1, 0, 0] ++ toBytesBE 8 Config.unitId ++ toBytesBE 4 Config.fuseOptions ++ toBytesBE 8 Config.fuseLot ++
    [if code = 0 then 0 else 1, 0, 0, 0]
  b ++ toBytesBE 4 (crc32c b)

/-- Whether the life cycle may advance in the field (R253). -/
def advanceOk (old new : Nat) : Bool :=
  (old == 1 && new == 2) || (old == 1 && new == 3) || (old == 2 && new == 3)

/-- The reason an advance is refused, in the order of the reason codes; 0 when it is not. -/
def State.lcRefuse (s : State) (a : Actor) (key target : Nat) (commit : Bool) : Nat :=
  if s.mode ≠ 0 then 1
  else if a ≠ .pf0 then 2
  else if !advanceOk s.lifeCycle target ∨ s.flag LC_STATE_RESET_REQUIRED 0 = true then 3
  else if !s.flag LC_STATE_FUSE_SUPPLY_OK 0 then 4
  else if commit = true ∧ (s.flag LC_STATE_PREPARED 0 = false ∨ s.bt.prep ≠ some target) then 5
  else if key ≠ 0xC7 then 6
  else 0

/-- LC_ADVANCE is written (R254). -/
def State.lcAdvance (s : State) (a : Actor) (key target : Nat) (prepare commit : Bool) : State :=
  if !prepare && !commit then s
  else
    let why := s.lcRefuse a key target commit
    if why ≠ 0 then (s.setFld LC_ADVANCE_STATUS_REASON 0 why).set1 LC_ADVANCE_STATUS_REFUSED 0
    else if commit then { s.set1 LC_STATE_ADVANCING 0 with bt := { s.bt with blow := some target } }
    else { s.clr LC_STATE_PREPARED 0 with bt := { s.bt with prep := some target } }

/-- LC_ADVANCE as a command: one that R225 does not permit is refused with its reason too (R254). -/
def State.lcGate (s : State) (a : Actor) (key target : Nat) (prepare commit : Bool) : State :=
  (if s.mayWrite a .LC then s.debugNote a else (s.debugNote a).gateLog .LC).lcAdvance a key target prepare commit

/-- KS_CMD as a command. -/
def State.cmdGate (s : State) (a : Actor) (op slot : Nat) : State :=
  let t := s.keyGate a slot (fun t => t.cmdStart a op slot)
  if s.mayWrite a .KS = false ∧ s.ksReach a = true then t.set1 KS_CMD_STATUS_FAILED 0 else t

/-- Step 2 of R254: the transition statement stands. -/
def State.lcPrepared (s : State) : State :=
  match s.bt.prep with
  | some t =>
    let key := identityKey t
    let pub := Config.publicKey 5 key
    let x : KeySlot := { usage := 0, gen := 0, keyId := keyIdPub pub, key := [], pub := pub, pair := false, tag := [] }
    let b := s.stmtBody t 1 0 5 1 20 x []
    let r := s.signBy 1 b
    (r.2.setFld LC_TRANSITION_STATEMENT 0 (ofBytes (b ++ r.1))).set1 LC_STATE_PREPARED 0
  | none => s

/-- Step 5 of R254. -/
def State.lcBlown (s : State) : State :=
  match s.bt.blow with
  | some t =>
    let s := ((s.ksZero).clr LC_STATE_ADVANCING 0).set1 LC_STATE_RESET_REQUIRED 0
    { s with bt := { s.bt with blow := none, fuse2 := if t = 2 then 3 else s.bt.fuse2,
                               fuse3 := if t = 3 then 3 else s.bt.fuse3, signQ := [] } }
  | none => s

/-! ### A sequencer's reset (R151, R202, R243) -/

/-- The whole reset of a sequencer. -/
def State.seqReset (s : State) (n : Nat) : State := (s.seqResetCore n).ksDiscard (n + 1)

/-- A write of RESET (R152). -/
def State.seqResetWrite (s : State) (n : Nat) : State :=
  if s.flag SQ_CTL_EN n then s.log CFG_WHILE_RUNNING .SQ else s.seqReset n

end Sys2Proof.Machine
end

