-- ==== Sys2Proof/Machine/Synth.lean ====
section
/-! DEFINITION. Root and output synthesis (R95 to R111). The commands that start a relock act on other blocks too and are
in RootCmds.lean. -/

namespace Sys2Proof.Machine

/-! ### Latching, N and the band (R95 to R97) -/

/-- LOSC in MHz under LOSC_FREQ. -/
def loscMHz : Nat → Nat
  | 0 => 10
  | 1 => 20
  | 2 => 25
  | _ => 40

/-- The feedback divider of R95; path 3 is treated as 0. -/
def rootN (losc path : Nat) : Nat :=
  match path with
  | 1 => 3200 / loscMHz losc
  | 2 => 12800 / loscMHz losc
  | _ => 6400 / loscMHz losc

/-- Whether band `n` of the table is a candidate (R97); units of 0.25 MHz. -/
def State.bandOk (s : State) (n : Nat) : Bool :=
  s.flag SY_BAND_TABLE_VALID n && s.fld SY_BAND_TABLE_FMIN n ≤ 25568 && s.fld SY_BAND_TABLE_FMAX n ≥ 25632

/-- The merit of a candidate (R97). -/
def State.bandMerit (s : State) (n : Nat) : Nat :=
  min (25600 - s.fld SY_BAND_TABLE_FMIN n) (s.fld SY_BAND_TABLE_FMAX n - 25600)

/-- The best candidate: the largest merit, the lowest number on a tie (R97). -/
def State.bestBand (s : State) : Option Nat :=
  (List.range 32).foldl (fun b n =>
    if s.bandOk n then
      match b with
      | some m => if s.bandMerit n > s.bandMerit m then some n else b
      | none => some n
    else b) none

/-- A band is chosen: from the table, or by the binary search, whose result is free (R97, log entry 3). -/
def State.bandSelect (s : State) : State :=
  match s.bestBand with
  | some n => s.setFld SY_ROOT_STATUS_BAND 0 n
  | none => ((s.free).2.setFld SY_ROOT_STATUS_BAND 0 s.free.1).log BAND_TABLE_MISS .SY

/-- Step 5: SY_ROOT_CFG is latched, N set and a band selected (R95 to R97). -/
def State.rootLatch (s : State) : State :=
  let p := s.fld SY_ROOT_CFG_PATH 0
  let s := s.when (p == 3) (fun t => t.log CFG_RANGE .SY)
  let s := (s.setFld SY_ROOT_STATUS_N 0 (rootN (s.fld SY_ROOT_CFG_LOSC_FREQ 0) p)).bandSelect
  { s with sy := { s.sy with latched := true, lockTime := 0, failed := false } }

/-- Arrival at step 5 (R100, R101): the lock is given up, and the configuration latched at once when LOSC is present and
no sweep runs. -/
def State.rootStep5 (s : State) : State :=
  let s := { s.clr SY_ROOT_STATUS_LOCKED 0 with
    sy := { s.sy with phase := 5, latched := false, lockTime := 0, failed := false, safeLink := false } }
  if s.flag TM_LOSC_STATUS_PRESENT 0 && !s.flag SY_ROOT_STATUS_SWEEP_BUSY 0 then s.rootLatch else s

/-- OPLL `n` and CKO `n` beyond their registers. -/
def State.pll (s : State) (n : Nat) : OpllSt := smGet OpllSt.init s.opll n
def State.setPll (s : State) (n : Nat) (x : OpllSt) : State := { s with opll := smSet OpllSt.init s.opll n x }
def State.ck (s : State) (n : Nat) : CkoSt := smGet CkoSt.init s.cko n
def State.setCk (s : State) (n : Nat) (x : CkoSt) : State := { s with cko := smSet CkoSt.init s.cko n x }

/-- The divisor D of CKO `n`, and its high phase in half VCO periods: half of D, or (D - 1) / 2 for an odd D (R108). -/
def State.ckoD (s : State) (n : Nat) : Nat := s.fld SY_CKO_DIV_DIV n + 1
def State.ckoHigh (s : State) (n : Nat) : Nat := s.ckoD n - s.ckoD n % 2

/-- CKO `n` runs from here on, or rests low once its high phase is complete. -/
def State.ckoRun (s : State) (n : Nat) : State := s.emit (.clock n (s.ckoD n) (s.ckoHigh n))
def State.ckoRest (s : State) (n : Nat) : State := s.emit (.clock n 0 0)

/-- An output enters its hold interval (R109): a GATE output rests low, and an alignment that had not begun waits for the OPLL to
settle again. -/
def State.ckoHold1 (s : State) (n : Nat) : State :=
  let s := s.when ((s.ck n).runs && !s.flag SY_CKO_CTL_HOLD_MODE n && !s.flag SY_CKO_STATUS_HOLDING n) (fun t => t.ckoRest n)
  (((s.set1 SY_CKO_STATUS_HOLDING n).clr SY_CKO_STATUS_ALIGNING n).clr SY_CKO_STATUS_ALIGNED n).setCk n
    { s.ck n with waitSec := none }
def State.ckoHoldOf (s : State) (p : Nat) : State :=
  (List.range 8).foldl (fun t n => if t.fld SY_CKO_CTL_SRC n = p then t.ckoHold1 n else t)
    (s.setPll p { s.pll p with hold := true })
def State.ckoHoldAll (s : State) : State := (List.range 4).foldl State.ckoHoldOf s

/-- HOLDING is that of the OPLL that SRC names (R109). -/
def State.ckoSrc (s : State) (n : Nat) : State :=
  s.setFld SY_CKO_STATUS_HOLDING n (b2n (s.pll (s.fld SY_CKO_CTL_SRC n)).hold)

/-- Step 3: the core clocks switch to SAFE_OSC unless they run from it already (R22, R48, R100). -/
def State.toSafe (s : State) : State :=
  if s.safe then s
  else
    let s := (s.set1 TC_STATUS_SAFE_CLOCK 0).set1 TC_STATUS_DISTURBED 0
    let s := { s with ti := { s.ti with distClear := false } }
    (s.tmSafeBegin.poHoldBegin).widenAdd 12000

/-- Step 4: both DRAM channels are in self-refresh (R23). -/
def State.dramSleep (s : State) : State := (s.set1 DR_STATUS_SELF_REFRESH 0).set1 DR_STATUS_SELF_REFRESH 1

/-- Steps 1 to 5 of R100. -/
def State.relockStart (s : State) : State :=
  let s := (s.set1 SY_ROOT_STATUS_RELOCKING 0).ckoHoldAll
  let s := { s with sy := { s.sy with freezeAt := some s.ti.elapsed } }
  ((s.toSafe).dramSleep.rootStep5).engEv 121

/-- A trigger by command: RELOCK, or SWEEP once accepted (R100, R101). -/
def State.relockCmd (s : State) (cmd : Nat) : State :=
  if s.sy.phase = 8 then { s with sy := { s.sy with heldCmd := max s.sy.heldCmd cmd } }
  else
    let s := s.when (cmd == 2) (fun t => t.set1 SY_ROOT_STATUS_SWEEP_BUSY 0)
    if s.sy.phase = 0 then s.relockStart else s.rootStep5

/-- A write of SWEEP that RECOVERY mode keeps from the block (R98, R225). -/
def State.sweepBarred (s : State) : State := s.when s.recovery (fun t => t.log CFG_WHILE_RUNNING .SY)

/-- A write to SY_ROOT_CMD (R98, R100, R101). -/
def State.rootCmd (s : State) (relock sweep : Bool) : State :=
  if sweep then
    if s.service then s.log CFG_WHILE_RUNNING .SY
    else if s.flag TM_LOSC_STATUS_PRESENT 0 = false then s.log FT_LOSC_LOST .SY
    else s.relockCmd 2
  else if relock then (if s.flag SY_ROOT_STATUS_SWEEP_BUSY 0 then s else s.relockCmd 1)
  else s

/-- A loss of lock (R99, R101). -/
def State.lockLoss (s : State) : State :=
  if s.flag SY_ROOT_STATUS_LOCKED 0 then
    let s := ((s.set1 SY_ROOT_STATUS_UNLOCKED 0).clr SY_ROOT_STATUS_LOCKED 0).warmLost.log ROOT_UNLOCK .SY
    if s.sy.phase = 6 then s.rootStep5 else s.relockStart
  else s

/-- Step 8: the core clocks return to the root (R22, R48, R100). -/
def State.switchback (s : State) : State :=
  let s := s.clr TC_STATUS_SAFE_CLOCK 0
  let s := { s with ti := { s.ti with distClear := true }, sy := { s.sy with phase := 8, freezeAt := none } }
  (s.tmRootReturn).widenAdd 12000

/-! ### Output PLLs (R105 to R107) -/

/-- SY_OPLL_MULT_n as one number of 2^-48. -/
def State.opllMult (s : State) (n : Nat) : Nat := s.fld SY_OPLL_MULT_INT n * 2 ^ 48 + s.fld SY_OPLL_MULT_FRAC n

/-- f_ref in MHz under REF_SEL. -/
def State.opllRef (s : State) (n : Nat) : Nat := 100 * 2 ^ s.fld SY_OPLL_CTL_REF_SEL n

/-- The range of a multiplier: 4.8 GHz to 5.6 GHz (R105). -/
def State.multOk (s : State) (n m : Nat) : Bool :=
  4800 * 2 ^ 48 ≤ s.opllRef n * m && s.opllRef n * m ≤ 5600 * 2 ^ 48

/-- M_eff as R105 gives it. -/
def State.meffNow (s : State) (n : Nat) : Nat :=
  if s.flag SY_OPLL_CTL_TRACK n then s.opllMult n * s.fld TC_INC_APPLIED_APPLIED 0 / (5 * 2 ^ 48) else s.opllMult n

/-- An OPLL relock starts (R107): its outputs are in their hold interval (R109). -/
def State.opllStart (s : State) (n : Nat) : State :=
  (((s.clr SY_OPLL_STATUS_LOCKED n).set1 SY_OPLL_STATUS_RELOCKING n).setPll n
    { startAt := s.ti.elapsed, lockedAt := none, failed := false, hold := true }).ckoHoldOf n

/-- Whether the band in use reaches the VCO frequency of a multiplier (R106). -/
def State.inBand (s : State) (n m : Nat) : Bool :=
  Config.opllLow n (s.fld SY_OPLL_STATUS_BAND n) ≤ s.opllRef n * m && s.opllRef n * m ≤ Config.opllHigh n (s.fld SY_OPLL_STATUS_BAND n)

/-- M_eff takes its new value (R105), and a change too large to follow starts a relock (R106). -/
def State.meffUpdate (s : State) (n : Nat) : State :=
  if s.safe then s
  else
    let old := s.fld SY_OPLL_MEFF_MEFF n
    let new := s.meffNow n
    let s := s.setFld SY_OPLL_MEFF_MEFF n new
    let d := if new ≥ old then new - old else old - new
    if s.flag SY_OPLL_CTL_EN n = true ∧ s.flag SY_OPLL_STATUS_RELOCKING n = false ∧ d ≠ 0 ∧
        (d * 1000000 > old * 50 ∨ s.inBand n new = false) then s.opllStart n
    else s

/-- A write to SY_OPLL_MULT_n (R105, R106). -/
def State.multWrite (s : State) (n v : Nat) : State :=
  let m := v % 2 ^ 54
  if s.multOk n m then
    ((s.setFld SY_OPLL_MULT_FRAC n m).setFld SY_OPLL_MULT_INT n (m / 2 ^ 48)).meffUpdate n
  else s.log CFG_RANGE .SY

/-- The OPLLs' part of a tick (R105). -/
def State.opllTick (s : State) : State := (List.range 4).foldl State.meffUpdate s

/-- EN of an output PLL is set, or cleared (R107, R42). -/
def State.opllEnable (s : State) (n : Nat) : State := (s.set1 SY_OPLL_CTL_EN n).opllStart n
def State.opllDisable (s : State) (n : Nat) : State :=
  (((s.clr SY_OPLL_CTL_EN n).clr SY_OPLL_STATUS_LOCKED n).clr SY_OPLL_STATUS_RELOCKING n).setFld SY_OPLL_STATUS_BUSY n
    (b2n ((List.range 8).any (fun k => s.fld SY_CKO_CTL_SRC k == n && s.flag SY_CKO_STATUS_BUSY k)))

/-- An output leaves its hold interval (R109, R111): a GATE output resumes, or waits with ALIGN for the next engine second. -/
def State.ckoRelease1 (s : State) (n : Nat) : State :=
  let al := (s.ck n).alignOn
  let s := (s.clr SY_CKO_STATUS_HOLDING n).setCk n { s.ck n with waitSec := if al then some (secOf s.ti.now) else none }
  s.when ((s.ck n).runs && !s.flag SY_CKO_CTL_HOLD_MODE n && !al) (fun t => t.ckoRun n)

/-- The outputs of a settled OPLL leave their hold modes. -/
def State.ckoRelease (s : State) (p : Nat) : State :=
  (List.range 8).foldl (fun t n => if t.fld SY_CKO_CTL_SRC n = p then t.ckoRelease1 n else t)
    (s.setPll p { s.pll p with hold := false })

/-! ### Clock outputs (R108 to R111) -/

/-- Whether CKO `n` would run at more than 800 MHz (R108). -/
def State.ckoTooFast (s : State) (n : Nat) : Bool :=
  let p := s.fld SY_CKO_CTL_SRC n
  s.opllRef p * s.opllMult p > 800 * 2 ^ 48 * (s.fld SY_CKO_DIV_DIV n + 1)

/-- Whether 1 s is a whole number of nominal periods of CKO `n` (R111). -/
def State.ckoWhole (s : State) (n : Nat) : Bool :=
  let p := s.fld SY_CKO_CTL_SRC n
  s.opllRef p * 1000000 * s.opllMult p % (2 ^ 48 * (s.fld SY_CKO_DIV_DIV n + 1)) == 0

/-- Whether the output stays low: its channel, or its PLL's, is retired (R434). -/
def State.ckoDead (s : State) (n : Nat) : Bool := s.retired 8 n || s.retired 9 (s.fld SY_CKO_CTL_SRC n)

/-- EN of a clock output is set (R108, R111). -/
def State.ckoEnable (s : State) (n : Nat) : State :=
  let s := (s.set1 SY_CKO_CTL_EN n).clr SY_CKO_STATUS_BUSY n
  let fast := s.ckoTooFast n
  let bad := s.flag SY_CKO_CTL_ALIGN n && !s.ckoWhole n
  let al := s.flag SY_CKO_CTL_ALIGN n && !bad
  let s := s.when fast (fun t => t.log CFG_RANGE .SY)
  let s := s.when bad (fun t => t.log CFG_RANGE .SY)
  if s.ckoDead n then s.setCk n CkoSt.init
  else
    let s := s.setCk n { runs := !fast, alignOn := al,
                         waitSec := if al && s.flag SY_OPLL_STATUS_LOCKED (s.fld SY_CKO_CTL_SRC n) then some (secOf s.ti.now) else none }
    s.when (!fast && (s.flag SY_CKO_CTL_HOLD_MODE n || !s.flag SY_CKO_STATUS_HOLDING n)) (fun t => t.ckoRun n)

/-- EN of a clock output is cleared (R108): it rests low after its high phase, and BUSY stands until then, for its OPLL too once
that is disabled. -/
def State.ckoDisable (s : State) (n : Nat) : State :=
  let runs := (s.ck n).runs
  let p := s.fld SY_CKO_CTL_SRC n
  let s := (((s.clr SY_CKO_CTL_EN n).clr SY_CKO_STATUS_ALIGNING n).clr SY_CKO_STATUS_ALIGNED n).setFld SY_CKO_STATUS_BUSY n
    (b2n runs) |>.setCk n CkoSt.init
  (s.when runs (fun t => t.ckoRest n)).when (runs && !s.flag SY_OPLL_CTL_EN p) (fun t => t.set1 SY_OPLL_STATUS_BUSY p)

/-- A retired output rests low; re-enabled, it is what its enable says (R434). -/
def State.ckoRetire (s : State) (n : Nat) : State :=
  let runs := (s.ck n).runs
  ((((s.clr SY_CKO_STATUS_HOLDING n).clr SY_CKO_STATUS_ALIGNING n).clr SY_CKO_STATUS_ALIGNED n).setCk n CkoSt.init).when runs
    (fun t => t.ckoRest n)
def State.ckoBack (s : State) (n : Nat) : State := if s.flag SY_CKO_CTL_EN n then s.ckoEnable n else s
def State.ckoOf (s : State) (p : Nat) (g : State → Nat → State) : State :=
  (List.range 8).foldl (fun t n => if t.fld SY_CKO_CTL_SRC n = p then g t n else t) s

/-! ### Commands that act on this block alone -/

/-- BAND_SWEEP_COMPLETE: 32 pairs of measured lowest and highest frequencies in kHz (R98). -/
def execBandSweepComplete (lo hi : List Nat) (s : State) : Host.Outcome State Fault Refusal :=
  if lo.length = 32 ∧ hi.length = 32 then
    .next (if s.flag SY_ROOT_STATUS_SWEEP_BUSY 0 = true ∧ s.sy.phase = 5 ∧ s.flag TM_LOSC_STATUS_PRESENT 0 = true then
      let s := ((lo.zip hi).zipIdx).foldl (fun t x =>
        ((t.setFld SY_BAND_TABLE_FMIN x.2 (ceilDiv (x.1.1 + 640) 250)).setFld SY_BAND_TABLE_FMAX x.2
          ((x.1.2 - 640) / 250)).set1 SY_BAND_TABLE_VALID x.2) s
      (s.clr SY_ROOT_STATUS_SWEEP_BUSY 0).rootLatch
    else s)
  else .fault .noSuchUnit

/-- ROOT_LOCK_DECLARED (R99, R100 step 6). -/
def execRootLockDeclared (s : State) : Host.Outcome State Fault Refusal :=
  .next (if s.sy.phase = 5 ∧ s.sy.latched = true ∧ s.flag TM_LOSC_STATUS_PRESENT 0 = true then
    { s.set1 SY_ROOT_STATUS_LOCKED 0 with sy := { s.sy with phase := 6 } }
  else s)

/-- SAFE_MEAS_WINDOW: a 1 ms window with its mean period in the format of TC_SAFE_INC (R103). -/
def execSafeMeasWindow (period : Nat) (s : State) : Host.Outcome State Fault Refusal :=
  .next (if s.flag SY_ROOT_STATUS_LOCKED 0 then
    let wins := ((period, s.sy.safeLink) :: s.sy.safeWins).take 64
    let diffs := (wins.zip wins.tail).map (fun p =>
      if p.1.2 then (if p.1.1 ≥ p.2.1 then p.1.1 - p.2.1 else p.2.1 - p.1.1) else 0)
    let d := diffs.foldl max 0
    let s := s.setFld SY_SAFE_MEAS_PERIOD 0 period
    let s := s.when (wins.length == 64) (fun t =>
      t.setFld SY_SAFE_DRIFT_DRIFT 0 (min 0xFFFFFFFF (ceilDiv (d * 256000) (2 ^ 48))))
    { s with sy := { s.sy with safeWins := wins, safeLink := true } }
  else s)

/-- OPLL_ENABLE (R107). -/
def execOpllEnable (n : Nat) (s : State) : Host.Outcome State Fault Refusal :=
  if n < 4 then .next (if s.flag SY_OPLL_CTL_EN n then s else s.opllEnable n) else .fault .noSuchUnit

/-- OPLL_MULT_WRITE (R105, R106). -/
def execOpllMultWrite (a : Actor) (n value : Nat) (s : State) : Host.Outcome State Fault Refusal :=
  if n < 4 then .next (s.gate a .SY (fun t => t.multWrite n value)) else .fault .noSuchUnit

/-- OPLL_LOCKED: the search ends on `band` and the PLL locks (R107). -/
def execOpllLocked (n band : Nat) (s : State) : Host.Outcome State Fault Refusal :=
  if n < 4 ∧ band < 16 then
    .next (if s.flag SY_OPLL_STATUS_RELOCKING n = true ∧ s.sy.phase = 0 ∧ (s.pll n).lockedAt = none then
      (s.setFld SY_OPLL_STATUS_BAND n band).setPll n { s.pll n with lockedAt := some s.ti.elapsed }
    else s)
  else .fault .noSuchUnit

/-- OPLL_SETTLED (R107, R109). -/
def execOpllSettled (n : Nat) (s : State) : Host.Outcome State Fault Refusal :=
  if n < 4 then
    .next (match (s.pll n).lockedAt with
      | some t =>
        if s.flag SY_OPLL_STATUS_RELOCKING n = true ∧ s.sy.phase = 0 ∧ t + 20 * usU ≤ s.ti.elapsed then
          ((s.set1 SY_OPLL_STATUS_LOCKED n).clr SY_OPLL_STATUS_RELOCKING n).ckoRelease n
        else s
      | none => s)
  else .fault .noSuchUnit

/-- CKO_ENABLE (R108). -/
def execCkoEnable (n : Nat) (s : State) : Host.Outcome State Fault Refusal :=
  if n < 8 then .next (if s.flag SY_CKO_CTL_EN n then s else s.ckoEnable n) else .fault .noSuchUnit

/-- CKO_DISABLE (R108). -/
def execCkoDisable (n : Nat) (s : State) : Host.Outcome State Fault Refusal :=
  if n < 8 then .next (if s.flag SY_CKO_CTL_EN n then s.ckoDisable n else s) else .fault .noSuchUnit

/-- Whether `x` fs is less than (2000 - m) / 2000 of `part` / 2D of the nominal period of CKO `n` (R110). -/
def State.ckoShort (s : State) (n part m x : Nat) : Bool :=
  let p := s.fld SY_CKO_CTL_SRC n
  x * 2000 * 2 * s.opllRef p * s.opllMult p < (2000 - m) * part * 2 ^ 48 * 10 ^ 9

/-- An edge of a CLAMP output comes `gap` fs after its latest rising edge (R110): a rising edge too early is suppressed with the
falling edge after it; between the margin and 0.2% beside it, as the guard's accuracy has it (log entry 3). A falling edge
too early is held. -/
def State.ckoGuard (s : State) (n : Nat) (falling : Bool) (gap : Nat) : State :=
  let m := s.fld SY_CKO_CTL_MARGIN n
  if falling then
    let p := s.fld SY_CKO_CTL_SRC n
    let h := s.ckoHigh n
    if s.ckoShort n h m gap then
      s.emit (.clockFall n (ceilDiv ((2000 - m) * h * 2 ^ 48 * 10 ^ 9) (4000 * s.opllRef p * s.opllMult p)))
    else s
  else
    let cut := fun (t : State) =>
      let t := t.rcAdd SY_CKO_SWALLOW_COUNT n 1
      if t.flag SY_CKO_STATUS_HOLDING n then t.engEv 122
      else ((t.set1 SY_CKO_STATUS_GUARD n).logFault CKO_GUARD (chanId 8 n) 0).engEv 122
    if s.ckoShort n (2 * s.ckoD n) m gap then cut s
    else if s.ckoShort n (2 * s.ckoD n) (m - 4) gap then (if bitOf s.free.1 0 then cut s.free.2 else s.free.2)
    else s

/-- CKO_GUARD_SUPPRESS (R110): the guard judges an edge of a running CLAMP output. -/
def execCkoGuardSuppress (n : Nat) (falling : Bool) (gap : Nat) (s : State) : Host.Outcome State Fault Refusal :=
  if n < 8 then
    .next (if s.flag SY_CKO_CTL_EN n = true ∧ s.flag SY_CKO_CTL_HOLD_MODE n = true ∧ (s.ck n).runs = true then
      s.ckoGuard n falling gap
    else s)
  else .fault .noSuchUnit

/-- The divider restarts at this engine second plus the trim (R111); a GATE output resumes with it. -/
def State.ckoAlign (s : State) (n : Nat) : State :=
  let s := (s.set1 SY_CKO_STATUS_ALIGNING n).setCk n { s.ck n with waitSec := none }
  (s.emit (.clockAlign n ((secOf s.ti.now * 10 ^ 12 : Nat) + signed 32 (s.fld SY_CKO_TRIM_TRIM n)))).ckoRun n

/-- CKO_ALIGN_START (R111): at the first engine second after the OPLL settled. -/
def execCkoAlignStart (n : Nat) (s : State) : Host.Outcome State Fault Refusal :=
  if n < 8 then
    .next (match (s.ck n).waitSec with
      | some t =>
        if s.flag SY_CKO_CTL_EN n = true ∧ s.flag SY_CKO_STATUS_HOLDING n = false ∧ t < secOf s.ti.now then s.ckoAlign n
        else s
      | none => s)
  else .fault .noSuchUnit

/-- CKO_ALIGNED (R111). -/
def execCkoAligned (n : Nat) (s : State) : Host.Outcome State Fault Refusal :=
  if n < 8 then
    .next (if s.flag SY_CKO_STATUS_ALIGNING n then
      (s.clr SY_CKO_STATUS_ALIGNING n).set1 SY_CKO_STATUS_ALIGNED n
    else s)
  else .fault .noSuchUnit

end Sys2Proof.Machine
end

