-- ==== Sys2Proof/Machine/Boot.lean ====
section
/-! DEFINITION. Power-up, image loading, launch, measurement, mode requests, quotes and resets (R211 to R233, R178, R179,
R453) as operations. -/

namespace Sys2Proof.Machine

/-! ### Resets (R232, R233) -/

/-- The register fields that a warm reset keeps (R232); RESET_REQUIRED stands until a cold reset (R254; log entry 112). -/
def warmKept : List (Fld × Nat) :=
  [(SY_ROOT_CFG_LOSC_FREQ, 1), (SY_ROOT_CFG_PATH, 1), (SY_ROOT_CFG_BW, 1), (SY_BAND_TABLE_FMIN, 32),
   (SY_BAND_TABLE_FMAX, 32), (SY_BAND_TABLE_VALID, 32), (DR_CFG_WIDTH, 2), (DR_CFG_DENSITY, 2), (DR_CFG_RANKS, 2),
   (DR_CFG_RDIMM, 2), (DR_CFG_RATE, 2), (DR_SCRUB_HOURS, 2), (DR_STATUS_INIT_DONE, 2), (DR_STATUS_CAPACITY, 2),
   (PE_STATUS_LINK_UP, 1), (PE_STATUS_SPEED, 1), (PE_STATUS_WIDTH, 1), (PE_STATUS_BME_PF0, 1), (PE_STATUS_BME_PF1, 1),
   (FM_LAST_FATAL_RECORD, 1), (LC_STATE_RESET_REQUIRED, 1), (GP_GPIO_DIR_DIR, 1), (GP_GPIO_OUT_OUT, 1), (GP_GPIO_PULL_PULL, 1)]

/-- The state after reset that keeps what lies outside the engine: fuses, the host's memory, the supplies and the level of
LOSC_READY, and the model's own fields. -/
def State.resetBase (s : State) : State :=
  { State.reset with
    hostMem := s.hostMem, freeCtr := s.freeCtr, out := s.out, pending := s.pending,
    tmb := { TmBlk.init with ready := s.tmb.ready },
    brd := { BrdSt.init with tap := s.brd.tap },
    bt := { BtSt.init with fuse1 := s.bt.fuse1, fuse2 := s.bt.fuse2, fuse3 := s.bt.fuse3, brown := s.bt.brown } }

/-- A cold reset (R232): everything but the fuses. -/
def State.coldReset (s : State) : State := s.resetBase

/-- The memory that a warm reset keeps: DRAM, shared SRAM and the data RAMs of sequencers 1 to 7 (R232). Working SRAM and
the data RAM of sequencer 0 go only at ROM_READY. -/
def warmMem (m : List Host.Cell) : List Host.Cell :=
  m.filter (fun c => !(0x60000000 ≤ c.1 && c.1 < 0x60100000 && (c.1 - 0x60000000) % 0x20000 < 0x10000))

/-- The registers of a list of fields copied from another state. -/
def State.keepRegs (s old : State) (fs : List (Fld × Nat)) : State :=
  fs.foldl (fun t p => (List.range p.2).foldl (fun u n => u.setFld p.1 n (old.fld p.1 n)) t) s

/-- A warm reset (R232), without the resumption of power-up. -/
def State.warmBase (s : State) : State :=
  { s.resetBase.keepRegs s warmKept with
    mem := warmMem s.mem, poison := s.poison, brd := { BrdSt.init with drCfg := s.brd.drCfg, tap := s.brd.tap } }

/-- BT_RESET_CAUSE of a warm reset: 1 WARM_N, 2 command, 3 fault manager. -/
def State.cause (s : State) (c : Nat) : State :=
  (((s.clr BT_RESET_CAUSE_COLD 0).setFld BT_RESET_CAUSE_WARM_PIN 0 (b2n (c == 1))).setFld BT_RESET_CAUSE_WARM_CMD 0
    (b2n (c == 2))).setFld BT_RESET_CAUSE_FATAL 0 (b2n (c == 3))

/-- The kind 0x04 event (R218, R256). -/
def State.fuseEvent (s : State) : List Nat :=
  padTo 64 ([0x04, s.lifeCycle, 0, 0] ++ fuseRecord s.lifeCycle)

/-- Steps 3 and 4 of power-up: the key store draws its tag key (R242), the fuses are sensed and measured, and sequencer 0 runs the boot ROM (R215). -/
def State.powerUp (s : State) : State :=
  let s := { s.free.2 with bt := { s.bt with held := false }, ks := { s.ks with tagKey := s.free.1 % 2 ^ 384 } }
  let s := s.setFld LC_STATE_CODE 0 s.fuseCode
  let s := s.extend 9 s.fuseEvent
  let s := ((s.seqResetCore 0).clr SQ_STATUS_USER 0).setPc 0 0
  (s.set1 SQ_CTL_EN 0).set1 SQ_STATUS_RUNNING 0

/-- The warm reset, by cause: power-up resumes at step 3 and a relock starts (R232). -/
def State.warmReset (s : State) (c : Nat) : State := ((s.warmBase.cause c).powerUp).rootCmd true false

/-- A PCI Express reset (R232): the core and the PE registers; LINK_LOST says that a link went down with it (log entry 40).
The snapshots and the staged key writes of the functions go with the core (R6, R243). -/
def State.peReset (s : State) : State :=
  let lost := s.flag PE_STATUS_LINK_UP 0 || s.flag PE_STATUS_LINK_LOST 0
  let s := s.resetFlds [PE_STATUS_LINK_UP, PE_STATUS_SPEED, PE_STATUS_WIDTH, PE_STATUS_BME_PF0, PE_STATUS_BME_PF1] 0
  let s := ((List.range 4).foldl (fun t k => t.setFld PE_ERR_COUNT k 0) s).setFld PE_STATUS_LINK_LOST 0 (b2n lost)
  { ((s.dropHeld .pf0).dropHeld .pf1).ksDiscard 0 with pe := PeSt.init }

/-! ### The boot ROM's load (R178, R179, R211 to R214) -/

/-- One entry of the section table. -/
structure Sect where
  typ   : Nat
  seq   : Nat
  flags : Nat
  len   : Nat
  dest  : Nat
  off   : Nat
  crc   : Nat
  rest  : Nat
  deriving DecidableEq, Repr

/-- A little-endian field of a byte string. -/
def leAt (b : List Nat) (off k : Nat) : Nat := ofBytes ((b.drop off).take k)

/-- Section `i` of an image. -/
def sectAt (img : List Nat) (i : Nat) : Sect :=
  let e := (img.drop (64 + 32 * i)).take 32
  { typ := leAt e 0 1, seq := leAt e 1 1, flags := leAt e 2 2, len := leAt e 4 4, dest := leAt e 8 8, off := leAt e 16 4,
    crc := leAt e 20 4, rest := leAt e 24 8 }

/-- Whether IMAGE_LEN meets R178 (log entry 21: zero does not). -/
def imageLenOk (len : Nat) : Bool := len != 0 && len % 64 == 0 && len ≤ 4194304

/-- Whether the header meets R178. -/
def headerOk (img : List Nat) (len : Nat) : Bool :=
  imageLenOk len && leAt img 0 4 == 0x014B4447 && leAt img 4 2 == 1 && leAt img 6 2 == 64 && leAt img 12 2 != 0 &&
    leAt img 12 2 ≤ 64 && leAt img 14 2 < 2 && leAt img 16 4 == 0x8830 && leAt img 20 2 == 0xB0 && leAt img 22 2 == 0 &&
    leAt img 33 31 == 0 && 64 + 32 * leAt img 12 2 ≤ len

/-- Whether a section entry's fields meet R178. -/
def Sect.fieldsOk (x : Sect) : Bool :=
  1 ≤ x.typ && x.typ ≤ 4 && (if x.typ = 3 then x.seq == 0xFF else decide (x.seq < 8)) && x.flags < 2 && x.len % 4 == 0 &&
    x.off % 64 == 0 && x.rest == 0 && (x.flags != 1 || x.crc == 0) &&
    (x.typ != 4 || (x.dest == 0 && x.len == 20)) && (x.typ != 3 || decide (x.dest < 2 ^ 40))

/-- Whether two sections overlap in their destinations. -/
def Sect.overlaps (x y : Sect) : Bool :=
  x.typ == y.typ && (x.typ == 3 || x.seq == y.seq) && x.dest < y.dest + y.len && y.dest < x.dest + x.len

/-- Whether a type 3 destination is permitted (R179, R214). -/
def State.destOk (s : State) (x : Sect) : Bool :=
  (0x20000000 ≤ x.dest && x.dest + x.len ≤ 0x20400000) || (0x30800000 ≤ x.dest && x.dest + x.len ≤ 0x31000000) ||
    (0x1000000000 ≤ x.dest && x.dest < 0x2000000000 && s.flag DR_STATUS_INIT_DONE (dramCh x.dest) &&
      decide (dramOff x.dest + x.len ≤ s.dramCap (dramCh x.dest)))

/-- The payload of a section. -/
def Sect.payload (x : Sect) (img : List Nat) : List Nat :=
  if x.flags % 2 = 1 then List.replicate x.len 0 else (img.drop x.off).take x.len

/-- The RESULT codes a section fails with (R214), after the sections before it. -/
def State.sectFails (s : State) (img : List Nat) (len : Nat) (before : List Sect) (x : Sect) : List Nat :=
  if !x.fieldsOk then [3]
  else
    (if (x.flags = 0 ∧ len < x.off + x.len) ∨ (x.typ ≤ 2 ∧ 65536 < x.dest + x.len) then [4] else []) ++
    (if before.any (fun y => x.overlaps y) ∨ (x.typ = 3 ∧ x.dest < 0x20000000 + len ∧ 0x20000000 < x.dest + x.len)
      then [5] else []) ++
    (if x.flags = 0 ∧ crc32c (x.payload img) ≠ x.crc then [6] else []) ++
    (if x.typ = 3 ∧ s.destOk x = false then [7] else []) ++
    (if x.typ = 1 ∧ s.iramLocked x.seq = true then [9] else [])

/-- The first failing section and its codes. -/
def State.firstFail (s : State) (img : List Nat) (len : Nat) : Nat → List Sect → List Sect → Option (Nat × List Nat)
  | _, _, [] => none
  | i, before, x :: xs =>
    if s.sectFails img len before x = [] then s.firstFail img len (i + 1) (before ++ [x]) xs
    else some (i, s.sectFails img len before x)

/-- The sections of an image. -/
def sections (img : List Nat) : List Sect := (List.range (leAt img 12 2)).map (sectAt img)

/-- The check of R214 step 2: RESULT and SECTION. Which of several codes a section's failures give is open (log entry 22):
a free value chooses. -/
def State.checkImage (s : State) (img : List Nat) (len : Nat) : Nat × Nat × State :=
  if !headerOk img len then (3, 0, s)
  else
    match s.firstFail img len 0 [] (sections img) with
    | none => (2, 0, s)
    | some (i, [c]) => (c, i, s)
    | some (i, cs) => (cs.getD (s.free.1 % cs.length) 3, i, s.free.2)

/-- A value written to a setting of kind 0x08 and measured (R220); nothing once locked (R221). -/
def State.setting (s : State) (n r v : Nat) : State :=
  if s.iramLocked n then s
  else
    (match r with
     | 0 => s.setFld SQ_ENTRY_ENTRY n v
     | 1 => s.setFld SQ_VECTOR_BASE n (v / 256)
     | 2 => s.setFld SQ_USER_PORTS_GROUPS n v
     | 3 => (s.setFld SQ_USER_TARGETS_TARGETS n v).setFld SQ_USER_TARGETS_SEQ_RAM n (v / 1024)
     | _ => s.setFld SQ_CTL_START_USER n v).settingEvent n r (v % 2 ^ 32)

/-- What a setting of kind 0x08 holds. -/
def State.settingHeld (s : State) (n r : Nat) : Nat :=
  match r with
  | 0 => s.fld SQ_ENTRY_ENTRY n
  | 1 => s.fld SQ_VECTOR_BASE n * 256
  | 2 => s.fld SQ_USER_PORTS_GROUPS n
  | 3 => s.fld SQ_USER_TARGETS_TARGETS n + 1024 * s.fld SQ_USER_TARGETS_SEQ_RAM n
  | _ => s.fld SQ_CTL_START_USER n

/-- A setting written by the boot ROM: of a sequencer that is not quiescent it is ignored (R10); sequencer 0, which runs the boot
ROM, takes its own (log entry 113). -/
def State.settingLoad (s : State) (n r v : Nat) : State :=
  if s.iramIdle n then s.setting n r v
  else s.when ((s.setting n r v).settingHeld n r != s.settingHeld n r) (fun t => t.log CFG_WHILE_RUNNING .SQ)

/-- A section copied (R214 step 5): the words of an instruction RAM by controller 8, as any actor writes them (R166, R219). -/
def State.copySect (s : State) (img : List Nat) (x : Sect) : State :=
  let p := x.payload img
  match x.typ with
  | 1 => s.iramWords (.seq 0) x.seq x.dest p
  | 2 => { s with mem := memPutBytes s.mem (dramBase x.seq + x.dest) p }
  | 3 => s.store x.dest p
  | _ => (List.range 5).foldl (fun t r => t.settingLoad x.seq r (leAt p (4 * r) 4)) s

/-- An instruction RAM is locked and the lock measured (R221). -/
def State.iramLock (s : State) (n : Nat) : State :=
  if s.iramLocked n then s
  else (s.setFld BT_IRAM_LOCK_LOCK 0 (s.fld BT_IRAM_LOCK_LOCK 0 + 2 ^ n)).extend (n + 1) (padTo 16 [0x03])

/-- The load ends with a result. -/
def State.loadEnd (s : State) (result sect : Nat) : State :=
  { ((s.setFld BT_LOAD_STATUS_RESULT 0 result).setFld BT_LOAD_STATUS_SECTION 0 sect).clr BT_STATUS_LOADING 0 with
    bt := { s.bt with imgLen := 0, launch := none } }

/-- The load (R212 to R214): what the boot ROM does up to its last instruction. -/
def State.loadRun (s : State) : State :=
  let s := ((s.set1 BT_STATUS_LOADING 0).setFld BT_LOAD_STATUS_RESULT 0 1).setFld BT_LOAD_STATUS_LOADS 0
    (min 65535 (s.fld BT_LOAD_STATUS_LOADS 0 + 1))
  if s.flag SY_ROOT_STATUS_LOCKED 0 = false then s.loadEnd 8 0
  else
    let hdr := s.bytesAt 0x20000000 64
    let len := leAt hdr 8 4
    let img := s.bytesAt 0x20000000 (if imageLenOk len then len else 64)
    let r := s.checkImage img len
    let ev := padTo 64 (padTo 16 ([0x01, r.1, 0, 0] ++ toBytesBE 4 len ++ toBytesBE 8 (leAt hdr 24 8)) ++ sha384b img)
    let s := r.2.2.extend 0 ev
    if r.1 ≠ 2 then (s.loadEnd r.1 r.2.1).logFault IMAGE_REJECTED (Blk.chan .BT) r.1
    else
      let s := (sections img).foldl (fun t x => t.copySect img x) s
      let s := if leAt img 14 2 = 1 then
          (List.range 8).foldl (fun t n =>
            if (sections img).any (fun x => x.typ == 1 && x.seq == n) then t.iramLock n else t) s
        else s
      let s := s.extend 0 (padTo 16 [0x07, leAt img 32 1, leAt img 14 1])
      { s with bt := { s.bt with imgLen := len, launch := some (leAt img 32 1) } }

/-- BT_LOAD.GO (R211). -/
def State.loadGo (s : State) : State :=
  if s.flag BT_STATUS_LAUNCHED 0 = true ∨ s.flag BT_STATUS_LOADING 0 = true then s
  else if s.flag BT_STATUS_ROM_READY 0 = false then { s with bt := { s.bt with goHeld := true } }
  else s.loadRun

/-- Step 5 of power-up (R232): working SRAM and the data RAM of sequencer 0 are zeroed, ROM_READY sets, the
GPIO registers that a warm reset kept take their reset values (R423), a held GO runs. -/
def State.romReady (s : State) : State :=
  let go := s.bt.goHeld
  let s := s.resetFlds [GP_GPIO_DIR_DIR, GP_GPIO_OUT_OUT, GP_GPIO_PULL_PULL] 0
  let s := { s.set1 BT_STATUS_ROM_READY 0 with
    mem := memClear (memClear s.mem 0x20000000 0x400000) (dramBase 0) 0x10000, bt := { s.bt with goHeld := false } }
  if go then s.loadGo else s

/-- Transaction `x` of sequencer `n`, to target 0 or 1 before remap, ends (R169, R389, R390). -/
def State.romTxn (s : State) (n : Nat) (x : Txn) : State :=
  let len := if x.wide then 16 else 4
  if x.store = true ∨ s.served (.seq n) x.addr false = false then
    (s.decodeErr (.seq n) x.addr).raise n 6 x.pc true x.addr
  else s.txnFill n x (ofBytes (s.bytesAt x.addr len))

/-- The transactions outstanding to targets 0 and 1 complete (R216 step 2). -/
def State.romDrain (s : State) : State :=
  (List.range 8).foldl (fun t n =>
    let q := t.seq n
    let rom := fun (x : Txn) => targetOf x.addr == some 0 || targetOf x.addr == some 1
    (q.txns.filter rom).foldl (fun u x => u.romTxn n x) (t.setSeq n { q with txns := q.txns.filter (fun x => !rom x) })) s

/-- The launch (R216). -/
def State.launch (s : State) (mask : Nat) : State :=
  let loading := s.flag BT_STATUS_LOADING 0
  let s := ((s.clr SQ_CTL_EN 0).clr SQ_STATUS_RUNNING 0).romDrain
  let s := (s.set1 BM_REMAP_REMAP 0).set1 BT_STATUS_LAUNCHED 0
  let s := (List.range 8).foldl (fun t n => if bitOf mask n then (t.seqReset n).seqEnable n else t) s
  if loading then s.loadEnd 2 0 else s

/-- Whether the actor's write to BT_LAUNCH is taken (R216). -/
def State.launchOk (s : State) (a : Actor) : Bool := ctrlOf a == 8 && !s.flag BT_STATUS_LAUNCHED 0

/-- BT_EXTEND.GO (R222). -/
def State.hostExtend (s : State) (a : Actor) : State :=
  if s.flag BT_STATUS_EXT_BUSY 0 then s
  else (s.extend 11 (padTo 64 (padTo 16 [0x06, actorNo a] ++ toBytes 48 (s.fld BT_EXT_DATA_DATA 0)))).set1
    BT_STATUS_EXT_BUSY 0

/-! ### Mode requests (R2, R3, R224, R436) -/

/-- The reason a request is refused; 0 when it is taken. -/
def State.modeRefuse (s : State) (req : Nat) : Nat :=
  if !((s.mode = 0 ∧ (req = 1 ∨ req = 2)) ∨ ((s.mode = 1 ∨ s.mode = 2) ∧ req = 3)) then 1
  else if req = 1 ∧ s.flag BT_STATUS_LAUNCHED 0 = false then 2
  else if req = 1 ∧ s.flag SY_ROOT_STATUS_LOCKED 0 = false then 3
  else if req = 1 ∧ (s.lifeCycle = 0 ∨ s.lifeCycle = 3) then 4
  else if req = 1 ∧ s.flag FM_STATUS_FATAL 0 = true then 5
  else 0

/-- A request for a mode: the last one of a tick is judged at its end (R224). -/
def State.modeAsk (s : State) (req : Nat) : State := { s with bt := { s.bt with modeReq := some req } }

/-- The request is judged: the change is due, or it is refused. -/
def State.modeJudge (s : State) : State :=
  match s.bt.modeReq with
  | some req =>
    let why := s.modeRefuse req
    let s := { s with bt := { s.bt with modeReq := none } }
    if why = 0 then { s with bt := { s.bt with modeDue := some req } }
    else ((s.setFld BT_MODE_REASON 0 why).set1 BT_MODE_REFUSED 0).logFault MODE_REFUSED (Blk.chan .BT) why
  | none => s

/-- The mode becomes `m`: pulse outputs are held in RECOVERY, TEST leaves its mark (R226). -/
def State.modeTake (s : State) (m : Nat) : State :=
  let s := { s.setFld BT_MODE_MODE 0 m with bt := { s.bt with modeDue := none, test := s.bt.test || m == 2 } }
  if m = 3 then s.poHoldBegin else s

/-- A change of mode that is due takes effect. -/
def State.modeGo (s : State) : State :=
  match s.bt.modeDue with
  | some m => s.modeTake m
  | none => s

/-- The mode of the next tick (R224). -/
def State.modeTick (s : State) : State := s.modeJudge.modeGo

/-- Who may request a mode and set locks: PF0 and supervisor-mode programs (R221, R222, R224). -/
def State.privileged (s : State) (a : Actor) : Bool :=
  match a with
  | .pf0 => true
  | .seq n => !s.user n
  | _ => false

/-! ### Quotes (R226 to R231) -/

/-- Bytes 0 to 671 of a quote. -/
def State.quoteBody (s : State) (src : Nat) (nonce : List Nat) : List Nat :=
  [0x4A, 0x51, 0x01, 0x00, 0, 1] ++ toBytesBE 2 736 ++ toBytesBE 8 Config.unitId ++ toBytesBE 2 0x8830 ++
    toBytesBE 2 0x00B0 ++ [s.lifeCycle, s.mode, s.fld RS_STATE_ENGINE_STATE 0,
      s.fld BT_STATUS_LAUNCHED 0 + 2 * b2n s.bt.debug + 4 * s.fld TC_CTL_STEP_EN 0 + 8 * b2n s.bt.test,
      s.fld BT_IRAM_LOCK_LOCK 0, src, 0, 0] ++ toBytesBE 4 s.bt.quotes ++ toBytesBE 16 (toTime128 s.now) ++
    toBytesBE 4 (s.fld BG_CURRENT_BOUND 0) ++ List.replicate 12 0 ++ padTo 32 nonce ++
    (List.range 12).flatMap (fun i => s.maBytes i)

/-- A quote is captured and waits for its signature (R227, R228). -/
def State.quoteCapture (s : State) (src : Nat) (nonce : List Nat) (req port peer : Nat) : State :=
  let s := { s with bt := { s.bt with quotes := s.bt.quotes + 1 } }
  { s with bt := { s.bt with signQ := s.bt.signQ ++
    [{ src := src, body := s.quoteBody src nonce, signer := 2, req := req, port := port, peer := peer }] } }

/-- BT_Q_CTL_s.GO (R229): refused in BLANK (R236) and once the fuses have been blown (R254). -/
def State.quoteGo (s : State) (i : Nat) : State :=
  if s.flag BT_Q_STATUS_BUSY i then s
  else if s.lifeCycle = 0 ∨ s.flag LC_STATE_RESET_REQUIRED 0 = true then s.ksRefuseBy (if i = 0 then .pf0 else .pf1) 0 1
  else (s.set1 BT_Q_STATUS_BUSY i).quoteCapture i (toBytes 32 (s.fld BT_Q_NONCE_NONCE i)) 0 0 0

/-- A signed quote delivered to its register window (R229). -/
def State.quoteDone (s : State) (i : Nat) (q : List Nat) : State :=
  let s := ((s.setFld BT_Q_OUT_QUOTE i (ofBytes q)).clr BT_Q_STATUS_BUSY i).set1 BT_Q_STATUS_DONE i
  s.when (s.flag BT_Q_CTL_IRQ_EN i) (fun t => t.msix i (t.fld BT_Q_CTL_VECTOR i))

/-- A signed statement delivered (R252). -/
def State.stmtDone (s : State) (i : Nat) (b : List Nat) : State :=
  ((s.setFld KS_STMT_OUT_STATEMENT i (ofBytes b)).clr KS_STMT_CTL_BUSY i).set1 KS_STMT_CTL_DONE i

/-- The response payload of a network quote (R230). -/
def attestResponse (req : Nat) (q : List Nat) : List Nat :=
  [0x4A, 0x41, 0x02, 0x00] ++ toBytesBE 4 req ++ [0, 0, 0, 0] ++ q

/-- Whether a request payload meets R230 and R231. -/
def attestOk (p : List Nat) : Bool := 748 ≤ p.length && p.take 4 == [0x4A, 0x41, 0x01, 0x00]

/-- Quotes of the network that wait for signature (R228). -/
def State.netWaiting (s : State) : Nat := (s.bt.signQ.filter (fun x => x.src == 2)).length

/-- Whether the budget of this engine second is spent (R231); and one quote of it spent. -/
def State.netSpent (s : State) : Bool := s.bt.netSec == secOf s.now && s.fld BT_NET_RATE_RATE 0 ≤ s.bt.netUsed
def State.netSpend (s : State) : State :=
  { s with bt := { s.bt with netSec := secOf s.now,
                             netUsed := (if s.bt.netSec = secOf s.now then s.bt.netUsed else 0) + 1 } }

end Sys2Proof.Machine
end

