-- ==== Sys2Proof/Machine/Holdover.lean ====
section
/-! DEFINITION. The holdover block (R135 to R148): history, means, the loss tick, the increment, the armed coefficients,
the LOST threshold and the plausibility rules as operations. The commands that may retire a channel are in RefCmds.lean. -/

namespace Sys2Proof.Machine

/-- The block beyond its registers replaced. -/
def State.setHo (s : State) (h : HoSt) : State := { s with ho := h }

/-- A bit of HO_EVENT sets; becoming set it latches event 18 (R156). -/
def State.hoEvent (s : State) (f : Fld) : State := s.statusEvent f 0 18

/-! ### Temperatures (R141) -/

/-- The sum of the four die readings. -/
def State.dieSum (s : State) : Int :=
  (List.range 4).foldl (fun a n => a + signed 16 (s.fld HO_TEMP_DIE_TEMP n)) 0

/-- The temperature TEMP_SRC selects, in quarters of 1/256 °C. -/
def State.temp4 (s : State) : Int :=
  if s.flag HO_CTL_TEMP_SRC 0 then s.dieSum else 4 * signed 16 (s.fld HO_TEMP_BOARD_TEMP 0)

/-- A write of HO_TEMP_BOARD (R141). -/
def State.boardWrite (s : State) (v : Nat) : State :=
  ((s.setFld HO_TEMP_BOARD_TEMP 0 v).clr HO_STATUS_TEMP_STALE 0).setHo { s.ho with tempAt := s.ti.elapsed }

/-- Whether no write has come for AGE_MAX_MS (R141). -/
def State.tempStaleDue (s : State) : Bool :=
  !s.flag HO_STATUS_TEMP_STALE 0 && s.ho.tempAt + s.fld HO_TEMP_CFG_AGE_MAX_MS 0 * msU ≤ s.ti.elapsed

/-! ### History (R135 to R138) -/

/-- Where the entry of engine second `sec` stands (R135). -/
def State.histAddr (s : State) (sec : Nat) : Nat :=
  0x30000000 + s.fld HO_HIST_BASE_OFFSET 0 * 16 + sec % 86400 * 16

/-- What one tick adds to the entry of the present second (R136). -/
def State.hoTick (s : State) : State :=
  let h := s.ho
  s.setHo { h with
    incSum := h.incSum + s.increment, ticks := h.ticks + 1,
    locked := h.locked && s.fld RS_STATE_ENGINE_STATE 0 == 2,
    clean := h.clean && !s.flag TC_STATUS_DISTURBED 0,
    slid := h.slid || s.flag TC_STATUS_SLIDE_ACTIVE 0 }

/-- A fraction rounded to the nearest whole number, halves away from zero (R140). -/
def roundAway (num : Int) (den : Nat) : Int :=
  if num < 0 then -((2 * -num + den) / (2 * (den : Int))) else (2 * num + den) / (2 * (den : Int))

/-- The mean deviation of TC_INCREMENT over the second, to the nearest unit (R136). -/
def State.incDev (s : State) : Int :=
  if s.ho.ticks = 0 then 0
  else roundHalfUp ((s.ho.incSum : Int) - (s.ho.ticks * (5 * 2 ^ 48) : Nat)) s.ho.ticks

/-- The 16 bytes of the entry, `dev` its deviation and `die` the mean of the die readings (R136). -/
def State.histEntry (s : State) (dev die : Int) : Nat :=
  let h := s.ho
  let valid := h.locked && h.clean && !h.stepped
  h.sec % 2 ^ 32 + wrapTo 48 dev * 2 ^ 32 + s.fld HO_TEMP_BOARD_TEMP 0 * 2 ^ 80 + wrapTo 16 die * 2 ^ 96 +
  2 ^ 112 * (b2n valid + 2 * b2n s.warm + 4 * s.fld HO_STATUS_TEMP_STALE 0 + 8 * b2n h.slid +
    16 * s.fld RS_STATE_SELECTED 0 + 128 * s.fld RS_STATE_SEL_VALID 0)

/-- The entry of second `sec` as (second, deviation, selected temperature in 1/256 °C), when it is usable (R137). -/
def State.usable (s : State) (sec : Nat) : Option (Nat × Int × Int) :=
  let e := memNat s.mem (s.histAddr sec) 16
  if bitOf e 112 = true ∧ e % 2 ^ 32 = sec % 2 ^ 32 ∧ (bitOf e 113 = true ∨ s.flag HO_MIN_COUNT_NEED_WARM 0 = false) then
    some (sec, signed 48 (bits e 32 48), signed 16 (if s.flag HO_CTL_TEMP_SRC 0 then bits e 96 16 else bits e 80 16))
  else none

/-- L and W of R138. -/
def State.lookback (s : State) : Nat := s.fld HO_AVG_CFG_LOOKBACK_S 0
def State.window (s : State) : Nat := s.fld HO_AVG_CFG_WINDOW_S 0

/-- The usable entries of `k` seconds that end before second `top`, no farther back than second 0. -/
def State.usableRange (s : State) (top : Nat) : Nat → List (Nat × Int × Int)
  | 0 => []
  | k + 1 => (if k < top then (s.usable (top - 1 - k)).toList else []) ++ s.usableRange top k

/-- The mean of a component over entries; the rounding is the spec's to state and it states none (log entry 3). -/
def State.meanOf (s : State) (l : List (Nat × Int × Int)) (g : Nat × Int × Int → Int) : Int × State :=
  s.quot (l.foldl (fun a e => a + g e) 0) l.length

/-- HO_AVG_INC, HO_AVG_TEMP and HO_AVG_COUNT published from the counted entries (R138). -/
def State.avgPublish (s : State) : State :=
  let l := s.ho.counted
  let a := s.meanOf l (fun e => e.2.1)
  let b := a.2.meanOf l (fun e => e.2.2)
  ((b.2.setFld HO_AVG_INC_DEV 0 (wrapTo 48 a.1)).setFld HO_AVG_TEMP_TEMP 0 (wrapTo 16 b.1)).setFld HO_AVG_COUNT_COUNT 0
    l.length

/-- The running sums move to second `S` (R138). -/
def State.avgStep (s : State) (S : Nat) : State :=
  let top := S - s.lookback
  let kept := s.ho.counted.filter (fun e => S < e.1 + s.lookback + s.window + 1)
  let add := if top = 0 then [] else (s.usable (top - 1)).toList
  (s.setHo { s.ho with counted := kept ++ add.filter (fun e => !kept.any (fun k => k.1 == e.1)) }).avgPublish

/-- The entry of the second just ended is written and the sums follow (R135, R138). -/
def State.hoHistory (s : State) : State :=
  let S := secOf s.now
  let s :=
    if s.flag HO_CTL_EN 0 then
      let m := if s.ho.dieCnt = 0 then s.quot s.dieSum 4 else s.quot s.ho.dieSum (4 * s.ho.dieCnt)
      let t := { m.2 with mem := memPut m.2.mem (s.histAddr s.ho.sec) 16 (s.histEntry s.incDev m.1) }
      if t.flag HO_STATUS_SUMMING 0 then t else t.avgStep S
    else s
  s.setHo { s.ho with sec := S, incSum := 0, ticks := 0, dieSum := 0, dieCnt := 0, locked := true, clean := true,
                      stepped := false, slid := false }

/-- EN of HO_CTL goes from 0 to 1, or to 0 (R138). -/
def State.hoEnable (s : State) : State := (s.set1 HO_CTL_EN 0).set1 HO_STATUS_SUMMING 0
def State.hoDisable (s : State) : State :=
  (((s.clr HO_CTL_EN 0).clr HO_STATUS_SUMMING 0).setHo { s.ho with counted := [] }).avgPublish

/-- The sums built from the history (R138). -/
def State.hoSummed (s : State) : State :=
  let S := secOf s.now
  ((s.clr HO_STATUS_SUMMING 0).setHo
    { s.ho with counted := s.usableRange (S - s.lookback) s.window }).avgPublish

/-! ### The increment in holdover (R140) -/

/-- Whether the block may drive the increment. -/
def State.hoMay (s : State) : Bool :=
  (s.fld RS_STATE_ENGINE_STATE 0 == 3 || s.fld RS_STATE_ENGINE_STATE 0 == 4) && s.flag HO_CTL_AUTO 0
    && s.flag HO_STATUS_HOLD_READY 0

/-- k of R140, and HO_ELAPSED as it reads. -/
def State.hoK (s : State) : Int := (secOf s.now : Int) - s.ho.lossSec

/-- The increment of R140 before its range; the die mean enters exactly. -/
def State.hoInc (s : State) : Int :=
  let corr4 := 4 * signed 32 (s.fld HO_AGING_RATE 0) * s.hoK +
    signed 32 (s.fld HO_TEMPCO_COEF 0) * (s.temp4 - 4 * signed 16 (s.fld HO_HOLD_TEMP_TEMP 0))
  (s.fld HO_HOLD_INC_INC 0 : Int) + roundAway corr4 (4 * 2 ^ 16)

/-- TC_INCREMENT is written and commits on the next tick (R140). -/
def State.hoWrite (s : State) : State :=
  let v := s.hoInc
  let c : Int := max 0x0004000000000000 (min 0x0005FFFFFFFFFFFF v)
  let s := s.when (c != v) (fun t => t.log CFG_RANGE .HO)
  (s.setShadow TC_INCREMENT_INC_NS 0 (c.toNat / 2 ^ 48)).setShadow TC_INCREMENT_INC_FRAC 0 c.toNat

/-- The first tick on which the conditions hold: the block begins to drive; when they cease it stops (R140). -/
def State.hoKick (s : State) : State :=
  if s.hoMay then (if s.flag HO_STATUS_DRIVING 0 then s else (s.set1 HO_STATUS_DRIVING 0).hoWrite)
  else s.clr HO_STATUS_DRIVING 0

/-- The block's write of every engine second (R140). -/
def State.hoSecondWrite (s : State) : State :=
  if s.hoMay then (s.set1 HO_STATUS_DRIVING 0).hoWrite else s.clr HO_STATUS_DRIVING 0

/-! ### The loss tick (R139, R142) -/

/-- The values chosen (R139): source, increment, temperature. -/
def State.hoLatch (s : State) (src inc : Nat) (temp : Int) : State :=
  let s := ((((s.setFld HO_HOLD_INC_INC 0 inc).setFld HO_HOLD_TEMP_TEMP 0 (wrapTo 16 temp)).setFld
    HO_STATUS_HOLD_SRC 0 src).set1 HO_STATUS_HOLD_READY 0).setHo { s.ho with wait := false }
  s.when (src != 1) (fun t => t.logFault HOLD_FALLBACK (Blk.chan .HO) src)

/-- The nominal increment plus a deviation. -/
def nominalPlus (dev : Int) : Nat := wrapTo 64 (0x0005000000000000 + dev)

/-- Source `src` latched with the means over `l`. -/
def State.hoMeans (s : State) (src : Nat) (l : List (Nat × Int × Int)) : State :=
  let a := s.meanOf l (fun e => e.2.1)
  let b := a.2.meanOf l (fun e => e.2.2)
  b.2.hoLatch src (nominalPlus a.1) b.1

/-- The source is chosen once scan and summing are done, by what the loss tick latched (R139): the window only when its sums were
still being built then; what it holds is what the sums of that tick come to. With source LAST there is no entry whose temperature
could be averaged, and HO_HOLD_TEMP is a free value (log entry 3). -/
def State.hoChoose (s : State) : State :=
  let w := if s.ho.lossSum then [] else s.usableRange (s.ho.lossSec - s.ho.lossL) s.ho.lossW
  let l := s.usableRange (s.ho.lossSec - s.ho.lossL) 86400
  if s.ho.lossSum = false ∧ s.ho.lossMin ≤ w.length then s.hoMeans 1 w
  else if s.ho.lossMin ≤ l.length then s.hoMeans 2 l
  else s.free.2.hoLatch 3 s.ho.lossInc s.free.1

/-- Source WINDOW on the loss tick itself (R139). -/
def State.hoWindow (s : State) : State :=
  s.hoLatch 1 (nominalPlus (signed 48 (s.fld HO_AVG_INC_DEV 0))) (signed 16 (s.fld HO_AVG_TEMP_TEMP 0))

/-- What the block does on the loss tick (R139, R142). -/
def State.hoLoss (s : State) : State :=
  let s := ((s.setFld HO_LOSS_TIME_TIME 0 (toTime128 s.now)).clr HO_STATUS_HOLD_READY 0).setFld HO_STATUS_HOLD_SRC 0 0
  let sums := !s.flag HO_STATUS_SUMMING 0
  let s := (s.setHo { s.ho with wait := true, lossInc := s.increment, lossSec := secOf s.now, lossSum := sums,
                                lossMin := s.fld HO_MIN_COUNT_COUNT 0, lossL := s.lookback,
                                lossW := s.window }).hoEvent HO_EVENT_LOSS
  let s := s.when (sums && decide (s.fld HO_MIN_COUNT_COUNT 0 ≤ s.fld HO_AVG_COUNT_COUNT 0)) State.hoWindow
  if s.flag HO_CTL_ARM_EN 0 then
    let add := s.flag HO_CTL_B0_ADD_CUR 0
    let b0 := s.fld HO_ARM_COEF_B0 0
    let b0 := if add then (if s.fld BG_CURRENT_BOUND 0 = 0xFFFFFFFF then 0xFFFFFFFF
      else addBound b0 (s.fld BG_CURRENT_BOUND 0)) else b0
    (((((s.setShadow BG_COEF_B0 0 b0).setShadow BG_COEF_B1 0 (s.fld HO_ARM_COEF_B1 0)).setShadow BG_COEF_B2 0
      (s.fld HO_ARM_COEF_B2 0)).setShadow BG_COEF_RESTART 0 1).setShadow BG_COEF_CLR_WIDEN 0 (b2n add)).hoEvent
      HO_EVENT_ARM_COMMIT
  else s

/-! ### Plausibility (R145 to R148) -/

/-- The independence group of reference `n` (HO_PLAUS_GROUP). -/
def State.plausGroup (s : State) (n : Nat) : Nat :=
  match n with
  | 0 => s.fld HO_PLAUS_GROUP_GROUP_0 0
  | 1 => s.fld HO_PLAUS_GROUP_GROUP_1 0
  | 2 => s.fld HO_PLAUS_GROUP_GROUP_2 0
  | 3 => s.fld HO_PLAUS_GROUP_GROUP_3 0
  | 4 => s.fld HO_PLAUS_GROUP_GROUP_4 0
  | 5 => s.fld HO_PLAUS_GROUP_GROUP_5 0
  | 6 => s.fld HO_PLAUS_GROUP_GROUP_6 0
  | _ => s.fld HO_PLAUS_GROUP_GROUP_7 0

/-- Whether reference `n` has PLAUS_EXEMPT, and the bit set or cleared. -/
def State.exempt (s : State) (n : Nat) : Bool := bitOf (s.fld HO_REF_FLAGS_PLAUS_EXEMPT 0) n
def State.exemptSet (s : State) (n : Nat) : State :=
  (s.setFld HO_REF_FLAGS_PLAUS_EXEMPT 0 (s.fld HO_REF_FLAGS_PLAUS_EXEMPT 0 ||| 2 ^ n)).hoEvent HO_EVENT_EXEMPT
def State.exemptClr (s : State) (n : Nat) : State :=
  if s.exempt n then s.setFld HO_REF_FLAGS_PLAUS_EXEMPT 0 (s.fld HO_REF_FLAGS_PLAUS_EXEMPT 0 - 2 ^ n) else s

/-- The plausibility limit in ps, saturating (R145). -/
def State.plausLimit (s : State) (unc : Nat) : Nat :=
  addBound (addBound unc (s.fld BG_CURRENT_BOUND 0)) (s.fld HO_PLAUS_CFG_MARGIN_NS 0 * 1000)

/-- Whether a phase of num/den units of 2^-16 ns passes (R145). -/
def State.plausible (s : State) (num : Int) (den unc : Nat) : Bool :=
  s.fld BG_CURRENT_BOUND 0 == 0xFFFFFFFF || s.plausLimit unc == 0xFFFFFFFF ||
    decide (num.natAbs * 1000 ≤ s.plausLimit unc * 65536 * den)

/-- The widening of a selection under R148, `q` in 2^-16 ns: the amount itself is exact, an uncertainty without bound one that
saturates BG_WIDEN. -/
def State.exemptWiden (s : State) (n : Nat) (q : Int) : State :=
  let unc := s.fld RS_UNC_UNC n
  let cur := s.fld BG_CURRENT_BOUND 0
  let sum := if unc = 0xFFFFFFFF then 0xFFFFFFFF + cur else unc + ceilDiv (q.natAbs * 1000) 65536
  if s.exempt n = true ∧ (s.fld RS_STATE_ENGINE_STATE 0 = 3 ∨ s.fld RS_STATE_ENGINE_STATE 0 = 4) then s.widenAdd (sum - cur)
  else s

/-! ### Commands that touch this block alone -/

/-- HO_SUMMING_DONE (R138). -/
def execHoSummingDone (s : State) : Host.Outcome State Fault Refusal :=
  .next (if s.flag HO_STATUS_SUMMING 0 then s.hoSummed else s)

/-- HOLD_READY (R139, R140). -/
def execHoldReady (s : State) : Host.Outcome State Fault Refusal :=
  .next (if s.ho.wait = true ∧ s.flag HO_STATUS_SUMMING 0 = false then s.hoChoose.hoKick else s)

/-- HO_ENABLE: HO_CTL.EN is written as 1 (R138). -/
def execHoEnable (a : Actor) (s : State) : Host.Outcome State Fault Refusal :=
  .next (s.gate a .HO (fun t => if t.flag HO_CTL_EN 0 then t else t.hoEnable))

/-- HO_TEMP_BOARD_WRITE (R141). -/
def execHoTempBoardWrite (a : Actor) (value : Nat) (s : State) : Host.Outcome State Fault Refusal :=
  .next (s.gate a .HO (fun t => t.boardWrite value))

/-- TEMP_STALE (R141). -/
def execTempStale (s : State) : Host.Outcome State Fault Refusal :=
  .next (if s.tempStaleDue then (s.set1 HO_STATUS_TEMP_STALE 0).log FT_TEMP_STALE .HO else s)

end Sys2Proof.Machine
end

