-- ==== Sys2Proof/Machine/RefSel.lean ====
section
/-! DEFINITION. References, qualification, selection and the engine states (R112 to R134, R145 to R148) as operations. The
commands are in RefCmds.lean. Phases are in 2^-16 ns. -/

namespace Sys2Proof.Machine

/-- Reference `n` beyond its registers. -/
def State.ref (s : State) (n : Nat) : RefSt := smGet RefSt.init s.refs n
def State.setRef (s : State) (n : Nat) (r : RefSt) : State := { s with refs := smSet RefSt.init s.refs n r }

/-- The qualification state (0 UNUSED to 4 RETIRED) and the reason. -/
def State.rstate (s : State) (n : Nat) : Nat := s.fld RS_REF_STATUS_STATE n
def State.reason (s : State) (n : Nat) : Nat := s.fld RS_REF_STATUS_REASON n

/-- MODE applies to references 0 to 3: 0 PPS, 1 PPS_TOD, 2 CLK. -/
def State.refMode (s : State) (n : Nat) : Nat := if n < 4 then s.fld RS_REF_CTL_MODE n else 0
def State.isClk (s : State) (n : Nat) : Bool := s.refMode n == 2

/-- A bit of RS_EVENT sets; becoming set it latches event 17 (R156). -/
def State.rsEvent (s : State) (f : Fld) : State := s.statusEvent f 0 17

/-- 1 s in 2^-16 ns. -/
def sec16 : Nat := 1000000000 * 2 ^ 16

/-- Engine time `t` on the scale of the elapsed time. -/
def State.elAt (s : State) (t : Nat) : Nat := s.ti.elapsed + t - s.ti.now

/-- RS_LOSS_MS_n in 2^-48 ns. -/
def State.lossU (s : State) (n : Nat) : Nat := s.fld RS_LOSS_MS_MS n * msU

/-! ### Disputes (R132) -/

/-- DISPUTED marked on, or cleared from, a reference. -/
def State.disputeSet (s : State) (n foe : Nat) : State :=
  (((s.set1 RS_REF_STATUS_DISPUTED n).setRef n { s.ref n with foes := foe :: (s.ref n).foes.erase foe }).rsEvent
    RS_EVENT_REF_CHG).set1 RS_STATE_DISPUTE_ALARM 0
def State.disputeClr (s : State) (n : Nat) : State :=
  let s := if s.flag RS_REF_STATUS_DISPUTED n then (s.clr RS_REF_STATUS_DISPUTED n).rsEvent RS_EVENT_REF_CHG else s
  let s := s.setRef n { s.ref n with foes := [] }
  s.setFld RS_STATE_DISPUTE_ALARM 0 (b2n ((List.range 8).any (fun m => s.flag RS_REF_STATUS_DISPUTED m)))

/-- References whose every opponent has left QUALIFIED lose DISPUTED. -/
def State.disputeSweep (s : State) : State :=
  (List.range 8).foldl (fun t n =>
    if t.flag RS_REF_STATUS_DISPUTED n = true ∧ (t.ref n).foes.all (fun m => t.rstate m != 2) = true then t.disputeClr n
    else t) s

/-! ### Changes of state (R122 to R126) -/

/-- The state of reference `n` becomes `x`. -/
def State.rsGo (s : State) (n x : Nat) : State :=
  if s.rstate n = x then s
  else
    let s := (s.setFld RS_REF_STATUS_STATE n x).rsEvent RS_EVENT_REF_CHG
    let s := if x = 1 ∨ x = 2 then s else s.exemptClr n
    s.disputeSweep

/-- The count of R123 begins again. -/
def State.qualRestart (s : State) (n : Nat) : State := s.setRef n { s.ref n with qualAt := s.ti.elapsed }

/-- Entry into QUALIFYING. -/
def State.rsQualifying (s : State) (n : Nat) : State :=
  let r := s.ref n
  ((s.setFld RS_REF_STATUS_REASON n 0).setRef n
    { r with qualAt := s.ti.elapsed, seen := max r.seen s.ti.elapsed, granted := false }).rsGo n 1

/-- A move to DISQUALIFIED with its fault (R124). -/
def State.rsDisqualify (s : State) (n why : Nat) : State :=
  let s := (s.setFld RS_REF_STATUS_REASON n why).setRef n { s.ref n with granted := false, present := none }
  (s.rsGo n 3).logFault REF_DISQUALIFIED (chanId 2 n) why

/-- A criterion fails (R123, R124): 5 TOD_MISMATCH, 6 IMPLAUSIBLE and 9 COMMAND disqualify at once. -/
def State.rsFail (s : State) (n why : Nat) : State :=
  if s.rstate n = 2 ∨ (s.rstate n = 1 ∧ (why = 5 ∨ why = 6 ∨ why = 9)) then s.rsDisqualify n why
  else if s.rstate n = 1 then s.qualRestart n
  else s

/-- A gap longer than RS_LOSS_MS_n (R122, R124, R125). -/
def State.rsGap (s : State) (n : Nat) : Bool := (s.ref n).seen + s.lossU n < s.ti.elapsed
def State.rsLoss (s : State) (n : Nat) : State :=
  (s.setRef n { s.ref n with present := none }).rsFail n 1

/-- Everything the block holds of a reference in flight is dropped (R126). -/
def State.rsIdle (s : State) (n : Nat) : State :=
  (((s.clr RS_REF_STATUS_SUSPECT n).clr RS_REF_STATUS_FREQ_VALID n).setRef n
    { RefSt.init with reenab := (s.ref n).reenab }).disputeClr n

/-- EN written as 0 or 1 (R126). -/
def State.rsDisable (s : State) (n : Nat) : State :=
  let s := s.clr RS_REF_CTL_EN n
  if s.rstate n = 4 ∧ (s.retired 2 n = true ∨ (s.ref n).reenab = false) then s
  else (s.rsIdle n |>.setRef n RefSt.init |>.setFld RS_REF_STATUS_REASON n 0).rsGo n 0
def State.rsEnable (s : State) (n : Nat) : State :=
  let s := s.set1 RS_REF_CTL_EN n
  if s.rstate n = 0 then s.rsQualifying n else s

/-- The channel is retired (R434): the reference goes to RETIRED. -/
def State.rsRetire (s : State) (n : Nat) : State :=
  ((s.rsIdle n).setRef n RefSt.init).rsGo n 4

/-! ### The engine state (R130) -/

/-- The engine state, and the tier of R120. -/
def State.engState (s : State) : Nat := s.fld RS_STATE_ENGINE_STATE 0

/-- ENGINE_STATE becomes `x` (R130); a departure from LOCKED to ACQUIRING or HOLDOVER is a loss tick (R139). -/
def State.engGo (s : State) (x : Nat) : State :=
  let old := s.engState
  if old = x then s
  else
    let s := if old = 2 ∧ (x = 1 ∨ x = 3) then s.hoLoss else s
    let s := (s.setFld RS_STATE_ENGINE_STATE 0 x).rsEvent RS_EVENT_STATE_CHG
    let s := if x = 2 then (List.range 8).foldl State.exemptClr (s.set1 RS_STATE_EVER_LOCKED 0) else s
    ({ s with rs := { s.rs with inFrom := none, outFrom := none } }).hoKick

/-- The runs inside and outside the lock window follow the present judgement (R130). -/
def State.rsTrack (s : State) : State :=
  let r := s.rs
  let inNow := s.engState == 1 && s.flag RS_STATE_SEL_VALID 0 && r.inWin && !s.flag TC_STATUS_SLIDE_ACTIVE 0
    && (s.shadow TC_SLIDE_OFFSET_OFFSET 0).isNone
  let outNow := s.engState == 2 && s.flag RS_STATE_SEL_VALID 0 && !r.inWin
  { s with rs := { r with
    inFrom := if inNow then some (r.inFrom.getD s.ti.elapsed) else none,
    outFrom := if outNow then some (r.outFrom.getD s.ti.elapsed) else none } }

/-- The lock time in 2^-48 ns, and whether a run has lasted it. -/
def State.lockTimeU (s : State) : Nat := s.fld RS_LOCK_CFG_TIME_S 0 * secU
def State.ranLock (s : State) (from_ : Option Nat) : Bool :=
  match from_ with
  | some t => t + s.lockTimeU ≤ s.ti.elapsed
  | none => false

/-- Whether the latest measurement of reference `n` lies in the lock window. -/
def State.judge (s : State) (n : Nat) : Bool :=
  let r := s.ref n
  r.at_.isSome && decide (r.pNum.natAbs ≤ s.fld RS_LOCK_CFG_PHASE_NS 0 * 2 ^ 16 * r.pDen)

/-- The judgement of the selected reference is taken anew. -/
def State.rsJudge (s : State) : State :=
  { s with rs := { s.rs with inWin := s.judge (s.fld RS_STATE_SELECTED 0) } }.rsTrack

/-! ### Selection (R127 to R129) -/

/-- The candidates. -/
def State.cand (s : State) (n : Nat) : Bool :=
  n < 8 && s.rstate n == 2 && !s.flag RS_REF_STATUS_DISPUTED n && !s.isClk n

/-- The current reference. -/
def State.current (s : State) : Option Nat :=
  if s.flag RS_STATE_SEL_VALID 0 then some (s.fld RS_STATE_SELECTED 0) else none

/-- The best candidate by rank; the current one, else the lowest number, among equals. -/
def State.bestRef (s : State) : Option Nat :=
  let c := (List.range 8).filter s.cand
  let r := c.foldl (fun m n => min m (s.fld RS_REF_CTL_RANK n)) 16
  let best := c.filter (fun n => s.fld RS_REF_CTL_RANK n == r)
  match s.current with
  | some n => if best.contains n then some n else best.head?
  | none => best.head?

/-- Whether the forced reference may be taken (R129). -/
def State.forceOk (s : State) : Bool :=
  s.flag RS_SELECT_FORCE 0 && s.rstate (s.fld RS_SELECT_REF 0) == 2 && !s.isClk (s.fld RS_SELECT_REF 0)

/-- The choice of R127; selection is held at none while EN is 0 (R130). -/
def State.choose (s : State) : Option Nat :=
  if !s.flag RS_CTL_EN 0 then none
  else if s.forceOk then some (s.fld RS_SELECT_REF 0)
  else if s.flag RS_CTL_PREF_VALID 0 && s.cand (s.fld RS_CTL_PREFERRED 0) then some (s.fld RS_CTL_PREFERRED 0)
  else s.bestRef

/-- The offset q of R127 in 2^-16 ns: the phase carried to now by the frequency, which is in 1e-15. -/
def State.offsetTo (s : State) (n : Nat) : Int × State :=
  let r := s.ref n
  let f : Int := if s.flag RS_REF_STATUS_FREQ_VALID n then signed 32 (s.fld RS_FREQ_Y n) else 0
  let dt : Int := (s.now : Int) - (r.at_.getD s.now : Nat)
  s.quot (signed 64 (s.fld RS_PHASE_PHASE n) * (10 ^ 15 * 2 ^ 32) + f * dt) (10 ^ 15 * 2 ^ 32)

/-- RS writes TC_SLIDE_OFFSET: a matrix or port-space write that commits on the same tick is applied after it (R128). -/
def State.rsSlide (s : State) (v : Nat) : State :=
  if (s.shadow TC_SLIDE_OFFSET_OFFSET 0).isSome && s.ti.slideHost then s
  else { s.setShadow TC_SLIDE_OFFSET_OFFSET 0 v with ti := { s.ti with slideHost := false } }

/-- The upstream state, tier and bound of a lane's accepted record (R270). -/
def State.upstream (s : State) (lane : Nat) : Nat × Nat × Nat :=
  let r := toBytes 36 (s.fld SL_ITL_PEER_RECORD lane)
  (r.getD 22 0 % 8, r.getD 22 0 / 8 % 8, beAt r 18 4)

/-- The tier while reference `n` is selected (R120). -/
def State.tierOf (s : State) (n : Nat) : Nat :=
  if n < 6 then 1 else min 5 ((s.upstream (s.fld RS_REF_CTL_LANE n)).2.1 + 1)

/-- Reference `n` is selected: the slide, the widening of R148, the tier, and the engine state. -/
def State.selectRef (s : State) (n : Nat) : State :=
  let q := s.offsetTo n
  let s := (q.2.exemptWiden n q.1).rsSlide (wrapTo 64 q.1)
  let s := (s.setFld RS_STATE_SELECTED 0 n).set1 RS_STATE_SEL_VALID 0
  let s := s.setFld RS_STATE_TIER 0 (s.tierOf n)
  let s := { s with rs := { s.rs with inWin := s.judge n, inFrom := none, outFrom := none } }
  if s.engState = 2 then (if q.1.natAbs > s.fld RS_LOCK_CFG_PHASE_NS 0 * 2 ^ 16 then s.engGo 1 else s)
  else s.engGo 1

/-- No reference is selected any more. -/
def State.selectNone (s : State) : State :=
  let s := (s.rsSlide 0).clr RS_STATE_SEL_VALID 0
  let s := { s with rs := { s.rs with inWin := false, inFrom := none, outFrom := none } }
  if s.engState = 2 then s.engGo 3
  else if s.engState = 1 then s.engGo (if s.flag RS_STATE_EVER_LOCKED 0 then 3 else 0)
  else s

/-- Selection is evaluated (R127, R129, R130). -/
def State.rsEval (s : State) : State :=
  let s := if s.flag RS_STATE_FORCED 0 = true ∧ s.forceOk = false then s.clr RS_SELECT_FORCE 0 else s
  let c := s.choose
  let s := s.setFld RS_STATE_FORCED 0 (b2n (s.flag RS_CTL_EN 0 && s.forceOk))
  (if c = s.current then s
   else (match c with
     | some n => s.selectRef n
     | none => s.selectNone).rsEvent RS_EVENT_SEL_CHG).rsTrack

/-- A write of RS_SELECT, from PF0 alone (R129, R112). -/
def State.forceWrite (s : State) (ref : Nat) (force : Bool) : State :=
  if force = true ∧ s.isClk ref = true then s.log CFG_RANGE .RS
  else ((s.setFld RS_SELECT_REF 0 ref).setFld RS_SELECT_FORCE 0 (b2n force)).rsEval

/-! ### Least squares (R121, R122) -/

/-- The sums of a least-squares line through points, abscissas and ordinates relative to a point: n, Σx, Σy, Σx², Σxy. -/
structure Fit where
  n   : Int
  sx  : Int
  sy  : Int
  sxx : Int
  sxy : Int

def fit (ps : List (Int × Int)) : Fit :=
  ps.foldl (fun f p => { n := f.n + 1, sx := f.sx + p.1, sy := f.sy + p.2, sxx := f.sxx + p.1 * p.1,
                         sxy := f.sxy + p.1 * p.2 }) { n := 0, sx := 0, sy := 0, sxx := 0, sxy := 0 }

/-- The determinant, and the slope's numerator over it. -/
def Fit.det (f : Fit) : Int := f.n * f.sxx - f.sx * f.sx
def Fit.slope (f : Fit) : Int := f.n * f.sxy - f.sx * f.sy

/-- Whether the point (0, y) lies within `lim` of the line through the points. -/
def Fit.near (f : Fit) (y lim : Int) : Bool :=
  if f.det = 0 then decide ((f.n * y - f.sy).natAbs ≤ (lim * f.n).natAbs)
  else decide (((f.n * y - f.sy) * f.det + f.slope * f.sx).natAbs ≤ (lim * f.n * f.det).natAbs)

/-- The mean-spacing number of R92 on a scale of `u` units to the second: k with 1/k s nearest to d / (n − 1). -/
def spacingK (u n d : Nat) : Nat :=
  let dist := fun k => ((u * (n - 1) : Nat) : Int) - (d * k : Nat)
  (List.range 10).foldl (fun b i => if (dist (i + 1)).natAbs * b < (dist b).natAbs * (i + 1) then i + 1 else b) 1

/-- y = (n − 1) T / D − 1 as a fraction, when the mean spacing passes the 10% test (R92). -/
def spacingY (u n d : Nat) : Option (Int × Nat) :=
  if n < 2 ∨ d = 0 then none
  else
    let k := spacingK u n d
    let e : Int := ((u * (n - 1) : Nat) : Int) - (d * k : Nat)
    if e.natAbs * 10 > u * (n - 1) then none else some (e, d * k)

/-- The measurements of `n` in engine time (lo, hi], oldest first. -/
def State.measIn (s : State) (n : Nat) (lo hi : Int) : List (Nat × Int) :=
  ((s.ref n).meas.filter (fun m => decide (lo < (m.1 : Int) ∧ (m.1 : Int) ≤ hi))).reverse

/-- A CLK record's distance from its grid of 1/k s, in 1/k of 2^-16 ns, unwrapped from the one before (R122). -/
def clkGrid (k : Nat) (prev : Option Int) (at_ : Nat) : Int :=
  let u := at_ / 2 ^ 32 * k
  let c : Nat := (u + sec16 / 2) / sec16 * sec16
  let g : Int := (c : Int) - (u : Int)
  match prev with
  | some p => g + roundHalfUp (p - g) sec16 * sec16
  | none => g

/-- The points of the wander fit relative to the newest measurement, and the scale of their phases (R122). -/
def State.wanderPts (s : State) (n at_ : Nat) : List (Int × Int) × Nat :=
  let ms := s.measIn n ((at_ : Int) - 64 * secU) at_
  if s.isClk n then
    match ms with
    | [] => ([], 1)
    | m :: _ =>
      let k := spacingK sec16 ms.length ((at_ - m.1) / 2 ^ 32)
      ((ms.foldl (fun (a : List (Int × Int) × Option Int) m =>
        let g := clkGrid k a.2 m.1
        (a.1 ++ [(((m.1 / 2 ^ 32 : Nat) : Int) - (at_ / 2 ^ 32 : Nat), g)], some g)) ([], none)).1, k)
  else (ms.map (fun m => (((m.1 / 2 ^ 32 : Nat) : Int) - (at_ / 2 ^ 32 : Nat), m.2)), 1)

/-- Whether the newest measurement, already listed, keeps the wander limit (R122). -/
def State.wanderOk (s : State) (n at_ : Nat) : Bool :=
  let p := s.wanderPts n at_
  match p.1.getLast? with
  | some y => (fit p.1).near y.2 ((s.fld RS_WANDER_LIMIT_LIMIT n * 2 ^ 16 * p.2 : Nat) : Int)
  | none => true

/-! ### A measurement (R113, R122 to R124, R145) -/

/-- What a measurement leaves in the registers: phase, instant, count, uncertainty. -/
def State.rsRecord (s : State) (n : Nat) (num : Int) (den at_ unc : Nat) : State :=
  let p := roundHalfUp num den
  let r := s.ref n
  let s := ((((s.setFld RS_PHASE_PHASE n (wrapTo 64 p)).setFld RS_SAMPLE_WNC n (wncOf at_)).setFld RS_SAMPLE_SEQ n
    (s.fld RS_SAMPLE_SEQ n + 1)).setFld RS_UNC_UNC n unc).engEv (112 + n)
  s.setRef n { r with pNum := num, pDen := den, at_ := some at_, fresh := true,
                      meas := (at_, p) :: r.meas.filter (fun m => at_ < m.1 + 128 * secU) }

/-- Presence: the gap before a measurement at elapsed time `el` is judged, and the run continued or begun (R122, R125). -/
def State.rsPresent (s : State) (n el : Nat) : State :=
  let s := if (s.ref n).seen + s.lossU n < el then s.rsLoss n else s
  let r := s.ref n
  s.setRef n { r with seen := max r.seen el, present := some (r.present.getD el) }

/-- A counted measurement: `num`/`den` its exact phase, `at_` its engine time, `fail` the reason a source criterion gives
(0 none). -/
def State.rsMeasure (s : State) (n : Nat) (num : Int) (den at_ unc fail : Nat) : State :=
  let s := (s.rsPresent n (s.elAt at_)).rsRecord n num den at_ unc
  let s := if (s.engState = 3 ∨ s.engState = 4) ∧ (s.rstate n = 1 ∨ s.rstate n = 2) ∧ s.isClk n = false ∧
      s.exempt n = false ∧ s.plausible num den unc = false then (s.rsFail n 6).hoEvent HO_EVENT_IMPLAUSIBLE else s
  let s := if fail ≠ 0 then s.rsFail n fail else s
  let s := if s.wanderOk n at_ then s else s.rsFail n 3
  if s.current = some n then s.rsJudge else s

/-! ### REF_A to REF_D (R115 to R118) -/

/-- The engine time, 2^-48 ns, of a WNC48 near now. -/
def State.expand (s : State) (w : Nat) : Nat :=
  let now16 := s.now / 2 ^ 32
  let d := signed 48 (w + 2 ^ 48 - now16 % 2 ^ 48)
  ((now16 : Int) + d).toNat * 2 ^ 32

/-- The whole engine second nearest to an instant. -/
def nearestSec (at_ : Nat) : Nat := (at_ + secU / 2) / secU

/-- RS_UNC_n of REF_A to REF_D (R116). -/
def State.ppsUnc (s : State) (n : Nat) : Nat :=
  addBound (addBound 10 (s.fld TM_TRIM_UNC_UNC n)) (s.fld RS_DELAY_UNC_UNC n)

/-- A record of REF_A to REF_D gives its measurement with second `sec` (R115); phases in thousandths of 2^-16 ns. -/
def State.ppsMeasure (s : State) (n at_ sec : Nat) : State :=
  let e16 : Nat := at_ / 2 ^ 32
  s.rsMeasure n (((sec * sec16 : Nat) - (e16 : Int)) * 1000 + signed 32 (s.fld RS_DELAY_DELAY n) * 65536) 1000 at_
    (s.ppsUnc n) 0

/-- A labelled record: the check of R118, then the measurement. The 10 s of R125 begin with the first measurement after a
mismatch. -/
def State.todMeasure (s : State) (n at_ sec : Nat) : State :=
  if s.engState = 2 ∧ s.current.isSome = true ∧ s.current ≠ some n ∧ sec ≠ nearestSec at_ then
    let s := (s.rsFail n 5).ppsMeasure n at_ sec
    s.setRef n { s.ref n with present := none }
  else s.ppsMeasure n at_ sec

/-- Whether an event record is one RS takes: EDGE 0 or 1, not DISTURBED, not CAL_STALE, a bounded stamp (R114, R115). -/
def recCounts (rec : Nat) : Bool :=
  bits rec 70 2 < 2 && !bitOf rec 66 && !bitOf rec 67 && bits rec 32 32 != 0xFFFFFFFF

/-- A record of channel `n` reaches RS (R115, R117). -/
def State.ppsRecord (s : State) (n rec : Nat) : State :=
  if s.rstate n = 0 ∨ s.rstate n = 4 ∨ recCounts rec = false then s
  else
    let at_ := s.expand (bits rec 96 32 * 2 ^ 16 + bits rec 80 16)
    if s.refMode n = 1 then
      let r := s.ref n
      match r.labels.find? (fun l => l.seq == rec % 2 ^ 32) with
      | some l => (s.setRef n { r with labels := r.labels.filter (fun x => x.seq != l.seq) }).todMeasure n at_ l.sec
      | none =>
        let x : TodRec := { seq := rec % 2 ^ 32, at_ := at_, until_ := s.ti.elapsed + 2 * secU }
        s.setRef n { r with recs := r.recs ++ [x] }
    else s.ppsMeasure n at_ (nearestSec at_)

/-- A label is written (R117). -/
def State.todWrite (s : State) (n sec seq : Nat) : State :=
  if s.rstate n = 0 ∨ s.refMode n ≠ 1 ∨ n ≥ 2 then s
  else
    let r := s.ref n
    match r.recs.find? (fun x => x.seq == seq) with
    | some x => (s.setRef n { r with recs := r.recs.filter (fun y => y.seq != seq) }).todMeasure n x.at_ sec
    | none => s.setRef n { r with labels := r.labels ++ [{ seq := seq, sec := sec, until_ := s.ti.elapsed + 2 * secU }] }

/-- The oldest label, or record, has waited 2 s (R117). -/
def State.labelExpire (s : State) (n : Nat) : State :=
  match (s.ref n).labels with
  | l :: ls => if l.until_ ≤ s.ti.elapsed then (s.setRef n { s.ref n with labels := ls }).rcAdd RS_TOD_LATE_COUNT n 1 else s
  | [] => s
def State.recExpire (s : State) (n : Nat) : State :=
  match (s.ref n).recs with
  | x :: xs => if x.until_ ≤ s.ti.elapsed then (s.setRef n { s.ref n with recs := xs }).rsFail n 4 else s
  | [] => s

/-! ### PKT_0 and PKT_1 (R119, R133, R134) -/

/-- The phase of an exchange in 2^-17/1000 ns: the offset is in 2^-17 ns (R119). -/
def State.pktPhase (s : State) (n : Nat) (o : Int) : Int :=
  -o * 1000 + (signed 32 (s.fld RS_DELAY_DELAY n) + signed 32 (s.fld RS_ASYM_COMP_COMP n)) * (2 * 65536)

/-- RS_UNC_n of a packet reference (R119). -/
def State.pktUnc (s : State) (n : Nat) (remote : Option Nat) : Nat :=
  addBound (addBound (addBound (remote.getD (s.fld RS_REMOTE_UNC_UNC n)) 600) (s.fld RS_DELAY_UNC_UNC n))
    (signed 32 (s.fld RS_ASYM_COMP_COMP n)).natAbs

/-- The source criterion of a packet reference (R122): 10 CLASS, 12 AUTH, 0 when it holds. -/
def State.pktFail (s : State) (n cls : Nat) (auth : Bool) (remote : Option Nat) : Nat :=
  if s.flag RS_REF_CTL_NEED_AUTH n && !auth then 12
  else if cls > s.fld RS_PKT_CFG_MAX_CLASS n ∨ remote.getD (s.fld RS_REMOTE_UNC_UNC n) > s.fld RS_UP_MAX_BOUND_BOUND n
  then 10
  else 0

/-- Twice the median of eight numbers. -/
def insSort (l : List Int) : List Int :=
  l.foldl (fun acc x => acc.takeWhile (fun y => decide (y ≤ x)) ++ x :: acc.dropWhile (fun y => decide (y ≤ x))) []
def median2 (l : List Int) : Int := (insSort l)[3]?.getD 0 + (insSort l)[4]?.getD 0

/-- An exchange counted as a measurement. -/
def State.pktCount (s : State) (n : Nat) (e : PktEx) : State := s.rsMeasure n e.p 2000 e.at_ e.unc e.fail

/-- The phase change of reference `m` since engine time `t0` less the change its frequency predicts, within PRED_TOL_NS
(R133). -/
def State.predOk (s : State) (m t0 : Nat) : Bool :=
  let r := s.ref m
  match r.meas with
  | [] => true
  | new :: older =>
    let base := (older.find? (fun x => x.1 ≤ t0)).getD (older.getLast?.getD new)
    let f : Int := signed 32 (s.fld RS_FREQ_Y m)
    let e := (new.2 - base.2) * (10 ^ 15 * 2 ^ 32) - f * ((new.1 : Int) - base.1)
    decide (e.natAbs ≤ s.fld RS_ASYM_CFG_PRED_TOL_NS 0 * 2 ^ 16 * (10 ^ 15 * 2 ^ 32))

/-- Whether a step, TC_TIME_SET or SAFE_CLOCK interval has come since elapsed time `el` (R133). -/
def State.undisturbed (s : State) (el : Nat) : Bool :=
  match s.rs.disturb with
  | some t => t < el
  | none => true

/-- The decision on eight exchanges since SUSPECT against the eight before them (R133, R134). -/
def State.rerouteDecide (s : State) (n : Nat) : State :=
  let r := s.ref n
  let dd := median2 (r.susp.map (·.d)) - median2 (r.exch.map (·.d))
  let d_o := median2 (r.susp.map (·.o)) - median2 (r.exch.map (·.o))
  let first := r.exch.head?
  let others := (List.range 8).filter (fun m => m != n && s.rstate m == 2 && !s.isClk m)
  let re := decide (dd.natAbs ≥ s.fld RS_ASYM_CFG_STEP_NS 0 * 2 ^ 18) &&
    decide (4 * ((d_o.natAbs : Int) - dd.natAbs).natAbs ≤ dd.natAbs) &&
    (match first with
     | some e => s.undisturbed e.el && others.all (fun m => s.predOk m e.at_)
     | none => false)
  let held := r.susp
  let s := s.setRef n { r with exch := r.susp, susp := [] }
  if re then
    let s := ((s.widenAdd (ceilDiv (dd.natAbs * 1000) (2 ^ 18))).logFault PKT_ASYMMETRY (chanId 2 n) 0).rsEvent
      RS_EVENT_REROUTE
    if s.flag RS_REF_CTL_ASYM_MODE n then
      let k := s.quot (d_o * 1000) (2 ^ 18)
      ((k.2.setFld RS_ASYM_COMP_COMP n (wrapTo 32 (signed 32 (k.2.fld RS_ASYM_COMP_COMP n) + k.1))).setFld RS_UNC_UNC n
        (addBound (k.2.fld RS_UNC_UNC n) k.1.natAbs)).clr RS_REF_STATUS_SUSPECT n
    else (s.clr RS_REF_STATUS_SUSPECT n).when (s.rstate n == 1 || s.rstate n == 2) (fun t => t.rsDisqualify n 7)
  else held.foldl (fun t e => t.pktCount n e) (s.clr RS_REF_STATUS_SUSPECT n)

/-- A withheld exchange (R133). -/
def State.pktHold (s : State) (n : Nat) (e : PktEx) : State :=
  let s := (s.set1 RS_REF_STATUS_SUSPECT n).rsPresent n e.el
  let s := (s.setFld RS_SUSPECT_PHASE_PHASE n (wrapTo 64 (roundHalfUp e.p 2000))).setRef n
    { s.ref n with susp := (s.ref n).susp ++ [e] }
  if (s.ref n).susp.length ≥ 8 then s.rerouteDecide n else s

/-- A completed exchange (R119, R133). -/
def State.pktExchange (s : State) (n : Nat) (e : PktEx) : State :=
  let r := s.ref n
  if s.flag RS_REF_STATUS_SUSPECT n then s.pktHold n e
  else if r.exch.length = 8 ∧
      (2 * e.d - median2 (r.exch.map (·.d))).natAbs ≥ s.fld RS_ASYM_CFG_STEP_NS 0 * 2 ^ 18 then s.pktHold n e
  else (s.setRef n { r with exch := (r.exch ++ [e]).drop (r.exch.length - 7) }).pktCount n e

/-! ### ITL_UP_0 and ITL_UP_1 (R120) -/

/-- The source criterion of an ITL reference (R122, R25): 10 CLASS, 11 TIER. -/
def State.itlFail (s : State) (n upState upTier upBound : Nat) : Nat :=
  if (upState ≠ 2 ∧ upState ≠ 3) ∨ upBound > s.fld RS_UP_MAX_BOUND_BOUND n then 10
  else if upTier > 4 then 11
  else 0

/-- The millisecond of engine time that lane `n`'s arrivals are in: a superword has been received whole 40 ns, and the lane's
delay, after the arrival that its stamp gives. -/
def State.laneMs (s : State) (n : Nat) : Nat := (s.now - (40 * nsU + s.fld SL_ITL_RX_DELAY_DELAY n * 2 ^ 32)) / msU

/-- The 1 ms ends (R120): one measurement of the negated mean offset, and the tier. An upstream bound of 0xFFFFFFFF excludes
the measurement (R114) and still fails the source criterion (R122). -/
def State.itlMeasure (s : State) (n : Nat) : State :=
  let r := s.ref n
  if r.itlCnt = 0 then s
  else
    let s := s.setRef n { r with itlSum := 0, itlCnt := 0 }
    let u := s.upstream (s.fld RS_REF_CTL_LANE n)
    let why := s.itlFail n u.1 u.2.1 u.2.2
    let s := if s.current = some n then s.setFld RS_STATE_TIER 0 (s.tierOf n) else s
    (if u.2.2 = 0xFFFFFFFF then s.when (why != 0) (fun t => t.rsFail n why)
     else s.rsMeasure n (-r.itlSum * 1000 + signed 32 (s.fld RS_DELAY_DELAY n) * 65536 * 2 ^ 46 * r.itlCnt)
      (1000 * 2 ^ 46 * r.itlCnt) ((r.itlMs + 1) * msU)
      (addBound (addBound u.2.2 20) (s.fld RS_DELAY_UNC_UNC n)) why).rsEval

/-- A superword offset, 2^-62 ns, enters the mean of its 1 ms `w`; one of a later millisecond ends the one before. -/
def State.itlOffset (s : State) (n w : Nat) (off : Int) : State :=
  if s.rstate n = 0 ∨ s.rstate n = 4 then s
  else
    let s := if (s.ref n).itlMs = w then s else s.itlMeasure n
    let r := s.ref n
    s.setRef n { r with itlMs := w, itlSum := r.itlSum + off, itlCnt := r.itlCnt + 1 }

/-! ### Windows of 64 s (R121, R131, R132) -/

/-- The measurements of window `w`, oldest first, and whether it counts: one in each of its seconds. -/
def State.winMeas (s : State) (n w : Nat) : List (Nat × Int) :=
  s.measIn n ((w * 64 * secU : Nat) - 1) (((w + 1) * 64 * secU : Nat) - 1)
def winFull (w : Nat) (ms : List (Nat × Int)) : Bool :=
  (List.range 64).all (fun i => ms.any (fun m => secOf m.1 == w * 64 + i))

/-- RS_FREQ_n over a window as a fraction; none when the window does not count. -/
def State.winFreq (s : State) (n w : Nat) : Option (Int × Nat) :=
  let ms := s.winMeas n w
  if winFull w ms then
    if s.isClk n then
      match ms.head?, ms.getLast? with
      | some a, some b => spacingY sec16 ms.length ((b.1 - a.1) / 2 ^ 32)
      | _, _ => none
    else
      let f := fit (ms.map (fun m => (((m.1 / 2 ^ 32 : Nat) : Int) - (w * 64 * sec16 : Nat), m.2)))
      if f.det ≤ 0 then none else some (f.slope, f.det.toNat)
  else none

/-- Frequency of one reference at the end of window `w`, with its criterion. -/
def State.freqOne (s : State) (w n : Nat) : State :=
  if s.rstate n = 0 ∨ s.rstate n = 4 then s
  else
    match s.winFreq n w with
    | none => s.clr RS_REF_STATUS_FREQ_VALID n
    | some y =>
      let q := s.quot (y.1 * 10 ^ 15) y.2
      let s := (q.2.setFld RS_FREQ_Y n (wrapTo 32 (satS32 q.1))).set1 RS_REF_STATUS_FREQ_VALID n
      if (satS32 q.1).natAbs > s.fld RS_FREQ_LIMIT_LIMIT n * 1000 then s.rsFail n 2 else s

/-- Whether two references are within the equal-rank threshold of each other. -/
def State.agreeF (s : State) (a b : Nat) : Bool :=
  decide ((signed 32 (s.fld RS_FREQ_Y a) - signed 32 (s.fld RS_FREQ_Y b)).natAbs ≤ s.fld RS_EQ_CFG_THRESH 0 * 100)

/-- Whether the pair is compared: both QUALIFIED, time-capable, of equal rank, with a window that counts. -/
def State.paired (s : State) (a b : Nat) : Bool :=
  s.rstate a == 2 && s.rstate b == 2 && !s.isClk a && !s.isClk b && s.flag RS_REF_STATUS_FREQ_VALID a &&
    s.flag RS_REF_STATUS_FREQ_VALID b && s.fld RS_REF_CTL_RANK a == s.fld RS_REF_CTL_RANK b

/-- The votes of R131 for `a` against `b`. -/
def State.votes (s : State) (a b : Nat) : Nat :=
  ((List.range 8).filter (fun n => n != a && n != b && s.rstate n == 2 && s.flag RS_REF_STATUS_FREQ_VALID n &&
    s.agreeF n a && !s.agreeF n b)).length

/-- One outvotes the other. -/
def State.outvote (s : State) (win lose : Nat) : State :=
  ((s.disputeClr win).setRef lose { (s.disputeClr win).ref lose with victor := win }).rsFail lose 8

/-- A disagreeing pair (R131). -/
def State.dispute (s : State) (a b : Nat) : State :=
  let va := s.votes a b
  let vb := s.votes b a
  if va > vb then s.outvote a b
  else if vb > va then s.outvote b a
  else if s.current = some a then (s.disputeSet b a).logFault REF_DISPUTE (chanId 2 b) 0
  else if s.current = some b then (s.disputeSet a b).logFault REF_DISPUTE (chanId 2 a) 0
  else (((s.disputeSet a b).disputeSet b a).logFault REF_DISPUTE (chanId 2 a) 0).logFault REF_DISPUTE (chanId 2 b) 0

/-- The pairs of references, in order. -/
def refPairs : List (Nat × Nat) :=
  (List.range 8).flatMap (fun a => ((List.range 8).filter (fun b => a < b)).map (fun b => (a, b)))

/-- DISPUTED clears where the window shows no disagreement (R132). -/
def State.disputeSettle (s : State) : State :=
  (List.range 8).foldl (fun t n =>
    if t.flag RS_REF_STATUS_DISPUTED n = true ∧
        (List.range 8).any (fun m => m != n && t.paired n m && !t.agreeF n m) = false then t.disputeClr n else t) s

/-- The end of window `w` (R121, R131, R132, R125). -/
def State.windowEnd (s : State) (w : Nat) : State :=
  let s := (List.range 8).foldl (fun t n => t.freqOne w n) s
  let s := refPairs.foldl (fun t p => if t.paired p.1 p.2 = true ∧ t.agreeF p.1 p.2 = false then t.dispute p.1 p.2 else t) s
  let s := s.disputeSettle
  let s := (List.range 8).foldl (fun t n =>
    if t.rstate n = 3 ∧ t.reason n = 8 ∧ t.flag RS_REF_STATUS_FREQ_VALID n = true ∧
        t.flag RS_REF_STATUS_FREQ_VALID (t.ref n).victor = true ∧ t.agreeF n (t.ref n).victor = true
    then t.rsQualifying n else t) s
  { s with rs := { s.rs with win := w + 1 } }

/-! ### Agreement of independent references (R146) -/

/-- Whether reference `n` may take part in an agreement run. -/
def State.runsFor (s : State) (n : Nat) : Bool :=
  !s.isClk n && (s.rstate n == 1 || s.rstate n == 2 || (s.rstate n == 3 && s.reason n == 6))
def State.implausible (s : State) (n : Nat) : Bool := s.rstate n == 3 && s.reason n == 6

/-- Whether the latest measurements of two references agree (R146), exactly. -/
def State.agreeP (s : State) (a b : Nat) : Bool :=
  let ra := s.ref a
  let rb := s.ref b
  let lim := addBound (addBound (s.fld RS_UNC_UNC a) (s.fld RS_UNC_UNC b)) (s.fld HO_PLAUS_CFG_MARGIN_NS 0 * 1000)
  s.fld RS_UNC_UNC b == 0xFFFFFFFF || lim == 0xFFFFFFFF ||
    decide ((ra.pNum * rb.pDen - rb.pNum * ra.pDen).natAbs * 1000 ≤ lim * 65536 * (ra.pDen * rb.pDen))

/-- The runs at an engine second; then every reference waits for a new measurement. -/
def State.runsSecond (s : State) : State :=
  let runs := refPairs.foldl (fun m p =>
    let ok := s.runsFor p.1 && s.runsFor p.2 && (s.implausible p.1 || s.implausible p.2) &&
      s.plausGroup p.1 != s.plausGroup p.2 && (s.ref p.1).fresh && (s.ref p.2).fresh && s.agreeP p.1 p.2
    smSet 0 m (p.1 * 8 + p.2) (if ok then smGet 0 s.ho.runs (p.1 * 8 + p.2) + 1 else 0)) s.ho.runs
  (List.range 8).foldl (fun t n => t.setRef n { t.ref n with fresh := false }) (s.setHo { s.ho with runs := runs })

/-- A run of AGREE_S seconds ends (R146, R147). -/
def State.agreeDone (s : State) (a b : Nat) : State :=
  let one := fun (t : State) (n : Nat) =>
    if t.implausible n then (t.rsQualifying n).exemptSet n else if t.rstate n = 1 then t.qualRestart n else t
  let s := one (one s a) b
  s.setHo { s.ho with runs := smSet 0 s.ho.runs (a * 8 + b) 0 }

/-! ### Time steps and the tick -/

/-- Selection's part of a tick: runs, and the disturbance of R133 on SAFE_OSC. -/
def State.rsTick (s : State) : State :=
  let s := if s.safe then { s with rs := { s.rs with disturb := some s.ti.elapsed } } else s
  s.rsTrack

/-- Engine time has left the 64 s window in progress by a step: that window does not count (R121). -/
def State.windowSkip (s : State) : State :=
  let w := s.now / (64 * secU)
  if w = s.rs.win then s
  else { (List.range 8).foldl (fun t n => t.clr RS_REF_STATUS_FREQ_VALID n) s with rs := { s.rs with win := w } }

/-- Selection's part of a step or TC_TIME_SET. -/
def State.rsStepped (s : State) : State :=
  let s := { s with rs := { s.rs with disturb := some s.ti.elapsed } }
  (s.setHo { s.ho with stepped := true }).windowSkip.rsTrack

/-- Whether the bound published for the interval just ended passes the LOST threshold; an unbounded one passes each (R143). -/
def State.lostDue (s : State) : Bool :=
  s.engState == 3 &&
    (s.fld BG_CURRENT_BOUND 0 == 0xFFFFFFFF || decide (s.fld BG_CURRENT_BOUND 0 > s.fld HO_LOST_THRESH_NS 0 * 1000))

/-- The engine goes to LOST (R143). -/
def State.goLost (s : State) : State := ((s.engGo 4).hoEvent HO_EVENT_LOST).log ENGINE_LOST .HO

/-- QUAL_REMAIN as it reads. -/
def State.qualRemain (s : State) (n : Nat) : Nat :=
  if s.rstate n = 1 then ceilDiv ((s.ref n).qualAt + s.fld RS_REF_CTL_QUAL_S n * secU - s.ti.elapsed) secU else 0

end Sys2Proof.Machine
end

