-- ==== Sys2Proof/Machine/Rings.lean ====
section
/-! DEFINITION. Descriptor rings (R404 to R412) as operations: enabling, the host's index writes, the checks of a consuming
engine, write-back, and messages. -/

namespace Sys2Proof.Machine

/-- The alignment that a ring's base needs (R405). -/
def State.ringAlign (s : State) (r : Nat) : Nat := min (s.ringSize r * 32) 4096

/-- Whether ring `r`'s location meets R404 and R405. -/
def State.ringLocOk (s : State) (r : Nat) : Bool :=
  let b := s.fld RG_BASE_ADDR r
  let e := b + s.ringSize r * 32
  4 ≤ s.fld RG_CTL_SIZE_LOG2 r && s.fld RG_CTL_SIZE_LOG2 r ≤ 16 && b % s.ringAlign r == 0 &&
    (match s.fld RG_CTL_LOC r with
     | 0 => 0x30800000 ≤ b && decide (e ≤ 0x31000000)
     | 1 => 32 ≤ r && ((0x1000000000 ≤ b && decide (e ≤ 0x1800000000)) || (0x1800000000 ≤ b && decide (e ≤ 0x2000000000)))
     | 2 => r < 32
     | _ => false)

/-- EN is set (R405, R406): the indices become zero, or the ring is not enabled. -/
def State.ringEnable (s : State) (r : Nat) : State :=
  if s.ringOn r then s
  else if s.ringLocOk r then
    (((((s.set1 RG_CTL_EN r).setFld RG_PROD_COUNT r 0).setFld RG_CONS_COUNT r 0).clr RG_STATUS_STOPPED r).setFld
      RG_STATUS_REASON r 0).setRing r RgSt.init
  else s.log CFG_RANGE .RG

/-- EN is cleared (R42): write-backs in flight end before BUSY clears. -/
def State.ringDisable (s : State) (r : Nat) : State :=
  if s.ringOn r then (s.clr RG_CTL_EN r).set1 RG_STATUS_BUSY r else s

/-- The host writes PROD of a ring it produces, or CONS of a ring it consumes (R406). -/
def State.ringProdWrite (s : State) (r v : Nat) : State :=
  if 16 ≤ r ∧ r < 32 then
    if (v + 2 ^ 32 - s.fld RG_CONS_COUNT r) % 2 ^ 32 ≤ s.ringSize r then s.setFld RG_PROD_COUNT r v
    else s.log CFG_RANGE .RG
  else s
def State.ringConsWrite (s : State) (r v : Nat) : State :=
  if r < 16 then
    if (s.fld RG_PROD_COUNT r + 2 ^ 32 - v % 2 ^ 32) % 2 ^ 32 ≤ s.ringSize r then s.setFld RG_CONS_COUNT r v
    else s.log CFG_RANGE .RG
  else s

/-- A ring stops (R409): 1 OWN, 2 SEQ, 3 TYPE, 4 POISON, 5 HOST. -/
def State.ringStop (s : State) (r why : Nat) : State :=
  ((s.set1 RG_STATUS_STOPPED r).setFld RG_STATUS_REASON r why).logFault RING_STOPPED (Blk.chan .RG) r

/-- RESTART (R409). -/
def State.ringRestart (s : State) (r : Nat) : State :=
  if s.flag RG_STATUS_STOPPED r then (s.clr RG_STATUS_STOPPED r).setFld RG_STATUS_REASON r 0 else s

/-- Whether a consuming engine may look at ring `r` now: enabled, not stopped, its memory reachable (R417), a descriptor
there that it has not used. -/
def State.ringWaiting (s : State) (r : Nat) : Bool :=
  s.ringOn r && !s.flag RG_STATUS_STOPPED r && (s.fld RG_CTL_LOC r != 2 || s.flag PE_STATUS_BME_PF0 0) &&
    decide (0 < (s.fld RG_PROD_COUNT r + 2 ^ 32 - (s.ring r).fetch) % 2 ^ 32 ∧
      (s.fld RG_PROD_COUNT r + 2 ^ 32 - (s.ring r).fetch) % 2 ^ 32 ≤ s.ringSize r)

/-- Why descriptor `k` of ring `r` fails the checks of R409, for types from `lo` to `hi`; 0 when it passes. -/
def State.descFails (s : State) (r k lo hi : Nat) : Nat :=
  let d := s.descRead r k
  if s.fld RG_CTL_LOC r ≠ 2 ∧ s.poisoned (s.descAddr r k) 32 = true then 4
  else if bitOf d 31 = false then 1
  else if bits d 32 32 ≠ (s.fld RG_SEQ_START r + k) % 2 ^ 32 then 2
  else if bits d 24 7 < lo ∨ hi < bits d 24 7 then 3
  else 0

/-- Finished descriptors advance CONS in their order (R406, R409). -/
def State.ringDrain (s : State) (r : Nat) : Nat → State
  | 0 => s
  | k + 1 =>
    if s.fld RG_CONS_COUNT r ∈ (s.ring r).fin then
      let c := s.fld RG_CONS_COUNT r
      let s := s.setRing r { s.ring r with fin := (s.ring r).fin.erase c }
      (((s.setFld RG_CONS_COUNT r (c + 1)).engEv 107).ringCount r).ringDrain r k
    else s

/-- Descriptor `k` is written back as `d` with OWN clear, then CONS advances (R409). -/
def State.descBack (s : State) (r k d : Nat) : State :=
  let s := s.descWrite r k (if bitOf d 31 then d - 2 ^ 31 else d)
  let s := s.setRing r { s.ring r with fin := k :: (s.ring r).fin }
  s.ringDrain r ((s.ring r).fin.length)

/-- Descriptor `k` is finished with; at LOC 2 the write waits for Bus Master Enable (R417). -/
def State.descDone (s : State) (r k d : Nat) : State :=
  if s.fld RG_CTL_LOC r = 2 ∧ s.flag PE_STATUS_BME_PF0 0 = false then
    s.setRing r { s.ring r with back := (s.ring r).back ++ [(k, d)] }
  else s.descBack r k d

/-- Bus Master Enable is set: the descriptors that waited are written back. -/
def State.descRelease (s : State) : State :=
  (List.range 64).foldl (fun t r =>
    (t.ring r).back.foldl (fun u x => u.descBack r x.1 x.2) (t.setRing r { t.ring r with back := [] })) s

/-- The next descriptor is taken up by the consuming engine. -/
def State.ringTake (s : State) (r : Nat) : State :=
  s.setRing r { s.ring r with fetch := ((s.ring r).fetch + 1) % 2 ^ 32 }

/-- Whether ring `r`'s message is due (R412). -/
def State.ringIrqDue (s : State) (r : Nat) : Bool :=
  s.flag RG_IRQ_EN r && r < 32 && (s.ring r).since != 0 &&
    (s.fld RG_IRQ_COUNT r ≤ (s.ring r).since || s.fld RG_IRQ_TIME_US r == 0 ||
      (s.ring r).first + s.fld RG_IRQ_TIME_US r * usU ≤ s.ti.elapsed)

/-- The ring's message (R412): with TIME_US 0 one for each descriptor. -/
def State.ringIrq (s : State) (r : Nat) : State :=
  if s.ringIrqDue r then
    let x := s.ring r
    (s.setRing r { x with since := if s.fld RG_IRQ_TIME_US r = 0 then x.since - 1 else 0 }).msix 0 (s.fld RG_IRQ_VECTOR r)
  else s

/-- A free buffer of ring 16 + FREE for a frame of `len` bytes on host ring `d`: its index (R411). A descriptor that fails
its checks stops the buffer ring. -/
def State.rxBuffer (s : State) (d len : Nat) : State × Option Nat :=
  let b := 16 + s.fld RG_CTL_FREE d
  let k := (s.ring b).fetch
  if s.ringWaiting b = false ∨ s.fld RG_CTL_CONSUMER b ≠ 2 then (s, none)
  else if s.descFails b k 0x22 0x22 ≠ 0 then (s.ringStop b (s.descFails b k 0x22 0x22), none)
  else if bits (s.descRead b k) 0 16 < len then (s, none)
  else (s, some k)

/-- RING_ENABLE (R405, R406). -/
def execRingEnable (a : Actor) (r : Nat) (s : State) : Host.Outcome State Fault Refusal :=
  if r < 64 then .next (s.gate a .RG (fun t => t.ringEnable r)) else .fault .noSuchUnit

/-- RING_PROD_WRITE (R406). -/
def execRingProdWrite (a : Actor) (r value : Nat) (s : State) : Host.Outcome State Fault Refusal :=
  if r < 64 then .next (s.gate a .RG (fun t => t.ringProdWrite r value)) else .fault .noSuchUnit

/-- RING_CONS_WRITE (R406). -/
def execRingConsWrite (a : Actor) (r value : Nat) (s : State) : Host.Outcome State Fault Refusal :=
  if r < 64 then .next (s.gate a .RG (fun t => t.ringConsWrite r value)) else .fault .noSuchUnit

/-- RING_RESTART (R409). -/
def execRingRestart (a : Actor) (r : Nat) (s : State) : Host.Outcome State Fault Refusal :=
  if r < 64 then .next (s.gate a .RG (fun t => t.ringRestart r)) else .fault .noSuchUnit

/-- RING_PRODUCE: a block of the engine offers a descriptor to a ring (R406 to R408, R411); a ring without room drops it. -/
def execRingProduce (r typ flags len w2 w3 w4 w5 w6 w7 : Nat) (s : State) : Host.Outcome State Fault Refusal :=
  if r < 64 ∧ (r < 16 ∨ 32 ≤ r) ∧ r < 52 then
    let p := s.ringOffer r typ flags len w2 w3 w4 w5 w6 w7
    .next (if p.2 then p.1 else p.1.rcAdd RG_DROP_COUNT r 1)
  else .fault .noSuchUnit

/-- RING_IRQ (R412). -/
def execRingIrq (r : Nat) (s : State) : Host.Outcome State Fault Refusal :=
  if r < 32 then .next (s.ringIrq r) else .fault .noSuchUnit

end Sys2Proof.Machine
end

