-- ==== Sys2Proof/Machine/Mac.lean ====
section
/-! DEFINITION. MAC instances (R280 to R301) as operations: reception, flow control, egress, preemption, mute, link down. The
timed-launch gate's decisions are in TimeService.lean. -/

namespace Sys2Proof.Machine

/-! ### Instances, rates, counters -/

/-- MAC instance `n` beyond its registers. -/
def State.mac (s : State) (n : Nat) : McSt := smGet McSt.init s.mc n
def State.setMac (s : State) (n : Nat) (m : McSt) : State := { s with mc := smSet McSt.init s.mc n m }

/-- Ethernet lane `n` beyond its registers. -/
def State.ethL (s : State) (n : Nat) : EthSt := smGet EthSt.init s.eth n
def State.setEth (s : State) (n : Nat) (x : EthSt) : State := { s with eth := smSet EthSt.init s.eth n x }

/-- Whether MAC_n exists (R280). -/
def State.macExists (s : State) (n : Nat) : Bool :=
  s.fld SL_GRP_CFG_MODE (n / 4) == 1 || (s.fld SL_GRP_CFG_MODE (n / 4) == 2 && n % 4 == 0)

/-- The lane that carries a block of instance `n`: in MODE 2 the `lane`-th of the group (R259, R260). -/
def State.macLane (s : State) (n lane : Nat) : Nat :=
  if s.fld SL_GRP_CFG_MODE (n / 4) = 2 then n / 4 * 4 + lane % 4 else n

/-- The lanes of instance `n`. -/
def State.macLanes (s : State) (n : Nat) : List Nat :=
  if s.fld SL_GRP_CFG_MODE (n / 4) = 2 then [n / 4 * 4, n / 4 * 4 + 1, n / 4 * 4 + 2, n / 4 * 4 + 3] else [n]

/-- The instance that lane `n` serves. -/
def State.laneMac (s : State) (n : Nat) : Nat := if s.fld SL_GRP_CFG_MODE (n / 4) = 2 then n / 4 * 4 else n

/-- The time of one octet in ps. -/
def State.octPs (s : State) (n : Nat) : Nat :=
  if s.fld SL_GRP_CFG_MODE (n / 4) = 2 then 80 else if s.flag SL_ETH_CTL_RATE n then 320 else 800

/-- The time of `k` octets in 2^-48 ns. -/
def State.octU (s : State) (n k : Nat) : Nat := k * s.octPs n * nsU / 1000

/-- Statistics counter `k` of instance `n` (R301). -/
def State.stat (s : State) (n k v : Nat) : State := s.rcAdd MC_STAT_COUNT (n * 48 + k) v

/-- Whether instance `n` may send and receive: it exists, its link is up, it is not muted. -/
def State.macUp (s : State) (n : Nat) : Bool :=
  s.macExists n && s.flag MC_STATUS_LINK_UP n && !s.flag MC_STATUS_MUTED n

/-- The length of a frame on the line, its FCS included. -/
def lineLen (b : List Nat) : Nat := b.length + 4

/-- The priority of a frame on instance `n` (R289): the PCP of its outermost tag. -/
def State.prioOf (s : State) (n : Nat) (b : List Nat) : Nat :=
  if beAt b 12 2 = 0x8100 then b.getD 14 0 / 32 % 8 else s.fld MC_PFC_CFG_DEF_PRIO n

/-! ### The burst buffer and flow control (R285 to R287) -/

/-- The occupancy of an instance, and of the whole buffer, in octets (R285): reservations and stored frames. -/
def State.occupancy (s : State) (n : Nat) : Nat :=
  ((s.mac n).rx.map (fun h => h.room)).sum + ((s.mac n).stored.map (fun f => lineLen f.bytes)).sum
def State.occAll (s : State) : Nat := ((List.range 16).map (fun n => s.occupancy n)).sum

/-- A flow-control frame queued; a newer one replaces it (R287). -/
def State.fcQueue (s : State) (n mask quanta : Nat) : State := s.setMac n { s.mac n with ctl := [(mask, quanta)] }

/-- TX_XOFF_NS counts the whole nanoseconds of XOFF up to now (R301). -/
def State.xoffCount (s : State) (n : Nat) : State :=
  match (s.mac n).xoff with
  | some (since, _, _) =>
    let from_ := max since (s.mac n).xoffTo
    let k := (s.ti.elapsed - from_) / nsU
    (s.setMac n { s.mac n with xoffTo := from_ + k * nsU }).stat n 38 k
  | none => s

/-- The instance leaves XOFF: the frame with time 0 (R286). It replaces a frame that waits, but for the one queued on entry in
this very cycle, after which it goes. -/
def State.fcLeave (s : State) (n : Nat) : State :=
  match (s.mac n).xoff with
  | some (since, _, mask) =>
    let s := s.xoffCount n
    (s.setMac n { s.mac n with
      xoff := none, ctl := (if since = s.ti.elapsed then (s.mac n).ctl else []) ++ [(mask, 0)] }).clr MC_STATUS_XOFF n
  | none => s

/-- The evaluation of flow control (R286). -/
def State.fcEval (s : State) (n : Nat) : State :=
  let on := s.flag MC_CTL_TX_FC n && s.fld MC_CTL_FC_MODE n % 3 != 0 && s.macUp n && s.flag MC_CTL_EN n
  let occ := s.occupancy n
  let tot := s.occAll
  match (s.mac n).xoff with
  | none =>
    if on ∧ (occ > s.fld MC_FC_WM_HI n * 1024 ∨ tot > s.fld MC_BUF_WM_HI 0 * 1024) then
      let mask := if s.fld MC_CTL_FC_MODE n = 1 then 256 else s.fld MC_PFC_CFG_GEN_PRIO n
      (s.setMac n { s.mac n with xoff := some (s.ti.elapsed, s.ti.elapsed, mask), ctl := [(mask, 65535)] }).set1
        MC_STATUS_XOFF n
    else s
  | some _ =>
    if !on ∨ (occ ≤ s.fld MC_FC_WM_LO n * 1024 ∧ tot ≤ s.fld MC_BUF_WM_LO 0 * 1024) then s.fcLeave n else s

/-- Every instance's evaluation. -/
def State.fcAll (s : State) : State := (List.range 16).foldl State.fcEval s

/-- The refresh of a pause (R286): half the time of 0xFFFF quanta after the previous frame. -/
def State.fcRefresh (s : State) (n : Nat) : State :=
  match (s.mac n).xoff with
  | some (since, last, mask) =>
    if last + s.octU n (65535 * 64) / 2 ≤ s.ti.elapsed ∧
        (s.occupancy n > s.fld MC_FC_WM_LO n * 1024 ∨ s.occAll > s.fld MC_BUF_WM_LO 0 * 1024) then
      (s.setMac n { s.mac n with xoff := some (since, s.ti.elapsed, mask) }).fcQueue n mask 65535
    else s
  | none => s

/-! ### Holds (R288, R289) -/

/-- Whether a hold is in force at elapsed time `e`, and whether one stops a frame of priority `p` then. -/
def holdOn (e : Nat) (h : Nat × Option Nat × Nat) : Bool :=
  (match h.2.1 with | some f => decide (f ≤ e) | none => false) && decide (e < h.2.2)
def State.heldAt (s : State) (n p e : Nat) : Bool := (s.mac n).holds.any (fun h => (h.1 == 8 || h.1 == p) && holdOn e h)
def State.heldNow (s : State) (n p : Nat) : Bool := s.heldAt n p s.ti.elapsed

/-- The hold of priority `p` ends: the time it alone was in force counts in TX_HELD_NS, and is no wait of a frame it held
(R291). -/
def State.holdEnd (s : State) (n p : Nat) : State :=
  match (s.mac n).holds.find? (fun h => h.1 == p) with
  | some h =>
    let m := s.mac n
    let rest := m.holds.filter (fun x => x.1 != p)
    let now := min s.ti.elapsed h.2.2
    let from_ := h.2.1.getD now
    let upto := rest.foldl (fun a x => min a (x.2.1.getD a)) now
    let pre := m.pre.map (fun f => if (p = 8 ∨ f.cls = p) ∧ max f.since from_ < now
      then { f with since := f.since + (now - max f.since from_) } else f)
    (s.setMac n { m with holds := rest, pre := pre }).stat n 37 ((upto - max from_ m.heldTo) / nsU)
  | none => s

/-- TX_HELD_NS counts the whole nanoseconds up to now during which a hold was in force (R301). -/
def State.heldCount (s : State) (n : Nat) : State :=
  let m := s.mac n
  let now := min s.ti.elapsed ((m.holds.map (fun h => h.2.2)).foldl max 0)
  let from_ := max m.heldTo (m.holds.foldl (fun a h => min a (h.2.1.getD a)) now)
  let k := (now - from_) / nsU
  (s.setMac n { m with heldTo := from_ + k * nsU }).stat n 37 k

/-- A received pause time for priority `p` (R288): it counts from the frame's last bit, at elapsed time `last`, and holds from
the end of the frame in transmission, a preempted frame that waits and an express frame in flight included. -/
def State.holdSet (s : State) (n p quanta last : Nat) : State :=
  if quanta = 0 then s.holdEnd n p
  else
    let m := s.mac n
    let from_ := match m.holds.find? (fun h => h.1 == p) with
      | some h => h.2.1
      | none => if m.cur.isSome || m.part.isSome then none else some (max last (m.curEnd - s.octU n 12))
    s.setMac n { m with holds := m.holds.filter (fun h => h.1 != p) ++ [(p, from_, last + s.octU n (quanta * 64))] }

/-- The frame in transmission has ended at elapsed time `e`: the holds that waited for it begin (R288). -/
def State.holdBegin (s : State) (n e : Nat) : State :=
  let m := s.mac n
  s.setMac n { m with holds := m.holds.map (fun h => (h.1, some (h.2.1.getD e), h.2.2)) }

/-- Holds whose pause time has run out end. -/
def State.holdExpire (s : State) (n : Nat) : State :=
  (List.range 9).foldl (fun t p =>
    if (t.mac n).holds.any (fun h => h.1 == p && h.2.2 ≤ t.ti.elapsed) then t.holdEnd n p else t) s

/-! ### Reception (R281 to R285, R290) -/

/-- Whether the filter of R281 accepts a destination address. -/
def State.macFilter (s : State) (n dst : Nat) : Bool :=
  dst == s.fld MC_MAC_ADDR_ADDR n || dst == 0xFFFFFFFFFFFF || dst == 0x0180C2000001 ||
    (s.flag MC_CTL_ALL_MULTI n && bitOf dst 40) || s.flag MC_CTL_PROMISC n

/-- A MAC control frame whose last bit came at elapsed time `last` (R290, R288). -/
def State.macControl (s : State) (n : Nat) (b : List Nat) (last : Nat) : State :=
  let op := beAt b 14 2
  let mode := s.fld MC_CTL_FC_MODE n
  let obey := s.flag MC_CTL_RX_FC n
  if (op = 1 ∧ mode = 1) then (s.stat n 19 1).when obey (fun t => (t.holdExpire n).holdSet n 8 (beAt b 16 2) last)
  else if op = 0x101 ∧ mode = 2 ∧ b.getD 16 0 = 0 then
    (s.stat n 20 1).when obey (fun t =>
      (List.range 8).foldl (fun u p => if bitOf (b.getD 17 0) p then u.holdSet n p (beAt b (18 + 2 * p) 2) last else u)
        (t.holdExpire n))
  else s.stat n 21 1

/-- The counters of an accepted frame (R301). -/
def State.macCount (s : State) (n : Nat) (b : List Nat) : State :=
  let len := lineLen b
  let dst := beAt b 0 6
  let s := (s.stat n 0 len).stat n 1 1
  let s := if dst = 0xFFFFFFFFFFFF then s.stat n 4 1
    else if bitOf dst 40 then s.stat n 3 1
    else if dst = s.fld MC_MAC_ADDR_ADDR n then s.stat n 2 1
    else s
  let s := if beAt b 12 2 = 0x8100 then s.stat n 5 1 else s
  (s.stat n (if len = 64 then 6 else if len ≤ 127 then 7 else if len ≤ 255 then 8 else if len ≤ 1518 then 9 else 10) 1).engEv
    (28 + n)

/-- The stamp of a reference point captured `back` (2^-16 ns) before the present tick on the group's `lane` (R19, R27, R260),
with the bound of that instant and the path term of 300 ps, and the room the buffer has for the frame (R285). -/
def State.rxHead (s : State) (n back lane : Nat) : RxHead :=
  let k := s.macLane n lane
  let d := (back + s.fld SL_ETH_RX_DELAY_DELAY k) * 2 ^ 32
  let p := s.stampAt d
  let most := s.fld MC_MAX_FRAME_OCTETS n
  { stamp := p.time, bound := if s.flag SL_ETH_STATUS_CAL_DONE k then addBound p.bound 300 else 0xFFFFFFFF,
    safe := p.safe, dist := p.dist, at_ := s.ti.elapsed - d, room := if 8 * 2 ^ 20 < s.occAll + most then 0 else most }

/-- Whether instance `n` takes a frame that starts now (R42, R298). -/
def State.rxOpen (s : State) (n : Nat) : Bool := s.macUp n && s.flag MC_CTL_EN n && !s.flag MC_CTL_MUTE n

/-- A frame starts to be received: its reference point is stamped and its room reserved (R284, R285). -/
def State.rxStart (s : State) (n back lane : Nat) : State :=
  if s.rxOpen n then (s.setMac n { s.mac n with rx := s.rxHead n back lane :: (s.mac n).rx }).fcEval n else s

/-- A frame has been received whole (R282), `h` from its start: `fcs` good, `pcs` an error block in it, `frag` a bad fragment
sequence, `asm` reassembled. A fragment sequence that PREEMPT_EN does not admit is a bad one (R292). -/
def State.macRx (s : State) (n : Nat) (b : List Nat) (fcs pcs frag asm : Bool) (h : RxHead) : State :=
  let len := lineLen b
  let s := s.stat n 27 len
  if frag || (asm && !s.flag MC_CTL_PREEMPT_EN n) then s.stat n 17 1
  else if h.room = 0 then s.stat n 16 1
  else if len ≤ 63 then s.stat n 11 1
  else if s.fld MC_MAX_FRAME_OCTETS n < len then s.stat n 12 1
  else if pcs then s.stat n 14 1
  else if !fcs then s.stat n 13 1
  else if !s.macFilter n (beAt b 0 6) then s.stat n 15 1
  else
    let s := (s.macCount n b).when asm (fun t => t.stat n 18 1)
    if beAt b 12 2 = 0x8808 then s.macControl n b (h.at_ + s.octU n len)
    else
      let m := s.mac n
      s.setMac n { m with
        stored := m.stored ++ [{ inst := n, bytes := b, stamp := h.stamp, bound := h.bound, seq := m.seq, safe := h.safe,
                                 dist := h.dist }],
        seq := (m.seq + 1) % 2 ^ 32 }

/-- The loop in effect on instance `n` (R278). -/
def State.macLoop (s : State) (n : Nat) : Nat := (s.ethL (s.macLane n 0)).loop

/-- Where a frame of instance `n` goes, `el` the elapsed time of its reference point at the ball (R278): to the ball by `out`,
nowhere while the far end's stream is sent back, or back to the instance itself. -/
def State.frameOut (s : State) (n : Nat) (out : Out) (b : List Nat) (el : Nat) : State :=
  match s.macLoop n with
  | 0 => s.emit out
  | 3 => s
  | _ =>
    if s.rxOpen n then
      let h := s.rxHead n 0 0
      let p := s.stampAt (s.ti.elapsed - el)
      (s.macRx n b true false false false { h with
        stamp := (p.time + (el - s.ti.elapsed)) % timeMod, at_ := el,
        bound := if s.flag SL_ETH_STATUS_CAL_DONE (s.macLane n 0) then addBound p.bound 300 else 0xFFFFFFFF }).fcEval n
    else s

/-- A PAUSE (mask 256) or PFC frame without its FCS (R286, R290). -/
def State.pauseFrame (s : State) (n mask quanta : Nat) : List Nat :=
  padTo 60 (toBytesBE 6 0x0180C2000001 ++ toBytesBE 6 (s.fld MC_MAC_ADDR_ADDR n) ++ [0x88, 0x08] ++
    (if mask = 256 then [0, 1] ++ toBytesBE 2 quanta
     else [1, 1, 0, mask % 256] ++ (List.range 8).flatMap (fun p => toBytesBE 2 (if bitOf mask p then quanta else 0))))

/-! ### Verification of preemption (R292) -/

/-- A verify mPacket leaves (ball code 0x100 + instance: 1 verify, 2 respond). -/
def State.verifySend (s : State) (n : Nat) : State :=
  (s.setMac n { s.mac n with verTry := (s.mac n).verTry + 1, verAt := s.ti.elapsed }).emit (.ball (0x100 + n) 1)

/-- The link comes up: verification runs, or preemption is active at once. -/
def State.verifyStart (s : State) (n : Nat) : State :=
  if !s.flag MC_CTL_PREEMPT_EN n then s.setFld MC_STATUS_VERIFY_STATE n 0
  else if s.flag MC_PREEMPT_VERIFY_DIS n then (s.setFld MC_STATUS_VERIFY_STATE n 0).set1 MC_STATUS_PREEMPT_ACTIVE n
  else ((s.setFld MC_STATUS_VERIFY_STATE n 2).setMac n { s.mac n with verTry := 0 }).verifySend n

/-- A verify mPacket has gone unanswered. -/
def State.verifyTimeout (s : State) (n : Nat) : State :=
  if s.fld MC_STATUS_VERIFY_STATE n = 2 ∧
      (s.mac n).verAt + s.fld MC_PREEMPT_VERIFY_MS n * msU ≤ s.ti.elapsed then
    if (s.mac n).verTry < 3 then s.verifySend n else (s.setFld MC_STATUS_VERIFY_STATE n 4).stat n 45 1
  else s

/-- A verify (1) or respond (2) mPacket is received. -/
def State.verifyRx (s : State) (n kind : Nat) : State :=
  if kind = 1 then s.when (s.flag MC_CTL_PREEMPT_EN n) (fun t => t.emit (.ball (0x100 + n) 2))
  else if s.fld MC_STATUS_VERIFY_STATE n = 2 then
    (s.setFld MC_STATUS_VERIFY_STATE n 3).set1 MC_STATUS_PREEMPT_ACTIVE n
  else s

/-! ### Host frames (R283, R411) -/

/-- A type 0x21 descriptor written back: `why` 0 sent, with its stamp when asked, else the drop reason (R411). -/
def State.hostTxDone (s : State) (h : Nat × Nat × Bool) (why stamp bound : Nat) : State :=
  let d := s.descRead h.1 h.2.1
  let flags := bits d 16 8
  let d := d - flags * 2 ^ 16
  if why = 0 then
    let f := flags ||| 2
    let d := d + f * 2 ^ 16
    if h.2.2 then
      let w := wncOf stamp
      let keep := d - bits d 128 32 * 2 ^ 128 - bits d 176 16 * 2 ^ 176 - bits d 192 32 * 2 ^ 192
      s.descDone h.1 h.2.1 (keep + w / 2 ^ 16 * 2 ^ 128 + w % 2 ^ 16 * 2 ^ 176 + bound * 2 ^ 192)
    else s.descDone h.1 h.2.1 d
  else s.descDone h.1 h.2.1 (d + (flags ||| 4) * 2 ^ 16 - bits d 224 32 * 2 ^ 224 + why * 2 ^ 224)

/-- A dropped frame's descriptor, when the host sent it. -/
def State.txDrop (s : State) (f : TxFrame) (why : Nat) : State :=
  match f.host with
  | some h => s.hostTxDone h why 0 0
  | none => s

/-- A preemptable frame queued on an instance (R291). -/
def State.macQueue (s : State) (n : Nat) (b : List Nat) (host : Option (Nat × Nat × Bool)) : State :=
  s.setMac n { s.mac n with pre := (s.mac n).pre ++
    [{ cls := s.prioOf n b, bytes := b, host := host, since := s.ti.elapsed, aged := false, sent := 0, frags := 0 }] }

/-- A frame handed over for transmission (R283, R298, R300, R411): without its FCS. The host's short frames count in
TX_PADDED. -/
def State.macSubmit (s : State) (n : Nat) (b : List Nat) (host : Option (Nat × Nat × Bool)) : State :=
  let drop := fun (t : State) (why : Nat) =>
    match host with
    | some h => t.hostTxDone h why 0 0
    | none => t
  if n ≥ 16 ∨ s.macExists n = false then drop s 4
  else if s.flag MC_CTL_MUTE n ∨ s.flag MC_STATUS_MUTED n then drop (s.stat n 42 1) 3
  else if s.flag MC_STATUS_LINK_UP n = false ∨ s.flag MC_CTL_EN n = false then drop (s.stat n 43 1) 2
  else if s.fld MC_MAX_FRAME_OCTETS n < lineLen b then drop (s.stat n 41 1) 1
  else if b.length < 60 then (s.when host.isSome (fun t => t.stat n 40 1)).macQueue n (padTo 60 b) host
  else s.macQueue n b host

/-- A frame built by the engine, sent as an ordinary preemptable frame (R303, R307). -/
def State.macSend (s : State) (n : Nat) (b : List Nat) : State := s.macSubmit n b none

/-! ### Egress (R291, R292, R295) -/

/-- The clear instant of a launch (R295), engine time. -/
def State.clearAt (s : State) (n : Nat) (r : Resp) : Nat := r.t3 - s.octU n 20

/-- The elapsed time at which the first held launch needs the medium clear. -/
def State.clearEl (s : State) (n : Nat) : Option Nat :=
  (s.mac n).gate.head?.map (fun r => s.ti.elapsed + s.clearAt n r - s.ti.now)

/-- The ball instant of a boundary `ph` (2^-16 ns) after the tick's start at the serialiser of the group's `lane` (R260). -/
def State.txBall (s : State) (n ph lane : Nat) : Nat :=
  s.ti.elapsed + (ph + s.fld SL_ETH_TX_DELAY_DELAY (s.macLane n lane)) * 2 ^ 32

/-- Whether `k` octets after a preamble starting at elapsed time `at_` end by the first clear instant. -/
def State.fits (s : State) (n k at_ : Nat) : Bool :=
  match s.clearEl n with
  | some c => at_ + s.octU n (8 + k) ≤ c
  | none => true

/-- The smallest non-final fragment with its mCRC (R292). -/
def State.minFrag (s : State) (n : Nat) : Nat := 64 * (1 + s.fld MC_PREEMPT_ADD_FRAG n)

/-- The octets that a frame has still to send. -/
def txLeft (f : TxFrame) : Nat := lineLen f.bytes - f.sent

/-- Whether a preemptable frame may start or resume at elapsed time `at_` (R295). -/
def State.mayStart (s : State) (n : Nat) (f : TxFrame) (at_ : Nat) : Bool :=
  s.fits n (txLeft f) at_ ||
    (s.flag MC_STATUS_PREEMPT_ACTIVE n && decide (s.minFrag n + 60 ≤ txLeft f) && s.fits n (s.minFrag n) at_)

/-- The egress stamp of the frame in transmission and its bound (R21, R284): what stood at its reference point, which may still
lie ahead by the lane's delay. -/
def State.txStamp (s : State) (n : Nat) : Nat × Nat :=
  let m := s.mac n
  let p := s.stampAt (s.ti.elapsed - m.curAt)
  ((p.time + (m.curAt - s.ti.elapsed)) % timeMod, if m.curCal then addBound p.bound 300 else 0xFFFFFFFF)

/-- The frame in transmission ends: counted, its descriptor written back (R284, R301), and holds that waited for it begin. -/
def State.txFinish (s : State) (n : Nat) : State :=
  let m := s.mac n
  match m.cur with
  | some f =>
    let p := s.txStamp n
    let s := (s.setMac n { m with cur := none }).holdBegin n (m.curEnd - s.octU n 12)
    let s := ((((s.stat n 28 (lineLen f.bytes)).stat n 29 1).engEv (44 + n)).when (f.frags != 0) (fun t =>
      (t.stat n 31 1).stat n 32 1)).frameOut n (.frame n false 0 f.bytes) f.bytes m.curAt
    (match f.host with
     | some h => s.hostTxDone h 0 p.1 p.2
     | none => s)
  | none => s

/-- A preemptable frame starts, or resumes, with its preamble leaving the ball of lane `k` at elapsed time `at_`. -/
def State.txStart (s : State) (n : Nat) (f : TxFrame) (at_ k : Nat) : State :=
  let m := s.mac n
  let m := if f.sent = 0 then { m with curAt := at_ + s.octU n 8, curCal := s.flag SL_ETH_STATUS_CAL_DONE k } else m
  s.setMac n { m with cur := some f, curEnd := at_ + s.octU n (8 + txLeft f + 12) }

/-- The preemptable frame to start next (R291): an aged one first, then the highest class, the oldest of it. -/
def State.txChoose (s : State) (n : Nat) : Option TxFrame :=
  let ok := (s.mac n).pre.filter (fun f => !s.heldNow n f.cls)
  let pick := fun (l : List TxFrame) =>
    (List.range 8).foldl (fun (a : Option TxFrame) c => match l.find? (fun f => f.cls == c) with
      | some f => some f
      | none => a) none
  match pick (ok.filter (fun f => f.aged)) with
  | some f => some f
  | none => pick ok

/-- A MAC control frame starts at elapsed time `at_` (R287, R291): 64 octets. -/
def State.ctlStart (s : State) (n mask quanta at_ : Nat) : State :=
  let s := s.setMac n { s.mac n with ctl := (s.mac n).ctl.drop 1, curEnd := at_ + s.octU n 84 }
  let s := ((((s.stat n 28 64).stat n 29 1).stat n 30 1).engEv (44 + n)).stat n (if mask = 256 then 35 else 36) 1
  s.frameOut n (.pause n mask quanta) (s.pauseFrame n mask quanta) (at_ + s.octU n 8)

/-- The frame in transmission is preempted where its fragment ends at elapsed time `e` with its mCRC, when both parts are long
enough (R292, R295). -/
def State.preempt (s : State) (n e : Nat) : State :=
  let m := s.mac n
  match m.cur with
  | some f =>
    let fragStart := m.curEnd - s.octU n (8 + txLeft f + 12)
    let octs := (e - fragStart) * 1000 / (s.octPs n * nsU)
    let k := octs - 12
    if s.flag MC_STATUS_PREEMPT_ACTIVE n = true ∧ s.minFrag n ≤ k + 4 ∧ k + 64 ≤ txLeft f then
      (s.setMac n { m with cur := none, curEnd := e + s.octU n 12,
                           part := some { f with sent := f.sent + k, frags := f.frags + 1 } }).stat n 32 1
    else s
  | none => s

/-- A frame boundary of instance `n` (R291, R295, R298), `ph` after the tick's start at the group's `lane`: the frame in
transmission ends, or is preempted for a flow-control frame (R287), and the next one starts. -/
def State.macBoundary (s : State) (n ph lane : Nat) : State :=
  let at_ := s.txBall n ph lane
  let k := s.macLane n lane
  let mute := s.flag MC_CTL_MUTE n
  if s.macUp n = false then s
  else
    let s := s.when (!mute && !(s.mac n).ctl.isEmpty && decide (at_ < (s.mac n).curEnd)) (fun t =>
      t.preempt n (at_ - t.octU n 12))
    if at_ < (s.mac n).curEnd then s
    else
      let s := s.txFinish n
      let m := s.mac n
      if m.gate.any (fun r => r.cleared) then s
      else
        match (if mute then none else m.ctl.head?) with
        | some (mask, q) => if s.fits n 64 at_ then s.ctlStart n mask q at_ else s
        | none =>
          match m.part with
          | some f => if s.mayStart n f at_ then (s.setMac n { m with part := none }).txStart n f at_ k else s
          | none =>
            if mute ∨ s.flag MC_CTL_EN n = false then s
            else
              match s.txChoose n with
              | some f => if s.mayStart n f at_ then (s.setMac n { m with pre := m.pre.erase f }).txStart n f at_ k else s
              | none => s

/-- How long a queued frame has waited, holds of its class apart (R291). -/
def State.txWaited (s : State) (n : Nat) (f : TxFrame) : Nat :=
  let upto := (s.mac n).holds.foldl (fun a h => if h.1 = 8 ∨ h.1 = f.cls then min a (max f.since (h.2.1.getD a)) else a) s.ti.elapsed
  upto - f.since

/-- Whether a queued frame has waited longer than AGE_US. -/
def State.tooOld (s : State) (n : Nat) (f : TxFrame) : Bool := !f.aged && decide (s.fld MC_AGE_AGE_US n * usU < s.txWaited n f)

/-- Every frame that has waited longer than AGE_US is promoted: it goes before the frames of its class that have not (R291). -/
def State.agePromote (s : State) (n : Nat) : State :=
  let m := s.mac n
  (s.setMac n { m with pre := m.pre.map (fun f => if s.tooOld n f then { f with aged := true } else f) }).stat n 39
    (m.pre.filter (s.tooOld n)).length

/-! ### Mute, link up and link down (R298 to R300) -/

/-- Every queued frame dropped for reason `why`, counted in counter `k`. -/
def State.dropQueued (s : State) (n k why : Nat) : State :=
  let m := s.mac n
  let s := (s.setMac n { m with pre := [] }).stat n k m.pre.length
  m.pre.foldl (fun t f => t.txDrop f why) s

/-- The link of instance `n` goes down, its held launches apart (R300); `rx` a received frame is in progress. -/
def State.macLinkDown (s : State) (n : Nat) (rx : Bool) : State :=
  if s.flag MC_STATUS_LINK_UP n then
    let m := s.mac n
    let s := (s.clr MC_STATUS_LINK_UP n).stat n 44 1
    let s := (match m.cur with | some f => s.txDrop f 2 | none => s)
    let s := (match m.part with | some f => s.txDrop f 2 | none => s)
    let s := (s.setMac n { s.mac n with cur := none, part := none, ctl := [], curEnd := 0, rx := [] }).dropQueued n 43 2
    let s := s.stat n 14 (max (b2n rx) m.rx.length)
    let s := (List.range 9).foldl (fun t p => t.holdEnd n p) s
    let s := s.xoffCount n
    let s := (s.setMac n { s.mac n with xoff := none }).clr MC_STATUS_XOFF n
    (s.clr MC_STATUS_PREEMPT_ACTIVE n).setFld MC_STATUS_VERIFY_STATE n
      (b2n (s.flag MC_CTL_PREEMPT_EN n && !s.flag MC_PREEMPT_VERIFY_DIS n))
  else s

/-- The link of instance `n` comes up (R292, R299). -/
def State.macLinkUp (s : State) (n : Nat) : State :=
  if s.macExists n = true ∧ s.flag MC_CTL_MUTE n = false then
    (((s.set1 MC_STATUS_LINK_UP n).clr MC_STATUS_WAKING n).clr MC_STATUS_MUTED n).verifyStart n
  else s

/-- MUTE is set (R298), the held launches apart. -/
def State.macMute (s : State) (n : Nat) : State :=
  ((s.set1 MC_CTL_MUTE n).clr MC_STATUS_WAKING n).dropQueued n 42 3

end Sys2Proof.Machine
end

