-- ==== Sys2Proof/Machine/Packets.lean ====
section
/-! DEFINITION. Frames as byte strings: parsing and building Ethernet, IPv4, IPv6 and UDP (layouts of the outside standards
that R302 to R304 and R322 name; PRESUMED, log entry 23), service addresses (R304) and the classes of R302. -/

namespace Sys2Proof.Machine

/-! ### Parsing -/

/-- The number of 802.1Q tags of a frame, the outermost TCI, its EtherType and what follows. -/
def ethTags : Nat → List Nat → Nat × Option Nat × Nat × List Nat
  | 0, b => (9, none, beAt b 0 2, b.drop 2)
  | k + 1, b =>
    if beAt b 0 2 = 0x8100 then
      let r := ethTags k (b.drop 4)
      (r.1 + 1, some (beAt b 2 2), r.2.2.1, r.2.2.2)
    else (0, none, beAt b 0 2, b.drop 2)

/-- The one's-complement sum of 16-bit words. -/
def sum16 : List Nat → Nat
  | a :: b :: bs => (a * 256 + b + sum16 bs)
  | [a] => a * 256
  | [] => 0
def foldSum (v : Nat) : Nat :=
  let a := v % 65536 + v / 65536
  let b := a % 65536 + a / 65536
  b % 65536 + b / 65536
def checksum (b : List Nat) : Nat := 65535 - foldSum (sum16 b)

/-- A parsed datagram: net 0 IPv4, 1 IPv6; protocol; addresses; payload of the IP packet; whether it has header options,
extension headers or fragments; whether its IPv4 header checksum holds. -/
structure Ip where
  net   : Nat
  proto : Nat
  src   : Nat
  dst   : Nat
  body  : List Nat
  plain : Bool
  sumOk : Bool

/-- The IP packet of a frame's payload. -/
def ipOf (etype : Nat) (b : List Nat) : Option Ip :=
  if etype = 0x0800 ∧ b.getD 0 0 / 16 = 4 then
    some { net := 0, proto := b.getD 9 0, src := beAt b 12 4, dst := beAt b 16 4,
           body := (b.drop (b.getD 0 0 % 16 * 4)).take (beAt b 2 2 - b.getD 0 0 % 16 * 4),
           plain := b.getD 0 0 % 16 == 5 && beAt b 6 2 % 0x4000 == 0,
           sumOk := foldSum (sum16 (b.take (b.getD 0 0 % 16 * 4))) == 65535 }
  else if etype = 0x86DD ∧ b.getD 0 0 / 16 = 6 then
    some { net := 1, proto := b.getD 6 0, src := beAt b 8 16, dst := beAt b 24 16, body := (b.drop 40).take (beAt b 4 2),
           plain := !(b.getD 6 0 ∈ [0, 43, 44, 50, 51, 60, 135, 139, 140]), sumOk := true }
  else none

/-- The pseudo-header of a UDP or ICMPv6 checksum. -/
def pseudo (net src dst len proto : Nat) : List Nat :=
  if net = 0 then toBytesBE 4 src ++ toBytesBE 4 dst ++ [0, proto] ++ toBytesBE 2 len
  else toBytesBE 16 src ++ toBytesBE 16 dst ++ toBytesBE 4 len ++ [0, 0, 0, proto]

/-- Whether the UDP checksum of a datagram holds (R303). -/
def udpOk (p : Ip) : Bool :=
  if beAt p.body 6 2 = 0 then p.net == 0
  else foldSum (sum16 (pseudo p.net p.src p.dst (beAt p.body 4 2) 17 ++ p.body.take (beAt p.body 4 2))) == 65535

/-! ### Building (R303) -/

/-- The Ethernet header of an answer. -/
def State.ethHead (s : State) (n : Nat) (p : Peer) (etype : Nat) : List Nat :=
  toBytesBE 6 p.mac ++ toBytesBE 6 (s.fld MC_MAC_ADDR_ADDR n) ++
    (match p.tag with | some t => [0x81, 0x00] ++ toBytesBE 2 t | none => []) ++ toBytesBE 2 etype

/-- An IPv4 or IPv6 header for `len` octets of payload: DF set, identification zero, TTL from TS_CTL. -/
def State.ipHead (s : State) (p : Peer) (proto len : Nat) : List Nat :=
  let ttl := s.fld TS_CTL_TTL 0
  if p.net = 0 then
    let h := [0x45, 0] ++ toBytesBE 2 (20 + len) ++ [0, 0, 0x40, 0, ttl, proto]
    let t := toBytesBE 4 p.here ++ toBytesBE 4 p.addr
    h ++ toBytesBE 2 (checksum (h ++ [0, 0] ++ t)) ++ t
  else [0x60, 0, 0, 0] ++ toBytesBE 2 len ++ [proto, ttl] ++ toBytesBE 16 p.here ++ toBytesBE 16 p.addr

/-- A frame that carries a payload to a peer: UDP over IP, or the payload alone under EtherType 0x88F7. -/
def State.datagram (s : State) (n : Nat) (p : Peer) (body : List Nat) : List Nat :=
  if p.net = 2 then s.ethHead n p 0x88F7 ++ body
  else
    let len := 8 + body.length
    let h := toBytesBE 2 p.hport ++ toBytesBE 2 p.port ++ toBytesBE 2 len
    let c := checksum (pseudo p.net p.here p.addr len 17 ++ h ++ [0, 0] ++ body)
    s.ethHead n p (if p.net = 0 then 0x0800 else 0x86DD) ++ s.ipHead p 17 len ++ h ++
      toBytesBE 2 (if c = 0 then 65535 else c) ++ body

/-! ### Service addresses (R304) -/

/-- Whether a frame matches the VLAN of service address `k`. -/
def State.saVlan (s : State) (k : Nat) (tag : Option Nat) : Bool :=
  match tag with
  | none => !s.flag TS_SA_CTL_TAGGED k
  | some t => s.flag TS_SA_CTL_TAGGED k && t % 4096 == s.fld TS_SA_CTL_VLAN k

/-- Whether enabled service address `k` has the family, address and VLAN. -/
def State.saIs (s : State) (k net addr : Nat) (tag : Option Nat) : Bool :=
  s.flag TS_SA_CTL_EN k && s.fld TS_SA_CTL_IPV6 k == net &&
    (if net = 0 then s.fld TS_SA_ADDR_ADDR k % 2 ^ 32 == addr else s.fld TS_SA_ADDR_ADDR k == addr) && s.saVlan k tag

/-- Whether instance `n` is in the mask of service address `k`. -/
def State.saMac (s : State) (k n : Nat) : Bool := bitOf (s.fld TS_SA_MACS_MASK k) n

/-- The service address that a datagram is for: the lowest-numbered match, when instance `n` is in its mask. -/
def State.saFind (s : State) (n net addr : Nat) (tag : Option Nat) : Option Nat :=
  match (List.range 64).find? (fun k => s.saIs k net addr tag) with
  | some k => if s.saMac k n then some k else none
  | none => none

/-- The lowest-numbered enabled service address with PTP of a family whose mask holds instance `n` (R323). -/
def State.saPtp (s : State) (n net : Nat) : Option Nat :=
  (List.range 64).find? (fun k => s.flag TS_SA_CTL_EN k && s.fld TS_SA_CTL_IPV6 k == net && s.flag TS_SA_CTL_PTP k && s.saMac k n)

/-- The address of service address `k`. -/
def State.saAddr (s : State) (k : Nat) : Nat :=
  if s.flag TS_SA_CTL_IPV6 k then s.fld TS_SA_ADDR_ADDR k else s.fld TS_SA_ADDR_ADDR k % 2 ^ 32

/-- The tag that frames from service address `k` carry. -/
def State.saTag (s : State) (k : Nat) : Option Nat :=
  if s.flag TS_SA_CTL_TAGGED k then some (s.fld TS_SA_CTL_VLAN k) else none

/-! ### PTP addresses (R302) -/

/-- The PTP multicast IP addresses: 224.0.1.129, FF0E::181; peer delay 224.0.0.107, FF02::6B. -/
def ptpGroup (net : Nat) (peer : Bool) : Nat :=
  if net = 0 then (if peer then 0xE000006B else 0xE0000181)
  else (if peer then 0xFF02 * 2 ^ 112 + 0x6B else 0xFF0E * 2 ^ 112 + 0x181)

/-- The MAC address of a PTP multicast message. -/
def ptpMac (net : Nat) (peer : Bool) : Nat :=
  if net = 2 then (if peer then 0x0180C200000E else 0x011B19000000)
  else if net = 0 then (if peer then 0x01005E00006B else 0x01005E000181)
  else (if peer then 0x33330000006B else 0x333300000181)

/-- Whether a destination MAC address is a PTP multicast address. -/
def ptpMacOk (m : Nat) : Bool :=
  [0x011B19000000, 0x0180C200000E, 0x01005E000181, 0x01005E00006B, 0x333300000181, 0x33330000006B].contains m

/-! ### Service counters and state (R329) -/

/-- Service counter `k`. -/
def State.tsCnt (s : State) (k v : Nat) : State := s.rcAdd TS_CNT_COUNT k v

/-- The service role serves (R355): ACTIVE from the tick that its promotion gives (R374) and while its guard holds (R377), or
no pair and ALONE. -/
def State.roleServes (s : State) : Bool :=
  (s.fld TW_STATUS_ROLE 0 == 3 && decide (s.tw.serve ≤ s.ti.ticks) && !s.tw.guard_) || (s.fld TW_STATUS_ROLE 0 == 0 && s.flag TW_CTL_ALONE 0)

/-- TS_STATUS.SERVING. -/
def State.serving (s : State) : Bool := s.flag TS_CTL_EN 0 && s.service && s.roleServes

/-- TS_STATUS.STOPPED (R329). -/
def State.stopped (s : State) : Bool :=
  match s.fld RS_STATE_ENGINE_STATE 0 with
  | 0 => s.flag TS_STATE_CFG_STOP_FREE_RUN 0
  | 1 => s.flag TS_STATE_CFG_STOP_ACQUIRING 0
  | 4 => s.flag TS_STATE_CFG_STOP_LOST 0
  | _ => false

/-! ### Classification (R302, R303) -/

/-- What classification makes of a frame: the host ring, dropped for a bad checksum, dropped for a matching PTP reason, an
ARP or Neighbor Solicitation for a service address, or a request of a service. -/
inductive Class where
  | host
  | badSum
  | arp (k : Nat) (target : Nat) (p : Peer)
  | nd (k : Nat) (target : Nat) (p : Peer)
  | svc (q : SvcReq)

/-- PKT instance whose remote on instance `n` a message of domain `dom` came from (R328). -/
def State.pktOf (s : State) (n net src dom : Nat) : Option Nat :=
  (List.range 2).find? (fun k => s.flag TS_PKT_CTL_EN k && s.fld TS_PKT_CTL_MAC k == n && s.fld TS_PKT_CTL_TRANSPORT k % 3 == net &&
    s.fld TS_PKT_CTL_DOMAIN k == dom &&
    (if net = 0 then s.fld TS_PKT_REMOTE_ADDR k % 2 ^ 32 == src
     else if net = 1 then s.fld TS_PKT_REMOTE_ADDR k == src else s.fld TS_PKT_REMOTE_ADDR k % 2 ^ 48 == src))

/-- The TLVs of a PTP message after `off` octets: type and body. -/
def tlvs : Nat → List Nat → List (Nat × List Nat)
  | 0, _ => []
  | k + 1, b =>
    if b.length < 4 ∨ b.length < 4 + beAt b 2 2 then []
    else (beAt b 0 2, (b.drop 4).take (beAt b 2 2)) :: tlvs k (b.drop (4 + beAt b 2 2))

/-- The length of a PTP message's fixed part, by messageType. -/
def ptpFixed (typ : Nat) : Nat :=
  match typ with
  | 0 => 44 | 1 => 44 | 2 => 54 | 3 => 54 | 8 => 44 | 9 => 54 | 10 => 54 | 11 => 64 | 12 => 44 | _ => 34

def ptpType (m : List Nat) : Nat := m.getD 0 0 % 16
def ptpTlvs (m : List Nat) : List (Nat × List Nat) :=
  tlvs 64 ((m.take (beAt m 2 2)).drop (ptpFixed (ptpType m)))

/-- A PTP message on instance `n` (R302, R323, R327, R328): the tag of its request and the unit, none for the host ring. -/
def State.ptpClass (s : State) (n net src : Nat) (m : List Nat) : Option (Nat × Nat) :=
  let dom := m.getD 4 0
  let typ := ptpType m
  let port := s.flag TS_PTP_CTL_EN n && s.fld TS_PTP_CTL_TRANSPORT n % 3 == net && s.fld TS_PTP_CTL_DOMAIN n == dom
  let has := fun t => (ptpTlvs m).any (fun x => x.1 == t)
  match s.pktOf n net src dom with
  | some k =>
    if typ = 0 ∨ typ = 8 ∨ typ = 11 then some (8, k)
    else if typ = 9 ∨ typ = 3 then some (9, k)
    else if typ = 12 ∧ (has 5 ∨ has 7) then some (10, k)
    else if port = true ∧ typ = 1 then some (4, n)
    else if port = true ∧ typ = 2 then some (5, n)
    else if port = true ∧ typ = 12 ∧ has 4 then some (6, n)
    else if port = true ∧ typ = 12 ∧ has 6 then some (7, n)
    else none
  | none =>
    if port = true ∧ typ = 1 then some (4, n)
    else if port = true ∧ typ = 2 then some (5, n)
    else if port = true ∧ typ = 12 ∧ has 4 then some (6, n)
    else if port = true ∧ typ = 12 ∧ has 6 then some (7, n)
    else none

/-- Rows 4 to 7 of R302. -/
def State.classUdp (s : State) (f : RxFrame) (dmac smac : Nat) (tag : Option Nat) (p : Ip) : Class :=
  let n := f.inst
  let sport := beAt p.body 0 2
  let dport := beAt p.body 2 2
  let body := (p.body.take (beAt p.body 4 2)).drop 8
  let peer : Peer := { mac := smac, tag := tag, net := p.net, addr := p.src, port := sport, here := p.dst, hport := dport }
  let svc := fun (t u : Nat) (pe : Peer) (b : List Nat) =>
    if p.sumOk && udpOk p then
      Class.svc {
        tag := t, unit_ := u, inst := n, peer := pe, body := b, stamp := f.stamp, bound := f.bound, seq := f.seq, safe := f.safe, dist := f.dist }
    else Class.badSum
  let own := dmac == s.fld MC_MAC_ADDR_ADDR n
  let mcast := p.dst == ptpGroup p.net false || p.dst == ptpGroup p.net true
  let sa := s.saFind n p.net p.dst tag
  let saP := if mcast then (s.saPtp n p.net).filter (fun k => s.saVlan k tag)
             else sa.filter (fun k => s.flag TS_SA_CTL_PTP k)
  if (dport = 319 ∨ dport = 320) ∧ (own = true ∨ ptpMacOk dmac = true) ∧
      (saP.isSome = true ∨ (s.pktOf n p.net p.src (body.getD 4 0)).isSome = true) then
    let pe := if mcast then { peer with here := (saP.map (fun k => s.saAddr k)).getD p.dst } else peer
    match s.ptpClass n p.net p.src body with
    | some x => svc x.1 x.2 pe body
    | none => .host
  else if own then
    match sa with
    | some k =>
      if dport = 123 ∧ (s.flag TS_SA_CTL_NTP k ∨ s.flag TS_SA_CTL_NTS k) ∧ body.getD 0 0 % 8 = 3 ∧
          (body.getD 0 0 / 8 % 8 = 3 ∨ body.getD 0 0 / 8 % 8 = 4) then svc 1 k peer body
      else if s.flag RC_CTL_EN 0 = true ∧ dport = s.fld RC_PORT_PORT 0 ∧ dport ≠ 0 then svc 2 k peer body
      else if dport = s.fld BT_NET_CFG_PORT 0 ∧ dport ≠ 0 then svc 3 k peer body
      else .host
    | none => .host
  else .host

/-- An engine whose role answers receipt requests although its SERVING is 0 (R355; log entry 119). -/
def State.roleAnswers (s : State) : Bool :=
  s.flag TS_CTL_EN 0 && s.service && (s.fld TW_STATUS_ROLE 0 == 1 || s.fld TW_STATUS_ROLE 0 == 2 || s.fld TW_STATUS_ROLE 0 == 4)

/-- A receipt request (row 6 of R302). -/
def Class.receipt : Class → Bool
  | .svc q => q.tag == 2
  | _ => false

/-- The class by the table of R302, SERVING apart. -/
def State.classOf (s : State) (f : RxFrame) : Class :=
  let b := f.bytes
  let n := f.inst
  let dmac := beAt b 0 6
  let smac := beAt b 6 6
  let e := ethTags 3 (b.drop 12)
  let tag := e.2.1
  let body := e.2.2.2
  if 1 < e.1 then .host
  else if e.2.2.1 = 0x0806 then
    let target := beAt body 24 4
    match (s.saFind n 0 target tag).filter (fun k => s.flag TS_SA_CTL_ARP_ND k) with
    | some k =>
      if beAt body 6 2 = 1 then
        .arp k target { Peer.init with mac := smac, tag := tag, addr := beAt body 14 4, here := target }
      else .host
    | none => .host
  else if e.2.2.1 = 0x88F7 then
    match s.ptpClass n 2 smac body with
    | some x =>
      .svc { tag := x.1, unit_ := x.2, inst := n, peer := { Peer.init with mac := smac, tag := tag, net := 2, addr := smac },
             body := body, stamp := f.stamp, bound := f.bound, seq := f.seq, safe := f.safe, dist := f.dist }
    | none => .host
  else
    match ipOf e.2.2.1 body with
    | some p =>
      if !p.plain then .host
      else if p.proto = 58 ∧ p.net = 1 ∧ p.body.getD 0 0 = 135 then
        let target := beAt p.body 8 16
        match (s.saFind n 1 target tag).filter (fun k => s.flag TS_SA_CTL_ARP_ND k) with
        | some k => .nd k target { Peer.init with mac := smac, tag := tag, net := 1, addr := p.src, here := target }
        | none => .host
      else if p.proto = 17 ∧ 8 ≤ p.body.length then s.classUdp f dmac smac tag p
      else .host
    | none => .host

/-- The class of a frame (R302): the host ring takes what is not serving-eligible, but for the receipt requests that the
roles of R355 answer. -/
def State.classify (s : State) (f : RxFrame) : Class :=
  let c := s.classOf f
  if s.serving || (s.roleAnswers && c.receipt) then c else .host

/-! ### ARP and Neighbor Discovery (R305) -/

/-- An ARP packet's frame on instance `n`: operation, target hardware and protocol address, from `here`. -/
def State.arpFrame (s : State) (n op : Nat) (p : Peer) (tha tpa : Nat) : List Nat :=
  s.ethHead n p 0x0806 ++ [0, 1, 8, 0, 6, 4] ++ toBytesBE 2 op ++ toBytesBE 6 (s.fld MC_MAC_ADDR_ADDR n) ++
    toBytesBE 4 p.here ++ toBytesBE 6 tha ++ toBytesBE 4 tpa

/-- A Neighbor Advertisement's frame: solicited or not, override set. -/
def State.naFrame (s : State) (n : Nat) (p : Peer) (solicited : Bool) : List Nat :=
  let h := [if solicited then 0x60 else 0x20, 0, 0, 0] ++ toBytesBE 16 p.here ++ [2, 1] ++
    toBytesBE 6 (s.fld MC_MAC_ADDR_ADDR n)
  let c := checksum (pseudo 1 p.here p.addr 32 58 ++ [136, 0, 0, 0] ++ h)
  s.ethHead n p 0x86DD ++ [0x60, 0, 0, 0] ++ toBytesBE 2 32 ++ [58, 255] ++ toBytesBE 16 p.here ++ toBytesBE 16 p.addr ++
    [136, 0] ++ toBytesBE 2 c ++ h

end Sys2Proof.Machine
end

