-- ==== Sys2Proof/Machine/TimeService.lean ====
section
/-! DEFINITION. The time service (R306 to R321): the client table and its rate buckets, launch times and bounds, NTP and NTS
responses, re-sealing. -/

namespace Sys2Proof.Machine

/-- The time service's own state replaced. -/
def State.setTs (s : State) (t : TsSt) : State := { s with ts := t }

/-! ### The client table (R318 to R321) -/

/-- Where entry `i` of set `k` stands. -/
def State.ctAddr (s : State) (k i : Nat) : Nat := s.fld TS_CT_BASE_ADDR 0 + (k * 8 + i) * 64

/-- The set of an entry key. -/
def State.ctSet (s : State) (key : List Nat) : Nat :=
  Config.tableHash s.ts.hkey key % 2 ^ s.fld TS_CT_CFG_SETS_LOG2 0

/-- An entry's bytes, and an entry written. -/
def State.ctGet (s : State) (a : Nat) : List Nat := memBytes s.mem a 64
def State.ctPut (s : State) (a : Nat) (e : List Nat) : State := s.store a (padTo 64 e)

/-- The engine's millisecond count modulo 2^32. -/
def State.engMs (s : State) : Nat := s.now / msU % 2 ^ 32

/-- The flags of byte 3: IPv6, Ethernet. -/
def netFlags (net : Nat) : Nat := if net = 0 then 0 else if net = 1 then 1 else 2

/-- The 16-byte key of a bucket (R318, R320). -/
def bucketKey (net addr : Nat) : List Nat :=
  if net = 0 then padTo 16 (toBytesBE 4 addr)
  else if net = 1 then padTo 16 (toBytesBE 8 (addr / 2 ^ 64))
  else padTo 16 (toBytesBE 6 addr)

/-- A client's address in full, as a grant entry keeps it (R320). -/
def clientKey (net addr : Nat) : List Nat :=
  if net = 0 then padTo 16 (toBytesBE 4 addr) else if net = 1 then toBytesBE 16 addr else padTo 16 (toBytesBE 6 addr)

/-- Poisoned entries of a set become EMPTY (R321). -/
def State.ctClean (s : State) (k : Nat) : State :=
  (List.range 8).foldl (fun t i =>
    if t.poisoned (t.ctAddr k i) 64 then
      let g := (t.ctGet (t.ctAddr k i)).getD 0 0 == 2
      ((t.ctPut (t.ctAddr k i) []).tsCnt 26 1).when g (fun u => u.setFld TS_CT_GRANTS_COUNT 0 (u.fld TS_CT_GRANTS_COUNT 0 - 1))
    else t) s

/-- The entry of a set that holds a bucket's key. -/
def State.bucketIn (s : State) (k net : Nat) (key : List Nat) : Option Nat :=
  ((List.range 8).map (fun i => s.ctAddr k i)).find? (fun a =>
    let e := s.ctGet a
    e.getD 0 0 == 1 && e.getD 3 0 == netFlags net && (e.drop 8).take 16 == key)

/-- An EMPTY entry of a set. -/
def State.emptyIn (s : State) (k : Nat) : Option Nat :=
  ((List.range 8).map (fun i => s.ctAddr k i)).find? (fun a => (s.ctGet a).getD 0 0 == 0)

/-- A bucket's tokens in 2^-8 token. -/
def bucketTok (e : List Nat) : Int := signed 32 (leAt4 e 32)
  where leAt4 (e : List Nat) (off : Nat) : Nat := ofBytes ((e.drop off).take 4)

/-- The milliseconds since an entry's LAST. -/
def State.ctAge (s : State) (e : List Nat) : Nat := (s.engMs + 2 ^ 32 - ofBytes ((e.drop 4).take 4)) % 2 ^ 32

/-- The cap of a bucket, 2^-8 token. -/
def State.burst (s : State) : Int := s.fld TS_RL_CFG_BURST 0 * 256

/-- The tokens a bucket holds now (R318); the rounding of its gain is open. -/
def State.bucketNow (s : State) (e : List Nat) : Int × State :=
  let q := s.quot (s.fld TS_RL_CFG_RATE 0 * 256 * s.ctAge e) 1000
  (min s.burst (bucketTok e + q.1), q.2)

/-- Whether a bucket is reusable (R321). -/
def State.reusable (s : State) (e : List Nat) : Bool :=
  e.getD 0 0 == 1 && decide (s.burst ≤ (s.bucketNow e).1) && decide (s.fld TS_RL_TIMING_IDLE_S 0 * 1000 < s.ctAge e)

/-- The entry a new bucket, or a new grant, takes: EMPTY, or the reusable bucket with the oldest LAST (R321). -/
def State.ctPlace (s : State) (k : Nat) : Option Nat :=
  match s.emptyIn k with
  | some a => some a
  | none =>
    ((List.range 8).map (fun i => s.ctAddr k i)).foldl (fun (b : Option Nat) a =>
      if s.reusable (s.ctGet a) then
        match b with
        | some x => if s.ctAge (s.ctGet x) < s.ctAge (s.ctGet a) then some a else some x
        | none => some a
      else b) none

/-- A bucket's entry. -/
def State.bucketEntry (s : State) (sa net : Nat) (key : List Nat) (tok : Int) (kod : Nat) : List Nat :=
  [1, if net = 2 then 0xFF else sa, 0, netFlags net] ++ toBytes 4 s.engMs ++ key ++ List.replicate 8 0 ++
    toBytes 4 (wrapTo 32 tok) ++ toBytes 4 kod

/-- The overflow bucket's tokens now, and its cap: one millisecond of its rate (R318). -/
def State.ovfNow (s : State) : Int × Int × State :=
  let c := s.quot (s.fld TS_RL_OVF_RATE 0 * 256) 1000
  let q := c.2.quot (s.fld TS_RL_OVF_RATE 0 * 256 * ((s.engMs + 2 ^ 32 - s.ts.ovfAt) % 2 ^ 32)) 1000
  (min c.1 (s.ts.ovfTok + q.1), c.1, q.2)

/-- A request of `cost` tokens from a source (R318, R319): the state, whether it may go on, and whether a kiss may go out to
its bucket (only an NTP request draws one, and it is then noted). A new bucket starts at BURST (log entry 24). -/
def State.rateTake (s : State) (sa net addr cost : Nat) (ntp : Bool) : State × Bool × Bool :=
  let key := bucketKey net addr
  let k := s.ctSet key
  let s := s.ctClean k
  let kms := s.fld TS_RL_TIMING_KOD_MS 0
  match s.bucketIn k net key with
  | some a =>
    let e := s.ctGet a
    let r := s.bucketNow e
    let kod := ofBytes ((e.drop 36).take 4)
    let s := r.2
    if (cost * 256 : Nat) ≤ r.1 then (s.ctPut a (s.bucketEntry sa net key (r.1 - (cost * 256 : Nat)) kod), true, false)
    else
      let kiss := ntp && decide (kms ≤ (s.engMs + 2 ^ 32 - kod) % 2 ^ 32)
      (s.ctPut a (s.bucketEntry sa net key r.1 (if kiss then s.engMs else kod)), false, kiss)
  | none =>
    match s.ctPlace k with
    | some a =>
      let far := (s.engMs + 2 ^ 31) % 2 ^ 32
      if (cost * 256 : Nat) ≤ s.burst then
        (s.ctPut a (s.bucketEntry sa net key (s.burst - (cost * 256 : Nat)) far), true, false)
      else (s.ctPut a (s.bucketEntry sa net key s.burst (if ntp then s.engMs else far)), false, ntp)
    | none =>
      let r := s.ovfNow
      let s := r.2.2.setTs { r.2.2.ts with ovfTok := r.1, ovfAt := s.engMs }
      if (cost * 256 : Nat) ≤ r.1 then (s.setTs { s.ts with ovfTok := r.1 - (cost * 256 : Nat) }, true, false)
      else
        let kiss := ntp && (match s.ts.ovfKod with
          | some t => decide (kms ≤ (s.engMs + 2 ^ 32 - t) % 2 ^ 32)
          | none => true)
        (s.setTs { s.ts with ovfKod := if kiss then some s.engMs else s.ts.ovfKod }, false, kiss)

/-! ### Launch times (R293, R294, R306, R307, R149) -/

/-- The spacing of instance `n`'s start grid (R293), 2^-48 ns. -/
def State.gridU (s : State) (n : Nat) : Nat :=
  (if s.octPs n = 800 then 3200 else if s.octPs n = 320 then 1280 else 640) * nsU / 1000

/-- Two launches on instance `n` overlap (R294): times T3 and lengths of the frames on the line. -/
def State.overlap (s : State) (n t1 l1 t2 l2 : Nat) : Bool :=
  decide (t1 < t2 + s.octU n (8 + l2 + 12)) && decide (t2 < t1 + s.octU n (8 + l1 + 12))

/-- The launches reserved on an instance: held by the gate, sealed or being sealed. -/
def State.reserved (s : State) (n : Nat) : List Resp :=
  (s.mac n).gate ++ s.ts.sealing.filter (fun r => r.inst == n)

/-- The first grid instant from `c` on that overlaps no reserved launch (R306). The grid's phase is physical: the distance
to the next grid instant is a free value below the spacing. -/
def State.pickT3 (s : State) (n len : Nat) : Nat → Nat → Nat × State
  | 0, c => (c, s)
  | k + 1, c =>
    let t := c + s.free.1 % s.gridU n
    let s' := s.free.2
    match (s.reserved n).find? (fun r => s.overlap n t len r.t3 (lineLen r.bytes)) with
    | some r => s'.pickT3 n len k (r.t3 + s.octU n (8 + lineLen r.bytes + 12))
    | none => (t, s')

/-- T3 of a response decided on this tick. -/
def State.launchTime (s : State) (n len : Nat) : Nat × State :=
  s.pickT3 n len 70 (s.now + s.fld TS_LATENCY_NS 0 * nsU)

/-- B(t) at the end of the 1 us interval that contains a future instant (R149). -/
def State.boundAhead (s : State) (t : Nat) : Nat :=
  if s.flag BG_CTL_VALID 0 then
    boundAt (s.coef 0) (s.coef 1) (s.coef 2) (min ((s.ti.dt + (t - s.now)) / usU + 1) (2 ^ 48 - 1)) (widenPs s.ti.widenAcc)
  else 0xFFFFFFFF

/-- The bound sealed with T3 (R307). -/
def State.launchBound (s : State) (t : Nat) : Nat := addBound (s.boundAhead t) 300

/-- Whether R149 condemns a launch. -/
def State.condemned (s : State) (r : Resp) : Bool := decide (r.b3 < s.launchBound r.t3)

/-! ### NTP time (R61, R62, R311) -/

/-- Whether the latest leap took effect less than a second ago and instant `t`, of a request still to be answered, lies before
it. -/
def State.justLeapt (s : State) (t : Nat) : Bool := t < s.ti.lastL * secU && s.now < (s.ti.lastL + 1) * secU

/-- TAI less UTC at instant `t`: the offset in effect, and across an armed or a just taken leap the other one. -/
def State.utcAt (s : State) (t : Nat) : Int :=
  let o := signed 16 (s.fld TC_UTC_OFFSET_OFFSET 0)
  if s.flag TC_STATUS_LEAP_ARMED 0 = true ∧ s.ti.leapL * secU ≤ t then o + (if s.ti.leapDel then -1 else 1)
  else if s.justLeapt t then s.ti.lastOff
  else o

/-- NTP time of TAI instant `t` in 2^-48 ns, step leaps (R61): an inserted second repeats the one before. -/
def State.ntpStep (s : State) (t : Nat) : Int :=
  let base : Int := (t : Int) + (2208988800 - s.utcAt t) * secU
  let last := fun (l : Nat) => l * secU ≤ t + secU ∧ t < l * secU
  if s.flag TC_STATUS_LEAP_ARMED 0 = true ∧ s.ti.leapDel = false ∧ last s.ti.leapL then base - secU
  else if s.justLeapt t = true ∧ s.ti.lastDel = false ∧ last s.ti.lastL then base - secU
  else base

/-- NTP time under a smear (R62), of an instant in it also for a second after its end; the smear offset is the floor of the exact
fraction, since the spec names no rounding (log entry 107). -/
def State.ntpSmear (s : State) (t : Nat) : Int :=
  let d : Int := if s.ti.leapDel then -1 else 1
  let armed := s.flag TC_STATUS_LEAP_ARMED 0
  let o := signed 16 (s.fld TC_UTC_OFFSET_OFFSET 0)
  let old : Int := (t : Int) + (2208988800 - (if armed then o else s.ti.lastOff)) * secU
  if !armed && !s.flag TC_STATUS_SMEAR_ACTIVE 0 && decide (s.ti.smearTo ≤ t ∨ s.ti.smearTo + secU ≤ s.now) then
    (t : Int) + (2208988800 - o) * secU
  else if t < s.ti.smearFrom then old
  else if t < s.ti.smearTo then
    old - d * ((secU * (t - s.ti.smearFrom) / (s.ti.smearTo - s.ti.smearFrom) : Nat) : Int)
  else if armed then old - d * secU
  else (t : Int) + (2208988800 - o) * secU

/-- NTP time served at service address `k`. -/
def State.ntpTime (s : State) (k t : Nat) : Int :=
  if s.flag TS_SA_CTL_LEAP_SMEAR k then s.ntpSmear t else s.ntpStep t

/-- An NTP timestamp: seconds modulo 2^32, the fraction truncated to 2^-32 s. -/
def ntpStamp (v : Int) : List Nat :=
  let t := (v % ((2 ^ 32 * secU : Nat) : Int)).toNat
  toBytesBE 4 (t / secU) ++ toBytesBE 4 (t % secU * 2 ^ 32 / secU)

/-! ### NTP and NTS packets (R310 to R316) -/

/-- The extension fields of an NTP packet: type and whole field; the second part says whether they fill it exactly. -/
def ntpExts : Nat → List Nat → List (Nat × List Nat) × Bool
  | 0, _ => ([], false)
  | k + 1, b =>
    if b = [] then ([], true)
    else
      let len := beAt b 2 2
      if b.length < 4 ∨ len < 4 ∨ len % 4 ≠ 0 ∨ b.length < len then ([], false)
      else
        let r := ntpExts k (b.drop len)
        ((beAt b 0 2, b.take len) :: r.1, r.2)

def exts (b : List Nat) : List (Nat × List Nat) := (ntpExts 64 (b.drop 48)).1
def extOf (b : List Nat) (t : Nat) : Option (List Nat) := ((exts b).find? (fun x => x.1 == t)).map (·.2)

/-- Whether a request is an NTS request on service address `k` (R310). -/
def State.isNts (s : State) (k : Nat) (b : List Nat) : Bool := (extOf b 0x0204).isSome && s.flag TS_SA_CTL_NTS k

/-- Whether an NTS request has the fields R313 asks for. -/
def ntsOk (b : List Nat) : Bool :=
  let x := ntpExts 64 (b.drop 48)
  let n := fun t => (x.1.filter (fun e => e.1 == t)).length
  let auth := (x.1.getLast?.map (·.2)).getD []
  x.2 && n 0x0104 == 1 && decide (36 ≤ ((extOf b 0x0104).getD []).length) && n 0x0204 == 1 &&
    ((extOf b 0x0204).getD []).length == 104 && decide (n 0x0304 ≤ 7) &&
    x.1.all (fun e => e.1 != 0x0304 || e.2.length == 104) &&
    (x.1.getLast?.map (·.1)) == some 0x0404 && n 0x0404 == 1 && beAt auth 4 2 == 16 && decide (16 ≤ beAt auth 6 2) &&
    decide (8 + 16 + beAt auth 6 2 ≤ auth.length)

/-- Whether new cookies take the PREV generation: CUR is not live and PREV is (R249; log entry 116). -/
def State.cookiePrev (s : State) : Bool := !s.genLive 1 false && s.genLive 1 true

/-- An NTS cookie of two client keys under the CUR generation (R314). -/
def State.cookieSeal (s : State) (keys : List Nat) : List Nat × State :=
  let ad := toBytesBE 4 (s.genOf 1 s.cookiePrev)
  let nonce := toBytes 16 s.free.1
  (ad ++ nonce ++ (padTo 80 (sivSeal (s.kslot (4 + b2n s.cookiePrev)).key (ad ++ nonce) keys)).take 80, s.free.2)

/-- `k` cookies of two client keys. -/
def State.cookies (s : State) (keys : List Nat) : Nat → List (List Nat) × State
  | 0 => ([], s)
  | k + 1 =>
    let c := s.cookieSeal keys
    let r := c.2.cookies keys k
    (c.1 :: r.1, r.2)

/-- The client keys of a cookie: none when its generation is not live or its tag fails (R313, R314). -/
def State.cookieOpen (s : State) (c : List Nat) : Option (List Nat) :=
  match s.genSlot 1 (beAt c 0 4) with
  | some k => sivOpen (s.kslot k).key (c.take 20) ((c.drop 20).take 80)
  | none => none

/-- Whether the request's Authenticator verifies under the client-to-server key (R313). -/
def ntsAuthOk (b keys : List Nat) : Bool :=
  match (exts b).getLast? with
  | some (_, a) =>
    let pre := b.take (b.length - a.length)
    (sivOpen (keys.take 32) (pre ++ (a.drop 8).take 16) ((a.drop 24).take (beAt a 6 2))).isSome
  | none => false

/-- LI of a response at service address `k` (R61, R62, R311). -/
def State.ntpLi (s : State) (k t3 : Nat) : Nat :=
  let e := s.fld RS_STATE_ENGINE_STATE 0
  if e = 0 ∨ e = 4 then 3
  else if s.flag TS_SA_CTL_LEAP_SMEAR k then 0
  else if s.flag TC_STATUS_LEAP_ARMED 0 = true ∧ t3 < s.ti.leapL * secU then (if s.ti.leapDel then 2 else 1)
  else 0

/-- The reference timestamp (R311). -/
def State.ntpRefTime (s : State) (k : Nat) : List Nat :=
  if s.fld RS_STATE_ENGINE_STATE 0 = 0 then List.replicate 8 0
  else if s.flag RS_STATE_SEL_VALID 0 then
    ntpStamp (s.ntpTime k ((smGet RefSt.init s.refs (s.fld RS_STATE_SELECTED 0)).at_.getD 0))
  else ntpStamp (s.ntpTime k (ofTime128 (s.fld HO_LOSS_TIME_TIME 0)))

/-- The poll value served: the request's, clamped (R311). -/
def State.ntpPoll (s : State) (v : Nat) : Nat :=
  wrapTo 8 (max (signed 8 (s.fld TS_NTP_CFG_MINPOLL 0)) (min (signed 8 (s.fld TS_NTP_CFG_MAXPOLL 0)) (signed 8 v)))

/-- The bound b of a response (R311): the larger of those of T2 and T3 plus 233 ps. -/
def ntpBound (b2 b3 : Nat) : Nat := addBound (max b2 b3) 233

/-- The header of a response that carries time (R311). -/
def State.ntpHead (s : State) (q : SvcReq) (t3 b : Nat) : List Nat :=
  let k := q.unit_
  let e := s.fld RS_STATE_ENGINE_STATE 0
  let stratum := if e = 0 ∨ e = 4 then 16 else s.fld RS_STATE_TIER 0
  let disp := if b = 0xFFFFFFFF then 0xFFFFFFFF else ceilDiv (b * 65536) (10 ^ 12)
  [s.ntpLi k t3 * 64 + q.body.getD 0 0 / 8 % 8 * 8 + 4, stratum, s.ntpPoll (q.body.getD 2 0), 0xE2] ++ toBytesBE 4 0 ++
    toBytesBE 4 disp ++ toBytesBE 4 (s.fld TS_NTP_REFID_REFID 0) ++ s.ntpRefTime k ++ (q.body.drop 40).take 8 ++
    ntpStamp (s.ntpTime k q.stamp) ++ ntpStamp (s.ntpTime k t3)

/-- The engine's extension field (R312), when it is asked for. -/
def State.ntpField (s : State) (q : SvcReq) (t3 b : Nat) (again : Bool) : List Nat :=
  let x := s.fld TS_NTP_CFG_EXT_TYPE 0
  if x ≠ 0 ∧ (extOf q.body x).any (fun f => f.length == 16) = true then
    let off := (s.ntpTime q.unit_ t3 - s.ntpStep t3) / (nsU : Int)
    toBytesBE 2 x ++ toBytesBE 2 16 ++ toBytesBE 4 b ++ [s.fld RS_STATE_ENGINE_STATE 0, s.fld RS_STATE_TIER 0,
      s.fld TC_STATUS_DISTURBED 0 + 2 * s.fld TC_STATUS_SMEAR_ACTIVE 0 + 4 * s.fld TC_STATUS_LEAP_ARMED 0 + 8 * b2n again, 0] ++
      toBytesBE 4 (wrapTo 32 off)
  else []

/-- The payload of an NTP or NTS response (R311, R312, R315); an NTS response draws a fresh nonce. -/
def State.ntpBody (s : State) (r : Resp) (t3 b3 : Nat) : List Nat × State :=
  let b := ntpBound r.rq.bound b3
  let pre := s.ntpHead r.rq t3 b
  let ext := s.ntpField r.rq t3 b (r.tries != 0)
  if r.kind = 0 then (pre ++ ext, s)
  else
    let pre := pre ++ (extOf r.rq.body 0x0104).getD [] ++ ext
    let nonce := toBytes 16 s.free.1
    let plain := r.cookies.flatMap (fun c => toBytesBE 2 0x0204 ++ toBytesBE 2 104 ++ c)
    let ct := (padTo (16 + plain.length) (sivSeal ((r.keys.drop 32).take 32) (pre ++ nonce) plain)).take
      (16 + plain.length)
    (pre ++ toBytesBE 2 0x0404 ++ toBytesBE 2 (24 + ct.length) ++ toBytesBE 2 16 ++ toBytesBE 2 ct.length ++ nonce ++ ct, s.free.2)

/-- How many cookies an NTS response can carry (R315): none fits when the answer is 0. -/
def State.cookieFit (s : State) (q : SvcReq) (want : Nat) : Nat :=
  let base := 48 + ((extOf q.body 0x0104).getD []).length + (s.ntpField q 0 0 false).length + 40
  let ovh := (s.datagram q.inst q.peer []).length + 4
  (List.range want).foldl (fun a i =>
    if base + 104 * (i + 1) ≤ q.body.length ∧ ovh + base + 104 * (i + 1) ≤ s.fld MC_MAX_FRAME_OCTETS q.inst then i + 1 else a) 0

/-- A kiss-o'-death or an NTS NAK: LI 3, stratum 0, the code, the request's transmit timestamp, the Unique Identifier of an
NTS request. The fields the spec does not state are free. -/
def State.ntpKiss (s : State) (q : SvcReq) (code : String) (nts : Bool) : List Nat × State :=
  ([0xC0 + q.body.getD 0 0 / 8 % 8 * 8 + 4, 0] ++ toBytes 10 s.free.1 ++ ascii code ++ toBytes 8 s.free.2.free.1 ++
    (q.body.drop 40).take 8 ++ toBytes 16 s.free.2.free.2.free.1 ++
    (if nts then (extOf q.body 0x0104).getD [] else []), s.free.2.free.2.free.2)

/-- An answer sent as an ordinary preemptable frame (R307). -/
def State.answer (s : State) (q : SvcReq) (body : List Nat) : State := s.macSend q.inst (s.datagram q.inst q.peer body)

/-! ### Sealing and re-sealing (R306 to R309) -/

/-- The frame of a launch at T3, and its length's worth of free values; PTP messages are built by `ptp`. -/
def State.launchFrame (s : State) (ptp : State → Resp → Nat → Nat → List Nat) (r : Resp) (t3 b3 : Nat) : List Nat × State :=
  if r.kind ≤ 1 then
    let p := s.ntpBody r t3 b3
    (s.datagram r.inst r.rq.peer p.1, p.2)
  else (s.datagram r.inst r.rq.peer (ptp s r t3 b3), s)

/-- A decision instant (R306): T3 and its bound fixed, the response formed under them and given to a crypto pipeline; dropped
while the core runs from SAFE_OSC (R23, R309), and when the instance's 64 reservations are taken. -/
def State.decide_ (s : State) (ptp : State → Resp → Nat → Nat → List Nat) (r : Resp) : State :=
  if s.safe then s.tsCnt 9 1
  else if 64 ≤ (s.reserved r.inst).length then (s.tsCnt 13 1).set1 TS_STATUS_GATE_FULL 0
  else
    let f0 := s.launchFrame ptp r s.now 0
    let t := f0.2.launchTime r.inst (lineLen f0.1)
    let b3 := t.2.launchBound t.1
    let f := t.2.launchFrame ptp r t.1 b3
    let r' : Resp := { r with t3 := t.1, b3 := b3, sealed := false, cleared := false, bytes := f.1 }
    f.2.setTs { f.2.ts with sealing := f.2.ts.sealing ++ [r'] }

/-- A missed launch (R308): re-sealed with a new T3, or dropped at the third miss. -/
def State.missed (s : State) (ptp : State → Resp → Nat → Nat → List Nat) (r : Resp) : State :=
  let s := s.engEv 78
  if 2 ≤ r.tries then (s.tsCnt 11 1).engEv 79
  else (s.tsCnt 10 1).decide_ ptp { r with tries := r.tries + 1 }

/-- A launch that R149 condemns is a missed one; BOUND_RESEAL counts it when it is re-sealed (R308). -/
def State.missedBound (s : State) (ptp : State → Resp → Nat → Nat → List Nat) (r : Resp) : State :=
  (s.when (decide (r.tries < 2)) (fun t => t.tsCnt 12 1)).missed ptp r

/-- Every launch held or being sealed is dropped without re-seal (R309). -/
def State.safeDrop (s : State) : State :=
  let k := s.ts.sealing.length + ((List.range 16).map (fun n => (s.mac n).gate.length)).sum
  let s := (s.setTs { s.ts with sealing := [] }).tsCnt 9 k
  (List.range 16).foldl (fun t n => t.setMac n { t.mac n with gate := [] }) s

/-- On a change to RECOVERY every held launch is dropped (R309). -/
def State.gateDrop (s : State) : State :=
  (List.range 16).foldl (fun t n => t.setMac n { t.mac n with gate := [] }) s

end Sys2Proof.Machine
end

