-- ==== Sys2Proof/Machine/TwinLink.lean ====
section
/-! DEFINITION. The data cells of the twin lanes (R363 to R366): messages queued, cut into cells, put together again. -/

namespace Sys2Proof.Machine

/-- The twin block's state replaced. -/
def State.setTw (s : State) (t : TwSt) : State := { s with tw := t }

/-- Counter k of TW_CNT. -/
def State.twCnt (s : State) (k v : Nat) : State := s.rcAdd TW_CNT_COUNT k v

/-- The role (R355): 0 NONE, 1 INIT, 2 STANDBY, 3 ACTIVE, 4 DEMOTING. -/
def State.role (s : State) : Nat := s.fld TW_STATUS_ROLE 0

/-- Whether the mirror is established as this end sees it (R359): an active engine needs its lease as well. -/
def State.mirrorUp (s : State) : Bool := s.flag TW_STATUS_MIRROR 0 && (s.role != 3 || s.flag TW_STATUS_LEASE 0)

/-- Whether the twin block uses lane `n` (R358, R366): UP, and no more than 50 us away. -/
def State.twLane (s : State) (n : Nat) : Bool :=
  n < 2 && s.flag SL_ITL_STATUS_UP n && decide (signed 64 (s.fld SL_ITL_DELAY_DELAY n) ≤ 50000 * 65536)

/-- Whether some twin lane is UP. -/
def State.twUp (s : State) : Bool := s.flag SL_ITL_STATUS_UP 0 || s.flag SL_ITL_STATUS_UP 1

/-- Whether a MIRROR message answers a FETCH, or belongs to the history of a join (R364). -/
def TwMsg.fetched (m : TwMsg) : Bool := m.typ == 1 && bitOf (m.hdr.getD 8 0) 0
def TwMsg.history (m : TwMsg) : Bool := m.typ == 1 && bitOf (m.hdr.getD 8 0) 1

/-- The order of precedence (R363); HISTORY uses the cells left over (R370). -/
def TwMsg.rank (m : TwMsg) : Nat :=
  if m.typ = 2 then 1
  else if m.typ = 4 ∨ (9 ≤ m.typ ∧ m.typ ≤ 13) then 2
  else if m.typ = 1 then (if m.history then 6 else 3)
  else if m.typ = 3 then 3
  else if m.typ = 5 ∨ m.typ = 6 then 4
  else 5

/-- Messages repeated every 10 us until confirmed (R365): live MIRROR, RECORD, JOIN, SUBLAST. -/
def TwMsg.confirmable (m : TwMsg) : Bool :=
  (m.typ == 1 && !m.fetched && !m.history) || m.typ == 3 || m.typ == 5 || m.typ == 6

/-- Messages repeated every 100 us for at most 10 ms (R365). -/
def TwMsg.answerable (m : TwMsg) : Bool := m.typ == 4 || (10 ≤ m.typ && m.typ ≤ 13)

/-- A message queued. -/
def State.twSend (s : State) (typ : Nat) (hdr body : List Nat) : State :=
  s.setTw { s.tw with out := s.tw.out ++ [{ typ := typ, hdr := padTo 12 hdr, body := body, at_ := none, first := 0 }] }

/-- Messages of a kind dropped from the queue: answered, confirmed or superseded. -/
def State.twDrop (s : State) (p : TwMsg → Bool) : State := s.setTw { s.tw with out := s.tw.out.filter (fun m => !p m) }

/-- The waiting message of the least rank, the oldest first. -/
def twPick : List TwMsg → Option TwMsg
  | [] => none
  | m :: ms =>
    match twPick ms with
    | none => if m.at_ = none then some m else none
    | some k => if m.at_ = none ∧ m.rank ≤ k.rank then some m else some k

/-- The first message equal to `m` sent at time `t`: it stays to be confirmed, or it goes. -/
def twMark (m : TwMsg) (t : Nat) : List TwMsg → List TwMsg
  | [] => []
  | x :: xs =>
    if x = m then
      (if m.confirmable || m.answerable then { m with at_ := some t, first := if m.first = 0 then t else m.first } :: xs else xs)
    else x :: twMark m t xs

/-- The sequencer whose program cell waits (R366). -/
def State.progNext (s : State) : Option Nat := (List.range 8).find? (fun n => (s.seq n).cellQueued.isSome)

/-- The counters of a message that is sent (TW_CNT). -/
def State.twCount (s : State) (m : TwMsg) : State :=
  if m.typ = 1 then s.twCnt (if m.first = 0 then 2 else 3) 1
  else if m.typ = 4 then s.twCnt 12 1
  else s

/-- The header bytes of a message as it leaves: a MIRROR carries the sender's RC_JRN_ARCHIVED of that moment (R364). -/
def State.hdrNow (s : State) (m : TwMsg) : List Nat :=
  if m.typ = 1 then m.hdr.take 4 ++ toBytesBE 4 (s.fld RC_JRN_ARCHIVED_INDEX 0) ++ m.hdr.drop 8 else m.hdr

/-- The 16-byte header cell of a message. -/
def twHead (typ n : Nat) (hdr : List Nat) : List Nat := [typ, n, 0, 0] ++ padTo 12 hdr

/-- The rest of the message that a lane is sending. -/
def State.twRest (s : State) (n : Nat) : List Nat := smGet [] s.tw.outPart n
def State.setRest (s : State) (n : Nat) (b : List Nat) : State := s.setTw { s.tw with outPart := smSet [] s.tw.outPart n b }

/-- One data cell for lane `n` (R363): the rest of its message, else the next message, a program cell, or EMPTY. -/
def State.twCell (s : State) (n : Nat) : List Nat × State :=
  if s.twRest n ≠ [] then ((s.twRest n).take 16, s.setRest n ((s.twRest n).drop 16))
  else
    let prog := fun (_ : Unit) =>
      match s.progNext with
      | some k =>
        let w := (s.seq k).cellQueued.getD 0
        some (twHead 9 0 ([k, 0, 0, 0] ++ toBytesBE 4 (w % 2 ^ 32) ++ toBytesBE 4 (w / 2 ^ 32)),
          (s.setSeq k { s.seq k with cellQueued := none }).twCnt 15 1)
      | none => none
    match twPick s.tw.out with
    | some m =>
      match (if m.rank ≤ 2 then none else prog ()) with
      | some r => r
      | none =>
        let t := s.twCount m
        (twHead m.typ (m.body.length / 16) (s.hdrNow m),
          (t.setTw { t.tw with out := twMark m (max 1 s.ti.elapsed) t.tw.out }).setRest n m.body)
    | none => (prog ()).getD (List.replicate 16 0, s)

/-- `k` data cells of one superword of lane `n`: EMPTY cells when EN is 0 or the lane is not used. -/
def State.twCells (s : State) (n : Nat) : Nat → List Nat × State
  | 0 => ([], s)
  | k + 1 =>
    if s.flag TW_CTL_EN 0 && s.twLane n then
      let r := s.twCell n
      let t := r.2.twCells n k
      (r.1 ++ t.1, t.2)
    else (List.replicate (16 * (k + 1)) 0, s)

/-- What lane `n` is putting together: body cells missing, bytes so far. -/
def State.twIn (s : State) (n : Nat) : Nat × List Nat := smGet (0, []) s.tw.inPart n
def State.setIn (s : State) (n : Nat) (v : Nat × List Nat) : State := s.setTw { s.tw with inPart := smSet (0, []) s.tw.inPart n v }

/-- The body cells of each message type (R364). -/
def twBody : Nat → Nat
  | 1 => 4 | 3 => 16 | 5 => 3 | 7 => 4 | 12 => 4 | _ => 0

/-- A complete message: kept for its command when its TYPE and length are those of R364; else discarded whole (R363). -/
def State.twDeliver (s : State) (b : List Nat) : State :=
  let typ := b.getD 0 0
  if 1 ≤ typ ∧ typ ≤ 13 ∧ b.length = 16 + 16 * twBody typ then
    s.setTw { s.tw with inbox := s.tw.inbox ++ [(typ, (b.drop 4).take 12, b.drop 16)] }
  else s

/-- One received data cell of lane `n`. A message in pieces that are being discarded holds no bytes. -/
def State.twRx (s : State) (n : Nat) (c : List Nat) : State :=
  let p := s.twIn n
  if p.1 = 0 then
    if c.getD 0 0 = 0 then s
    else if c.getD 1 0 = 0 then s.twDeliver c
    else s.setIn n (c.getD 1 0, c)
  else
    let b := if p.2 = [] then [] else p.2 ++ c
    if p.1 = 1 then (s.setIn n (0, [])).twDeliver b else s.setIn n (p.1 - 1, b)

/-- The seven data cells of a superword received on lane `n` (R363). -/
def State.twTake (s : State) (n : Nat) (b : List Nat) : State :=
  if s.flag TW_CTL_EN 0 && s.twLane n then
    (List.range 7).foldl (fun t k => t.twRx n ((b.drop (16 * k)).take 16)) s
  else s

/-- A superword of lane `n` is lost to R268: the message it belongs to is discarded whole (R363). -/
def State.twLose (s : State) (n : Nat) : State := s.setIn n ((s.twIn n).1 - 7, [])

/-- The oldest received message, when it is of a type. -/
def State.twNext (s : State) (typ : Nat) : Option (List Nat × List Nat × State) :=
  match s.tw.inbox with
  | m :: ms => if m.1 = typ then some (m.2.1, m.2.2, s.setTw { s.tw with inbox := ms }) else none
  | [] => none

end Sys2Proof.Machine
end

