-- ==== Sys2Proof/Machine/Ptp.lean ====
section
/-! DEFINITION. PTP (R322 to R331): messages, authentication, unicast grants, the time receiver instances. Message layouts are
those of IEEE 1588-2019, which R322 names (PRESUMED, log entry 23). -/

namespace Sys2Proof.Machine

/-- PTP port `m` and PKT instance `n` beyond their registers. -/
def State.ptp (s : State) (m : Nat) : PtpSt := smGet PtpSt.init s.ts.ptp m
def State.setPtp (s : State) (m : Nat) (p : PtpSt) : State := s.setTs { s.ts with ptp := smSet PtpSt.init s.ts.ptp m p }
def State.pkt (s : State) (n : Nat) : PktSt := smGet PktSt.init s.ts.pkt n
def State.setPkt (s : State) (n : Nat) (p : PktSt) : State := s.setTs { s.ts with pkt := smSet PktSt.init s.ts.pkt n p }

/-- 2^log seconds in 2^-48 ns. -/
def logU (v : Int) : Nat := if v < 0 then secU / 2 ^ v.natAbs else secU * 2 ^ v.natAbs

/-! ### Messages -/

/-- A TIME80 value: seconds and nanoseconds of an engine time, truncated (R16). -/
def time80 (t : Nat) : List Nat := toBytesBE 6 (secOf t) ++ toBytesBE 4 (nsOf t)

/-- The truncated fraction of an engine time in 2^-16 ns. -/
def frac16 (t : Nat) : Nat := t % nsU / 2 ^ 32

/-- The fields of a PTP message that fix its octets. -/
structure PtpMsg where
  typ  : Nat
  dom  : Nat
  uni  : Bool
  flag : Nat
  cf   : Int
  src  : List Nat
  seq  : Nat
  log  : Nat
  body : List Nat
  tlv  : List Nat

/-- The header of a message of a length, with a correction field. -/
def PtpMsg.head (m : PtpMsg) (len : Nat) (cf : Int) : List Nat :=
  [m.typ, 0x12] ++ toBytesBE 2 len ++ [m.dom, 0, if m.uni then 4 else 0, m.flag] ++ toBytesBE 8 (wrapTo 64 cf) ++
    [0, 0, 0, 0] ++ m.src ++ toBytesBE 2 m.seq ++
    [if m.typ = 0 then 0 else if m.typ = 1 then 1 else if m.typ = 9 then 3 else 5, m.log]

/-- A key's ICV (R322): HMAC-SHA256 truncated to 128 bits. -/
def icv (key msg : List Nat) : List Nat := (toBytesBE 32 (hmac256 key msg)).take 16

/-- The ICV under the key of slot `k`; the spec states none for a message to be sent whose slot is not VALID (R248; log entry
117). -/
def State.icvBy (s : State) (k : Nat) (msg : List Nat) : List Nat :=
  if s.slotValid k then icv (s.kslot k).key msg else toBytes 16 (Config.deadIcv k msg)

/-- The octets of a message, with the AUTHENTICATION TLV of SA index `sa` when there is one (R326). -/
def State.ptpBytes (s : State) (m : PtpMsg) (sa : Option Nat) : List Nat :=
  match sa with
  | none => m.head (34 + m.body.length + m.tlv.length) m.cf ++ m.body ++ m.tlv
  | some k =>
    let len := 34 + m.body.length + m.tlv.length + 26
    let t := m.body ++ m.tlv ++ [0x80, 0x09, 0, 22, s.fld TS_PTP_SA_SPP k, 0] ++ toBytesBE 4 (s.fld TS_PTP_SA_KEY_ID k)
    m.head len m.cf ++ t ++ s.icvBy (s.fld TS_PTP_SA_SLOT k) (m.head len 0 ++ t)

/-- The AUTHENTICATION TLV of a received message: 0 absent, 1 verified, 2 not (R326). -/
def State.ptpAuth (s : State) (b : List Nat) : Nat :=
  let m := b.take (beAt b 2 2)
  match (ptpTlvs m).getLast? with
  | some (0x8009, t) =>
    let ok := (List.range 16).any (fun k =>
      s.flag TS_PTP_SA_VALID k && s.fld TS_PTP_SA_SPP k == t.getD 0 0 && s.fld TS_PTP_SA_KEY_ID k == beAt t 2 4 &&
        (let slot := s.fld TS_PTP_SA_SLOT k
         s.slotValid slot && s.fld KS_SLOT_STATUS_TYPE slot == 1 && bitOf (s.kslot slot).usage 0 &&
          icv (s.kslot slot).key (m.take 8 ++ List.replicate 8 0 ++ ((m.drop 16).take (m.length - 32))) == m.drop (m.length - 16)))
    if ok && t.length == 22 then 1 else 2
  | _ => if (ptpTlvs m).any (fun x => x.1 == 0x8009) then 2 else 0

/-- Whether a message counts (R326); one that does not is counted in PTP_AUTH_FAIL. -/
def State.ptpAccept (s : State) (need : Bool) (b : List Nat) : State × Bool :=
  if s.ptpAuth b = 1 ∨ (s.ptpAuth b = 0 ∧ need = false) then (s, true) else (s.tsCnt 22 1, false)

/-- The port identity of PTP port `m`. -/
def State.ptpId (s : State) (m : Nat) : List Nat :=
  toBytesBE 8 (s.fld TS_PTP_ID_IDENTITY m) ++ toBytesBE 2 (s.fld TS_PTP_VAR_PORT_NUM m)

/-- The engine's bound TLV (R325). -/
def State.boundTlv (s : State) (b : Nat) : List Nat :=
  if s.fld TS_ORG_ID_OUI 0 = 0 then []
  else [0, 3, 0, 14] ++ toBytesBE 3 (s.fld TS_ORG_ID_OUI 0) ++ [0, 0, 1] ++ toBytesBE 4 b ++
    [s.fld RS_STATE_ENGINE_STATE 0, s.fld RS_STATE_TIER 0, s.fld TC_STATUS_DISTURBED 0, 0]

/-- The bound that a message's TLV carries (R325, R119). -/
def State.tlvBound (s : State) (b : List Nat) : Option Nat :=
  ((ptpTlvs b).find? (fun x => x.1 == 3 && x.2.length == 14 && s.fld TS_ORG_ID_OUI 0 != 0 &&
    beAt x.2 0 3 == s.fld TS_ORG_ID_OUI 0 && beAt x.2 3 3 == 1)).map (fun x => beAt x.2 6 4)

/-- The SA of messages that port `m` sends. -/
def State.portSa (s : State) (m : Nat) : Option Nat :=
  if s.flag TS_PTP_CTL_TX_AUTH m then some (s.fld TS_PTP_CTL_TX_SA m) else none

/-- The SA of a message of port `m` under a grant: the index that the grant's entry holds (R320). -/
def State.grantSa (s : State) (m k : Nat) : Option Nat := (s.portSa m).map (fun _ => k % 16)

/-- The SA of PKT instance `n`'s own messages: its entry, when VALID (log entry 25). -/
def State.pktSa (s : State) (n : Nat) : Option Nat :=
  if s.flag TS_PTP_SA_VALID (s.fld TS_PKT_CTL_SA n) then some (s.fld TS_PKT_CTL_SA n) else none

/-- The PTP message of a timed launch (R323, R328). -/
def ptpLaunch (s : State) (r : Resp) (t3 b3 : Nat) : List Nat :=
  let m := r.rq.unit_
  match r.kind with
  | 2 =>
    s.ptpBytes { typ := 0, dom := s.fld TS_PTP_CTL_DOMAIN m, uni := r.rq.tag == 1, flag := 0, cf := frac16 t3, src := s.ptpId m,
                 seq := r.seqId, log := if r.rq.tag = 1 then 0x7F else s.fld TS_PTP_LOG_SYNC_LOG m, body := time80 t3,
                 tlv := s.boundTlv b3 } (if r.rq.tag = 1 then s.grantSa m r.rq.seq else s.portSa m)
  | 3 =>
    s.ptpBytes { typ := 3, dom := s.fld TS_PTP_CTL_DOMAIN m, uni := false, flag := 0,
                 cf := signed 64 (beAt r.rq.body 8 8) + ((t3 : Int) - r.rq.stamp) / (2 ^ 32 : Int), src := s.ptpId m,
                 seq := r.seqId, log := 0x7F, body := List.replicate 10 0 ++ (r.rq.body.drop 20).take 10,
                 tlv := s.boundTlv b3 } (s.portSa m)
  | 4 =>
    s.ptpBytes { typ := 1, dom := s.fld TS_PKT_CTL_DOMAIN m, uni := true, flag := 0, cf := 0,
                 src := s.ptpId (s.fld TS_PKT_CTL_MAC m), seq := r.seqId, log := 0x7F, body := time80 t3, tlv := [] } (s.pktSa m)
  | _ =>
    s.ptpBytes { typ := 2, dom := s.fld TS_PKT_CTL_DOMAIN m, uni := true, flag := 0, cf := 0,
                 src := s.ptpId (s.fld TS_PKT_CTL_MAC m), seq := r.seqId, log := 0x7F, body := time80 t3 ++ List.replicate 10 0,
                 tlv := [] } (s.pktSa m)

/-- clockClass by engine state (R329, R331). -/
def State.clockClass (s : State) : Nat :=
  match s.fld RS_STATE_ENGINE_STATE 0 with
  | 1 => s.fld TS_STATE_CFG_CLASS_ACQUIRING 0
  | 2 => s.fld TS_STATE_CFG_CLASS_LOCKED 0
  | 3 => s.fld TS_STATE_CFG_CLASS_HOLDOVER 0
  | _ => 248

/-- Announce's second flag octet (R63, R324). -/
def State.annFlags (s : State) : Nat :=
  let leap := s.flag TC_STATUS_LEAP_ARMED 0 && decide (s.ti.leapL ≤ secOf s.now + 43200)
  let e := s.fld RS_STATE_ENGINE_STATE 0
  b2n (leap && !s.ti.leapDel) + 2 * b2n (leap && s.ti.leapDel) + 4 + 8 + (if e = 2 ∨ e = 3 then 48 else 0)

/-- An Announce of port `m`, or a unicast one with the SA index of its grant (R324); its originTimestamp is not stated: free. -/
def State.announceMsg (s : State) (m seq : Nat) (uni : Option Nat) : List Nat × State :=
  let body := toBytes 10 s.free.1 ++ toBytesBE 2 (s.fld TC_UTC_OFFSET_OFFSET 0) ++ [0, s.fld TS_PTP_DS_PRIORITY1 m, s.clockClass,
    s.fld TS_PTP_DS_ACCURACY m] ++ toBytesBE 2 (s.fld TS_PTP_VAR_VARIANCE m) ++ [s.fld TS_PTP_DS_PRIORITY2 m] ++
    toBytesBE 8 (s.fld TS_PTP_ID_IDENTITY m) ++ toBytesBE 2 (s.fld RS_STATE_TIER 0 - 1) ++ [s.fld TS_PTP_DS_TIME_SOURCE m]
  let s := s.free.2
  (s.ptpBytes { typ := 11, dom := s.fld TS_PTP_CTL_DOMAIN m, uni := uni.isSome, flag := s.annFlags, cf := 0, src := s.ptpId m, seq := seq,
                log := if uni.isSome then 0x7F else s.fld TS_PTP_LOG_ANN_LOG m, body := body,
                tlv := s.boundTlv (addBound (s.fld BG_CURRENT_BOUND 0) 300) }
    (match uni with | some k => s.grantSa m k | none => s.portSa m), s)

/-- The peer of a multicast message of port `m` on UDP port `port` (R302, R323). -/
def State.mcastPeer (s : State) (m port : Nat) (pd : Bool) : Peer :=
  let net := s.fld TS_PTP_CTL_TRANSPORT m % 3
  let k := s.saPtp m net
  { mac := ptpMac net pd, tag := k.bind (fun k => s.saTag k), net := net, addr := ptpGroup net pd, port := port,
    here := (k.map (fun k => s.saAddr k)).getD 0, hport := port }

/-- Whether port `m` may send: for UDP it has a source address. -/
def State.portReady (s : State) (m : Nat) : Bool :=
  s.flag TS_PTP_CTL_EN m && s.serving && (s.fld TS_PTP_CTL_TRANSPORT m % 3 == 2 || (s.saPtp m (s.fld TS_PTP_CTL_TRANSPORT m % 3)).isSome)

/-! ### Grants (R320, R321, R327) -/

/-- The grant entry of a client and port identity. -/
def State.grantFind (s : State) (net addr : Nat) (id : List Nat) : Option Nat :=
  let k := s.ctSet (clientKey net addr ++ id)
  ((List.range 8).map (fun i => s.ctAddr k i)).find? (fun a =>
    let e := s.ctGet a
    e.getD 0 0 == 2 && e.getD 3 0 % 4 == netFlags net && (e.drop 8).take 16 == clientKey net addr &&
      (e.drop 32).take 8 ++ (toBytesBE 2 (ofBytes ((e.drop 40).take 2))) == id)

/-- The expiry of message type `t` (0 Announce, 1 Sync, 2 Delay_Resp) of an entry; whether the grant is live. -/
def grantEnd (e : List Nat) (t : Nat) : Nat := ofBytes ((e.drop (48 + 4 * t)).take 4)
def State.grantLive (s : State) (e : List Nat) (t : Nat) : Bool :=
  e.getD 0 0 == 2 && e.getD (42 + t) 0x7F != 0x7F && decide (0 < (grantEnd e t + 2 ^ 32 - secOf s.now % 2 ^ 32) % 2 ^ 32) &&
    decide ((grantEnd e t + 2 ^ 32 - secOf s.now % 2 ^ 32) % 2 ^ 32 < 2 ^ 31)

/-- A byte string with some bytes replaced from an offset. -/
def splice (b : List Nat) (off : Nat) (x : List Nat) : List Nat := b.take off ++ x ++ b.drop (off + x.length)

/-- The schedule of a grant's unicast sends: type 0 Sync, 1 Announce. -/
def State.dueSet (s : State) (a t : Nat) (at_ : Option Nat) : State :=
  let rest := s.ts.due.filter (fun (x : Nat × Nat) => x.1 != a * 2 + t)
  s.setTs { s.ts with due := match at_ with | some v => rest ++ [(a * 2 + t, v)] | none => rest }

/-- A new grant entry with nothing granted (R320). -/
def State.grantNew (s : State) (q : SvcReq) (id : List Nat) (auth : Bool) : List Nat :=
  let m := q.inst
  let sa := (s.saFind m q.peer.net q.peer.here q.peer.tag).getD 0
  let vlan := match q.peer.tag with | some t => t % 4096 + 0x8000 | none => 0
  [2, if q.peer.net = 2 then 0xFF else sa, m, netFlags q.peer.net + 4 * b2n auth + 8 * s.fld TS_PTP_CTL_DELAY m] ++
    toBytes 4 s.engMs ++ clientKey q.peer.net q.peer.addr ++ toBytesBE 6 q.peer.mac ++ toBytes 2 vlan ++ id.take 8 ++
    toBytes 2 (ofBytesBE (id.drop 8)) ++ [0x7F, 0x7F, 0x7F, s.fld TS_PTP_CTL_TX_SA m, 0, 0] ++ List.replicate 16 0

/-- The smallest interval granted for a type (R327). -/
def State.grantMin (s : State) (m t : Nat) : Int :=
  signed 8 (if t = 0 then s.fld TS_PTP_LOG_MIN_ANN_LOG m else if t = 1 then s.fld TS_PTP_LOG_MIN_SYNC_LOG m
    else s.fld TS_PTP_GRANT_MIN_DRESP_LOG m)

/-- The grant type of a TLV's messageType. -/
def grantType (v : Nat) : Option Nat :=
  if v = 11 then some 0 else if v = 0 then some 1 else if v = 9 then some 2 else none

/-- A changed grant entry goes to the standby (R371); an entry that has left the GRANT kind shows no grant. -/
def State.grantNote (s : State) (e : List Nat) : State :=
  if s.role = 3 ∧ s.flag TW_CTL_EN 0 = true then
    let t := s.twSend 7 (toBytesBE 4 s.tw.epoch ++ toBytesBE 4 s.tw.gather.length) (padTo 64 e)
    t.setTw { t.tw with gather := t.tw.gather ++ [padTo 64 e] }
  else s

/-- One REQUEST_UNICAST_TRANSMISSION TLV: granted or denied, and the TLV that answers it (R327). -/
def State.grantOne (s : State) (q : SvcReq) (auth : Bool) (t : List Nat) : State × List Nat :=
  let m := q.inst
  let id := (q.body.drop 20).take 10
  let log := t.getD 1 0
  let reply := fun (d : Nat) => [0, 5, 0, 8, t.getD 0 0, log] ++ toBytesBE 4 d ++ [0, 0]
  match grantType (t.getD 0 0 / 16) with
  | none => (s.tsCnt 21 1, reply 0)
  | some ty =>
    if s.flag TS_PTP_CTL_UNICAST m = false ∨ signed 8 log < s.grantMin m ty ∨ s.stopped = true then (s.tsCnt 21 1, reply 0)
    else
      let k := s.ctSet (clientKey q.peer.net q.peer.addr ++ id)
      let s := s.ctClean k
      let found := s.grantFind q.peer.net q.peer.addr id
      match (match found with | some a => some a | none => s.ctPlace k) with
      | none => ((s.tsCnt 21 1).set1 TS_STATUS_CT_FULL 0, reply 0)
      | some a =>
        let d := min (beAt t 2 4) (s.fld TS_PTP_GRANT_MAX_DURATION m)
        let s := if found.isSome then s else s.setFld TS_CT_GRANTS_COUNT 0 (s.fld TS_CT_GRANTS_COUNT 0 + 1)
        let e := if found.isSome then s.ctGet a else s.grantNew q id auth
        let e := splice (splice (splice e 4 (toBytes 4 s.engMs)) (42 + ty) [log]) (48 + 4 * ty) (toBytes 4 (secOf s.now + d))
        let s := ((s.ctPut a e).grantNote e).tsCnt 20 1
        let s := if ty = 2 then s else s.dueSet a (1 - ty) (some (s.ti.elapsed + logU (signed 8 log)))
        (s, reply d)

/-- The grant of one type of an entry ends; an entry with none left becomes EMPTY (R327). -/
def State.grantStop (s : State) (a t : Nat) : State :=
  let e := splice (s.ctGet a) (42 + t) [0x7F]
  let s := if t = 2 then s else s.dueSet a (1 - t) none
  if e.getD 42 0 = 0x7F ∧ e.getD 43 0 = 0x7F ∧ e.getD 44 0 = 0x7F then
    ((s.ctPut a []).grantNote e).setFld TS_CT_GRANTS_COUNT 0 (s.fld TS_CT_GRANTS_COUNT 0 - 1)
  else (s.ctPut a e).grantNote e

/-- A Signaling message of port `m` to a port identity, carrying TLVs. -/
def State.signaling (s : State) (m : Nat) (target : List Nat) (seq : Nat) (tlv : List Nat) (sa : Option Nat) (dom : Nat) : List Nat :=
  s.ptpBytes { typ := 12, dom := dom, uni := true, flag := 0, cf := 0, src := s.ptpId m, seq := seq, log := 0x7F, body := target,
               tlv := tlv } sa

/-- The general-message peer of an event message's sender. -/
def Peer.general (p : Peer) : Peer := { p with port := 320, hport := 320 }
def Peer.event (p : Peer) : Peer := { p with port := 319, hport := 319 }

/-- The peer of a grant entry. -/
def State.grantPeer (s : State) (e : List Nat) (port : Nat) : Peer :=
  let net := if bitOf (e.getD 3 0) 1 then 2 else if bitOf (e.getD 3 0) 0 then 1 else 0
  let vl := ofBytes ((e.drop 30).take 2)
  let ad := if net = 0 then beAt e 8 4 else if net = 1 then beAt e 8 16 else beAt e 8 6
  { mac := beAt e 24 6, tag := if bitOf vl 15 then some (vl % 4096) else none, net := net, addr := ad, port := port,
    here := s.saAddr (e.getD 1 0), hport := port }

/-! ### Requests (R323, R327) -/

/-- The oldest waiting request of a tag, for unit `u` when it is given, removed. -/
def State.svcTake (s : State) (tag : Nat) (u : Option Nat) : Option (SvcReq × State) :=
  match s.ts.queue.find? (fun q => q.tag == tag && (u.isNone || u == some q.unit_)) with
  | some q => some (q, s.setTs { s.ts with queue := s.ts.queue.erase q })
  | none => none

/-- A Delay_Req is answered (R323, R329). -/
def State.delayReq (s : State) (q : SvcReq) : State :=
  let m := q.inst
  let r := s.ptpAccept (s.flag TS_PTP_CTL_NEED_AUTH m) q.body
  let s := r.1
  if !r.2 then s
  else if s.stopped then s.tsCnt 8 1
  else
    let id := (q.body.drop 20).take 10
    let live := match s.grantFind q.peer.net q.peer.addr id with
      | some a => s.grantLive (s.ctGet a) 2 && (s.ctGet a).getD 2 0 == m
      | none => false
    if s.flag TS_PTP_CTL_MCAST m = true ∨ live = true then
      let msg := s.ptpBytes {
        typ := 9, dom := s.fld TS_PTP_CTL_DOMAIN m, uni := bitOf (q.body.getD 6 0) 2, flag := 0,
        cf := signed 64 (beAt q.body 8 8) - frac16 q.stamp, src := s.ptpId m, seq := beAt q.body 30 2, log := 0x7F,
        body := time80 q.stamp ++ id, tlv := s.boundTlv q.bound } (s.portSa m)
      (s.macSend m (s.datagram m q.peer.general msg)).tsCnt 17 1
    else s

/-- A Pdelay_Req is answered by a timed Pdelay_Resp (R323, R307). -/
def State.pdelayReq (s : State) (q : SvcReq) : State :=
  let m := q.inst
  let r := s.ptpAccept (s.flag TS_PTP_CTL_NEED_AUTH m) q.body
  let s := r.1
  if !r.2 ∨ s.flag TS_PTP_CTL_DELAY m = false then s
  else if s.stopped then s.tsCnt 8 1
  else
    s.decide_ ptpLaunch {
      kind := 3, inst := m, rq := { q with peer := q.peer.event }, seqId := beAt q.body 30 2, keys := [],
      cookies := [], tries := 0, t3 := 0, b3 := 0, sealed := false, cleared := false, bytes := [] }

/-- The TLVs of a grant request answered one by one. -/
def State.grantAll (s : State) (q : SvcReq) (auth : Bool) : List (Nat × List Nat) → State × List Nat
  | [] => (s, [])
  | x :: xs =>
    if x.1 = 4 then
      let r := s.grantOne q auth x.2
      let t := r.1.grantAll q auth xs
      (t.1, r.2 ++ t.2)
    else s.grantAll q auth xs

/-- A Signaling message that asks for grants (R327). -/
def State.grantRequest (s : State) (q : SvcReq) : State :=
  let m := q.inst
  let r := s.ptpAccept (s.flag TS_PTP_CTL_NEED_AUTH m) q.body
  if !r.2 then r.1
  else
    let g := r.1.grantAll q (r.1.ptpAuth q.body == 1) (ptpTlvs q.body)
    g.1.macSend m (g.1.datagram m q.peer.general (g.1.signaling m ((q.body.drop 20).take 10) (beAt q.body 30 2) g.2 (g.1.portSa m)
      (g.1.fld TS_PTP_CTL_DOMAIN m)))

/-- A Signaling message that cancels grants (R327). -/
def State.grantCancel (s : State) (q : SvcReq) : State :=
  let m := q.inst
  let r := s.ptpAccept (s.flag TS_PTP_CTL_NEED_AUTH m) q.body
  if !r.2 then r.1
  else
    let id := (q.body.drop 20).take 10
    let xs := (ptpTlvs q.body).filter (fun x => x.1 == 6)
    let s := xs.foldl (fun (t : State) x =>
      match grantType (x.2.getD 0 0 / 16), t.grantFind q.peer.net q.peer.addr id with
      | some ty, some a => t.grantStop a ty
      | _, _ => t) r.1
    s.macSend m (s.datagram m q.peer.general (s.signaling m id (beAt q.body 30 2)
      (xs.flatMap (fun x => [0, 7, 0, 2, x.2.getD 0 0, 0])) (s.portSa m) (s.fld TS_PTP_CTL_DOMAIN m)))

/-- Whether a port's multicast interval has passed. -/
def State.mcastDue (s : State) (last : Option Nat) (log : Nat) : Bool :=
  match last with
  | some t => t + logU (signed 8 log) ≤ s.ti.elapsed
  | none => true

/-- A Sync of port `m` given to sealing; a unicast one with the SA index of its grant (R320, R323). -/
def State.syncSend (s : State) (m seq : Nat) (p : Peer) (uni : Option Nat) : State :=
  s.decide_ ptpLaunch {
    kind := 2, inst := m,
    rq := { tag := b2n uni.isSome, unit_ := m, inst := m, peer := p, body := [], stamp := 0, bound := 0, seq := uni.getD 0 },
    seqId := seq, keys := [], cookies := [], tries := 0, t3 := 0, b3 := 0, sealed := false, cleared := false, bytes := [] }

/-- A multicast Sync interval expires. -/
def State.syncMcast (s : State) (m : Nat) : State :=
  let p := s.ptp m
  if s.portReady m = true ∧ s.flag TS_PTP_CTL_MCAST m = true ∧ s.stopped = false ∧ s.mcastDue p.syncAt (s.fld TS_PTP_LOG_SYNC_LOG m) = true then
    (s.setPtp m { p with syncSeq := (p.syncSeq + 1) % 65536, syncAt := some s.ti.elapsed }).syncSend m p.syncSeq
      (s.mcastPeer m 319 false) none
  else s

/-- An Announce leaves as an ordinary frame. -/
def State.annSend (s : State) (m seq : Nat) (p : Peer) (uni : Option Nat) : State :=
  let a := s.announceMsg m seq uni
  (a.2.macSend m (a.2.datagram m p a.1)).tsCnt 19 1

/-- A multicast Announce of port `m`, with its next sequenceId. -/
def State.annMcast (s : State) (m : Nat) : State :=
  let p := s.ptp m
  (s.setPtp m { p with annSeq := (p.annSeq + 1) % 65536, annAt := some s.ti.elapsed }).annSend m p.annSeq (s.mcastPeer m 320 false) none

/-- A unicast Sync (`t` 0) or Announce (`t` 1) of the grant entry at `a` (R323, R327). -/
def State.grantSend (s : State) (a t : Nat) : State :=
  let e := s.ctGet a
  let m := e.getD 2 0
  let off := 60 + 2 * t
  let seq := ofBytes ((e.drop off).take 2)
  let s := s.ctPut a (splice e off (toBytes 2 (seq + 1)))
  if t = 0 then s.syncSend m seq (s.grantPeer e 319) (some (e.getD 45 0))
  else s.annSend m seq (s.grantPeer e 320) (some (e.getD 45 0))

/-- A unicast interval of a grant expires. -/
def State.grantTimer (s : State) (a t : Nat) : State :=
  match s.ts.due.find? (fun x => x.1 == a * 2 + t) with
  | some x =>
    let e := s.ctGet a
    if x.2 ≤ s.ti.elapsed ∧ s.grantLive e (1 - t) = true ∧ s.serving = true then
      let s := s.dueSet a t (some (x.2 + logU (signed 8 (e.getD (43 - t) 0))))
      if s.stopped then s else s.grantSend a t
    else s
  | none => s

/-! ### PKT_0 and PKT_1 (R328, R119) -/

/-- The peer that PKT instance `n` sends to: its remote, by the MAC address learned from it, else a free one. -/
def State.pktPeer (s : State) (n port : Nat) : Peer × State :=
  let net := s.fld TS_PKT_CTL_TRANSPORT n % 3
  let m := s.fld TS_PKT_CTL_MAC n
  let k := s.saPtp m net
  let ad := if net = 0 then s.fld TS_PKT_REMOTE_ADDR n % 2 ^ 32 else s.fld TS_PKT_REMOTE_ADDR n
  let base : Peer := { mac := 0, tag := k.bind (fun k => s.saTag k), net := net, addr := ad, port := port,
                       here := (k.map (fun k => s.saAddr k)).getD 0, hport := port }
  if net = 2 then ({ base with mac := ad % 2 ^ 48 }, s)
  else
    match (s.pkt n).from_ with
    | some p => ({ base with mac := p.mac, tag := p.tag }, s)
    | none => ({ base with mac := s.free.1 % 2 ^ 48 }, s.free.2)

/-- A TIME80 field in 2^-16 ns. -/
def time80At (b : List Nat) (off : Nat) : Int := ((beAt b off 6 * 1000000000 + beAt b (off + 6) 4) * 65536 : Nat)

/-- A message of PKT instance `n`'s remote counts (R326): checking follows RS_REF_CTL of its reference, which fails its source
criterion on one that does not count (R122, R124). -/
def State.pktAccept (s : State) (n : Nat) (q : SvcReq) : State × Bool :=
  let r := s.ptpAccept (s.flag RS_REF_CTL_NEED_AUTH (4 + n)) q.body
  if r.2 then (r.1.setPkt n { r.1.pkt n with from_ := some q.peer, auth := r.1.ptpAuth q.body == 1 }, true)
  else (r.1.when (s.flag RS_REF_CTL_NEED_AUTH (4 + n)) (fun t => (t.rsFail (4 + n) 12).rsEval), false)

/-- The remote's bound (R119): of its Sync when that carries one, else of its Announce. -/
def PktSt.remote (p : PktSt) : Option Nat := p.bSync.or p.bAnn

/-- Whether a stamp is excluded by R114. -/
def SvcReq.excluded (q : SvcReq) : Bool := q.safe || q.dist || q.bound == 0xFFFFFFFF

/-- A Sync of sequenceId `seq` has its t1 and t2: a Delay_Req that is paired with it learns them (R328). -/
def PktSt.synced (p : PktSt) (seq : Nat) (t1 t2 : Int) : PktSt :=
  { p with sync := some (seq, t1, t2), wait := none,
           pair := p.pair.map (fun x => if x.1 = seq ∧ x.2.1 = none then (seq, some (t1, t2), x.2.2) else x) }

/-- Sync, Follow_Up or Announce from the remote (R328, R119). -/
def State.pktSync (s : State) (n : Nat) (q : SvcReq) : State :=
  let r := s.pktAccept n q
  let s := r.1
  let p := s.pkt n
  let b := q.body
  let cf := signed 64 (beAt b 8 8)
  let t2 : Int := (q.stamp / 2 ^ 32 : Nat)
  if !r.2 then s
  else if ptpType b = 11 then s.setPkt n { p with cls := b.getD 48 255, bAnn := s.tlvBound b }
  else if ptpType b = 0 then
    let p := { p with syncBad := q.excluded, bSync := s.tlvBound b }
    if bitOf (b.getD 6 0) 1 then (s.setPkt n { p with wait := some (beAt b 30 2, cf, t2) }).set1 TS_PKT_STATUS_TWO_STEP n
    else (s.setPkt n (p.synced (beAt b 30 2) (time80At b 34 + cf) t2)).clr TS_PKT_STATUS_TWO_STEP n
  else
    match p.wait with
    | some (seq, c, t) => if seq = beAt b 30 2 then s.setPkt n (p.synced seq (time80At b 34 + c + cf) t) else s
    | none => s

/-- A Delay_Req or Pdelay_Req has left with t3 and bound: it is paired with the latest Sync received before it (R328). -/
def State.pktSent (s : State) (n seq t3 b3 : Nat) : State :=
  let p := s.pkt n
  let b := if s.flag TC_STATUS_DISTURBED 0 then 0xFFFFFFFF else b3
  let pair := match p.wait with
    | some w => some (w.1, none, p.syncBad)
    | none => p.sync.map (fun x => (x.1, some (x.2.1, x.2.2), p.syncBad))
  s.setPkt n { p with dreq := some (seq, ((t3 / 2 ^ 32 : Nat) : Int), b), pair := pair }

/-- Delay_Resp or Pdelay_Resp from the remote completes an exchange (R328, R119, R133): offsets and delays in 2^-17 ns. -/
def State.pktExchangeOf (s : State) (n : Nat) (q : SvcReq) : State :=
  let r := s.pktAccept n q
  let s := r.1
  let p := s.pkt n
  let b := q.body
  let cf := signed 64 (beAt b 8 8)
  match p.dreq, p.pair with
  | some (seq, t3, b3), some (_, some (t1, t2), bad) =>
    if !r.2 ∨ seq ≠ beAt b 30 2 ∨ (b.drop 44).take 10 ≠ s.ptpId (s.fld TS_PKT_CTL_MAC n) then s
    else
      let ms := t2 - t1
      let t4 : Int := (q.stamp / 2 ^ 32 : Nat)
      let od : Int × Int :=
        if ptpType b = 9 then
          let sm := time80At b 34 - cf - t3
          (ms - sm, ms + sm)
        else
          let rt := t4 - t3 - cf
          (2 * ms - rt, rt)
      let s := (s.setPkt n { p with dreq := none, pair := none }).setFld TS_PKT_STATUS_EXCHANGES n (s.fld TS_PKT_STATUS_EXCHANGES n + 1)
      let e : PktEx := { d := od.2, o := od.1, p := s.pktPhase (4 + n) od.1, at_ := s.now, el := s.ti.elapsed,
                         unc := s.pktUnc (4 + n) p.remote, fail := s.pktFail (4 + n) p.cls (s.pkt n).auth p.remote }
      if s.rstate (4 + n) = 0 ∨ s.rstate (4 + n) = 4 then s
      else if p.remote = some 0xFFFFFFFF ∨ b3 = 0xFFFFFFFF ∨ q.excluded = true ∨ bad = true then
        s.when (e.fail != 0) (fun t => t.rsFail (4 + n) e.fail)
      else s.pktExchange (4 + n) e
  | _, _ => s

/-- Grants that the remote gives or ends (R328). -/
def State.pktGranted (s : State) (n : Nat) (q : SvcReq) : State :=
  let r := s.pktAccept n q
  if !r.2 then r.1
  else (ptpTlvs q.body).foldl (fun (t : State) x =>
    match grantType (x.2.getD 0 0 / 16) with
    | some ty =>
      let f := if ty = 0 then TS_PKT_STATUS_GRANT_ANN else if ty = 1 then TS_PKT_STATUS_GRANT_SYNC else TS_PKT_STATUS_GRANT_DRESP
      let d := if x.1 = 5 then beAt x.2 2 4 else 0
      let p := t.pkt n
      let rest := p.grants.filter (fun (g : Nat × Nat) => g.1 != ty)
      if x.1 ≠ 5 ∧ x.1 ≠ 7 then t
      else if d = 0 then (t.setPkt n { p with grants := rest }).clr f n
      else (t.setPkt n { p with grants := rest ++ [(ty, secOf t.now + d)] }).set1 f n
    | none => t) r.1

/-- Grants of PKT instance `n` that have expired end. -/
def State.pktExpire (s : State) (n : Nat) : State :=
  let p := s.pkt n
  let live := fun ty => p.grants.any (fun g => g.1 == ty && decide (secOf s.now < g.2))
  (((s.setPkt n { p with grants := p.grants.filter (fun g => decide (secOf s.now < g.2)) }).setFld TS_PKT_STATUS_GRANT_ANN n
    (b2n (live 0))).setFld TS_PKT_STATUS_GRANT_SYNC n (b2n (live 1))).setFld TS_PKT_STATUS_GRANT_DRESP n (b2n (live 2))

/-- PKT instance `n` requests or renews the grants it lacks or that expire within 60 s, for 300 s each (R328). -/
def State.pktRenew (s : State) (n : Nat) : State :=
  let p := s.pkt n
  let need := (List.range 3).filter (fun ty => !p.grants.any (fun g => g.1 == ty && decide (secOf s.now + 60 < g.2)))
  if s.flag TS_CTL_EN 0 = false ∨ s.flag TS_PKT_CTL_EN n = false ∨ s.flag TS_PKT_CTL_NEGOTIATE n = false ∨ need = [] then s
  else
    let m := s.fld TS_PKT_CTL_MAC n
    let tlv := need.flatMap (fun ty => [0, 4, 0, 6, (if ty = 0 then 11 else if ty = 1 then 0 else 9) * 16,
      if ty = 0 then s.fld TS_PKT_LOG_ANN_LOG n else if ty = 1 then s.fld TS_PKT_LOG_SYNC_LOG n else s.fld TS_PKT_LOG_DREQ_LOG n] ++
      toBytesBE 4 300)
    let pe := s.pktPeer n 320
    let s := pe.2.setPkt n { pe.2.pkt n with seq := (p.seq + 1) % 65536 }
    s.macSend m (s.datagram m pe.1 (s.signaling m (List.replicate 10 0xFF) p.seq tlv (s.pktSa n) (s.fld TS_PKT_CTL_DOMAIN n)))

/-- PKT instance `n` sends its Delay_Req or Pdelay_Req as a timed launch (R328). -/
def State.pktRequest (s : State) (n : Nat) : State :=
  let p := s.pkt n
  if s.flag TS_CTL_EN 0 = true ∧ s.flag TS_PKT_CTL_EN n = true ∧ s.mcastDue p.dreqAt (s.fld TS_PKT_LOG_DREQ_LOG n) = true then
    let pe := s.pktPeer n 319
    let m := s.fld TS_PKT_CTL_MAC n
    let s := pe.2.setPkt n { pe.2.pkt n with seq := (p.seq + 1) % 65536, dreqAt := some s.ti.elapsed }
    s.decide_ ptpLaunch {
      kind := if s.flag TS_PKT_CTL_DELAY n then 5 else 4, inst := m,
      rq := { tag := 1, unit_ := n, inst := m, peer := pe.1, body := [], stamp := 0, bound := 0 }, seqId := p.seq, keys := [],
      cookies := [], tries := 0, t3 := 0, b3 := 0, sealed := false, cleared := false, bytes := [] }
  else s

end Sys2Proof.Machine
end

