-- ==== Sys2Proof/Machine/Receipt.lean ====
section
/-! DEFINITION. The receipt service (R330 to R352) as operations: submitters, requests, placement, the journal, batches, root
records, archive streaming. -/

namespace Sys2Proof.Machine

/-- The receipt engine's state replaced; counter k of RC_CNT. -/
def State.setRc (s : State) (r : RcSt) : State := { s with rc := r }
def State.rcCnt (s : State) (k v : Nat) : State := s.rcAdd RC_CNT_COUNT k v

/-- Pair mode as far as the configuration goes: a twin role and no solo mode (R30, R338). -/
def State.pairMode (s : State) : Bool := s.flag TW_CTL_EN 0 && s.role != 0 && !s.flag RC_CTL_SOLO 0

/-! ### The journal (R350) -/

def State.jSize (s : State) : Nat := 2 ^ s.fld RC_JRN_CFG_LOG 0
def State.jAddr (s : State) (k : Nat) : Nat := s.fld RC_JRN_BASE_ADDR 0 + k % s.jSize * 64
def State.jWriteIx (s : State) : Nat := s.fld RC_JRN_WRITE_INDEX 0
def State.jRel (s : State) : Nat := s.fld RC_JRN_RELEASE_INDEX 0

/-- How far slot `k` lies past RELEASE. -/
def State.jPos (s : State) (k : Nat) : Nat := (k + 2 * s.jSize - s.jRel % s.jSize) % s.jSize

/-- How many slots are free, and whether slot `k` is held. -/
def State.jFree (s : State) : Nat := s.jSize - 1 - s.jPos s.jWriteIx
def State.jHeld (s : State) (k : Nat) : Bool := s.jPos k < s.jPos s.jWriteIx

/-- Whether the matrix holds the service's DRAM requests: the journal's channel is in self-refresh (R23). -/
def State.jAsleep (s : State) : Bool := s.asleep (s.jAddr 0)

/-- The entry in slot `k`, and one written there. -/
def State.jGet (s : State) (k : Nat) : List Nat := s.bytesAt (s.jAddr k) 64
def State.jPut (s : State) (k : Nat) (e : List Nat) : State := s.store (s.jAddr k) (padTo 64 e)
def State.jSetWrite (s : State) (k : Nat) : State := s.setFld RC_JRN_WRITE_INDEX 0 (k % s.jSize)

/-- Whether slot `k` reads back uncorrectable (R351). -/
def State.jBad (s : State) (k : Nat) : Bool := s.poisoned (s.jAddr k) 64

/-- A time as TIME80 with its fraction, and such a time read back. -/
def time96 (t : Nat) : List Nat := time80 t ++ toBytesBE 2 (frac16 t)
def time96At (b : List Nat) (off : Nat) : Nat :=
  beAt b off 6 * secU + beAt b (off + 6) 4 * nsU + beAt b (off + 10) 2 * 2 ^ 32

/-- Journal entries. -/
def leafContent (sub seq : Nat) (digest : List Nat) (stamp bound : Nat) : List Nat :=
  toBytesBE 4 sub ++ toBytesBE 8 seq ++ padTo 32 digest ++ time96 stamp ++ toBytesBE 4 bound
def leafEntry (r : Rcpt) : List Nat :=
  [1 + 4 * b2n r.solo + 8 * b2n r.gap] ++ toBytesBE 3 r.idx ++ leafContent r.sub r.seq r.digest r.rq.stamp r.rq.bound
def openEntry (num start : Nat) : List Nat := [2, 0, 0, 0] ++ toBytesBE 8 num ++ time96 start
def closeEntry (reason num n root end_ : Nat) : List Nat :=
  [3, reason, 0, 0] ++ toBytesBE 8 num ++ toBytesBE 4 n ++ toBytesBE 32 root ++ time96 end_

/-- A MIRROR message of slot `k` (R364): flags [0] FETCHED, [1] HISTORY. -/
def State.mirrorSend (s : State) (k flags : Nat) (e : List Nat) : State :=
  s.twSend 1 (toBytesBE 4 k ++ toBytesBE 4 (s.fld RC_JRN_ARCHIVED_INDEX 0) ++ [flags]) (padTo 64 e)

/-- Whether an entry written now goes to the partner (R367): an active engine whose mirror stands or is being joined, or one
that is handing over (R386). -/
def State.mirrors (s : State) : Bool := (s.role == 3 && (s.flag TW_STATUS_MIRROR 0 || s.tw.joining)) || s.tw.oweHand

/-! ### Hashing (R343, R344) -/

def leafHash (content : List Nat) : Nat := sha256 (0 :: content)
def nodeHash (l r : Nat) : Nat := sha256 (1 :: (toBytesBE 32 l ++ toBytesBE 32 r))

/-- The largest power of 2 below `n`. -/
def splitPoint (n : Nat) : Nat := 2 ^ Nat.log2 (n - 1)

/-- The root over leaf hashes, to a depth of `fuel` levels. -/
def mth : Nat → List Nat → Nat
  | 0, h => h.headD 0
  | fuel + 1, h =>
    if h.length ≤ 1 then h.headD 0
    else nodeHash (mth fuel (h.take (splitPoint h.length))) (mth fuel (h.drop (splitPoint h.length)))

/-- The root of a batch: at most 2^24 leaves, so 24 levels. -/
def batchRoot (h : List Nat) : Nat := mth 25 h

/-! ### Submitters (R330 to R332) -/

/-- The entry that an ID selects. -/
def State.subAt (s : State) (id : Nat) : Option Submit := smGet none s.rc.subs (id % 65536)
def State.setSub (s : State) (id : Nat) (x : Option Submit) : State :=
  s.setRc { s.rc with subs := smSet none s.rc.subs (id % 65536) x }

/-- The registered entry of exactly this ID. -/
def State.subOf (s : State) (id : Nat) : Option Submit := (s.subAt id).filter (fun x => x.id == id)

/-- LAST of a submitter. -/
def State.setLast (s : State) (id v : Nat) : State :=
  match s.subOf id with
  | some x => s.setSub id (some { x with last := v })
  | none => s

/-- One token of 10^9 x 2^48 parts; the bucket now, up to RATE_K tokens (R334). -/
def Submit.bucket (x : Submit) (t : Nat) : Nat := min (x.rate * secU) (x.tok + (t - x.at_) * x.rate * 1000)

/-- The cache line of a table entry dropped; and every line of a KEK generation that is no longer live (R332, R248). -/
def State.uncache (s : State) (id : Nat) : State := s.setRc { s.rc with cache := s.rc.cache.filter (fun c => c.1 != id % 65536) }
def State.cacheSweep (s : State) : State :=
  s.setRc { s.rc with cache := s.rc.cache.filter (fun c => (s.genSlot 0 c.2.1).isSome) }

/-- A submitter's key (R332): the cache line, else its blob is opened. -/
def State.subKey (s : State) (x : Submit) : Option (List Nat) × State :=
  match s.rc.cache.find? (fun c => c.1 == x.id % 65536 && (s.genSlot 0 c.2.1).isSome) with
  | some c => (some c.2.2, s)
  | none =>
    let s := s.engEv 109
    match s.blobOpen x.blob with
    | .ok r =>
      if r.2.1 = 1 ∧ bitOf r.1.usage 1 = true then
        (some r.1.key, s.setRc { s.rc with cache := ((x.id % 65536, r.1.gen, r.1.key) :: s.rc.cache).take 4096 })
      else (none, s)
    | .error _ => (none, s)

/-- A submitter command is refused with REASON (R331). -/
def State.subFail (s : State) (why : Nat) : State := (s.set1 RC_SUB_CMD_FAILED 0).setFld RC_SUB_CMD_REASON 0 why
def State.subDone (s : State) : State := s.set1 RC_SUB_CMD_DONE 0

/-- Whether the actor may give submitter commands (R331). -/
def State.subMay (s : State) (a : Actor) : Bool := s.privileged a

/-- REGISTER and UPDATE (R331). -/
def State.subWrite (s : State) (a : Actor) (upd : Bool) : State :=
  let id := s.fld RC_SUB_ID_ID 0
  let old := s.subAt id
  let loose := if s.flag RC_SUB_CFG_POLICY_SET 0 then s.flag RC_SUB_CFG_LOOSE 0 else s.flag RC_CTL_LOOSE_DEFAULT 0
  let rate := s.fld RC_SUB_CFG_RATE_K 0
  let put := fun (t : State) (b : List Nat) (last : Nat) (susp : Bool) =>
    ((t.uncache id).setSub id (some {
      id := id, loose := loose, rate := rate, last := last, blob := b, susp := susp,
      tok := rate * secU, at_ := t.ti.elapsed })).subDone
  if s.fld RC_SUB_BASE_ADDR 0 = 0 then s.subFail 7
  else if upd = false ∧ old.isSome = true then s.subFail 2
  else if upd = true ∧ old.isNone = true then s.subFail 1
  else if upd = true ∧ (s.subOf id).isNone = true then s.subFail 3
  else if s.ksGate a ≠ 0 then (s.ksRefuse (actorNo a) 0 (s.ksGate a)).subFail 4
  else
    let b := s.bytesAt (s.fld RC_SUB_BLOB_ADDR 0) 160
    match s.blobOpen b with
    | .error why => (s.ksRefuse (actorNo a) 0 why).subFail 4
    | .ok r =>
      if r.2.1 ≠ 1 ∨ bitOf r.1.usage 1 = false ∨ r.1.key.length < 32 ∨ 64 < r.1.key.length then s.subFail 5
      else
        match s.subOf id with
        | some x => put s b (if s.flag RC_SUB_CFG_SET_LAST 0 then s.fld RC_SUB_LAST_LAST 0 else x.last) x.susp
        | none => put s b (s.fld RC_SUB_LAST_LAST 0) false

/-- The commands on a registered entry: REMOVE, READ, SUSPEND, RESUME (R331). -/
def State.subOn (s : State) (k : State → Submit → State) : State :=
  let id := s.fld RC_SUB_ID_ID 0
  if s.fld RC_SUB_BASE_ADDR 0 = 0 then s.subFail 7
  else
    match s.subAt id with
    | none => s.subFail 1
    | some x => if x.id = id then (k s x).subDone else s.subFail 3

def State.subRemove (s : State) : State := s.subOn (fun t x => (t.uncache x.id).setSub x.id none)
def State.subRead (s : State) : State := s.subOn (fun t x =>
  ((((t.setFld RC_SUB_CFG_LOOSE 0 (b2n x.loose)).setFld RC_SUB_CFG_POLICY_SET 0 1).setFld RC_SUB_CFG_RATE_K 0 x.rate).setFld
    RC_SUB_CFG_SUSPENDED 0 (b2n x.susp)).setFld RC_SUB_LAST_LAST 0 x.last)
def State.subSuspend (s : State) (v : Bool) : State := s.subOn (fun t x => t.setSub x.id (some { x with susp := v }))

/-! ### Acknowledgements (R336, R339) -/

/-- The 66-byte payload. -/
def ackBody (key : List Nat) (sub seq status flags : Nat) (rest : List Nat) : List Nat :=
  let b := toBytesBE 4 sub ++ toBytesBE 8 seq ++ [status, flags] ++ padTo 36 rest
  b ++ (toBytesBE 32 (hmac256 key (ascii "JKAK" ++ b))).take 16

/-- Bytes 14 to 49 of an acknowledgement with status OK or SOLO. -/
def ackRest (unit_ batch idx : Nat) (arrival : List Nat) : List Nat :=
  toBytesBE 8 unit_ ++ toBytesBE 8 batch ++ toBytesBE 4 idx ++ arrival

/-- An acknowledgement without a leaf: 2 GAP, 3 CONFLICT, 4 BUSY, 5 OLD. -/
def State.ackBare (s : State) (q : SvcReq) (key : List Nat) (sub seq status : Nat) : State :=
  let s := s.answer q (ackBody key sub seq status 0 (toBytesBE 8 Config.unitId))
  if status = 2 then s.rcCnt 3 1
  else if status = 3 then s.rcCnt 5 1
  else if status = 4 then (s.rcCnt 7 1).engEv 81
  else s.rcCnt 6 1

/-- The acknowledgement of an accepted request, to it and to the repeats that waited. -/
def State.ackLeaf (s : State) (r : Rcpt) : State :=
  let b := ackBody r.key r.sub r.seq (b2n r.solo) (b2n r.gap)
    (ackRest Config.unitId r.batch r.idx (time96 r.rq.stamp ++ toBytesBE 4 r.rq.bound))
  let s := ((s.answer r.rq b).rcCnt 0 1).engEv 80
  r.waiters.foldl (fun t q => (t.answer q b).rcCnt 2 1) (s.when r.solo (fun t => t.rcCnt 1 1))

/-- A request that is discarded, and the repeats that waited, are answered BUSY (R337, R341). -/
def State.ackBusy (s : State) (r : Rcpt) : State :=
  (r.rq :: r.waiters).foldl (fun t q => t.ackBare q r.key r.sub r.seq 4) s

/-- The acknowledgement rebuilt from a held entry (R336). -/
def State.ackRepeat (s : State) (q : SvcReq) (key : List Nat) (x : IdxE) : State :=
  let e := s.jGet x.slot
  let b0 := e.getD 0 0
  (s.answer q (ackBody key x.sub x.seq (b2n (bitOf b0 2)) (b2n (bitOf b0 3))
    (ackRest x.unit_ x.batch (beAt e 1 3) ((e.drop 48).take 16)))).rcCnt 2 1

/-! ### Requests (R333 to R338) -/

/-- The order key of R28: arrival, then MAC instance, then ingress sequence. -/
def keyLess (t1 i1 q1 t2 i2 q2 : Nat) : Bool := t1 < t2 || (t1 == t2 && (i1 < i2 || (i1 == i2 && q1 < q2)))

/-- Whether the placement frontier has passed a request (R28, R340): nothing that is stored in the ingress buffers, or still
being received, comes before it. -/
def State.frontier (s : State) (q : SvcReq) : Bool :=
  (List.range 16).all (fun n =>
    let m := s.mac n
    m.stored.all (fun f => !keyLess f.stamp f.inst f.seq q.stamp q.inst q.seq) &&
      m.rx.all (fun h => !keyLess h.stamp n m.seq q.stamp q.inst q.seq))

/-- The receipt request that comes first in the order key. -/
def rcFirst : List SvcReq → Option SvcReq
  | [] => none
  | q :: qs =>
    match rcFirst qs with
    | none => if q.tag = 2 then some q else none
    | some r => if q.tag = 2 ∧ keyLess r.stamp r.inst r.seq q.stamp q.inst q.seq = false then some q else some r

/-- Whether the role and the mirror let requests be accepted (R338). -/
def State.roleAccepts (s : State) : Bool :=
  s.service && s.flag RC_CTL_EN 0 && !s.tw.guard_ &&
    ((s.role == 3 && !s.tw.waitHand && (s.flag RC_CTL_SOLO 0 || s.mirrorUp)) ||
     (s.role == 0 && s.flag TW_CTL_ALONE 0 && s.flag RC_CTL_SOLO 0))

/-- Whether the early close of a mirror timeout is in progress (R338, R341). -/
def State.earlyClosing (s : State) : Bool :=
  match s.rc.batch with
  | some b => (match b.close with | some c => c.1 == 2 | none => false)
  | none => false

/-- Whether a batch stands open to further leaves. -/
def State.batchOpen (s : State) : Bool :=
  match s.rc.batch with
  | some b => b.close.isNone
  | none => false

/-- The slots that one more request needs: its own after those accepted before it, two where a batch has to open, and one more
for the CLOSE entry of a batch that is closing (R350). -/
def State.slotsOk (s : State) : Bool :=
  s.rc.acc.length + (if s.batchOpen then 1 else if s.rc.batch.isSome then 3 else 2) ≤ s.jFree

/-- Whether some receipt-signing generation is live. -/
def State.rcptLive (s : State) : Bool := s.genLive 2 false || s.genLive 2 true

/-- The conditions of R338; RC_STATUS.ACCEPTING. -/
def State.rcAccepting (s : State) : Bool := s.roleAccepts && s.slotsOk && s.rcptLive && !s.earlyClosing

/-- The held entry of a submitter's sequence (R335). -/
def State.idxFind (s : State) (sub seq : Nat) : Option IdxE :=
  s.rc.idx.find? (fun x => x.sub == sub && x.seq == seq && s.jHeld x.slot && !s.rc.lost.contains x.slot)

/-- An accepted request not yet resolved, of a submitter's sequence. -/
def State.rcptFind (s : State) (sub seq : Nat) : Option Rcpt :=
  (s.rc.placed ++ s.rc.acc).find? (fun r => r.sub == sub && r.seq == seq)

/-- A repeat waits for an unresolved request (R337). -/
def State.rcptWait (s : State) (r : Rcpt) (q : SvcReq) : State :=
  let f := fun (x : Rcpt) => if x.sub = r.sub ∧ x.seq = r.seq then { x with waiters := x.waiters ++ [q] } else x
  s.setRc { s.rc with placed := s.rc.placed.map f, acc := s.rc.acc.map f }

/-- A FETCH for a slot (R351, R364), when none is out. -/
def State.fetchStart (s : State) (k : Nat) : State :=
  if s.rc.fetch.isSome then s
  else (s.setRc { s.rc with fetch := some (k, s.ti.elapsed) }).twSend 4 (toBytesBE 4 k) []

/-- A slot that cannot be recovered (R351). -/
def State.slotLost (s : State) (k : Nat) : State :=
  ((s.setRc { s.rc with lost := k :: s.rc.lost, idx := s.rc.idx.filter (fun x => x.slot != k) }).rcCnt 19 1).log
    RCPT_ENTRY_LOST .RC

/-- The request is accepted (R335): LAST moves and it waits for placement. -/
def State.rcAccept (s : State) (q : SvcReq) (x : Submit) (key : List Nat) (seq : Nat) (gap : Bool) : State :=
  let s := (s.setLast x.id seq).when gap (fun t => t.rcCnt 4 1)
  s.setRc { s.rc with acc := s.rc.acc ++ [{
    rq := q, sub := x.id, seq := seq, digest := (q.body.drop 12).take 32, key := key, gap := gap, prev := x.last, waiters := [],
    batch := 0, idx := 0, slot := 0, hash := 0, solo := false, written := false, at_ := 0 }] }

/-- Checks 7 and 8 (R334, R335, R338). INIT and DEMOTING answer BUSY; STANDBY answers repeats, and BUSY to everything else
(R355); an engine that is handing over still takes what arrived before E (R386). -/
def State.rcPolicy (s : State) (q : SvcReq) (x : Submit) (key : List Nat) : State :=
  let seq := beAt q.body 4 8
  let digest := (q.body.drop 12).take 32
  let other := fun (code : Nat) => s.ackBare q key x.id seq (if s.role = 2 then 4 else code)
  let swap := s.role == 2 && s.tw.oweHand && (match s.tw.swapAt with | some e => decide (q.stamp < e * secU) | none => false)
  if s.role = 1 ∨ s.role = 4 ∨ (s.role = 2 ∧ s.flag TW_STATUS_HISTORY_PARTIAL 0 = true) then s.ackBare q key x.id seq 4
  else if x.last < seq then
    let gap := decide (seq ≠ x.last + 1)
    if gap && !x.loose then other 2
    else if s.rcAccepting || (swap && s.slotsOk && s.rcptLive) then s.rcAccept q x key seq gap
    else (s.when (!s.slotsOk) (fun t => t.set1 RC_STATUS_JRN_FULL 0)).ackBare q key x.id seq 4
  else
    match s.rcptFind x.id seq with
    | some r => if r.digest = digest then s.rcptWait r q else other 3
    | none =>
      match s.idxFind x.id seq with
      | some e => if ((s.jGet e.slot).drop 16).take 32 = digest then s.ackRepeat q key e else other 3
      | none => other 5

/-- Whether the entry that a repeat needs has to be recovered first (R351), and from which slot. -/
def State.needsFetch (s : State) (sub seq : Nat) : Option Nat :=
  match s.idxFind sub seq with
  | some e => if s.jBad e.slot then some e.slot else none
  | none => none

/-- The checks of R334 on the request that comes first, once the frontier has passed it; the roles that answer BUSY to
everything but repeats do so through R338 (R355). -/
def State.rcRequest (s : State) (q : SvcReq) : State :=
  let t := s.setTs { s.ts with queue := s.ts.queue.erase q }
  let id := beAt q.body 0 4
  if q.safe then t.rcCnt 14 1
  else if q.body.length ≠ 60 then t.rcCnt 10 1
  else
    match (t.subOf id).filter (fun x => !x.susp) with
    | none => t.rcCnt 9 1
    | some x =>
      let full := x.bucket t.ti.elapsed
      if x.rate ≠ 0 ∧ full < secU then t.rcCnt 12 1
      else
        let paid := fun (u : State) (y : Submit) =>
          if x.rate = 0 then (u, y)
          else
            let z := { y with tok := full - secU, at_ := u.ti.elapsed }
            (u.setSub id (some z), z)
        let k := t.subKey x
        match k.1 with
        | none => ((paid k.2 x).1).rcCnt 11 1
        | some key =>
          if (toBytesBE 32 (hmac256 key (ascii "JKRQ" ++ q.body.take 44))).take 16 ≠ q.body.drop 44 then k.2.rcCnt 8 1
          else
            match s.needsFetch id (beAt q.body 4 8) with
            | some slot => if s.pairMode then s.fetchStart slot else (s.slotLost slot)
            | none =>
              let p := paid k.2 x
              p.1.rcPolicy q p.2 key

/-! ### Placement and batches (R340, R345, R346) -/

/-- The tally period, and the first boundary after a time (R345). -/
def State.tallyU (s : State) : Nat := s.fld RC_TALLY_US 0 * usU
def State.boundaryAfter (s : State) (t : Nat) : Nat := (t / s.tallyU + 1) * s.tallyU

/-- START of a batch whose first leaf arrives at `t` (R345): the boundary before it, unless batches could only open again
after that boundary. -/
def State.batchStart (s : State) (t : Nat) : Nat :=
  let e := t / s.tallyU * s.tallyU
  if s.rc.early ≤ e then e else t

/-- A batch opens with its OPEN entry. -/
def State.batchOpenAt (s : State) (t : Nat) : State :=
  let num := s.fld RC_BATCH_NEXT_NUMBER 0
  let start := s.batchStart t
  let k := s.jWriteIx
  let e := openEntry num start
  let s := ((s.jPut k e).jSetWrite (k + 1)).when s.mirrors (fun u => u.mirrorSend k 0 e)
  s.setRc { s.rc with fresh := false, batch := some {
    num := num, start := start, bound_ := s.boundaryAfter start, slot := k, leaves := [],
    chain := s.rc.fresh && s.fld RC_PREV_ROOT_ROOT 0 == 0, close := none } }

/-- The request becomes the next leaf of the open batch (R340 step 1). -/
def State.leafPlace (s : State) (b : Batch) (r : Rcpt) : State :=
  let k := s.jWriteIx
  let content := leafContent r.sub r.seq r.digest r.rq.stamp r.rq.bound
  let solo := s.flag RC_CTL_SOLO 0
  let i := b.leaves.length
  let r' := { r with batch := b.num, idx := i, slot := k, hash := leafHash content, solo := solo, at_ := s.ti.elapsed }
  let b' := { b with leaves := b.leaves ++ [(leafHash content, r.rq.stamp, r.rq.bound, solo)],
                     close := if i = 2 ^ 24 - 1 then some (1, r.rq.stamp) else b.close }
  (s.jSetWrite (k + 1)).setRc { s.rc with acc := s.rc.acc.tail, placed := s.rc.placed ++ [r'], batch := some b' }

/-- Whether a batch takes a request that arrived at `t`: a closing one only what arrived before its tally boundary. -/
def Batch.takes (b : Batch) (t : Nat) : Bool :=
  match b.close with
  | none => t < b.bound_
  | some c => c.1 == 0 && t < c.2

/-- Placement of the request accepted first, when the batch can take it and journal slots are free. -/
def State.rcPlace (s : State) : State :=
  match s.rc.acc.head? with
  | none => s
  | some r =>
    match s.rc.batch with
    | some b => if b.takes r.rq.stamp = false ∨ s.jFree = 0 then s else s.leafPlace b r
    | none =>
      if s.jFree < 2 then s
      else
        let t := s.batchOpenAt r.rq.stamp
        match t.rc.batch with
        | some b => t.leafPlace b r
        | none => s

/-- The journal write of the first placed request that is not written completes (R340 steps 2 to 4). -/
def State.journalDone (s : State) : State :=
  match s.rc.placed.find? (fun r => !r.written) with
  | none => s
  | some r =>
    let e := leafEntry r
    let s := (s.jPut r.slot e).when s.mirrors (fun t => t.mirrorSend r.slot 0 e)
    let s := s.setRc { s.rc with idx := s.rc.idx ++ [{ sub := r.sub, seq := r.seq, slot := r.slot, batch := r.batch, unit_ := Config.unitId }] }
    let rest := s.rc.placed.filter (fun x => x.slot != r.slot)
    if r.solo then (s.setRc { s.rc with placed := rest }).ackLeaf r
    else s.setRc { s.rc with placed := s.rc.placed.map (fun x =>
      if x.slot = r.slot then { x with written := true, at_ := s.ti.elapsed } else x) }

/-- Awaiting signature: RC_STATUS.SIGN_QUEUE. -/
def State.signCount (s : State) : Nat := (s.rc.recs.filter (fun r => r.stage == 0)).length

/-- BUSY clears once EN is 0 and the last record is signed and released (R342). -/
def State.rcIdle (s : State) : State :=
  if s.flag RC_CTL_EN 0 = false ∧ s.rc.batch.isNone = true ∧ s.rc.recs.all (fun r => r.stage == 2) = true then
    s.clr RC_STATUS_BUSY 0
  else s

/-- Bytes 0 to 168 of the root record (R348). -/
def State.rootHead (s : State) (num start end_ n maxB root prev : Nat) : List Nat :=
  [0x4A, 0x52, 0x01, 0x00, 0, 1, 1, 0] ++ toBytesBE 8 Config.unitId ++ toBytesBE 8 num ++ time96 start ++ time96 end_ ++
    toBytesBE 4 n ++ toBytesBE 4 maxB ++ toBytesBE 32 root ++ toBytesBE 32 prev ++ s.maBytes 0 ++ [s.lifeCycle]

/-- The root record but for the algorithm, the generation and the signature. -/
def State.rootBody (s : State) (num start end_ n maxB root prev reason flags : Nat) : List Nat :=
  padTo 192 (s.rootHead num start end_ n maxB root prev ++ [0, reason, flags])

/-- The previous root that the next record carries, in network order (R349). -/
def State.prevRoot (s : State) : Nat := ofBytesBE (toBytes 32 (s.fld RC_PREV_ROOT_ROOT 0))
def State.setPrevRoot (s : State) (r : Nat) : State := s.setFld RC_PREV_ROOT_ROOT 0 (ofBytes (toBytesBE 32 r))

/-- The batch closes with a reason and END (R346, R348, R349): its tree is built, its CLOSE entry written, its record queued.
A batch without a leaf leaves nothing behind. -/
def State.batchClose (s : State) (b : Batch) (reason end_ : Nat) : State :=
  if b.leaves = [] then (s.jSetWrite b.slot).setRc { s.rc with batch := none }
  else
    let n := b.leaves.length
    let root := batchRoot (b.leaves.map (·.1))
    let maxB := b.leaves.foldl (fun m l => max m l.2.2.1) 0
    let flags := b2n (b.leaves.any (fun l => l.2.2.2)) + 2 * b2n s.pairMode + 4 * b2n b.chain + 8 * b2n (reason == 3)
    let e := closeEntry reason b.num n root end_
    let k := s.jWriteIx
    let rec_ : RootRec := {
      num := b.num, bytes := s.rootBody b.num b.start end_ n maxB root s.prevRoot reason flags, stage := 0, slot := b.slot,
      len := n + 2, pos := 0, end_ := end_, maxB := maxB, key := reason == 3 }
    let s := ((s.jPut k e).jSetWrite (k + 1)).when s.mirrors (fun t => t.mirrorSend k 0 e)
    let s := ((s.setFld RC_BATCH_NEXT_NUMBER 0 (b.num + 1)).setPrevRoot root).setRc
      { s.rc with batch := none, recs := s.rc.recs ++ [rec_], early := if reason = 0 then s.rc.early else s.now }
    ((s.rcCnt 16 1).engEv 82).when (reason != 0) (fun t => t.rcCnt 13 1)

/-- An early close is due: it is carried out at once when nothing is unresolved and a slot is free, else it waits. A batch closes
for the first of the reasons it has (R346). -/
def State.batchEarly (s : State) (reason : Nat) : State :=
  match s.rc.batch with
  | some b =>
    let c := b.close.getD (reason, (b.leaves.getLast?.map (fun l => l.2.1)).getD b.start)
    if s.rc.placed = [] ∧ (s.jFree ≠ 0 ∨ b.leaves = []) then s.batchClose b c.1 c.2
    else s.setRc { s.rc with batch := some { b with close := some c } }
  | none => s

/-- The tally boundary is reached (R346, R347). -/
def State.tallyBoundary (s : State) : State :=
  match s.rc.batch with
  | some b =>
    if b.close.isSome ∨ s.now < b.bound_ then s
    else if 64 ≤ s.signCount then
      (s.setRc { s.rc with batch := some { b with bound_ := b.bound_ + s.tallyU } }).rcCnt 17 1
    else s.setRc { s.rc with batch := some { b with close := some (0, b.bound_) } }
  | none => s

/-- Whether everything that arrived before `t` has been placed. -/
def State.placedBefore (s : State) (t : Nat) : Bool :=
  (List.range 16).all (fun n => (s.mac n).stored.all (fun f => t ≤ f.stamp) && (s.mac n).rx.all (fun h => t ≤ h.stamp)) &&
    s.ts.queue.all (fun q => q.tag != 2 || t ≤ q.stamp) && s.rc.acc.all (fun r => t ≤ r.rq.stamp)

/-- The close of a closing batch is carried out (R346). A request that arrived before the boundary and is not placed yet is
placed first: the boundary does not shut it out. -/
def State.batchFinish (s : State) : State :=
  match s.rc.batch with
  | some b =>
    match b.close with
    | some c =>
      if s.rc.placed ≠ [] ∨ s.jFree = 0 ∨ s.safe = true ∨ (c.1 = 0 ∧ s.placedBefore c.2 = false) then s
      else s.batchClose b c.1 c.2
    | none => s
  | none => s

/-- Unresolved requests are discarded (R341): the write index moves back, LAST is restored, they are answered BUSY. -/
def State.rcDiscard (s : State) : State :=
  let rs := s.rc.placed ++ s.rc.acc
  let s := match s.rc.placed.head? with
    | some r => s.jSetWrite r.slot
    | none => s
  let gone := s.rc.placed.map (·.slot)
  let b' := s.rc.batch.map (fun b => { b with leaves := b.leaves.take (b.leaves.length - gone.length) })
  let s := s.setRc { s.rc with placed := [], acc := [], batch := b', idx := s.rc.idx.filter (fun x => !gone.contains x.slot) }
  let s := s.twDrop (fun m => m.typ == 1 && !m.fetched && !m.history && gone.contains (beAt m.hdr 0 4))
  let s := rs.reverse.foldl (fun t r => t.setLast r.sub r.prev) s
  rs.foldl State.ackBusy s

/-- Whether the first unresolved entry has gone unconfirmed for RC_MIRROR_TO (R341). -/
def State.mirrorLate (s : State) : Bool :=
  s.rc.placed.any (fun r => r.written && !r.solo && r.at_ + s.fld RC_MIRROR_TO_US 0 * usU ≤ s.ti.elapsed)

/-- The mirror is no longer established; what is left of a join to send goes: the next one sends it all again (R359, R369,
R370). -/
def State.mirrorDown (s : State) : State :=
  let s := (s.clr TW_STATUS_MIRROR 0).twDrop (fun m => m.typ == 3 || m.typ == 5 || m.typ == 6 || m.history)
  s.setTw { s.tw with joining := false, histOut := none }

/-- The mirror timeout (R341). -/
def State.mirrorTimeout (s : State) : State :=
  ((s.rcDiscard.mirrorDown.batchEarly 2).rcCnt 15 1).log RCPT_MIRROR_TIMEOUT .RC

/-- The service stops: reason 4 RECOVERY, 5 DISABLED (R342). -/
def State.rcStop (s : State) (reason : Nat) : State := ((s.rcDiscard.batchEarly reason).set1 RC_STATUS_BUSY 0).rcIdle

/-- EN is set (R349). -/
def State.rcEnable (s : State) : State := (s.set1 RC_CTL_EN 0).setRc { s.rc with fresh := true, early := s.now }

/-- The current receipt-signing generation is invalidated (R249). -/
def State.rcKeyEdge (s : State) : State := if s.batchOpen then s.batchEarly 3 else s

/-! ### Signing, confirmation, release (R348, R349, R29) -/

/-- The slot that signs a record now: CUR, or PREV where CUR was invalidated under the batch; the other generation where only
that one is live; none leaves it unsigned (R249, R342; log entry 118). -/
def State.rootSigner (s : State) (key : Bool) : Option Nat :=
  if s.recovery then none
  else if s.genLive 2 key then some (6 + b2n key)
  else if s.genLive 2 (!key) then some (6 + b2n (!key))
  else none

/-- The record signed. -/
def State.rootSign (s : State) (r : RootRec) : List Nat × State :=
  match s.rootSigner r.key with
  | none => (padTo 256 r.bytes, s)
  | some k =>
    let alg := if s.fld KS_SLOT_STATUS_TYPE k = 6 then 2 else 1
    let b := splice (splice r.bytes 169 [alg]) 172 (toBytesBE 4 (s.kslot k).gen)
    (b ++ toBytesBE 64 (Config.sign (s.kslot k).key b s.free.1), s.free.2)

/-- The oldest record awaiting signature is signed; in pair mode it goes to the partner, else it is released. -/
def State.batchSigned (s : State) : State :=
  match s.rc.recs.find? (fun r => r.stage == 0) with
  | none => s
  | some r =>
    let g := s.rootSign r
    let pair := s.pairMode
    let s := g.2.setRc { s.rc with recs := s.rc.recs.map (fun x =>
      if x.num = r.num then { x with bytes := g.1, stage := if pair then 1 else 2 } else x) }
    ((s.engEv 125).when pair (fun t => t.twSend 3 (toBytesBE 8 r.num) g.1)).rcIdle

/-- The partner confirms every slot before `k` and every record up to number `num` (R367, R368, R340 step 4). -/
def State.rcConfirm (s : State) (k num : Nat) : State :=
  let before := fun (x : Nat) => decide (s.jPos x < s.jPos k)
  let ok := s.rc.placed.takeWhile (fun r => r.written && before r.slot)
  let s := s.setRc { s.rc with placed := s.rc.placed.drop ok.length, recs := s.rc.recs.map (fun x =>
    if x.stage = 1 ∧ x.num ≤ num then { x with stage := 2 } else x) }
  let n := (s.tw.out.filter (fun m => m.typ == 1 && m.confirmable && m.at_.isSome && before (beAt m.hdr 0 4))).length
  let s := s.twDrop (fun m => m.at_.isSome && ((m.typ == 1 && m.confirmable && before (beAt m.hdr 0 4)) ||
    (m.typ == 3 && decide (beAt m.hdr 0 8 ≤ num)) || m.typ == 6 || (m.typ == 5 && decide (beAt m.hdr 0 4 = k ∨ before (beAt m.hdr 0 4)))))
  let s := (List.range n).foldl (fun t _ => (t.twCnt 4 1).engEv 83) s
  (ok.foldl State.ackLeaf s).rcIdle

/-! ### Archive streaming (R351, R352) -/

/-- The free archive buffer: its index; none while Bus Master Enable is clear (R417). A descriptor that fails its checks stops the
ring. -/
def State.archBuffer (s : State) : State × Option Nat :=
  let b := 16 + s.fld RC_CTL_FREE_RING 0
  let k := (s.ring b).fetch
  if s.ringWaiting b = false ∨ s.fld RG_CTL_CONSUMER b ≠ 3 ∨ s.flag PE_STATUS_BME_PF0 0 = false then (s, none)
  else if s.descFails b k 0x12 0x12 ≠ 0 then (s.ringStop b (s.descFails b k 0x12 0x12), none)
  else if bits (s.descRead b k) 0 16 < 256 then (s, none)
  else (s, some k)

/-- Bytes written into the archive buffer `k`, and the descriptor of a span or a record put on ring 50. -/
def State.archWrite (s : State) (k typ flags : Nat) (bytes : List Nat) (end_ maxB num : Nat) : State :=
  let b := 16 + s.fld RC_CTL_FREE_RING 0
  let d := s.descRead b k
  let w := wncOf end_
  let s := { s with hostMem := memPutBytes s.hostMem (bits d 64 64) bytes }
  let s := ((s.ringTake b).descDone b k d).engEv 127
  (s.ringOffer 50 typ flags bytes.length (bits d 64 32) (bits d 96 32) (w / 2 ^ 16) (w % 2 ^ 16 * 2 ^ 16) maxB num).1

/-- An entry as it is streamed: zeros when it is lost. -/
def State.archEntry (s : State) (k : Nat) : List Nat := if s.rc.lost.contains k then List.replicate 64 0 else s.jGet k

/-- One step of streaming: the next span of the oldest closed batch, or its root record once R29 is met. -/
def State.archive (s : State) : State :=
  match s.rc.recs with
  | [] => s
  | r :: rs =>
    if (s.role = 2 ∧ s.tw.oweHand = false ∧ s.flag TW_STATUS_JOIN_WAIT 0 = false) ∨ (r.pos = r.len ∧ r.stage = 0) ∨ (r.pos = r.len ∧ r.stage = 1 ∧ s.pairMode = true) then s
    else
      let p := s.archBuffer
      match p.2 with
      | none => p.1.set1 RC_STATUS_ARCH_WAIT 0
      | some k =>
        if p.1.ringRoom 50 = false then p.1.set1 RC_STATUS_ARCH_WAIT 0
        else
          let s := p.1.clr RC_STATUS_ARCH_WAIT 0
          if r.pos = r.len then
            let s := s.archWrite k 0x10 1 r.bytes r.end_ r.maxB r.num
            (s.setRc { s.rc with recs := rs, arch := s.rc.arch ++ [r] }).rcIdle
          else
            let n := min (bits (s.descRead (16 + s.fld RC_CTL_FREE_RING 0) k) 0 16 / 64) (r.len - r.pos)
            let ks := (List.range n).map (fun i => (r.slot + r.pos + i) % s.jSize)
            match ks.find? (fun i => s.jBad i && !s.rc.lost.contains i) with
            | some i => if s.pairMode then s.fetchStart i else s.slotLost i
            | none =>
              let s := s.archWrite k 0x11 (b2n (r.pos + n == r.len) + 2 * b2n (ks.any (fun i => s.rc.lost.contains i)))
                (ks.flatMap s.archEntry) r.end_ 0 r.num
              s.setRc { s.rc with recs := { r with pos := r.pos + n } :: rs }

/-- The host writes RC_JRN_RELEASE (R350). -/
def State.rcRelease (s : State) (v : Nat) : State :=
  if s.jPos v ≤ s.jPos (s.fld RC_JRN_ARCHIVED_INDEX 0) ∧ v < s.jSize then
    let t := s.setFld RC_JRN_RELEASE_INDEX 0 v
    t.setRc { t.rc with idx := t.rc.idx.filter (fun x => t.jHeld x.slot), lost := t.rc.lost.filter (fun k => t.jHeld k) }
  else s.log CFG_RANGE .RC

/-! ### Taking over (R375) -/

/-- What a walk over the journal has found of the batch it is in: number, START, OPEN slot, leaves latest first. -/
structure Walk where
  num    : Nat
  start  : Nat
  slot   : Nat
  leaves : List (Nat × Nat × Nat × Bool)

/-- The previous root recorded with a batch that the partner opened. -/
def State.prevOf (s : State) (num : Nat) : Nat := ((s.tw.owners.find? (fun o => o.1 == num)).map (fun o => o.2.2)).getD s.prevRoot

/-- A record rebuilt from a batch's entries, to be signed by this engine, or the record held of it. -/
def State.rebuilt (s : State) (w : Walk) (reason end_ : Nat) : RootRec :=
  let ls := w.leaves.reverse
  let maxB := ls.foldl (fun m l => max m l.2.2.1) 0
  let n := ls.length
  let base : RootRec := {
    num := w.num, bytes := [], stage := 0, slot := w.slot, len := n + 2, pos := 0, end_ := end_, maxB := maxB, key := reason == 3 }
  match s.tw.recs.find? (fun r => r.1 == w.num) with
  | some r => { base with bytes := r.2, stage := 2 }
  | none =>
    let flags := b2n (ls.any (fun l => l.2.2.2)) + 2 + 8 * b2n (reason == 3)
    { base with bytes := s.rootBody w.num w.start end_ n maxB (batchRoot (ls.map (·.1))) (s.prevOf w.num) reason flags }

/-- The walk from slot `k` over `n` slots: every closed batch gives its record; the batch left open is returned. -/
def State.walk (s : State) (w : Option Walk) (k : Nat) : Nat → State × Option Walk
  | 0 => (s, w)
  | n + 1 =>
    let e := s.jGet k
    let kind := e.getD 0 0 % 4
    if kind = 2 then s.walk (some { num := beAt e 4 8, start := time96At e 12, slot := k, leaves := [] }) ((k + 1) % s.jSize) n
    else
      match w with
      | none => s.walk none ((k + 1) % s.jSize) n
      | some w =>
        if kind = 1 then
          let l := (leafHash (e.drop 4), time96At e 48, beAt e 60 4, bitOf (e.getD 0 0) 2)
          s.walk (some { w with leaves := l :: w.leaves }) ((k + 1) % s.jSize) n
        else
          (s.setRc { s.rc with recs := s.rc.recs ++ [s.rebuilt w (e.getD 1 0) (time96At e 48)] }).walk none ((k + 1) % s.jSize) n

/-- A new active engine completes the batches it holds (R375): one left open closes with reason MIRROR. -/
def State.rcTakeover (s : State) : State :=
  let a := s.fld RC_JRN_ARCHIVED_INDEX 0 % s.jSize
  let p := (s.setRc { s.rc with recs := [], batch := none, placed := [], acc := [] }).walk none a (s.jPos s.jWriteIx - s.jPos a)
  match p.2 with
  | none => p.1
  | some w =>
    let b : Batch := {
      num := w.num, start := w.start, bound_ := 0, slot := w.slot, leaves := w.leaves.reverse, chain := false, close := none }
    (p.1.setRc { p.1.rc with batch := some b }).batchEarly 2

end Sys2Proof.Machine
end

