-- ==== Sys2Proof/Machine/Twin.lean ====
section
/-! DEFINITION. Twin operation (R353 to R386) as operations: roles, breath and lease, WITNESS, the mirror and joining, grant
epochs, promotion, demotion, comparison, arbitration, swaps. -/

namespace Sys2Proof.Machine

/-! ### Seniority, silence (R354, R361) -/

/-- Whether the engine is senior (R354). -/
def State.isSenior (s : State) : Bool :=
  match s.tw.partner with
  | none => s.tw.senior
  | some p => if p = s.tw.senior then decide (Config.unitId < s.fld TW_PARTNER_ID_ID 0) else s.tw.senior

/-- TW_STATUS.SENIOR follows. -/
def State.seniorShow (s : State) : State := s.setFld TW_STATUS_SENIOR 0 (b2n s.isSenior)

def State.silenceU (s : State) : Nat := s.fld TW_LEASE_SILENCE_US 0 * usU
def State.leaseU (s : State) : Nat := s.fld TW_LEASE_LEASE_US 0 * usU

/-- Whether a breath, or a pulse of a working WITNESS, came within SILENCE_US. -/
def State.breathAlive (s : State) : Bool :=
  match s.tw.peer with
  | some p => s.ti.elapsed ≤ p.2 + s.silenceU
  | none => false
def State.pulseAlive (s : State) : Bool :=
  match s.tw.pulse with
  | some p => !s.tw.witBad && s.ti.elapsed ≤ p.1 + s.silenceU
  | none => false

/-- The partner is silent. -/
def State.silent (s : State) : Bool := !s.breathAlive && !s.pulseAlive

/-! ### Roles (R355, R356) -/

/-- A role entered. -/
def State.setRole (s : State) (r : Nat) : State :=
  if s.role = r then s
  else
    let s := (s.setFld TW_STATUS_ROLE 0 r).set1 TW_EVENT_ROLE_CHG 0
    s.setTw { s.tw with guard_ := false, fails := (0, 0, 0), formed := s.ti.elapsed }

/-- What an engine that is no longer active, or no longer a member, gives up. -/
def State.leaseDrop (s : State) : State := (s.clr TW_STATUS_LEASE 0).setTw { s.tw with lease := none }

/-- INIT, on entry to SERVICE with EN set. -/
def State.twInit (s : State) : State :=
  let s := (s.setRole 1).mirrorDown.leaseDrop
  s.setTw { s.tw with initAt := s.ti.elapsed, peer := none, pulse := none, senPulse := none, lostTold := false, linkTold := false,
                      dual := false, out := [], inbox := [], brIn := [], brOut := [], propose := none, swapAt := none,
                      waitHand := false, oweHand := false }

/-- NONE: outside SERVICE, or EN is 0. -/
def State.twNone (s : State) : State :=
  let s := ((s.setRole 0).mirrorDown.leaseDrop).clr TW_STATUS_BUSY 0
  s.setTw { s.tw with demote := none, out := [], propose := none, swapAt := none, waitHand := false, oweHand := false }

/-- A new grant epoch begins (R371). -/
def State.epochBegin (s : State) : State := s.setTw { s.tw with gather := [], epochAt := s.ti.elapsed }

/-- STANDBY. -/
def State.twStandby (s : State) : State := (s.setRole 2).mirrorDown.leaseDrop

/-- ACTIVE, serving from tick `t`; the next swap is scheduled (R385). -/
def State.twActive (s : State) (t : Nat) : State :=
  let s := ((s.setRole 3).leaseDrop).epochBegin
  s.setTw { s.tw with serve := t, lostTold := false }
def State.swapNext (s : State) : State := s.setFld TW_SWAP_NEXT_SEC 0 (secOf s.now + s.fld TW_SWAP_CFG_PERIOD_MIN 0 * 60)

/-! ### Announcements (R305) -/

/-- TS_ANNOUNCE: GO with REPEAT. -/
def State.announceGo (s : State) (rep : Nat) : State :=
  s.setTs { s.ts with rounds := max 1 rep, roundAt := s.ti.elapsed }

/-! ### The client table at a promotion and at an epoch (R371, R374) -/

/-- The GRANT entries: an entry that memory does not list is EMPTY. -/
def State.ctGrants (s : State) : List Nat :=
  let b := s.fld TS_CT_BASE_ADDR 0
  (s.mem.filter (fun c => b ≤ c.1 && c.1 < b + 2 ^ s.fld TS_CT_CFG_SETS_LOG2 0 * 512 && (c.1 - b) % 64 == 0 && c.2.toNat == 2)).map
    (fun c => c.1)

/-- The unicast schedule of a grant entry starts now. -/
def State.dueStart (s : State) (a : Nat) : State :=
  [0, 1].foldl (fun t k =>
    let e := t.ctGet a
    if t.grantLive e (1 - k) then t.dueSet a k (some (t.ti.elapsed + logU (signed 8 (e.getD (43 - k) 0)))) else t) s

/-- Both sequence fields of a GRANT entry rise by 256 (R374). -/
def State.seqJump (s : State) (a : Nat) : State :=
  let e := s.ctGet a
  let up := fun (off : Nat) => toBytes 2 (ofBytes ((e.drop off).take 2) + 256)
  (s.ctPut a (splice (splice e 60 (up 60)) 62 (up 62))).dueStart a

/-- The entry that holds the grant of an entry's key (R320). -/
def State.grantKeyAt (s : State) (e : List Nat) : Option Nat :=
  let id := (e.drop 32).take 8 ++ toBytesBE 2 (ofBytes ((e.drop 40).take 2))
  ((List.range 8).map (fun i => s.ctAddr (s.ctSet ((e.drop 8).take 16 ++ id)) i)).find? (fun a =>
    let x := s.ctGet a
    x.getD 0 0 == 2 && x.getD 3 0 % 4 == e.getD 3 0 % 4 && (x.drop 8).take 16 == (e.drop 8).take 16 &&
      (x.drop 32).take 10 == (e.drop 32).take 10)

/-- One entry of an epoch applied by key: it replaces, joins or leaves the table. -/
def State.grantApply (s : State) (e : List Nat) : State :=
  let id := (e.drop 32).take 8 ++ toBytesBE 2 (ofBytes ((e.drop 40).take 2))
  let gone := e.getD 42 0 == 0x7F && e.getD 43 0 == 0x7F && e.getD 44 0 == 0x7F
  match s.grantKeyAt e with
  | some a =>
    if gone then (s.ctPut a []).setFld TS_CT_GRANTS_COUNT 0 (s.fld TS_CT_GRANTS_COUNT 0 - 1) else s.ctPut a e
  | none =>
    if gone then s
    else
      match s.ctPlace (s.ctSet ((e.drop 8).take 16 ++ id)) with
      | some a => (s.ctPut a e).setFld TS_CT_GRANTS_COUNT 0 (s.fld TS_CT_GRANTS_COUNT 0 + 1)
      | none => s.set1 TS_STATUS_CT_FULL 0

/-! ### Promotion and demotion (R373 to R377) -/

/-- The promotion of a standby (R374). SERVING sets on the next tick. An engine that failed its self-check stays (R377). -/
def State.promote (s : State) : State :=
  if s.role ≠ 2 ∨ s.flag TW_STATUS_SELF_FAIL 0 = true then s
  else
    let quiet := s.silent
    let s := (s.twActive (s.ti.ticks + 1)).mirrorDown
    let s := s.ctGrants.foldl State.seqJump s
    let s := ((s.announceGo (s.fld TW_SWAP_CFG_ANN_REPEAT 0)).rcTakeover).swapNext
    (s.when (quiet && s.flag TW_CTL_SOLO_ON_LOSS 0) (fun t => t.set1 RC_CTL_SOLO 0)).twCnt 8 1

/-- The demotion of an active engine starts (R377): for a failed check, for arbitration. -/
def State.demoteStart (s : State) (fail unfit : Bool) : State :=
  if s.role ≠ 3 then s
  else
    let s := ((s.setRole 4).leaseDrop).rcDiscard.mirrorDown
    (s.setTw { s.tw with demote := some (s.ti.elapsed, fail, unfit), propose := none, swapAt := none }).twCnt 9 1

/-- The demotion is complete 150 us after detection. The partner completes the batch that is open (R375), but for an engine
that keeps its own journal (R380). -/
def State.demoteEnd (s : State) : State :=
  match s.tw.demote with
  | some d =>
    if s.role ≠ 4 ∨ s.ti.elapsed < d.1 + 150 * usU then s
    else
      let s := s.setTw { s.tw with demote := none }
      let s := if s.flag TW_STATUS_JOIN_WAIT 0 then s else s.setRc { s.rc with batch := none }
      let s := if s.flag TW_CTL_EN 0 then s.twStandby else s.twNone
      let s := s.when d.2.1 (fun t => (t.set1 TW_STATUS_SELF_FAIL 0).log TWIN_SELF_FAIL .TW)
      s.when d.2.2 (fun t => t.set1 TW_STATUS_UNFIT 0)
  | none => s

/-- Both engines are ACTIVE (R380): the junior demotes, keeps its journal and waits for the host. -/
def State.dualActive (s : State) : State :=
  if s.tw.dual then s
  else
    let s := (((s.set1 TW_EVENT_DUAL 0).log TWIN_DUAL_ACTIVE .TW).twCnt 13 1).setTw { s.tw with dual := true }
    if s.isSenior then s else ((s.demoteStart false false).batchEarly 2).set1 TW_STATUS_JOIN_WAIT 0

/-- JOIN_WAIT ends once the host has released the whole journal (R380). -/
def State.joinWaitEnd (s : State) : State :=
  if s.flag TW_STATUS_JOIN_WAIT 0 = true ∧ s.tw.misfit = false ∧ s.jRel = s.jWriteIx then s.clr TW_STATUS_JOIN_WAIT 0 else s

/-- The partner is seen ACTIVE, by a breath or a 2 us pulse. -/
def State.seeActive (s : State) : State :=
  if s.role = 1 then s.twStandby
  else if s.role = 3 then s.dualActive
  else s

/-! ### Breath (R357 to R360) -/

/-- Whether a standby grants the lease now (R360). -/
def State.grants (s : State) : Bool :=
  match s.tw.peer with
  | some p => s.role == 2 && bits p.1 14 2 == 2 && decide (s.ti.elapsed ≤ p.2 + s.leaseU)
  | none => false

/-- The BODY of the next breath (R357). -/
def State.breathBody (s : State) : Nat :=
  let st := fun (f : Fld) (i : Nat) => b2n (s.flag f 0) * 2 ^ i
  let lease := if s.role = 3 then s.flag TW_STATUS_LEASE 0 else s.grants
  s.tw.seq * 2 ^ 22 + (match s.tw.peer with | some p => bits p.1 22 6 | none => 0) * 2 ^ 16 + (s.role - 1) * 2 ^ 14 +
    b2n lease * 2 ^ 13 + b2n s.mirrorUp * 2 ^ 12 + st TW_STATUS_HISTORY_PARTIAL 11 + st TW_STATUS_UNFIT 10 +
    st TW_STATUS_DISAGREE 9 + st TW_STATUS_JOIN_WAIT 8 + b2n s.tw.resync * 2 ^ 7

/-- Whether engine time passes a multiple of 10 us, plus `off` us, on the present tick. -/
def State.tenUs (s : State) (off : Nat) : Bool :=
  decide ((10 * usU - (s.now + (10 - off) * usU) % (10 * usU)) % (10 * usU) < s.applied)

/-- A breath is formed where engine time's nanoseconds reach a multiple of 10,000, once (R358). -/
def State.breathTx (s : State) : State :=
  if s.role = 0 ∨ s.tenUs 0 = false ∨ s.tw.brTick = some s.ti.ticks then s
  else
    let b := s.breathBody
    let lanes := (List.range 2).filter (fun n => s.twLane n)
    let s := s.setTw { s.tw with seq := (s.tw.seq + 1) % 64, formed := s.ti.elapsed, brTick := some s.ti.ticks, brOut := lanes.map (fun n => (n, b)),
                                 brSent := s.tw.brSent.filter (fun x => x.1 != s.tw.seq) }
    (s.twCnt 0 1).engEv 84

/-- A lane sends its breath at transmit time `t` (elapsed): the first lane's time counts (R359). -/
def State.breathSent (s : State) (n b t : Nat) : State :=
  let q := bits b 22 6
  s.setTw { s.tw with
    brOut := s.tw.brOut.filter (fun x => x.1 != n),
    brSent := if s.tw.brSent.any (fun x => x.1 == q) then s.tw.brSent else (q, t) :: s.tw.brSent }

/-- The lease that a standby's breath gives (R359). -/
def State.leaseTake (s : State) (b : Nat) : State :=
  match s.tw.brSent.find? (fun x => x.1 == bits b 16 6) with
  | some x =>
    if s.role = 3 ∧ bitOf b 13 = true ∧ s.ti.elapsed ≤ x.2 + s.leaseU then
      (s.set1 TW_STATUS_LEASE 0).setTw { s.tw with lease := some (max (s.tw.lease.getD 0) (x.2 + s.leaseU)) }
    else s
  | none => s

/-- The lease runs out (R359, R369). -/
def State.leaseExpire (s : State) : State :=
  match s.tw.lease with
  | some t => if t ≤ s.ti.elapsed then s.leaseDrop.when (s.role == 3) State.mirrorDown else s
  | none => s

/-- The active end of a join begins (R370 steps 1 and 3). -/
def State.joinStart (s : State) : State :=
  let jw := s.jWriteIx
  let s := s.twSend 5 (toBytesBE 4 jw ++ toBytesBE 4 s.jRel ++ [s.fld RC_JRN_CFG_LOG 0])
    (toBytesBE 8 (s.fld RC_BATCH_NEXT_NUMBER 0) ++ toBytesBE 4 (s.fld RC_TALLY_US 0) ++
      toBytesBE 4 (s.fld RC_JRN_ARCHIVED_INDEX 0) ++ toBytes 32 (s.fld RC_PREV_ROOT_ROOT 0))
  let s := s.rc.subs.foldl (fun t x =>
    match x.2 with
    | some y => t.twSend 6 (toBytesBE 4 y.id ++ toBytesBE 8 y.last) []
    | none => t) s
  let s := ((s.rc.arch ++ s.rc.recs).filter (fun r => r.stage != 0)).foldl (fun t r => t.twSend 3 (toBytesBE 8 r.num) r.bytes) s
  s.setTw { s.tw with joining := true, histOut := if s.jRel = jw then none else some (s.jRel, jw) }

/-- A join is due (R370): a STANDBY breath with MIRROR and JOIN_WAIT clear, and the lease held. A partner that shows MIRROR
clear in answer to a breath sent after MIRROR was set has lost it; one that shows JOIN_WAIT has ended the join (step 1). -/
def State.joinCheck (s : State) (b : Nat) : State :=
  if s.role = 3 ∧ s.tw.joining = true ∧ bitOf b 8 = true then s.mirrorDown else
  let told := match s.tw.brSent.find? (fun x => x.1 == bits b 16 6) with
    | some x => decide (s.tw.mirAt < x.2)
    | none => false
  if s.role = 3 ∧ bitOf b 12 = false ∧ bitOf b 8 = false ∧ s.flag TW_STATUS_LEASE 0 = true ∧ s.tw.waitHand = false ∧
      s.tw.joining = false ∧ (s.flag TW_STATUS_MIRROR 0 = false ∨ told = true) then
    s.mirrorDown.joinStart
  else s

/-- RESYNC (R371): every GRANT entry goes out as the next epoch, once for each request. -/
def State.resyncAnswer (s : State) (b : Nat) : State :=
  if bitOf b 7 = false then s.setTw { s.tw with resyncTold := false }
  else if s.role ≠ 3 ∨ s.tw.resyncTold = true then s
  else
    let s := s.ctGrants.foldl (fun t a => t.grantNote (t.ctGet a)) s
    s.setTw { s.tw with resyncTold := true }

/-- A partner breath (R356, R357, R359, R370, R373, R380). -/
def State.breathRx (s : State) : State :=
  match s.tw.brIn with
  | [] => s
  | x :: xs =>
    let s := s.setTw { s.tw with brIn := xs }
    let b := x.2.1
    let copy := match s.tw.peer with | some p => bits p.1 22 6 == bits b 22 6 | none => false
    if copy = true ∨ s.role = 0 then s
    else
      let s := ((s.twCnt 1 1).engEv 85).clr TW_STATUS_LINK_LOST 0
      let s := s.setTw { s.tw with peer := some (b, x.2.2), lostTold := false, linkTold := false,
                                   dual := s.tw.dual && bits b 14 2 == 2 }
      let r := bits b 14 2 + 1
      if r = 3 then
        let s := s.seeActive
        if s.role = 2 ∧ bitOf b 12 = false then s.clr TW_STATUS_MIRROR 0
        else if s.role = 2 ∧ s.tw.waitHand = false then s.set1 TW_STATUS_MIRROR 0
        else s
      else if r = 4 then (if s.role = 2 then s.promote else s)
      else if r = 1 then (if s.role = 1 ∧ s.isSenior = true then s.twActive s.ti.ticks else s)
      else if s.role = 3 then ((s.leaseTake b).joinCheck b).resyncAnswer b
      else s

/-! ### WITNESS (R361, R362) -/

/-- The engine's slot on WITNESS begins on the present tick (R361): the senior's at the multiples of 10 us; the junior's 5 us
after the latest senior pulse, or at the multiples plus 5 us once none has come for 15 us. -/
def State.witnessSlot (s : State) : Bool :=
  if s.isSenior then s.tenUs 0
  else
    match s.tw.senPulse with
    | some t =>
      if s.ti.elapsed ≤ t + 15 * usU then decide (s.ti.elapsed ≤ t + 5 * usU ∧ t + 5 * usU < s.ti.elapsed + s.applied)
      else s.tenUs 5
    | none => s.tenUs 5

/-- A pulse on WITNESS in the engine's own slot: 1 us in INIT and STANDBY, 2 us in ACTIVE. -/
def State.witnessPulse (s : State) : State :=
  if s.witnessSlot = false then s
  else if s.role = 1 ∨ s.role = 2 then s.emit (.witness 1) else if s.role = 3 then s.emit (.witness 2) else s

/-- A low interval of `ns` ns that the engine did not drive. -/
def State.witnessSeen (s : State) (ns : Nat) : State :=
  if s.role = 0 then s
  else if s.tw.witBad then
    let k := if 500 ≤ ns ∧ ns ≤ 5000 then s.tw.witGood + 1 else 0
    s.setTw { s.tw with witGood := if k ≥ 16 then 0 else k, witBad := decide (k < 16) }
  else if ns < 500 then s
  else
    let at_ := s.ti.elapsed - ns * nsU
    let s := s.setTw { s.tw with pulse := some (at_, decide (1500 ≤ ns)), lostTold := false,
                                 senPulse := if s.isSenior then s.tw.senPulse else some at_,
                                 dual := s.tw.dual && (1500 ≤ ns || s.breathAlive) }
    if 1500 ≤ ns then s.seeActive else s

/-- WITNESS fails (R362). -/
def State.witnessBad (s : State) : State :=
  if s.tw.witBad then s.setTw { s.tw with witGood := 0 }
  else (s.setTw { s.tw with witBad := true, witGood := 0 }).log TWIN_WITNESS_FAULT .TW

/-- The twin link is lost while WITNESS shows the partner (R378). -/
def State.linkCheck (s : State) : State :=
  if s.role ≠ 0 ∧ s.role ≠ 1 ∧ s.tw.linkTold = false ∧ s.pulseAlive = true ∧ (s.twUp = false ∨ s.breathAlive = false) then
    let s := ((s.set1 TW_STATUS_LINK_LOST 0).log TWIN_LINK_LOST .TW).mirrorDown
    s.setTw { s.tw with linkTold := true }
  else s

/-- The partner is silent (R356, R373, R379). -/
def State.partnerSilent (s : State) : State :=
  if s.silent = false then s.linkCheck
  else if s.role = 1 then (if s.tw.initAt + s.silenceU ≤ s.ti.elapsed then s.twActive s.ti.ticks else s)
  else if s.role = 2 then s.promote
  else if s.role = 3 ∧ s.tw.lostTold = false then
    let s := ((s.set1 TW_EVENT_PARTNER_LOST 0).log TWIN_PARTNER_LOST .TW).mirrorDown
    (s.setTw { s.tw with lostTold := true }).when (s.flag TW_CTL_SOLO_ON_LOSS 0) (fun t => t.set1 RC_CTL_SOLO 0)
  else s

/-! ### The mirror at the standby (R367 to R370) -/

/-- A CONFIRM replaces the one that waits (R364): the first slot not written, and the batch number of the latest record held.
The spec names no value for a standby that holds no record yet: it is free (log entry 109). -/
def State.confirmSend (s : State) : State :=
  let s := s.twDrop (fun m => m.typ == 2)
  match s.tw.recs.head? with
  | some r => s.twSend 2 (toBytesBE 4 s.jWriteIx ++ toBytesBE 8 r.1) []
  | none => s.free.2.twSend 2 (toBytesBE 4 s.jWriteIx ++ toBytes 8 s.free.1) []

/-- The batch that the entry in slot `k` belongs to and the unit that accepted it (R367). -/
def State.slotBatch (s : State) (k idx : Nat) : Nat × Nat :=
  let e := s.jGet ((k + 2 * s.jSize - idx - 1) % s.jSize)
  let num := if e.getD 0 0 % 4 = 2 then beAt e 4 8 else 0
  (num, ((s.tw.owners.find? (fun o => o.1 == num)).map (fun o => o.2.1)).getD (s.fld TW_PARTNER_ID_ID 0))

/-- What a mirrored entry updates: LEAF the duplicate index and LAST, OPEN the unit beside the batch, CLOSE the chain. -/
def State.mirrorNote (s : State) (k : Nat) (live : Bool) : State :=
  let e := s.jGet k
  let kind := e.getD 0 0 % 4
  if kind = 1 then
    let b := s.slotBatch k (beAt e 1 3)
    let sub := beAt e 4 4
    let seq := beAt e 8 8
    let s := s.setRc { s.rc with idx := s.rc.idx.filter (fun x => x.slot != k) ++
      [{ sub := sub, seq := seq, slot := k, batch := b.1, unit_ := b.2 }] }
    match s.subOf sub with
    | some x => if x.last < seq then s.setLast sub seq else s
    | none => s
  else if kind = 2 then
    s.setTw { s.tw with owners := (beAt e 4 8, s.fld TW_PARTNER_ID_ID 0, s.prevRoot) :: s.tw.owners.take 63 }
  else if kind = 3 ∧ live = true then (s.setFld RC_BATCH_NEXT_NUMBER 0 (beAt e 4 8 + 1)).setPrevRoot (beAt e 16 32)
  else s

/-- CONFIRMED advances over the slots written (R367). -/
def State.confirmRun (s : State) : Nat → State
  | 0 => s
  | n + 1 =>
    let k := s.jWriteIx
    if s.tw.ahead.contains k then
      let s := s.setTw { s.tw with ahead := s.tw.ahead.filter (fun x => x != k) }
      ((s.mirrorNote k true).jSetWrite (k + 1)).confirmRun n
    else s

/-- A live MIRROR message. -/
def State.mirrorLive (s : State) (k arch : Nat) (e : List Nat) : State :=
  let d := (k + 2 * s.jSize - s.jWriteIx) % s.jSize
  let s := (s.setFld RC_JRN_ARCHIVED_INDEX 0 arch).setFld RC_JRN_RELEASE_INDEX 0 arch
  if s.jSize / 2 ≤ d ∨ s.tw.ahead.contains k = true then s.confirmSend
  else
    let s := (s.jPut k e).setTw { s.tw with ahead := k :: s.tw.ahead }
    (s.confirmRun (s.tw.ahead.length)).confirmSend

/-- A HISTORY entry (R370 step 5). -/
def State.mirrorHist (s : State) (k : Nat) (e : List Nat) : State :=
  match s.tw.histIn with
  | some h =>
    let s := (s.jPut k e).mirrorNote k false
    if k = h.1 then
      if (k + 1) % s.jSize = h.2 then (s.setTw { s.tw with histIn := none }).clr TW_STATUS_HISTORY_PARTIAL 0
      else s.setTw { s.tw with histIn := some ((k + 1) % s.jSize, h.2) }
    else s
  | none => s

/-- An entry fetched from the partner (R351, R369). -/
def State.mirrorFetched (s : State) (k : Nat) (e : List Nat) : State :=
  match s.rc.fetch with
  | some f =>
    if f.1 = k then
      (((s.jPut k e).setRc { s.rc with fetch := none }).twDrop (fun m => m.typ == 4)).rcCnt 18 1
    else s
  | none => s

/-- A MIRROR message. -/
def State.mirrorRx (s : State) : State :=
  match s.twNext 1 with
  | some (hdr, body, s) =>
    let k := beAt hdr 0 4 % s.jSize
    if bitOf (hdr.getD 8 0) 0 then s.mirrorFetched k body
    else if s.grants = false then s
    else if bitOf (hdr.getD 8 0) 1 then s.mirrorHist k body
    else s.mirrorLive k (beAt hdr 4 4) body
  | none => s

/-- A RECORD message: the 64 latest are kept (R368). -/
def State.recordRx (s : State) : State :=
  match s.twNext 3 with
  | some (hdr, body, s) =>
    if s.grants = false then s
    else
      let num := beAt hdr 0 8
      (s.setTw { s.tw with recs := ((num, body) :: s.tw.recs.filter (fun r => r.1 != num)).take 64 }).confirmSend
  | none => s

/-- A FETCH is answered when the slot is held (R369). -/
def State.fetchRx (s : State) : State :=
  match s.twNext 4 with
  | some (hdr, _, s) =>
    let k := beAt hdr 0 4
    if s.jHeld k = true ∧ s.jBad k = false then s.mirrorSend k 1 (s.jGet k) else s
  | none => s

/-- A JOIN message at the standby (R370, R34). -/
def State.joinRx (s : State) : State :=
  match s.twNext 5 with
  | some (hdr, body, s) =>
    if s.grants = false then s
    else if hdr.getD 8 0 ≠ s.fld RC_JRN_CFG_LOG 0 ∨ beAt body 8 4 ≠ s.fld RC_TALLY_US 0 then
      ((s.set1 TW_STATUS_JOIN_WAIT 0).log TWIN_CFG_MISMATCH .TW).setTw { s.tw with misfit := true }
    else
      let w := beAt hdr 0 4
      let rel := beAt hdr 4 4
      let s := (((s.jSetWrite w).setFld RC_JRN_RELEASE_INDEX 0 rel).setFld RC_JRN_ARCHIVED_INDEX 0 (beAt body 12 4)).setFld
        RC_BATCH_NEXT_NUMBER 0 (beAt body 0 8)
      let s := (s.setFld RC_PREV_ROOT_ROOT 0 (ofBytes ((body.drop 16).take 32))).setRc
        { s.rc with acc := [], placed := [], idx := [], batch := none, recs := [], lost := [], fetch := none }
      let s := s.setTw { s.tw with recs := [], owners := [], ahead := [], histIn := if rel = w then none else some (rel, w) }
      (s.setFld TW_STATUS_HISTORY_PARTIAL 0 (b2n (rel != w))).confirmSend
  | none => s

/-- A SUBLAST message sets a submitter's LAST (R370). -/
def State.sublastRx (s : State) : State :=
  match s.twNext 6 with
  | some (hdr, _, s) => if s.grants then (s.setLast (beAt hdr 0 4) (beAt hdr 4 8)).confirmSend else s
  | none => s

/-- The old active engine hands over once its last record is held (R386 step 4). -/
def State.handSend (s : State) : State :=
  if s.tw.oweHand = true ∧ s.rc.placed = [] ∧ s.rc.acc = [] ∧ s.rc.batch.isNone = true ∧ s.rc.recs.all (fun r => r.stage == 2) = true then
    let s := s.twSend 11 (toBytesBE 4 s.jWriteIx ++ toBytesBE 8 (s.fld RC_BATCH_NEXT_NUMBER 0)) []
    let s := s.setTw { s.tw with oweHand := false, swapAt := none, recs := (s.rc.recs.reverse.map (fun r => (r.num, r.bytes))).take 64 }
    ((s.setRc { s.rc with recs := [] }).twCnt 10 1).set1 TW_EVENT_SWAP_DONE 0
  else s

/-- A CONFIRM message at the active engine (R367, R368, R370 step 4). -/
def State.confirmRx (s : State) : State :=
  match s.twNext 2 with
  | some (hdr, _, s) =>
    if (s.role = 3 ∧ s.flag TW_STATUS_LEASE 0 = true) ∨ s.tw.oweHand = true then
      let s := s.rcConfirm (beAt hdr 0 4) (beAt hdr 4 8)
      let s :=
        if s.tw.joining = true ∧ s.tw.out.any (fun m => m.typ == 3 || m.typ == 5 || m.typ == 6) = false then
          (s.set1 TW_STATUS_MIRROR 0).setTw { s.tw with joining := false, mirAt := s.ti.elapsed }
        else s
      s.handSend
    else s
  | none => s

/-! ### Grant epochs (R371) -/

/-- A staged epoch that is complete is applied on one tick. -/
def State.epochTry (s : State) (ep : Nat) : State :=
  match s.tw.ends.find? (fun x => x.1 == ep) with
  | none => s
  | some x =>
    let n := x.2.1
    let es := (List.range n).map (fun i => ((s.tw.stage.find? (fun m => m.1 == ep && m.2.1 == i)).map (fun m => m.2.2)))
    if es.all (·.isSome) = true ∧ crc32c (es.flatMap (fun e => e.getD [])) = x.2.2.1 then
      let s := es.foldl (fun t e => t.grantApply (e.getD [])) s
      let s := s.setTw { s.tw with stage := s.tw.stage.filter (fun m => m.1 != ep), ends := s.tw.ends.filter (fun m => m.1 != ep),
                                   applied := some s.ti.elapsed, resync := false }
      (s.setFld TW_EPOCH_STATUS_APPLIED 0 ep).twCnt 6 1
    else s

def State.grantRx (s : State) : State :=
  match s.twNext 7 with
  | some (hdr, body, s) =>
    if s.role = 2 ∨ s.tw.waitHand = true then
      (s.setTw { s.tw with stage := s.tw.stage ++ [(beAt hdr 0 4, beAt hdr 4 4, body)] }).epochTry (beAt hdr 0 4)
    else s
  | none => s

def State.epochEndRx (s : State) : State :=
  match s.twNext 8 with
  | some (hdr, _, s) =>
    if s.role = 2 ∨ s.tw.waitHand = true ∨ s.role = 3 then
      (s.setTw { s.tw with ends := s.tw.ends ++ [(beAt hdr 0 4, beAt hdr 4 4, beAt hdr 8 4, s.ti.elapsed)] }).epochTry (beAt hdr 0 4)
    else s
  | none => s

/-- An epoch incomplete 1 ms after its EPOCH_END is discarded whole. -/
def State.epochDiscard (s : State) : State :=
  match s.tw.ends.find? (fun x => x.2.2.2 + msU ≤ s.ti.elapsed) with
  | none => s
  | some x =>
    let s := s.setTw { s.tw with stage := s.tw.stage.filter (fun m => m.1 != x.1), ends := s.tw.ends.filter (fun m => m.1 != x.1),
                                 resync := true }
    ((s.set1 TW_EVENT_EPOCH_DISCARD 0).twCnt 7 1).log TWIN_EPOCH_DISCARD .TW

/-- An epoch is cut: EPOCH_END with its number, count and CRC. -/
def State.epochClose (s : State) : State :=
  let ep := s.tw.epoch
  let s := s.twSend 8 (toBytesBE 4 ep ++ toBytesBE 4 s.tw.gather.length ++ toBytesBE 4 (crc32c (s.tw.gather.flatMap id))) []
  let s := (s.setTw { s.tw with epoch := (ep + 1) % 2 ^ 32 }).epochBegin
  (s.setFld TW_EPOCH_STATUS_APPLIED 0 ep).twCnt 5 1
def State.epochCut (s : State) : State :=
  if s.role = 3 ∧ (s.tw.epochAt + s.fld TW_EPOCH_CFG_EPOCH_MS 0 * msU ≤ s.ti.elapsed ∨ 65536 ≤ s.tw.gather.length) then s.epochClose
  else s

/-! ### Program cells (R366, R164) -/

def State.progRx (s : State) : State :=
  match s.twNext 9 with
  | some (hdr, _, s) =>
    let n := hdr.getD 0 0
    if 8 ≤ n then s
    else
      let q := s.seq n
      let c := beAt hdr 4 4 + beAt hdr 8 4 * 2 ^ 32
      if q.cellFifo.length < 8 then (s.setSeq n { q with cellFifo := q.cellFifo ++ [c] }).seqEv n 14
      else s.setSeq n { q with rxDrop := true }
  | none => s

/-! ### Repetition (R365) -/

/-- What a message becomes when its repetition is due; answerable ones end after 10 ms. -/
def TwMsg.again (m : TwMsg) (t : Nat) : Option TwMsg :=
  match m.at_ with
  | some a =>
    if m.confirmable then some (if a + 10 * usU ≤ t then { m with at_ := none } else m)
    else if m.first + 10 * msU ≤ t then none
    else some (if a + 100 * usU ≤ t then { m with at_ := none } else m)
  | none => some m
def State.resend (s : State) : State :=
  let out := s.tw.out.filterMap (fun m => m.again s.ti.elapsed)
  let prop := out.any (fun m => m.typ == 10 && m.hdr.getD 0 0 == 1)
  s.setTw { s.tw with out := out, propose := if prop then s.tw.propose else none }

/-! ### Self-check and guard (R376, R377) -/

/-- The three checks of an ACTIVE engine, and their consecutive failures. -/
def State.selfCheck (s : State) (breath copies lease : Bool) : State :=
  if s.role ≠ 3 then s
  else
    let up := fun (ok : Bool) (k : Nat) => if ok then 0 else k + 1
    let f := (up breath s.tw.fails.1, up copies s.tw.fails.2.1, up lease s.tw.fails.2.2)
    let s := s.setTw { s.tw with fails := f }
    if 3 ≤ f.1 ∨ 3 ≤ f.2.1 ∨ 3 ≤ f.2.2 then s.demoteStart true false else s

/-- The guard of R377: no breath formed for 900 us. -/
def State.breathGuard (s : State) : State :=
  if s.role = 3 ∧ s.tw.formed + 900 * usU ≤ s.ti.elapsed then s.setTw { s.tw with guard_ := true } else s

/-! ### Comparison (R381, R382) -/

/-- The threshold in 2^-16 ns. -/
def State.thresh (s : State) : Nat := s.fld TW_CMP_CFG_THRESH_NS 0 * 65536
def State.sustainU (s : State) : Nat := s.fld TW_CMP_CFG_SUSTAIN_MS 0 * msU

/-- DISAGREE sets. -/
def State.disagree (s : State) : State :=
  if s.flag TW_STATUS_DISAGREE 0 then s else (s.set1 TW_STATUS_DISAGREE 0).log TWIN_TIME_DISAGREE .TW

/-- The two paths differ (R381). -/
def State.pathCheck (s : State) : State :=
  match s.tw.dLink, s.tw.dPps with
  | some a, some b =>
    if s.ti.elapsed ≤ a.2 + 2 * msU ∧ s.ti.elapsed ≤ b.2 + 2 * secU ∧ s.thresh < (a.1 - b.1).natAbs then s.log TWIN_CMP_PATH .TW
    else s
  | _, _ => s

/-- A counted d_link sample, 2^-16 ns. -/
def State.linkSample (s : State) (d : Int) : State :=
  let big := decide (s.thresh < d.natAbs)
  let s := (s.setFld TW_DIFF_LINK_D 0 (wrapTo 64 d)).setTw { s.tw with
    dLink := some (d, s.ti.elapsed), overFrom := if big then some (s.tw.overFrom.getD (s.ti.elapsed - msU)) else none,
    overAt := if big then s.ti.elapsed else s.tw.overAt }
  let s := s.pathCheck
  match s.tw.overFrom with
  | some t => if t + s.sustainU ≤ s.ti.elapsed then s.disagree else s
  | none => s

/-- A record of channel 10 (R381): d_pps. The rounding of the delay is open. -/
def State.ppsSample (s : State) (rec : Nat) : State :=
  if recCounts rec = false ∨ s.flag TW_CTL_EN 0 = false then s
  else
    let e := s.expand (bits rec 96 32 * 2 ^ 16 + bits rec 80 16)
    let q := s.quot (signed 32 (s.fld TW_PPS_DELAY_DELAY 0) * 65536) 1000
    let d := ((nearestSec e * secU : Nat) : Int) / 2 ^ 32 - ((e / 2 ^ 32 : Nat) : Int) + q.1
    let big := decide (q.2.thresh < d.natAbs)
    let s := (q.2.setFld TW_DIFF_PPS_D 0 (wrapTo 64 d)).setTw { q.2.tw with
      dPps := some (d, s.ti.elapsed), ppsOver := if big then q.2.tw.ppsOver + 1 else 0 }
    let s := s.pathCheck
    if s.twUp then s
    else
      let s := s.when big (fun t => t.setTw { t.tw with overAt := t.ti.elapsed })
      if 2 ≤ s.tw.ppsOver then s.disagree else s

/-- The records of channel 10 that wait for the twin block (R83). -/
def State.ppsTake (s : State) : State :=
  let cs := smGet [] s.tmb.copies 10
  cs.foldl State.ppsSample { s with tmb := { s.tmb with copies := smSet [] s.tmb.copies 10 [] } }

/-- DISAGREE clears (R382). -/
def State.disagreeClear (s : State) : State :=
  if s.flag TW_STATUS_DISAGREE 0 = true ∧ s.tw.overAt + s.sustainU ≤ s.ti.elapsed then
    (s.clr TW_STATUS_DISAGREE 0).setTw { s.tw with calmAt := s.ti.elapsed, overFrom := none }
  else s

/-- UNFIT clears after 60 s without DISAGREE (R384). -/
def State.unfitClear (s : State) : State :=
  if s.flag TW_STATUS_UNFIT 0 = true ∧ s.flag TW_STATUS_DISAGREE 0 = false ∧ s.tw.calmAt + 60 * secU ≤ s.ti.elapsed then
    s.clr TW_STATUS_UNFIT 0
  else s

/-! ### Arbitration (R383, R384) -/

/-- A value of 2^-16 ns as signed ps, saturating; the rounding is open. -/
def State.psOf (s : State) (v : Int) : Nat × State :=
  let q := s.quot (v * 1000) 65536
  (wrapTo 32 (satS32 q.1), q.2)

/-- The references reported: QUALIFIED and time-capable. -/
def State.arbRefs (s : State) : List Nat := (List.range 8).filter (fun n => s.rstate n == 2 && !s.isClk n)

/-- The body of an ARB message: phase and RS_UNC of each reference reported. -/
def State.arbBody (s : State) : List Nat × State :=
  (List.range 8).foldl (fun (p : List Nat × State) n =>
    if s.arbRefs.contains n then
      let q := p.2.psOf (signed 64 (s.fld RS_PHASE_PHASE n))
      (p.1 ++ toBytesBE 4 q.1 ++ toBytesBE 4 (s.fld RS_UNC_UNC n), q.2)
    else (p.1 ++ List.replicate 8 0, p.2)) ([], s)

/-- ARB at an engine second while DISAGREE is set and the link is UP, and every 64 s. -/
def State.arbSecond (s : State) : State :=
  let now := secOf s.now
  if s.flag TW_STATUS_DISAGREE 0 = false then s.setTw { s.tw with arbSec := none }
  else if s.twUp = true ∧ (s.role = 2 ∨ s.role = 3) ∧ (match s.tw.arbSec with | some t => decide (t + 64 ≤ now) | none => true) = true then
    let b := s.arbBody
    let d := b.2.psOf ((s.tw.dLink.map (·.1)).getD 0)
    let s := d.2
    let hdr := toBytesBE 4 s.tw.arbNo ++ toBytesBE 4 d.1 ++ [(s.arbRefs.map (fun n => 2 ^ n)).sum]
    let s := (s.twDrop (fun m => m.typ == 12)).twSend 12 hdr b.1
    s.setTw { s.tw with arbNo := (s.tw.arbNo + 1) % 2 ^ 32, arbSec := some now, arbMine := some (hdr, b.1) }
  else s

/-- The votes of one engine's report: for that engine, for its partner. -/
def State.arbVotes (s : State) (m : List Nat × List Nat) : Nat × Nat :=
  let d := signed 32 (beAt m.1 4 4)
  (List.range 8).foldl (fun (v : Nat × Nat) n =>
    if bitOf (m.1.getD 8 0) n then
      let p := signed 32 (beAt m.2 (8 * n) 4)
      let u := beAt m.2 (8 * n + 4) 4
      let w := u + s.fld TW_CMP_CFG_THRESH_NS 0 * 1000
      let a := u == 0xFFFFFFFF || decide (p.natAbs ≤ w)
      let b := u == 0xFFFFFFFF || decide ((p - d).natAbs ≤ w)
      if a && !b then (v.1 + 1, v.2) else if b && !a then (v.1, v.2 + 1) else v
    else v) (0, 0)

/-- A verdict acts (R384): 1 active yields, 2 standby yields. -/
def State.verdictAct (s : State) (res va vs : Nat) : State :=
  let s := (((s.setFld TW_ARB_RESULT 0 res).setFld TW_ARB_VOTES_ACTIVE 0 va).setFld TW_ARB_VOTES_STANDBY 0 vs).set1 TW_EVENT_ARB_DONE 0
  let s := s.twCnt 14 1
  if res = 1 then (if s.role = 3 then s.demoteStart false true else if s.role = 2 then s.promote else s)
  else if res = 2 ∧ s.role = 2 then s.set1 TW_STATUS_UNFIT 0
  else s

/-- The senior counts the votes of both reports and sends its VERDICT. -/
def State.arbDecide (s : State) : State :=
  match s.tw.arbMine, s.tw.arbPeer with
  | some m, some p =>
    if s.isSenior = false ∨ (s.role ≠ 2 ∧ s.role ≠ 3) then s
    else
      let a := s.arbVotes m
      let b := s.arbVotes p
      let mine := a.1 + b.2
      let theirs := a.2 + b.1
      let va := if s.role = 3 then mine else theirs
      let vs := if s.role = 3 then theirs else mine
      let res := if va = vs then 0 else if va < vs then 1 else 2
      let s := s.setTw { s.tw with arbMine := none, arbPeer := none }
      let s := (s.twDrop (fun x => x.typ == 12)).twSend 13 ((p.1.take 4) ++ [res, va, vs]) []
      (s.when (res == 0) (fun t => t.log TWIN_ARB_UNRESOLVED .TW)).verdictAct res va vs
  | _, _ => s

def State.arbRx (s : State) : State :=
  match s.twNext 12 with
  | some (hdr, body, s) => (s.setTw { s.tw with arbPeer := some (hdr, body) }).arbDecide
  | none => s
def State.verdictRx (s : State) : State :=
  match s.twNext 13 with
  | some (hdr, _, s) => (s.twDrop (fun m => m.typ == 12)).verdictAct (hdr.getD 4 0) (hdr.getD 5 0) (hdr.getD 6 0)
  | none => s

/-! ### Swaps (R385, R386) -/

/-- The first engine second at least 1 s ahead. -/
def State.swapSecond (s : State) : Nat := ceilDiv (s.now + secU) secU

/-- A swap is proposed. -/
def State.proposeSwap (s : State) : State :=
  if s.role ≠ 3 ∨ s.tw.propose.isSome = true ∨ s.tw.swapAt.isSome = true then s
  else
    let e := s.swapSecond
    let s := s.twSend 10 ([1, 0, 0, 0, 0, 0] ++ toBytesBE 6 e) []
    s.setTw { s.tw with propose := some e }

/-- The swap that TW_SWAP_NEXT asks for is due. -/
def State.swapDue (s : State) : Bool := s.flag TW_CTL_SWAP_EN 0 && decide (s.fld TW_SWAP_NEXT_SEC 0 ≤ secOf s.now)

/-- The reason a standby refuses; 0 when it accepts. -/
def State.swapRefuse (s : State) : Nat :=
  let peerState := bits (s.fld SL_ITL_PEER_RECORD (if s.flag SL_ITL_STATUS_UP 0 then 0 else 1)) 176 3
  if s.flag TW_STATUS_MIRROR 0 = false ∨ s.flag TW_STATUS_HISTORY_PARTIAL 0 = true then 1
  else if s.flag TW_STATUS_UNFIT 0 = true ∨ s.flag TW_STATUS_SELF_FAIL 0 = true then 2
  else if s.flag TW_STATUS_DISAGREE 0 then 3
  else if s.fld RS_STATE_ENGINE_STATE 0 ≠ 2 ∧ s.fld RS_STATE_ENGINE_STATE 0 ≠ peerState then 4
  else if (match s.tw.applied with
    | some t => decide (s.ti.elapsed ≤ t + 2 * s.fld TW_EPOCH_CFG_EPOCH_MS 0 * msU)
    | none => false) = false then 5
  else 0

/-- The oldest waiting message when it is a SWAP message of a kind: 1 PROPOSE, 2 ACCEPT, 3 REFUSE. -/
def State.swapMsg (s : State) (kind : Nat) : Option (List Nat × State) :=
  match s.twNext 10 with
  | some (hdr, _, t) => if hdr.getD 0 0 = kind then some (hdr, t) else none
  | none => none

def State.swapProposeRx (s : State) : State :=
  match s.swapMsg 1 with
  | some (hdr, s) =>
    let why := if s.role = 2 then s.swapRefuse else 1
    let s := s.twDrop (fun m => m.typ == 10)
    if why = 0 then
      let s := s.twSend 10 ([2, 0, 0, 0, 0, 0] ++ (hdr.drop 6).take 6) []
      s.setTw { s.tw with swapAt := some (beAt hdr 6 6) }
    else s.twSend 10 ([3, why, 0, 0, 0, 0] ++ (hdr.drop 6).take 6) []
  | none => s
def State.swapAcceptRx (s : State) : State :=
  match s.swapMsg 2 with
  | some (hdr, s) =>
    if s.role = 3 ∧ s.tw.propose = some (beAt hdr 6 6) then
      let s := s.twDrop (fun m => m.typ == 10)
      s.setTw { s.tw with swapAt := s.tw.propose, propose := none }
    else s
  | none => s
def State.swapRefuseRx (s : State) : State :=
  match s.swapMsg 3 with
  | some (hdr, s) =>
    if s.tw.propose.isSome then
      let s := s.twDrop (fun m => m.typ == 10)
      let s := (s.setTw { s.tw with propose := none }).setFld TW_SWAP_NEXT_SEC 0 (secOf s.now + 600)
      ((s.set1 TW_EVENT_SWAP_REFUSED 0).twCnt 11 1).logFault TWIN_SWAP_REFUSED (Blk.chan .TW) (hdr.getD 1 0)
    else s
  | none => s

/-- Tick E (R386 steps 1 and 2). The old active engine's open batch closes at E, a tally boundary; its final epoch is cut. -/
def State.swapExecute (s : State) : State :=
  match s.tw.swapAt with
  | some e =>
    if s.now < e * secU then s
    else
      let s := (s.twDrop (fun m => m.typ == 10)).swapNext
      if s.role = 3 then
        let s := s.epochClose.setRole 2
        let s := s.setTw { s.tw with oweHand := true }
        let s := match s.rc.batch with
          | some b => if b.close.isSome then s else s.setRc { s.rc with batch := some { b with close := some (0, e * secU) } }
          | none => s
        s.handSend
      else if s.role = 2 then
        let s := (s.twActive s.ti.ticks).announceGo (s.fld TW_SWAP_CFG_ANN_REPEAT 0)
        let s := s.ctGrants.foldl State.dueStart s
        (s.clr TW_STATUS_MIRROR 0).setTw { s.tw with waitHand := true, swapAt := none }
      else s.setTw { s.tw with swapAt := none }
  | none => s

/-- HANDOVER at the new active engine (R386 step 5): the mirror reverses without a join. -/
def State.handoverRx (s : State) : State :=
  match s.twNext 11 with
  | some (hdr, _, s) =>
    if s.tw.waitHand then
      let s := (s.rcTakeover.jSetWrite (beAt hdr 0 4)).setFld RC_BATCH_NEXT_NUMBER 0 (beAt hdr 4 8)
      let s := (s.set1 TW_STATUS_MIRROR 0).setTw { s.tw with waitHand := false, mirAt := s.ti.elapsed }
      (s.twCnt 10 1).set1 TW_EVENT_SWAP_DONE 0
    else s
  | none => s

/-! ### EN and the operating mode (R355, R377) -/

/-- EN is set, in SERVICE: INIT. A failed self-check is forgotten (R377). -/
def State.twEnable (s : State) : State :=
  if s.flag TW_CTL_EN 0 then s
  else
    let s := (((s.set1 TW_CTL_EN 0).clr TW_STATUS_SELF_FAIL 0).clr TW_STATUS_JOIN_WAIT 0).setTw { s.tw with misfit := false }
    if s.service then s.twInit else s

/-- EN is cleared. -/
def State.twDisable (s : State) : State :=
  if s.flag TW_CTL_EN 0 = false then s
  else
    let s := s.clr TW_CTL_EN 0
    if s.role = 3 then (s.set1 TW_STATUS_BUSY 0).demoteStart false false
    else if s.role = 4 then s.set1 TW_STATUS_BUSY 0
    else s.twNone

/-- The mode has changed. -/
def State.twMode (s : State) : State :=
  if s.service then (if s.flag TW_CTL_EN 0 = true ∧ s.role = 0 then s.twInit else s)
  else if s.role = 0 then s else s.twNone

/-- A status record of the partner (R354, R270). -/
def State.twRecord (s : State) (rec : List Nat) : State :=
  let lvl := bitOf (rec.getD 22 0) 6
  let was := s.tw.partner == some s.tw.senior
  let s := (s.setFld TW_PARTNER_ID_ID 0 (beAt rec 0 8)).setTw { s.tw with partner := some lvl }
  (s.when (!was && lvl == s.tw.senior) (fun t => t.log TWIN_SENIOR_CONFLICT .TW)).seniorShow

/-- The level of the SENIOR ball. -/
def State.seniorPin (s : State) (v : Bool) : State := s.setTw { s.tw with ball := v }

/-- A change of level takes effect at the next status record that the engine sends (R459). -/
def State.seniorTake (s : State) : State := (s.setTw { s.tw with senior := s.tw.ball }).seniorShow

end Sys2Proof.Machine
end

