-- ==== Sys2Proof/Machine/Lanes.lean ====
section
/-! DEFINITION. Serial lanes (R258 to R279) as operations: Ethernet lanes, Irnak training, superwords, two-way time
transfer. -/

namespace Sys2Proof.Machine

/-- Irnak lane `n` beyond its registers. -/
def State.itlL (s : State) (n : Nat) : ItlSt := smGet ItlSt.init s.itl n
def State.setItl (s : State) (n : Nat) (x : ItlSt) : State := { s with itl := smSet ItlSt.init s.itl n x }

/-! ### What both kinds share -/

/-- The LOOP that takes effect when EN is set (R278): none outside BOOT and TEST, with LOOP_REFUSED. -/
def State.loopTake (s : State) (kind n loop : Nat) : Nat × State :=
  if loop = 0 then (0, s)
  else if s.mode = 0 ∨ s.mode = 2 then (loop, s)
  else (0, s.logFault LOOP_REFUSED (chanId kind n) 0)

/-- The held launches of an instance that will not leave are missed (R300, R308). -/
def State.gateMiss (s : State) (n : Nat) : State :=
  let g := (s.mac n).gate
  g.foldl (fun t r => (t.stat n 34 1).missed ptpLaunch r) (s.setMac n { s.mac n with gate := [] })

/-- The link of instance `n` goes down with everything that follows (R300). -/
def State.linkDown (s : State) (n : Nat) (rx : Bool) : State :=
  if s.flag MC_STATUS_LINK_UP n then (s.macLinkDown n rx).gateMiss n else s

/-! ### Ethernet lanes (R259 to R261) -/

/-- Whether auto-negotiation, or any training, runs on lane `n`. -/
def State.ethAn (s : State) (n : Nat) : Bool :=
  if s.fld SL_GRP_CFG_MODE (n / 4) = 2 then s.flag SL_GRP_CFG_AN_EN (n / 4) else s.flag SL_ETH_CTL_AN_EN n
def State.ethTrains (s : State) (n : Nat) : Bool := s.flag SL_ETH_CTL_TRAIN_EN n || s.ethAn n

/-- Lane `n` starts self-calibration (R279). -/
def State.ethStart (s : State) (n : Nat) : State :=
  if s.retired 4 n = true ∨ s.fld SL_GRP_CFG_MODE (n / 4) % 3 = 0 then s
  else s.setEth n { s.ethL n with phase := 1, from_ := s.ti.elapsed }

/-- EN is set. -/
def State.ethEnable (s : State) (n : Nat) : State :=
  let r := (s.set1 SL_ETH_CTL_EN n).loopTake 4 n (s.fld SL_ETH_CTL_LOOP n)
  (r.2.setEth n { r.2.ethL n with loop := r.1 }).ethStart n

/-- The port type (0 10GBASE-R, 1 25GBASE-R, 2 100GBASE-R) and, times 4, the FEC: the only ones auto-negotiation advertises
(R259). -/
def State.ethAbility (s : State) (n : Nat) : Nat :=
  if s.fld SL_GRP_CFG_MODE (n / 4) = 2 then 2 + 4 * s.fld SL_GRP_CFG_FEC100 (n / 4)
  else s.fld SL_ETH_CTL_RATE n + 4 * s.fld SL_ETH_CTL_FEC n

/-- Lane `n` trains, or waits for its PCS link (R261): the 500 ms run from EN, or from the start of auto-negotiation. -/
def State.ethTrain (s : State) (n : Nat) (again : Bool) : State :=
  let t := if again || s.ethAn n then s.ti.elapsed else (s.ethL n).from_
  ((s.setEth n { s.ethL n with phase := 2, from_ := t }).setFld SL_ETH_STATUS_TRAINING n (b2n (s.ethTrains n))).when
    (s.ethAn n) (fun u => u.emit (.ball (0x500 + n) (u.ethAbility n)))

/-- Whether every lane of an instance is up. -/
def State.lanesUp (s : State) (m : Nat) : Bool := (s.macLanes m).all (fun k => s.flag SL_ETH_STATUS_UP k)

/-- The PCS link of lane `n` comes up: only with the polarity of its pair, `swap` when the board crosses it, corrected by
RX_INV (R259). -/
def State.ethUp (s : State) (n : Nat) (swap : Bool) : State :=
  if (s.ethL n).phase = 2 ∧ s.flag SL_ETH_CTL_RX_INV n = swap then
    let s := ((s.setEth n { s.ethL n with phase := 3 }).set1 SL_ETH_STATUS_UP n).clr SL_ETH_STATUS_TRAINING n
    let m := s.laneMac n
    s.when (s.lanesUp m && !s.retired 3 m) (fun t => t.macLinkUp m)
  else s

/-- The link of lane `n` is gone; the lane stands at phase `p` from now. -/
def State.ethDown (s : State) (n p : Nat) (rx : Bool) : State :=
  let was := s.flag SL_ETH_STATUS_UP n
  let s := (s.clr SL_ETH_STATUS_UP n).clr SL_ETH_STATUS_TRAINING n
  let s := s.setEth n { s.ethL n with phase := p, from_ := s.ti.elapsed }
  if was then (s.set1 SL_ETH_STATUS_LINK_LOST n).linkDown (s.laneMac n) rx else s

/-- EN is cleared (R42). -/
def State.ethDisable (s : State) (n : Nat) : State :=
  let run := (s.ethL n).phase != 0
  let s := ((s.clr SL_ETH_CTL_EN n).ethDown n 0 false).setFld SL_ETH_STATUS_BUSY n (b2n run)
  s.setEth n EthSt.init

/-- The lane's PCS link is lost (R300): it trains again. -/
def State.ethLoss (s : State) (n : Nat) (rx : Bool) : State :=
  if (s.ethL n).phase = 3 then (s.ethDown n 2 rx).ethTrain n true else s

/-- 500 ms without link up (R261). -/
def State.ethTrainFail (s : State) (n : Nat) : State :=
  let x := s.ethL n
  if x.phase = 2 ∧ x.from_ + 500 * msU ≤ s.ti.elapsed then
    ((s.setEth n { x with phase := 5 }).clr SL_ETH_STATUS_TRAINING n).logFault FT_ETH_TRAIN_FAIL (chanId 4 n) 0
  else s

/-- A retry granted on lane `n` (R261, R279). -/
def State.ethRetry (s : State) (n : Nat) : State :=
  if (s.ethL n).phase = 4 then s.ethStart n else if (s.ethL n).phase = 5 then s.ethTrain n true else s

/-! ### Irnak lanes: training and down (R275 to R277, R279) -/

/-- Whether lane `n` may run: a role, and its channel not retired. -/
def State.itlMay (s : State) (n : Nat) : Bool := s.fld SL_ITL_CTL_ROLE n != 0 && !s.retired 5 n

/-- Step 1. -/
def State.itlStart (s : State) (n : Nat) : State :=
  if s.itlMay n then s.setItl n { ItlSt.init with phase := 1, from_ := s.ti.elapsed, loop := (s.itlL n).loop } else s

/-- EN is set. -/
def State.itlEnable (s : State) (n : Nat) : State :=
  let r := (s.set1 SL_ITL_CTL_EN n).loopTake 5 n (s.fld SL_ITL_CTL_LOOP n)
  (r.2.setItl n { ItlSt.init with loop := r.1 }).itlStart n

/-- Step 2: a non-zero seed, the initial coefficients. -/
def State.itlTrain (s : State) (n : Nat) : State :=
  let f := s.free
  let s := f.2.setItl n { ItlSt.init with
    phase := 2, from_ := f.2.ti.elapsed, loop := (f.2.itlL n).loop, calTx := (f.2.itlL n).calTx,
    calRx := (f.2.itlL n).calRx, scr := 1 + f.1 % (2 ^ 31 - 1) }
  (s.set1 SL_ITL_STATUS_TRAINING n).setFld SL_ITL_FFE_COEF n
    (s.fld SL_ITL_FFE_INIT_PRE n + s.fld SL_ITL_FFE_INIT_MAIN n * 16 + s.fld SL_ITL_FFE_INIT_POST n * 1024)

/-- The lane stops being UP or training: data cells and measurements stop. -/
def State.itlQuiet (s : State) (n : Nat) : State :=
  let was := s.flag SL_ITL_STATUS_UP n
  let s := ((((s.clr SL_ITL_STATUS_UP n).clr SL_ITL_STATUS_TRAINING n).clr SL_ITL_STATUS_HDR_LOCK n).clr
    SL_ITL_STATUS_TIME_VALID n).when was (fun t => t.set1 SL_ITL_STATUS_LINK_LOST n)
  let s := s.setItl n { ItlSt.init with loop := (s.itlL n).loop }
  if n < 2 ∧ was = true then
    ((s.setRest n []).setIn n (0, [])).setTw { s.tw with
      brOut := s.tw.brOut.filter (fun x => x.1 != n), outPart := smSet [] s.tw.outPart n [],
      inPart := smSet (0, []) s.tw.inPart n (0, []) } |>.linkCheck
  else s

/-- An UP lane goes down (R277): it retrains from step 1. -/
def State.itlDown (s : State) (n : Nat) : State := ((s.itlQuiet n).logFault ITL_LINK_DOWN (chanId 5 n) 0).itlStart n

/-- EN is cleared (R42). -/
def State.itlDisable (s : State) (n : Nat) : State :=
  let run := (s.itlL n).phase != 0
  (((s.clr SL_ITL_CTL_EN n).itlQuiet n).setItl n ItlSt.init).setFld SL_ITL_STATUS_BUSY n (b2n run)

/-- 500 ms from step 2 without step 6 (R276). -/
def State.itlTrainFail (s : State) (n : Nat) : State :=
  let x := s.itlL n
  if (x.phase = 2 ∨ x.phase = 5) ∧ x.from_ + 500 * msU ≤ s.ti.elapsed then
    let s := s.itlQuiet n
    (s.setItl n { s.itlL n with phase := 7 }).logFault FT_ITL_TRAIN_FAIL (chanId 5 n) 0
  else s

/-- A retry granted on lane `n`. -/
def State.itlRetry (s : State) (n : Nat) : State := if (s.itlL n).phase = 7 then s.itlStart n else s

/-- A request outstanding for 1 ms is sent again (R275). -/
def State.trainRepeat (s : State) (n : Nat) : State :=
  let x := s.itlL n
  match x.reqAt with
  | some t => if x.phase = 2 ∧ t + msU ≤ s.ti.elapsed then s.setItl n { x with reqAt := none } else s
  | none => s

/-- One tap changed by a request code: the new code and the response, when `ok` says the set is legal (R275). -/
def tapChange (c v : Nat) (ok : Nat → Bool) : Nat × Nat :=
  if c = 1 then (if ok (v + 1) then (v + 1, 1) else (v, 2))
  else if c = 2 then (if decide (0 < v) && ok (v - 1) then (v - 1, 1) else (v, 2))
  else (v, 0)

/-- Whether three tap codes obey R275. -/
def ffeOk (pre main post : Nat) : Bool :=
  pre ≤ 15 && 20 ≤ main && main ≤ 63 && post ≤ 31 && pre + main + post ≤ 63 && pre + post + 10 ≤ main

/-- A received request applied tap by tap, PRE first; the response is owed (R275). -/
def State.ffeRequest (s : State) (n req : Nat) : State :=
  let c := s.fld SL_ITL_FFE_COEF n
  let main := bits c 4 6
  let post := bits c 10 5
  let p := tapChange (bits req 4 2) (bits c 0 4) (fun v => ffeOk v main post)
  let m := tapChange (bits req 2 2) main (fun v => ffeOk p.1 v post)
  let q := tapChange (bits req 0 2) post (fun v => ffeOk p.1 m.1 v)
  let rsp := p.2 * 16 + m.2 * 4 + q.2
  if rsp = 0 then s
  else (s.setFld SL_ITL_FFE_COEF n (p.1 + m.1 * 16 + q.1 * 1024)).setItl n { s.itlL n with rsp := rsp }

/-- Step 5: both ends have sent RX_READY in 16 consecutive TRAIN cells. -/
def State.itlReady (s : State) (n : Nat) : State :=
  let x := s.itlL n
  if x.phase = 2 ∧ 16 ≤ x.rdyTx ∧ 16 ≤ x.rdyRx then s.setItl n { x with phase := 5 } else s

/-- Step 6: the alignment run was right at this end and sent whole. -/
def State.itlAligned (s : State) (n : Nat) : State :=
  let x := s.itlL n
  if x.phase = 5 ∧ 64 ≤ x.alTx ∧ 64 ≤ x.alRx then
    ((s.setItl n { x with phase := 6, slice := 0, sw := 0, fails := [], parts := 0, accX := none, win := s.laneMs n }).set1
      SL_ITL_STATUS_UP n).clr SL_ITL_STATUS_TRAINING n
  else s

/-- A TRAIN cell is received (R275, R276). -/
def State.trainRx (s : State) (n body : Nat) : State :=
  let x := s.itlL n
  let align := bitOf body 14
  if x.phase = 6 then
    if align then s
    else
      let s := s.itlQuiet n
      (s.setItl n { s.itlL n with phase := 2, from_ := s.ti.elapsed, scr := x.scr, edge := x.edge, calTx := x.calTx,
                                  calRx := x.calRx, desc := x.desc, good := x.good }).set1 SL_ITL_STATUS_TRAINING n |>.set1
        SL_ITL_STATUS_HDR_LOCK n
  else if align then ((s.setItl n { x with alRx := x.alRx + 1 }).itlReady n).itlAligned n
  else
    let ready := bitOf body 15
    let rsp := bits body 16 6
    let x := if x.phase = 5 ∧ ready = false then { x with phase := 2, rdyTx := 0, alTx := 0 } else x
    let x := if x.reqAt.isSome ∧ rsp ≠ 0 then { x with req := 0, reqAt := none } else x
    let x := { x with rdyRx := if ready then x.rdyRx + 1 else 0, alRx := 0 }
    ((s.setItl n x).ffeRequest n (bits body 22 6)).itlReady n

/-! ### Transmission (R262 to R270) -/

/-- The transmit time T of the superword that starts at this grid edge, 2^-48 ns (R262). -/
def State.itlT (s : State) (n : Nat) : Nat := s.now + s.applied * s.fld SL_ITL_TX_DELAY_DELAY n / (5 * 2 ^ 16)

/-- TX_TIME of a time (R269). -/
def txTime (t : Nat) : Nat := bits (wncOf t) 4 32

/-- The status record captured at T (R270). -/
def State.itlRecord (s : State) (n t : Nat) : List Nat :=
  let x := s.itlL n
  toBytesBE 8 Config.unitId ++ time80 t ++ toBytesBE 4 (s.fld BG_CURRENT_BOUND 0) ++
    [s.engState % 8 + s.fld RS_STATE_TIER 0 % 8 * 8 + b2n s.tw.senior * 64,
     s.mode % 4 + b2n x.meanDist * 4 + b2n x.meanOk * 8] ++
    toBytesBE 4 (wrapTo 32 x.meanA) ++ toBytesBE 2 (x.meanWin % 65536) ++ List.replicate 6 0

/-- The next slot of a join's history is queued when no message of it waits (R370 step 5). -/
def State.historySend (s : State) : State :=
  match s.tw.histOut with
  | some (k, e) =>
    if s.tw.out.any (fun m => m.history) then s
    else
      let nx := (k + 1) % s.jSize
      (s.mirrorSend k 2 (s.jGet k)).setTw { (s.mirrorSend k 2 (s.jGet k)).tw with
        histOut := if nx = e then none else some (nx, e) }
  | none => s

/-- TYPE and BODY of the control cell and the seven data cells of the next payload of lane `n` (R263, R269, R275); `req` and
`ready` are the receiver's wish and verdict. -/
def State.itlForm (s : State) (n req : Nat) (ready : Bool) : (Nat × List Nat) × State :=
  let x := s.itlL n
  let zero := List.replicate 112 0
  if x.phase = 5 then ((3 * 2 ^ 28 + 2 ^ 14, zero), s)
  else if x.phase = 2 then
    let ask := if x.reqAt.isSome then 0 else if x.req ≠ 0 then x.req else req % 64
    ((3 * 2 ^ 28 + ask * 2 ^ 22 + x.rsp * 2 ^ 16 + b2n ready * 2 ^ 15, zero), s.setItl n { x with rsp := 0 })
  else
    let d := if n < 2 then s.historySend.twCells n 7 else (zero, s)
    match (if n < 2 then d.2.tw.brOut.find? (fun b => b.1 == n) else none) with
    | some b => ((2 * 2 ^ 28 + b.2 % 2 ^ 28, d.1), d.2)
    | none =>
      let rec_ := if x.slice = 0 then toBytesBE 8 Config.unitId else x.rec_
      ((2 ^ 28 + x.slice * 2 ^ 24 + beAt rec_ (3 * x.slice) 3, d.1), d.2)

/-- What sending a control cell at time `t` brings about. -/
def State.itlSent (s : State) (n cell t : Nat) : State :=
  let x := s.itlL n
  let typ := cell / 2 ^ 28
  if typ = 1 then
    if bits cell 24 4 = 0 then
      let s := s.seniorTake
      s.setItl n { x with rec_ := s.itlRecord n t, slice := 1 }
    else s.setItl n { x with slice := (bits cell 24 4 + 1) % 12 }
  else if typ = 2 then s.breathSent n (cell % 2 ^ 28) (s.ti.elapsed + t - s.now)
  else if bitOf cell 14 then (s.setItl n { x with alTx := x.alTx + 1 }).itlAligned n
  else
    let x := { x with rdyTx := if bitOf cell 15 then x.rdyTx + 1 else 0 }
    let ask := bits cell 22 6
    let x := if ask = 0 then x else { x with req := ask, reqAt := some s.ti.elapsed }
    (s.setItl n x).itlReady n

/-! ### Two-way time transfer (R271 to R274) -/

/-- The offset that the twin block takes at the end of a window (R274): the mean of both lanes while both deliver, once both
have ended it, else that of the lane that delivers. -/
def State.twinOffset (s : State) (n : Nat) : State :=
  let off := fun (k : Nat) => signed 64 (s.fld SL_ITL_OFFSET_OFFSET k)
  let gives := fun (k : Nat) => s.twLane k && s.flag SL_ITL_STATUS_TIME_VALID k
  let k := 1 - n
  let level := (s.itlL k).meanWin == (s.itlL n).meanWin && (s.itlL k).win == (s.itlL n).win
  if s.flag TW_CTL_EN 0 = false then s
  else if gives n = true ∧ gives k = true then
    if level then
      let q := s.quot (-(off 0 + off 1)) 2
      q.2.linkSample q.1
    else s
  else if gives n then s.linkSample (-(off n))
  else if gives k = true ∧ level = true ∧ (s.itlL k).meanHas = true then s.linkSample (-(off k))
  else s

/-- The millisecond being measured ends and `w` begins (R272, R273): MEAN_A, OFFSET and DELAY, TWIN_TOO_FAR and the d_link
sample of a twin lane. -/
def State.itlWindowTo (s : State) (n w : Nat) : State :=
  let x := s.itlL n
  let s := s.setItl n { x with
    win := w, sumA := 0, sumO := 0, sumD := 0, cnt := 0, dist := s.flag TC_STATUS_DISTURBED 0,
    meanWin := x.win % 65536, meanOk := decide (20000 ≤ x.cnt), meanDist := x.dist, meanHas := decide (x.cnt ≠ 0),
    meanA := if x.cnt = 0 then x.meanA else roundHalfUp x.sumA (x.cnt * 2 ^ 49) }
  let s := if x.cnt = 0 then s.clr SL_ITL_STATUS_TIME_VALID n
    else
      let o := s.quot x.sumO (x.cnt * 2 ^ 46)
      let d := o.2.quot x.sumD (x.cnt * 2 ^ 46)
      let far := n < 2 && decide (signed 64 (d.2.fld SL_ITL_DELAY_DELAY n) ≤ 50000 * 65536) && decide (50000 * 65536 < d.1)
      ((d.2.setFld SL_ITL_OFFSET_OFFSET n (wrapTo 64 o.1)).setFld SL_ITL_DELAY_DELAY n (wrapTo 64 d.1)).when far
        (fun t => t.logFault TWIN_TOO_FAR (chanId 5 n) 0)
  s.when (n < 2) (fun t => t.twinOffset n)

/-- ITL_WINDOW_END: the window ends once every superword that arrived in it has been received. -/
def State.itlWindow (s : State) (n : Nat) : State :=
  let x := s.itlL n
  let w := s.laneMs n
  if x.phase ≠ 6 ∨ w = x.win then s else s.itlWindowTo n w

/-- The references that lane `n` feeds (R258). -/
def State.itlRefs (s : State) (n : Nat) : List Nat :=
  if s.fld SL_ITL_CTL_ROLE n = 1 then [6, 7].filter (fun r => s.fld RS_REF_CTL_LANE r == n) else []

/-- The far end's transmit time of a superword with TX_TIME `x`, 2^-12 ns (R271). -/
def farTime (rec_ : List Nat) (s0 x : Nat) : Int :=
  let d := signed 32 ((x + 2 ^ 32 - s0) % 2 ^ 32)
  ((beAt rec_ 8 6 * 1000000000 + beAt rec_ 14 4) * 4096 + s0 % 4096 : Nat) + d

/-- The measurement of a received superword with TX_TIME `x` (R114, R271 to R273), `p` the stamp R(j) of its header's arrival:
window and DISTURBED are judged at R(j). -/
def State.itlMeas (s : State) (n x : Nat) (p : Stamp) : State :=
  let w := p.time / msU
  let s := if (s.itlL n).win < w then s.itlWindowTo n w else s
  let l := s.itlL n
  match l.accX with
  | none => s
  | some s0 =>
    if l.accAt + 500 * usU < p.time then s.clr SL_ITL_STATUS_TIME_VALID n
    else
      let rec_ := toBytes 36 (s.fld SL_ITL_PEER_RECORD n)
      let rec23 := rec_.getD 23 0
      if p.dist = true ∨ p.bound = 0xFFFFFFFF ∨ bitOf rec23 2 = true ∨ bitOf rec23 3 = false ∨
          s.flag SL_ITL_STATUS_CAL_DONE n = false then s.clr SL_ITL_STATUS_TIME_VALID n
      else
        let a : Int := (p.time : Int) * 2 ^ 13 - farTime rec_ s0 x * 2 ^ 49
        let peer : Int := signed 32 (beAt rec_ 24 4) * 2 ^ 49
        let o : Int := a - peer - signed 32 (s.fld SL_ITL_ASYM_ASYM n) * 2 ^ 46
        let s := s.set1 SL_ITL_STATUS_TIME_VALID n
        let s := s.when (l.win == w) (fun t => t.setItl n { l with
          sumA := l.sumA + a, sumO := l.sumO + o, sumD := l.sumD + a + peer, cnt := l.cnt + 1 })
        (s.itlRefs n).foldl (fun t k => t.itlOffset k w o) s

/-- DISTURBED is noted in the window of every lane (R270). -/
def State.lanesTick (s : State) : State :=
  if s.flag TC_STATUS_DISTURBED 0 then
    (List.range 8).foldl (fun t n => if (t.itlL n).phase = 6 then t.setItl n { t.itlL n with dist := true } else t) s
  else s

/-! ### Reception (R267 to R270) -/

/-- A received header updates the lock (R267). -/
def State.itlHeader (s : State) (n : Nat) (ok : Bool) : State :=
  let x := s.itlL n
  let x := if ok then { x with good := x.good + 1, bad := 0 } else { x with good := 0, bad := x.bad + 1 }
  let s := s.setItl n x
  if 4 ≤ x.good then s.set1 SL_ITL_STATUS_HDR_LOCK n else if 4 ≤ x.bad then s.clr SL_ITL_STATUS_HDR_LOCK n else s

/-- A STATUS slice received at R(j) = `p`: the record is accepted when all twelve came in order with no STATUS cell lost between
them (R270). Of twelve superwords lost or more since the latest slice it cannot be told. -/
def State.statusRx (s : State) (n x body : Nat) (p : Stamp) : State :=
  let l := s.itlL n
  let k := bits body 24 4
  let b := toBytesBE 3 (body % 2 ^ 24)
  if k = 0 then s.setItl n { l with part := b, parts := 1, lost := 0, partX := x }
  else if k ≠ l.parts ∨ 11 < k ∨ 12 ≤ l.lost then s.setItl n { l with part := [], parts := 0, lost := 0 }
  else if k < 11 then s.setItl n { l with part := l.part ++ b, parts := k + 1, lost := 0 }
  else
    let r := l.part ++ b
    let s := (s.setItl n { l with
      part := [], parts := 0, lost := 0, accX := some l.partX, accAt := p.time, accEl := s.ti.elapsed }).setFld
        SL_ITL_PEER_RECORD n (ofBytes r)
    s.when (n < 2 && s.flag TW_CTL_EN 0) (fun t => t.twRecord r)

/-- A superword fails its CRC (R268, R277); it spoils an alignment run (R276). -/
def State.itlBad (s : State) (n : Nat) : State :=
  let x := s.itlL n
  let f := x.sw :: x.fails.filter (fun k => x.sw < k + 1024)
  let s := (((s.setItl n { x with fails := f, lost := x.lost + 1, alRx := 0 }).rcAdd SL_ITL_CRC_ERR_COUNT n 1).engEv (60 + n)).when (n < 2) (fun t => t.twLose n)
  if x.phase = 6 ∧ 32 ≤ f.length then s.itlDown n else s

/-- A superword received right: its control cell, and on an UP lane its measurement and data cells. A reserved TYPE counts as an
error whatever the lane does (R269). -/
def State.itlTake (s : State) (n : Nat) (b : List Nat) (p : Stamp) : State :=
  let x := beAt b 0 4
  let cell := beAt b 4 4
  let typ := cell / 2 ^ 28
  let body := cell % 2 ^ 28
  let s := s.when (decide (3 < typ)) (fun t => t.rcAdd SL_ITL_CRC_ERR_COUNT n 1)
  if typ = 3 then s.trainRx n body
  else if (s.itlL n).phase ≠ 6 then s
  else
    let s := s.itlMeas n x p
    let s := if typ = 1 then s.statusRx n x body p
      else if typ = 2 then
        s.when (s.twLane n && s.flag TW_CTL_EN 0) (fun t => t.setTw { t.tw with brIn := t.tw.brIn ++ [(n, body, t.ti.elapsed)] })
      else s
    if n < 2 then s.twTake n (b.drop 8) else s

/-- A superword of a locked lane, its header of kind `k`, with its 1,008 line slots after the header (R264 to R268, R276).
Before an alignment run has loaded the descrambler, `seed` is the state the receiver has by means the spec does not give. -/
def State.itlWord (s : State) (n k line seed : Nat) (p : Stamp) : State :=
  let x := s.itlL n
  let st := if x.phase = 6 ∨ 0 < x.alRx then x.desc else seed
  let s := s.setItl n { x with sw := x.sw + 1, desc := (scrBits 992 st).2 }
  if k = 2 then s
  else
    match (if x.phase ≠ 6 ∧ x.alRx = 0 then readAlign k line else none) with
    | some d => (s.setItl n { s.itlL n with desc := d }).itlTake n alignPayload p
    | none =>
      let r := readSuperword k line st
      if r.2 then s.itlTake n r.1 p else s.itlBad n

/-- A received superword (R40, R267, R268): its header, the line slots after it, the stamp R(j) of its header. A decodable
header is the boundary at which SL_ITL_ASYM commits, in the one direction that uses it. -/
def State.itlRx (s : State) (n hdr line seed : Nat) (p : Stamp) : State :=
  let ph := (s.itlL n).phase
  if ph ≠ 2 ∧ ph ≠ 5 ∧ ph ≠ 6 then s
  else
    let k := hdrKind hdr
    let was := s.flag SL_ITL_STATUS_HDR_LOCK n
    let s := (s.when k.isSome (fun t => t.commit SL_ITL_ASYM_ASYM n)).itlHeader n k.isSome
    let lock := s.flag SL_ITL_STATUS_HDR_LOCK n
    if was = true ∧ lock = false then (if ph = 6 then s.itlDown n else s)
    else if lock = false then s
    else
      match k with
      | some k => s.itlWord n k line seed p
      | none =>
        let x := s.itlL n
        let st := if x.phase = 6 ∨ 0 < x.alRx then x.desc else seed
        (s.setItl n { x with sw := x.sw + 1, desc := (scrBits 992 st).2, lost := x.lost + 1 }).when (n < 2 && ph == 6)
          (fun t => t.twLose n)

/-! ### Transmission at a grid edge (R262, R264, R266, R278) -/

/-- Whether this tick is an edge of the superword grid at which lane `n` has not sent yet (R262). -/
def State.itlEdge (s : State) (n : Nat) : Bool := s.ti.ticks % 8 == 0 && (s.itlL n).edge != some s.ti.ticks

/-- Line bits with a polarity switch applied (R259). -/
def flipLine (inv : Bool) (w v : Nat) : Nat := if inv then 2 ^ w - 1 - v % 2 ^ w else v % 2 ^ w

/-- Where a superword of lane `n` with transmit time `t` goes (R278): to the ball, nowhere while the far end's stream is sent
back, or to the lane's own receiver, at whose point both delays cancel. -/
def State.itlOut (s : State) (n kind : Nat) (payload : List Nat) (line t : Nat) : State :=
  match (s.itlL n).loop with
  | 0 => s.emit (.superword n kind payload (flipLine (s.flag SL_ITL_CTL_TX_INV n) 1024 line))
  | 3 => s
  | _ =>
    let inv := s.flag SL_ITL_CTL_TX_INV n != s.flag SL_ITL_CTL_RX_INV n
    let l := flipLine inv 1024 line
    s.itlRx n (l / 2 ^ 1008) (l % 2 ^ 1008) (s.itlL n).desc { s.stampAt 0 with time := t }

/-- At a grid edge lane `n` sends the superword formed one superword ahead, with its TX_TIME, and forms the next. -/
def State.itlSend (s : State) (n req : Nat) (ready : Bool) : State :=
  let p := (s.itlL n).phase
  if (p = 2 ∨ p = 5 ∨ p = 6) ∧ s.itlEdge n = true then
    let f := match (s.itlL n).ahead with
      | some q => (q, s)
      | none => s.itlForm n req ready
    let s := f.2
    let t := s.itlT n
    let tx := if f.1.1 = 3 * 2 ^ 28 + 2 ^ 14 then 0 else txTime t
    let payload := toBytesBE 8 (tx * 2 ^ 32 + f.1.1) ++ f.1.2
    let w := formSuperword payload (s.itlL n).scr
    let s := s.setItl n { s.itlL n with scr := w.2.2, edge := some s.ti.ticks, ahead := if w.1 = 2 then some f.1 else none }
    let s := if w.1 = 2 then s.rcAdd SL_ITL_VOID_COUNT n 1
      else
        let s := (s.when (w.1 == 1) (fun u => u.rcAdd SL_ITL_ALT_COUNT n 1)).itlSent n f.1.1 t
        let g := s.itlForm n req ready
        g.2.setItl n { g.2.itlL n with ahead := some g.1 }
    s.itlOut n w.1 (if w.1 = 2 then [] else payload) w.2.1 t
  else s

/-- What a lane's ball receives (R259, R278): nothing of it reaches a lane in a near-end loop; a far-end loop sends it back. -/
def State.itlBall (s : State) (n hdr line seed arr : Nat) : State :=
  let inv := s.flag SL_ITL_CTL_RX_INV n
  let p := s.stampAt (s.backOf arr + s.fld SL_ITL_RX_DELAY_DELAY n * 2 ^ 32)
  match (s.itlL n).loop with
  | 0 => s.itlRx n (flipLine inv 16 hdr) (flipLine inv 1008 line) seed p
  | 3 =>
    let l := flipLine (inv != s.flag SL_ITL_CTL_TX_INV n) 1024 (hdr * 2 ^ 1008 + line)
    (s.emit (.superword n ((hdrKind (flipLine inv 16 hdr)).getD 3) [] l)).itlRx n (flipLine inv 16 hdr)
      (flipLine inv 1008 line) seed p
  | _ => s

/-! ### Calibration, relocks, loops (R104, R278, R279) -/

/-- Self-calibration ends: the sum of both delays, the transmit delay (2^-16 ns), the scatter in fs. -/
def State.itlCal (s : State) (n sum dtx scatter : Nat) : State :=
  let x := s.itlL n
  if s.ti.elapsed < x.from_ + 2 * msU then s
  else if 2000 < scatter then (s.setItl n { x with phase := 7 }).logFault LANE_CAL_FAIL (chanId 5 n) 0
  else
    ((((s.setItl n { x with calTx := dtx, calRx := sum - dtx }).setFld SL_ITL_TX_DELAY_DELAY n dtx).setFld
      SL_ITL_RX_DELAY_DELAY n (sum - dtx)).set1 SL_ITL_STATUS_CAL_DONE n).itlTrain n
def State.ethCal (s : State) (n sum dtx scatter : Nat) : State :=
  let x := s.ethL n
  if s.ti.elapsed < x.from_ + 2 * msU then s
  else if 2000 < scatter then (s.setEth n { x with phase := 4 }).logFault LANE_CAL_FAIL (chanId 4 n) 0
  else
    ((((s.setEth n { x with calTx := dtx, calRx := sum - dtx }).setFld SL_ETH_TX_DELAY_DELAY n dtx).setFld
      SL_ETH_RX_DELAY_DELAY n (sum - dtx)).set1 SL_ETH_STATUS_CAL_DONE n).ethTrain n false

/-- While a lane runs, the probe TDC has tracked its transmit delay to `dtx`: the receive delay keeps the ratio fixed at
calibration (R279); its rounding is open. -/
def State.laneTrack (s : State) (tx rx : Fld) (n dtx calTx calRx : Nat) : State :=
  let q := s.quot ((dtx * calRx : Nat) : Int) calTx
  (q.2.setFld tx n dtx).setFld rx n (wrapTo 32 q.1)

/-- Self-calibration ends on a lane that calibrates; on one that runs, its delays are tracked (R279). -/
def State.laneCal (s : State) (irnak : Bool) (n sum dtx scatter : Nat) : State :=
  if irnak then
    let x := s.itlL n
    if x.phase = 1 then s.itlCal n sum dtx scatter
    else if x.phase = 2 ∨ x.phase = 5 ∨ x.phase = 6 then s.laneTrack SL_ITL_TX_DELAY_DELAY SL_ITL_RX_DELAY_DELAY n dtx x.calTx x.calRx
    else s
  else
    let x := s.ethL n
    if x.phase = 1 then s.ethCal n sum dtx scatter
    else if x.phase = 2 ∨ x.phase = 3 then s.laneTrack SL_ETH_TX_DELAY_DELAY SL_ETH_RX_DELAY_DELAY n dtx x.calTx x.calRx
    else s

/-- A lane PLL frozen for 1 ms: the lane is reset and its link goes down (R104, R277). -/
def State.laneFrozen (s : State) (irnak : Bool) (n : Nat) : State :=
  match s.sy.freezeAt with
  | none => s
  | some t =>
    if s.ti.elapsed < t + msU then s
    else if irnak then
      if (s.itlL n).phase = 0 ∨ (s.itlL n).phase = 8 then s
      else
        let up := s.flag SL_ITL_STATUS_UP n
        let s := s.itlQuiet n
        (s.setItl n { s.itlL n with phase := 8 }).when up (fun t => t.logFault ITL_LINK_DOWN (chanId 5 n) 0)
    else if (s.ethL n).phase = 0 ∨ (s.ethL n).phase = 6 then s
    else s.ethDown n 6 false

/-- The lane PLLs are released: the lanes that were reset start again (R104). -/
def State.lanesThaw (s : State) : State :=
  let s := (List.range 16).foldl (fun t n => if (t.ethL n).phase = 6 then t.ethTrain n true else t) s
  (List.range 8).foldl (fun t n => if (t.itlL n).phase = 8 then t.itlStart n else t) s

/-- On entry to SERVICE every looped lane has EN cleared (R278). -/
def State.loopsOff (s : State) : State :=
  let s := (List.range 16).foldl (fun t n =>
    if (t.ethL n).loop = 0 then t else (t.ethDisable n).logFault LOOP_REFUSED (chanId 4 n) 0) s
  (List.range 8).foldl (fun t n =>
    if (t.itlL n).loop = 0 then t else (t.itlDisable n).logFault LOOP_REFUSED (chanId 5 n) 0) s

/-- A lane is retired, or its channel re-enabled (R434). -/
def State.laneRetire (s : State) (irnak : Bool) (n : Nat) : State :=
  if irnak then (s.itlQuiet n).setItl n ItlSt.init else (s.ethDown n 0 false).setEth n EthSt.init
def State.laneBack (s : State) (irnak : Bool) (n : Nat) : State :=
  if irnak then (if s.flag SL_ITL_CTL_EN n then s.itlEnable n else s) else if s.flag SL_ETH_CTL_EN n then s.ethEnable n else s

end Sys2Proof.Machine
end

