-- ==== Sys2Proof/Machine/Settle.lean ====
section
/-! DEFINITION. What the blocks do when a channel is retired, granted a retry or re-enabled (R104, R107, R124, R401, R433,
R434). -/

namespace Sys2Proof.Machine

/-- The block's action on the retirement of a channel (R434). -/
def State.retireAct (s : State) (ch : Nat) : State :=
  let i := ch % 256
  match ch / 256 with
  | 2 => (s.rsRetire i).rsEval
  | 3 => s.linkDown i false
  | 4 => s.laneRetire false i
  | 5 => s.laneRetire true i
  | 6 => if i < 4 then ((s.tmDrop i).rsLoss i).rsEval else s.tmDrop i
  | 7 => s.poCut i
  | 8 => s.ckoRetire i
  | 9 => s.ckoOf i State.ckoRetire
  | 11 => s.seqRetire i
  | 12 => s.setFld DR_STATUS_RANK_RETIRED (i / 2) (s.fld DR_STATUS_RANK_RETIRED (i / 2) ||| 2 ^ (i % 2))
  | _ => s

/-- The retirements that no block has acted on are acted on. -/
def State.settleOnce (s : State) : State :=
  let l := s.fm.todo
  l.foldl State.retireAct { s with fm := { s.fm with todo := [] } }

/-- The same, with the retirements that those actions caused. -/
def State.settle (s : State) : State := s.settleOnce.settleOnce

/-- REENABLE of a channel (R434): its flags and history clear, and its block's enables decide. -/
def State.reenable (s : State) (ch : Nat) : State :=
  let i := ch % 256
  let s := (s.cancelRetry ch)
  let s := (s.clr FM_CHAN_RETIRED (chanUnit ch)).setFld FM_CHAN_TRANSIENTS (chanUnit ch) 0
  let s := { s with fm := { s.fm with history := smSet [] s.fm.history ch [] } }
  match ch / 256 with
  | 2 => s.setRef i { s.ref i with reenab := true }
  | 3 => s.when (s.lanesUp i) (fun t => t.macLinkUp i)
  | 4 => s.laneBack false i
  | 5 => s.laneBack true i
  | 8 => s.ckoBack i
  | 9 => s.ckoOf i State.ckoBack
  | 11 => s.clr SQ_STATUS_RETIRED i
  | _ => s

end Sys2Proof.Machine
end

