-- ==== Sys2Proof/Machine/Fm.lean ====
section
/-! DEFINITION. The fault manager's commands as operations (R427 to R439), the self-tests and sensors that raise faults, the
performance counters (R440 to R445) and the test access port (R464). -/

namespace Sys2Proof.Machine

/-! ### Retries and injection (R433, R434, R439) -/

/-- A retry granted to the channel's block, which acts as its chapter states; where it states nothing, nothing follows. -/
def State.retryAct (s : State) (ch : Nat) : State :=
  let i := ch % 256
  match ch / 256 with
  | 1 =>
    if ch = Blk.chan .SY ∧ s.sy.phase = 5 ∧ s.sy.latched = true then
      let s := s.bandSelect
      { s with sy := { s.sy with lockTime := 0, failed := false } }
    else s
  | 2 => s.setRef i { s.ref i with granted := true }
  | 4 => s.ethRetry i
  | 5 => s.itlRetry i
  | 10 => { s with brd := { s.brd with kat := s.brd.kat.erase i } }
  | _ => s

/-- The retry of a channel when it falls due. -/
def State.retryGrant (s : State) (ch : Nat) : State :=
  match smGet none s.fm.retry ch with
  | some t => if t ≤ s.ti.elapsed then (s.cancelRetry ch).retryAct ch else s
  | none => s

/-- FM_INJECT. -/
def State.inject (s : State) (code cls chan detail : Nat) : State :=
  if 0xF000 ≤ code ∧ code < 0x10000 ∧ chanOk chan = true then s.logFault (code, cls % 4) chan detail
  else s.log CFG_RANGE .FM

/-! ### Self-test and sensors (R427) -/

/-- The known-answer test of crypto pipeline `p`: one that fails takes no work until its retry. -/
def State.katRun (s : State) (p : Nat) (ok : Bool) : State :=
  if s.retired 10 p then s
  else if ok then { s with brd := { s.brd with kat := s.brd.kat.erase p } }
  else ({ s with brd := { s.brd with kat := p :: s.brd.kat.erase p } }).logFault CRYPTO_KAT_FAIL (chanId 10 p) 0

/-- A die sensor's reading in 1/256 C. -/
def State.dieTemp (s : State) (k : Nat) : Int := signed 16 (s.fld HO_TEMP_DIE_TEMP k)

/-- The thresholds after new readings: a sensor below 105 C may warn again, and 115 C or more is timed. -/
def State.dieWatch (s : State) : State :=
  let hot := (List.range 4).any (fun k => 115 * 256 ≤ s.dieTemp k)
  { s with brd := { s.brd with
      warned := s.brd.warned.filter (fun k => 105 * 256 ≤ s.dieTemp k),
      hot := if hot then (match s.brd.hot with | some t => some t | none => some s.ti.elapsed) else none } }

/-- THERMAL_WARN of sensor `k`: once each time it rises through 105 C. -/
def State.dieWarn (s : State) (k : Nat) : State :=
  if 105 * 256 ≤ s.dieTemp k ∧ s.brd.warned.contains k = false then
    ({ s with brd := { s.brd with warned := k :: s.brd.warned } }).logFault FT_THERMAL_WARN 0 0
  else s

/-- THERMAL_TRIP: 115 C or more for 1 ms. -/
def State.dieTrip (s : State) : State :=
  match s.brd.hot with
  | some t => if t + msU ≤ s.ti.elapsed then ({ s with brd := { s.brd with hot := none } }).logFault FT_THERMAL_TRIP 0 0 else s
  | none => s

/-! ### Performance counters (R440 to R444) -/

/-- A counter's value before any write of this tick: what the tick's count is judged by (R443). Counters are numbered sequencer
× 8 + counter, cycle counters 64 + sequencer. -/
def State.pcBase (s : State) (f : Fld) (i key : Nat) : Nat := (smGet none s.tk.cnts key).getD (s.fld f i)

/-- A register of the counters about to be written: what it held before the tick's first write (R440, R443). -/
def State.pcNote (s : State) (d : RegD) (n : Nat) : State :=
  let note := fun (l : List (Nat × Option Nat)) (key v : Nat) => if (smGet none l key).isSome then l else smSet none l key (some v)
  if d.base = R_PC_CNT.base then { s with tk := { s.tk with cnts := note s.tk.cnts n (s.fld PC_CNT_COUNT n) } }
  else if d.base = R_PC_CYCLE.base then { s with tk := { s.tk with cnts := note s.tk.cnts (64 + n) (s.fld PC_CYCLE_COUNT n) } }
  else if d.base = R_PC_CFG.base then
    { s with tk := { s.tk with cfgs := note s.tk.cfgs n (s.fld PC_CFG_EVENT n + 128 * s.fld PC_CFG_EN n) } }
  else s

/-- A counter of field `f` counts `d` more. One written on this tick keeps the written value, plus one for a carry that reaches
it, while its overflow is judged by what it held before (R443). -/
def State.pcStep (s : State) (f : Fld) (i key d : Nat) (carry : Bool) : State :=
  match smGet none s.tk.cnts key with
  | some v =>
    { s.when carry (fun t => t.setFld f i (t.fld f i + d)) with
      tk := { s.tk with cnts := smSet none s.tk.cnts key (some ((v + d) % 2 ^ f.width)) } }
  | none => s.setFld f i (s.fld f i + d)

/-- Programmable counter `k` of sequencer `n` counts `d` more: it wraps at 2^48 and sets its bit. -/
def State.pcAdd (s : State) (n k d : Nat) (carry : Bool) : State :=
  (s.pcStep PC_CNT_COUNT (n * 8 + k) (n * 8 + k) d carry).when (2 ^ 48 ≤ s.pcBase PC_CNT_COUNT (n * 8 + k) (n * 8 + k) + d)
    (fun t => t.setFld PC_OVF_OVF n (t.fld PC_OVF_OVF n ||| 2 ^ k))

/-- The counters from `k` on, in SERVICE, take a carry when the one before wrapped. -/
def State.pcCarry (s : State) (n k : Nat) : Nat → State
  | 0 => s
  | f + 1 =>
    if k < 8 ∧ s.service = true ∧ s.flag PC_CFG_CHAIN (n * 8 + k) = true then
      let wraps := s.pcBase PC_CNT_COUNT (n * 8 + k) (n * 8 + k) = 2 ^ 48 - 1
      let t := s.pcAdd n k 1 true
      if wraps then t.pcCarry n (k + 1) f else t
    else s

/-- A programmable counter counts, with the carries. -/
def State.pcCount (s : State) (n k d : Nat) : State :=
  let wraps := 2 ^ 48 ≤ s.pcBase PC_CNT_COUNT (n * 8 + k) (n * 8 + k) + d
  let t := s.pcAdd n k d false
  if wraps then t.pcCarry n (k + 1) 8 else t

/-- EVENT and EN of a programmable counter as they are in effect on this tick: a change commits on the next (R440). -/
def State.pcCfg (s : State) (n k : Nat) : Nat :=
  (smGet none s.tk.cfgs (n * 8 + k)).getD (s.fld PC_CFG_EVENT (n * 8 + k) + 128 * s.fld PC_CFG_EN (n * 8 + k))

/-- Whether a programmable counter counts its event at all: CHAIN on counter 0 has no effect. -/
def State.pcOn (s : State) (n k : Nat) : Bool :=
  bitOf (s.pcCfg n k) 7 && (k == 0 || !s.flag PC_CFG_CHAIN (n * 8 + k))

/-- The fall-back counter that counts the event a programmable counter of sequencer `n` selects (R440, R444). -/
def State.pcEvent (s : State) (n k : Nat) : Nat :=
  let e := s.pcCfg n k % 128
  if e < 16 then n * 16 + e else e + 112

/-- The cycle counter of a sequencer. -/
def State.pcCycle (s : State) (n : Nat) : State :=
  (s.pcStep PC_CYCLE_COUNT n (64 + n) 1 false).when (s.pcBase PC_CYCLE_COUNT n (64 + n) + 1 == 2 ^ 64)
    (fun t => t.set1 PC_OVF_CYC_OVF n)

/-- A fall-back counter. -/
def State.pcFall (s : State) (e d : Nat) : State :=
  let v := s.fld PC_FB_COUNT e + d
  (s.setFld PC_FB_COUNT e v).when (2 ^ 32 ≤ v)
    (fun t => t.setFld PC_FB_OVF_OVF (e / 32) (t.fld PC_FB_OVF_OVF (e / 32) ||| 2 ^ (e % 32)))

/-- The counters take the occurrences of the tick just over. -/
def State.pcTick (s : State) : State :=
  let ev := s.evc
  let s := { s with evc := [] }
  let s := ev.foldl (fun (t : State) x => if x.1 < 240 then t.pcFall x.1 x.2 else t) s
  let s := (List.range 8).foldl (fun (t : State) n =>
    let t := t.when (t.flag SQ_CTL_EN n) (fun u => u.pcCycle n)
    (List.range 8).foldl (fun (u : State) k =>
      let d := smGet 0 ev (u.pcEvent n k)
      if u.pcOn n k = true ∧ d ≠ 0 then u.pcCount n k d else u) t) s
  { s with tk := { s.tk with cnts := [], cfgs := [] } }

/-- Engine events whose occurrences one queue of commands does not show: work of the crypto pipelines, transactions and urgent
grants of the matrix, DRAM bursts, misses of the client-table cache (R441; log entry 121). -/
def unseenEv (e : Nat) : Bool := (68 ≤ e && e ≤ 75) || (88 ≤ e && e ≤ 102) || e == 104 || e == 105 || e == 110

/-- A read of fall-back counter `e`, or of programmable counter `i`, sequencer × 8 + counter: one that counts such an event may
show any count. -/
def State.fbRead (s : State) (e : Nat) : Nat × State :=
  if 112 ≤ e ∧ unseenEv (e - 112) = true then (s.free.1 % 2 ^ 32, s.free.2) else (s.fld PC_FB_COUNT e, s)
def State.cntRead (s : State) (i : Nat) : Nat × State :=
  if s.flag PC_CFG_EN i = true ∧ unseenEv (s.fld PC_CFG_EVENT i) = true then (s.free.1 % 2 ^ 48, s.free.2)
  else (s.fld PC_CNT_COUNT i, s)

/-- Sequencers with EN set (R445). -/
def State.seqsOn (s : State) : Nat := ((List.range 8).filter (fun n => s.flag SQ_CTL_EN n)).length

/-- Whether an actor may read the counters through the matrix (R445). -/
def State.pcMayRead (s : State) (a : Actor) : Bool :=
  match a with
  | .pf0 => true
  | .seq n => !s.user n
  | _ => s.seqsOn ≤ 4

/-! ### Test access port (R464) -/

/-- Whether the boundary-scan instructions act: the engine held in cold reset, or BOOT before launch. -/
def State.scanOk (s : State) : Bool := s.bt.held || (s.mode == 0 && !s.flag BT_STATUS_LAUNCHED 0)

/-- The instruction in effect: one that may not act is BYPASS (0xFF). -/
def State.tapActs (s : State) : Nat :=
  let c := s.brd.tap
  if c = 1 ∨ c = 2 then c
  else if c = 0 ∨ c = 4 ∨ c = 5 ∨ c = 9 ∨ c = 10 then (if s.scanOk then c else 0xFF)
  else if c = 0x20 then (if s.lifeCycle ≤ 1 then c else 0xFF)
  else 0xFF

end Sys2Proof.Machine
end

