-- ==== Sys2Proof/Machine/BoardCmds.lean ====
section
/-! DEFINITION. The commands of the matrix controllers' reset, the DRAM channels, MSI-X and the board interfaces (R398, R400
to R403, R416, R418 to R423). -/

namespace Sys2Proof.Machine

/-- CONTROLLER_RESET: a write of BM_CTRL_RESET, from PF0 alone (R398). -/
def execControllerReset (a : Actor) (mask : Nat) (s : State) : Host.Outcome State Fault Refusal :=
  .next (s.gate a .BM (fun t => if a = .pf0 then t.ctrlReset mask else t))

/-- CONTROLLER_DRAIN_DONE (R398). -/
def execControllerDrainDone (c : Nat) (s : State) : Host.Outcome State Fault Refusal :=
  if c < 14 then .next (s.ctrlDrained c) else .fault .noSuchUnit

/-- A write of DR_CTL_c (R401): INIT is PF0's alone. -/
def State.drCtl (s : State) (a : Actor) (c : Nat) (init zero : Bool) : State :=
  (s.when (init && a == .pf0) (fun t => t.drInit c)).when zero (fun t => t.drZero c)

/-- DRAM_INIT (R401). -/
def execDramInit (a : Actor) (c : Nat) (s : State) : Host.Outcome State Fault Refusal :=
  if c < 2 then .next (s.gate a .DR (fun t => t.drCtl a c true false)) else .fault .noSuchUnit

/-- DRAM_INIT_DONE (R401). -/
def execDramInitDone (c : Nat) (ok : Bool) (s : State) : Host.Outcome State Fault Refusal :=
  if c < 2 then .next (s.drInitDone c ok).settle else .fault .noSuchUnit

/-- DRAM_ZERO (R401). -/
def execDramZero (a : Actor) (c : Nat) (s : State) : Host.Outcome State Fault Refusal :=
  if c < 2 then .next (s.gate a .DR (fun t => t.drCtl a c false true)) else .fault .noSuchUnit

/-- DRAM_ZERO_DONE (R401). -/
def execDramZeroDone (c : Nat) (s : State) : Host.Outcome State Fault Refusal :=
  if c < 2 then .next (s.clr DR_STATUS_ZERO_BUSY c) else .fault .noSuchUnit

/-- Whether an address lies in DRAM. -/
def inDram (addr : Nat) : Bool := targetOf addr == some 4 || targetOf addr == some 5

/-- DRAM_READ_ERROR: a read of the line at `addr` found an error (R402, R403). -/
def execDramReadError (addr : Nat) (ue : Bool) (s : State) : Host.Outcome State Fault Refusal :=
  if inDram addr then .next (s.drError addr (if ue then 2 else 1)).settle else .fault .noSuchUnit

/-- PATROL_SCRUB: the scrubber reads the line at `addr`; `err` 0 none, 1 corrected, 2 uncorrectable (R403). -/
def execPatrolScrub (addr err : Nat) (s : State) : Host.Outcome State Fault Refusal :=
  if inDram addr = true ∧ err < 3 then
    .next (if s.flag DR_SCRUB_HOURS (dramCh addr) then (s.drError addr err).settle else s)
  else .fault .noSuchUnit

/-- The vectors of a function (R416). -/
def vectorOk (fn v : Nat) : Bool := (fn == 0 && v < 224) || (fn == 1 && v < 32)

/-- A table entry is unmasked, and its pending message sent while Bus Master Enable is set (R416). -/
def State.msixUnmask (s : State) (fn v : Nat) : State :=
  let k := fn * 256 + v
  let t := { s with pe := { s.pe with unmasked := k :: s.pe.unmasked.erase k } }
  let bme := if fn = 0 then s.flag PE_STATUS_BME_PF0 0 else s.flag PE_STATUS_BME_PF1 0
  if s.pe.pend.contains k && bme then ({ t with pe := { t.pe with pend := t.pe.pend.erase k } }).emit (.msix fn v) else t

/-- A table entry is masked. -/
def State.msixMask (s : State) (fn v : Nat) : State :=
  { s with pe := { s.pe with unmasked := s.pe.unmasked.erase (fn * 256 + v) } }

/-- MSIX_UNMASK (R416). -/
def execMsixUnmask (fn v : Nat) (s : State) : Host.Outcome State Fault Refusal :=
  if vectorOk fn v then .next (s.msixUnmask fn v) else .fault .noSuchUnit

/-- UART_RX_BYTE (R418, R420). -/
def execUartRxByte (n byte : Nat) (framing : Bool) (back : Nat) (cut : Bool) (s : State) :
    Host.Outcome State Fault Refusal :=
  if n < 2 ∧ byte < 256 then .next (s.uartRx n byte framing back cut) else .fault .noSuchUnit

/-- UART_TX_WRITE (R418). -/
def execUartTxWrite (a : Actor) (n byte : Nat) (s : State) : Host.Outcome State Fault Refusal :=
  if n < 2 ∧ byte < 256 then .next (s.gate a .GP (fun t => t.uartTx n byte)) else .fault .noSuchUnit

/-- UART_TX_BYTE_DONE (R418). -/
def execUartTxByteDone (n : Nat) (s : State) : Host.Outcome State Fault Refusal :=
  if n < 2 then .next (s.uartSent n) else .fault .noSuchUnit

/-- I2C_TRANSACTION: GP_I2C_CMD is written with GO set (R421). -/
def execI2cTransaction (a : Actor) (addr wlen rlen : Nat) (s : State) : Host.Outcome State Fault Refusal :=
  if addr < 128 ∧ wlen < 16 ∧ rlen < 16 then .next (s.gate a .GP (fun t => t.i2cGo addr wlen rlen))
  else .fault .noSuchUnit

/-- I2C_DONE (R421). -/
def execI2cDone (nack timeout : Bool) (data : List Nat) (s : State) : Host.Outcome State Fault Refusal :=
  .next (s.i2cEnd nack timeout data)

/-- SPI_TRANSFER: GP_SPI_CMD is written with GO set (R422). -/
def execSpiTransfer (a : Actor) (len : Nat) (keep : Bool) (s : State) : Host.Outcome State Fault Refusal :=
  if len < 64 then .next (s.gate a .GP (fun t => t.spiGo len keep)) else .fault .noSuchUnit

/-- SPI_DONE (R422). -/
def execSpiDone (data : List Nat) (s : State) : Host.Outcome State Fault Refusal := .next (s.spiEnd data)

/-- SPI_DISABLE (R422). -/
def execSpiDisable (a : Actor) (s : State) : Host.Outcome State Fault Refusal :=
  .next (s.gate a .GP (fun t => t.spiOff))

/-- GPIO_SET and GPIO_CLR (R423). -/
def execGpioSet (a : Actor) (mask : Nat) (s : State) : Host.Outcome State Fault Refusal :=
  if mask < 65536 then .next (s.gate a .GP (fun t => t.gpioSet mask)) else .fault .noSuchUnit
def execGpioClr (a : Actor) (mask : Nat) (s : State) : Host.Outcome State Fault Refusal :=
  if mask < 65536 then .next (s.gate a .GP (fun t => t.gpioClr mask)) else .fault .noSuchUnit

/-- GPIO_INPUT_CHANGE: the synchronised levels of the balls (R423). -/
def execGpioInputChange (levels : Nat) (s : State) : Host.Outcome State Fault Refusal :=
  if levels < 65536 then .next (s.gpioLevels levels) else .fault .noSuchUnit

end Sys2Proof.Machine
end

