-- ==== Sys2Proof/Machine/FmCmds.lean ====
section
/-! DEFINITION. The commands of the fault manager, the self-tests and sensors, the performance counters, the PCI Express link
and the test access port (R413, R427 to R445, R464). The read of the fault queue is in RegCmds.lean. -/

namespace Sys2Proof.Machine

/-- FAULT_INJECT: a write of FM_INJECT (R439). -/
def execFaultInject (a : Actor) (code cls chan detail : Nat) (s : State) : Host.Outcome State Fault Refusal :=
  if code < 65536 ∧ cls < 4 ∧ chan < 65536 ∧ detail < 65536 then
    .next (s.gate a .FM (fun t => (t.inject code cls chan detail).settle))
  else .fault .noSuchUnit

/-- FATAL_WARM_RESET: 10 us after the fault, under policy WARM (R436). -/
def execFatalWarmReset (s : State) : Host.Outcome State Fault Refusal :=
  .next (match s.fm.warmAt with
    | some t => if t ≤ s.ti.elapsed then s.warmReset 3 else s
    | none => s)

/-- RETRY_GRANT (R433). -/
def execRetryGrant (ch : Nat) (s : State) : Host.Outcome State Fault Refusal :=
  if chanOk ch then .next (s.retryGrant ch).settle else .fault .noSuchUnit

/-- CHANNEL_REENABLE: REENABLE of FM_CHAN is written as 1 (R434). -/
def execChannelReenable (a : Actor) (ch : Nat) (s : State) : Host.Outcome State Fault Refusal :=
  if chanOk ch = true ∧ chanRetirable ch = true then .next (s.gate a .FM (fun t => t.reenable ch))
  else .fault .noSuchUnit

/-- CRYPTO_KAT: pipeline `p` runs its known-answer test (R427). -/
def execCryptoKat (p : Nat) (ok : Bool) (s : State) : Host.Outcome State Fault Refusal :=
  if p < 8 then .next (s.katRun p ok).settle else .fault .noSuchUnit

/-- THERMAL_WARN of die sensor `k` (R427). -/
def execThermalWarn (k : Nat) (s : State) : Host.Outcome State Fault Refusal :=
  if k < 4 then .next (s.dieWarn k) else .fault .noSuchUnit

/-- THERMAL_TRIP (R427). -/
def execThermalTrip (s : State) : Host.Outcome State Fault Refusal := .next s.dieTrip

/-- TIME_CORE_PARITY (R427). -/
def execTimeCoreParity (s : State) : Host.Outcome State Fault Refusal := .next (s.log FT_TIME_CORE_PARITY .TC)

/-- SRAM_ERROR in matrix target 2, 3 or 10, which the record's detail names (R427). -/
def execSramError (target : Nat) (ue : Bool) (s : State) : Host.Outcome State Fault Refusal :=
  if target = 2 ∨ target = 3 ∨ target = 10 then
    .next (s.logFault (if ue then SRAM_UE else SRAM_CE) (Blk.chan .BM) target)
  else .fault .noSuchUnit

/-- COUNTER_OVERFLOW: a counter that stands at all ones counts once more (R442, R444): programmable counter `k` of sequencer
`n`; `k` = 8 its cycle counter; `n` = 8 the fall-back counter of event `k`. -/
def execCounterOverflow (n k : Nat) (s : State) : Host.Outcome State Fault Refusal :=
  if n < 8 ∧ k < 8 then
    .next (if s.pcOn n k = true ∧ s.pcBase PC_CNT_COUNT (n * 8 + k) (n * 8 + k) = 2 ^ 48 - 1 then s.pcCount n k 1 else s)
  else if n < 8 ∧ k = 8 then
    .next (if s.flag SQ_CTL_EN n = true ∧ s.pcBase PC_CYCLE_COUNT n (64 + n) = 2 ^ 64 - 1 then s.pcCycle n else s)
  else if n = 8 ∧ k < 240 then
    .next (if s.fld PC_FB_COUNT k = 2 ^ 32 - 1 then s.pcFall k 1 else s)
  else .fault .noSuchUnit

/-- PCIE_LINK_UP: the link trains at 2.5, 5, 8 or 16 GT/s (`speed` 1 to 4) and at a width of 1, 2, 4 or 8 (R413). -/
def execPcieLinkUp (speed width : Nat) (s : State) : Host.Outcome State Fault Refusal :=
  if 1 ≤ speed ∧ speed ≤ 4 ∧ (width = 1 ∨ width = 2 ∨ width = 4 ∨ width = 8) then
    .next (if s.bt.held then s
      else ((s.set1 PE_STATUS_LINK_UP 0).setFld PE_STATUS_SPEED 0 speed).setFld PE_STATUS_WIDTH 0 width)
  else .fault .noSuchUnit

/-- TAP_INSTRUCTION: an instruction is loaded into the test access port; IDCODE then reads its value (ball code 0x400, R464). -/
def execTapInstruction (code : Nat) (s : State) : Host.Outcome State Fault Refusal :=
  if code < 256 then .next ({ s with brd := { s.brd with tap := code } }.when (code == 1) (fun t => t.emit (.ball 0x400 0x1883054F)))
  else .fault .noSuchUnit

end Sys2Proof.Machine
end

