-- ==== Sys2Proof/Machine/LaneCmds.lean ====
section
/-! DEFINITION. The commands of the serial lanes (chapter 11). -/

namespace Sys2Proof.Machine

/-- A command on a unit that must be below a limit: its state, settled; else no such unit. -/
def onUnit (ok : Bool) (s : State) : Host.Outcome State Fault Refusal := if ok then .next s.settle else .fault .noSuchUnit

/-- ETH_LANE_ENABLE (R261, R278, R279). -/
def execEthLaneEnable (n : Nat) (s : State) : Host.Outcome State Fault Refusal :=
  onUnit (n < 16) (if s.flag SL_ETH_CTL_EN n then s else s.ethEnable n)

/-- LANE_CAL_COMPLETE, and the tracking of a lane that runs: the sum of both delays and the transmit delay in 2^-16 ns, the scatter in fs (R279). -/
def execLaneCalComplete (irnak : Bool) (n sum dtx scatter : Nat) (s : State) : Host.Outcome State Fault Refusal :=
  onUnit (n < (if irnak then 8 else 16) && dtx ≤ sum && sum < 2 ^ 32) (s.laneCal irnak n sum dtx scatter)

/-- ETH_LINK_UP (R261); `swap`, the board crosses the lane's receive pair (R259). -/
def execEthLinkUp (n : Nat) (swap : Bool) (s : State) : Host.Outcome State Fault Refusal := onUnit (n < 16) (s.ethUp n swap)

/-- ETH_TRAIN_FAIL (R261). -/
def execEthTrainFail (n : Nat) (s : State) : Host.Outcome State Fault Refusal := onUnit (n < 16) (s.ethTrainFail n)

/-- ETH_LINK_LOSS: `inFrame`, a frame was being received (R300). -/
def execEthLinkLoss (n : Nat) (inFrame : Bool) (s : State) : Host.Outcome State Fault Refusal :=
  onUnit (n < 16) (s.ethLoss n inFrame)

/-- ITL_LANE_ENABLE (R276, R278, R279). -/
def execItlLaneEnable (n : Nat) (s : State) : Host.Outcome State Fault Refusal :=
  onUnit (n < 8) (if s.flag SL_ITL_CTL_EN n then s else s.itlEnable n)

/-- ITL_SUPERWORD_TX: the receiver's wish for the far transmitter and its verdict, while training (R262 to R270, R275). -/
def execItlSuperwordTx (n req : Nat) (ready : Bool) (s : State) : Host.Outcome State Fault Refusal :=
  onUnit (n < 8) (s.itlSend n req ready)

/-- ITL_SUPERWORD_RX (R264 to R273): the 16 header slots and the 1,008 after them as they come from the ball, first slot most
significant; `arr`, its header's arrival in 1/8192 ticks before this one; `seed`, see itlWord. -/
def execItlSuperwordRx (n hdr line arr seed : Nat) (s : State) : Host.Outcome State Fault Refusal :=
  onUnit (n < 8) (s.itlBall n hdr line seed arr)

/-- TRAIN_REQUEST_REPEAT (R275). -/
def execTrainRequestRepeat (n : Nat) (s : State) : Host.Outcome State Fault Refusal := onUnit (n < 8) (s.trainRepeat n)

/-- ITL_TRAIN_FAIL (R276). -/
def execItlTrainFail (n : Nat) (s : State) : Host.Outcome State Fault Refusal := onUnit (n < 8) (s.itlTrainFail n)

/-- ITL_WINDOW_END (R272 to R274). -/
def execItlWindowEnd (n : Nat) (s : State) : Host.Outcome State Fault Refusal := onUnit (n < 8) (s.itlWindow n)

/-- LANE_FREEZE_TIMEOUT (R104, R277). -/
def execLaneFreezeTimeout (irnak : Bool) (n : Nat) (s : State) : Host.Outcome State Fault Refusal :=
  onUnit (n < (if irnak then 8 else 16)) (s.laneFrozen irnak n)

end Sys2Proof.Machine
end

