-- ==== Sys2Proof/Machine/RcCmds.lean ====
section
/-! DEFINITION. The commands of the receipt service (chapter 14). -/

namespace Sys2Proof.Machine

/-- RECEIPT_REQUEST: the request that comes first in the order key, once the frontier has passed it (R334 to R338, R340). -/
def execReceiptRequest (s : State) : Host.Outcome State Fault Refusal :=
  match rcFirst s.ts.queue with
  | some q => .next (if s.frontier q = true ∧ s.jAsleep = false then (s.rcRequest q).settle else s)
  | none => .next s

/-- RECEIPT_PLACE (R340). -/
def execReceiptPlace (s : State) : Host.Outcome State Fault Refusal := .next s.rcPlace.settle

/-- JOURNAL_WRITE_DONE (R340). -/
def execJournalWriteDone (s : State) : Host.Outcome State Fault Refusal := .next (if s.jAsleep then s else s.journalDone.settle)

/-- MIRROR_TIMEOUT (R341). -/
def execMirrorTimeout (s : State) : Host.Outcome State Fault Refusal :=
  .next (if s.mirrorLate then s.mirrorTimeout.settle else s)

/-- TALLY_BOUNDARY (R346). -/
def execTallyBoundary (s : State) : Host.Outcome State Fault Refusal := .next s.tallyBoundary.settle

/-- BATCH_CLOSE (R346 to R349). -/
def execBatchClose (s : State) : Host.Outcome State Fault Refusal := .next s.batchFinish.settle

/-- BATCH_SIGNED (R348, R29). -/
def execBatchSigned (s : State) : Host.Outcome State Fault Refusal := .next s.batchSigned.settle

/-- ARCHIVE_STREAM (R352). -/
def execArchiveStream (s : State) : Host.Outcome State Fault Refusal := .next (if s.jAsleep then s else s.archive.settle)

/-- RC_DISABLE (R342): EN is written as 0. -/
def execRcDisable (a : Actor) (s : State) : Host.Outcome State Fault Refusal :=
  .next (s.gate a .RC (fun t => if t.flag RC_CTL_EN 0 then (t.clr RC_CTL_EN 0).rcStop 5 else t)).settle

/-- A submitter command (R331): from PF0 or a supervisor-mode program, else no effect. -/
def State.subCmd (s : State) (a : Actor) (k : State → State) : State :=
  s.gate a .RC (fun t => if t.subMay a then (k t).settle else t)

/-- SUB_REGISTER. -/
def execSubRegister (a : Actor) (s : State) : Host.Outcome State Fault Refusal :=
  .next (s.subCmd a (fun t => t.subWrite a false))

/-- SUB_UPDATE. -/
def execSubUpdate (a : Actor) (s : State) : Host.Outcome State Fault Refusal :=
  .next (s.subCmd a (fun t => t.subWrite a true))

/-- SUB_REMOVE. -/
def execSubRemove (a : Actor) (s : State) : Host.Outcome State Fault Refusal := .next (s.subCmd a State.subRemove)

/-- SUB_READ. -/
def execSubRead (a : Actor) (s : State) : Host.Outcome State Fault Refusal := .next (s.subCmd a State.subRead)

/-- SUB_SUSPEND. -/
def execSubSuspend (a : Actor) (s : State) : Host.Outcome State Fault Refusal :=
  .next (s.subCmd a (fun t => t.subSuspend true))

/-- SUB_RESUME. -/
def execSubResume (a : Actor) (s : State) : Host.Outcome State Fault Refusal :=
  .next (s.subCmd a (fun t => t.subSuspend false))

/-- FETCH_TIMEOUT: no answer to a FETCH within RC_MIRROR_TO (R351, R369): the slot cannot be recovered. -/
def execFetchTimeout (s : State) : Host.Outcome State Fault Refusal :=
  match s.rc.fetch with
  | some (k, t) =>
    .next (if t + s.fld RC_MIRROR_TO_US 0 * usU ≤ s.ti.elapsed then
      ((s.setRc { s.rc with fetch := none }).twDrop (fun m => m.typ == 4) |>.slotLost k).settle else s)
  | none => .next s

end Sys2Proof.Machine
end

