-- ==== Sys2Proof/Machine/NetOps.lean ====
section
/-! DEFINITION. What the commands of the MAC instances, the pipelines and the time service do (R281 to R331, R404, R409 to
R411, R230) over the operations of Mac.lean, TimeService.lean and Ptp.lean. -/

namespace Sys2Proof.Machine

/-! ### Reception and the pipelines (R282, R302, R303, R318) -/

/-- A frame ends: what its start noted, or, for a frame that starts in this tick, its reference point captured `back` (2^-16 ns)
before the present tick on the group's `lane`. One that EN no longer admits is let go (R42). -/
def State.macFrame (s : State) (n : Nat) (b : List Nat) (fcs pcs frag asm : Bool) (back lane : Nat) : State :=
  match (s.mac n).rx with
  | h :: l =>
    let s := s.setMac n { s.mac n with rx := l }
    (if s.flag MC_CTL_EN n then s.macRx n b fcs pcs frag asm h else s).fcEval n
  | [] => if s.rxOpen n then (s.macRx n b fcs pcs frag asm (s.rxHead n back lane)).fcEval n else s

/-- A frame goes to the host by way of staging ring 48 or 49 (R302, R404). -/
def State.toHost (s : State) (n : Nat) (f : RxFrame) : State :=
  let w := wncOf f.stamp
  let s := s.tsCnt 24 1
  let p := s.ringOffer (48 + n / 8) 0x20 0 f.bytes.length 0 0 (w / 2 ^ 16) (w % 2 ^ 16 * 2 ^ 16 + n) f.bound f.seq
  if p.2 then p.1.setTs { p.1.ts with staged := p.1.ts.staged ++ [(48 + n / 8, f)] }
  else p.1.rcAdd RG_DROP_COUNT (s.fld TS_CTL_HOST_RING 0) 1

/-- The service address that a request was sent to; 0xFF over Ethernet. -/
def State.saOf (s : State) (q : SvcReq) : Nat :=
  if q.peer.net = 2 then 0xFF else (s.saFind q.inst q.peer.net q.peer.here q.peer.tag).getD 0xFF

/-- A request waits for its service. -/
def State.svcPut (s : State) (q : SvcReq) : State := s.setTs { s.ts with queue := s.ts.queue ++ [q] }

/-- A classified request (R301, R309, R318, R319): counted, dropped on SAFE_OSC, or charged to its source. -/
def State.pipeSvc (s : State) (n : Nat) (q : SvcReq) : State :=
  let s := s.stat n (if q.tag = 2 then 23 else if q.tag = 3 then 24 else 22) 1
  if q.tag = 2 ∨ q.tag = 3 then s.svcPut q
  else if q.safe then s.tsCnt 9 1
  else if q.tag = 1 ∨ q.tag = 4 ∨ q.tag = 5 ∨ q.tag = 6 then
    let r := s.rateTake (s.saOf q) q.peer.net q.peer.addr 1 (q.tag == 1)
    if r.2.1 then r.1.svcPut q
    else
      let s := r.1.engEv 111
      if r.2.2 then
        let k := s.ntpKiss q "RATE" (s.isNts q.unit_ q.body)
        (k.2.answer q k.1).tsCnt 6 1
      else s.tsCnt 7 1
  else s.svcPut q

/-- The bucket that a frame's class takes tokens from (R318). -/
def Class.bucket : Class → Option (Nat × List Nat)
  | .svc q => if q.tag = 1 ∨ q.tag = 3 ∨ q.tag = 4 ∨ q.tag = 5 ∨ q.tag = 6 then some (q.peer.net, bucketKey q.peer.net q.peer.addr) else none
  | _ => none

/-- Whether a request on the same bucket has an earlier ingress stamp, a tie going to the lower instance, and has not been charged
yet: in the buffer, or as an attestation request that waits (R318). -/
def State.bucketWaits (s : State) (c : Class) (stamp n : Nat) (queued : Bool) : Bool :=
  let before := fun (t m : Nat) => decide (t < stamp) || (t == stamp && decide (m < n))
  c.bucket.isSome &&
    ((List.range 16).any (fun m => (s.mac m).stored.any (fun g => before g.stamp m && (s.classify g).bucket == c.bucket)) ||
      (queued && s.ts.queue.any (fun q => q.tag == 3 && before q.stamp q.inst && (Class.svc q).bucket == c.bucket)))

/-- The oldest stored frame of an instance is taken and classified; it waits for an earlier request on its bucket. -/
def State.pipeline (s : State) (n : Nat) : State :=
  match (s.mac n).stored with
  | [] => s
  | f :: fs =>
    if s.bucketWaits (s.classify f) f.stamp n true then s
    else
    let s := s.setMac n { s.mac n with stored := fs }
    let s := match s.classify f with
      | .host => s.toHost n f
      | .badSum => s.tsCnt 15 1
      | .arp _ _ p => (((s.stat n 25 1).macSend n (s.arpFrame n 2 p p.mac p.addr))).tsCnt 23 1
      | .nd _ _ p => ((s.stat n 25 1).macSend n (s.naFrame n p true)).tsCnt 23 1
      | .svc q => s.pipeSvc n q
    s.fcAll

/-! ### Timed launches (R294 to R297, R306, R308, R149) -/

/-- The launch leaves the time service's list. -/
def State.unseal (s : State) (i : Nat) : State := s.setTs { s.ts with sealing := s.ts.sealing.eraseIdx i }

/-- A crypto pipeline has sealed launch `i` (R306). -/
def State.sealDone (s : State) (i : Nat) : State :=
  match s.ts.sealing[i]? with
  | some r =>
    if s.now + 100 * nsU ≤ r.t3 then s.setTs { s.ts with sealing := s.ts.sealing.set i { r with sealed := true } }
    else (s.unseal i).missed ptpLaunch r
  | none => s

/-- A launch takes its place by T3. -/
def gateIns (r : Resp) (l : List Resp) : List Resp :=
  l.takeWhile (fun x => x.t3 ≤ r.t3) ++ r :: l.dropWhile (fun x => x.t3 ≤ r.t3)

/-- A launch is missed at the gate: counted and returned (R297, R308). -/
def State.gateReturn (s : State) (n : Nat) (r : Resp) : State := (s.stat n 34 1).missed ptpLaunch r

/-- Launch `i` is handed to the gate (R294). -/
def State.handover (s : State) (i : Nat) : State :=
  match s.ts.sealing[i]? with
  | some r =>
    if r.sealed = false then s
    else
      let n := r.inst
      let s := s.unseal i
      let g := (s.mac n).gate
      if s.now + 100 * nsU ≤ r.t3 ∧ r.t3 ≤ s.now + 110 * usU ∧ g.length < 64 ∧
          g.all (fun x => !s.overlap n r.t3 (lineLen r.bytes) x.t3 (lineLen x.bytes)) = true then
        s.setMac n { s.mac n with gate := gateIns r g }
      else s.gateReturn n r
  | none => s

/-- The first held launch that has not passed its clear instant reaches it (R295, R297). -/
def State.clearInstant (s : State) (n : Nat) : State :=
  match (s.mac n).gate.find? (fun r => !r.cleared) with
  | some r =>
    if s.clearAt n r ≤ s.now then
      let c := s.ti.elapsed + s.clearAt n r - s.now
      let s := s.preempt n c
      let gap := s.octU n 12
      let bad := s.heldAt n (s.prioOf n r.bytes) c || !s.flag MC_STATUS_LINK_UP n || s.flag MC_CTL_MUTE n ||
        s.flag MC_STATUS_MUTED n || s.flag MC_STATUS_WAKING n || decide (c + gap < (s.mac n).curEnd)
      let rest := (s.mac n).gate.erase r
      if bad then (s.setMac n { s.mac n with gate := rest }).gateReturn n r
      else s.setMac n { s.mac n with gate := gateIns { r with cleared := true } rest }
    else s
  | none => s

/-- What a launched response counts as; a PKT instance notes its request's launch (R301, R328). -/
def State.launched (s : State) (r : Resp) : State :=
  match r.kind with
  | 0 => (s.tsCnt 0 1).engEv 76
  | 1 => (s.tsCnt 1 1).engEv 76
  | 2 => (s.tsCnt 16 1).engEv 77
  | 3 => (s.tsCnt 18 1).engEv 77
  | _ =>
    let k := r.rq.unit_
    (s.pktSent k r.seqId r.t3 r.b3).engEv 77

/-- The held launch whose T3 falls in this tick leaves, unless its bound no longer holds or it is late (R26, R149, R296). -/
def State.release (s : State) (n : Nat) : State :=
  match (s.mac n).gate with
  | r :: g =>
    if r.cleared = false ∨ s.now + s.applied ≤ r.t3 then s
    else
      let s := s.setMac n { s.mac n with gate := g }
      if r.t3 < s.now then s.gateReturn n r
      else if s.condemned r then s.missedBound ptpLaunch r
      else
        let b := padTo 60 r.bytes
        let s := s.setMac n { s.mac n with curEnd := s.ti.elapsed + (r.t3 - s.now) + s.octU n (lineLen b + 12) }
        let s := (((s.stat n 28 (lineLen b)).stat n 29 1).stat n 30 1).stat n 33 1
        let s := s.engEv (44 + n)
        (s.frameOut n (.frame n true r.t3 b) b (s.ti.elapsed + (r.t3 - s.now))).launched r
  | [] => s

/-- The first reserved launch whose sealed bound the present coefficients condemn, with its place: true in the gate. -/
def State.condemn1 (s : State) : State :=
  match s.ts.sealing.find? (fun r => s.condemned r) with
  | some r => (s.setTs { s.ts with sealing := s.ts.sealing.erase r }).missedBound ptpLaunch r
  | none =>
    match (List.range 16).findSome? (fun n => ((s.mac n).gate.find? (fun r => s.condemned r)).map (fun r => (n, r))) with
    | some (n, r) => (s.setMac n { s.mac n with gate := (s.mac n).gate.erase r }).missedBound ptpLaunch r
    | none => s

/-- Every condemned launch is returned (R149). -/
def State.condemnAll (s : State) : State :=
  let k := s.ts.sealing.length + ((List.range 16).map (fun n => (s.mac n).gate.length)).sum
  (List.range k).foldl (fun t _ => t.condemn1) s

/-- What a switch to SAFE_OSC, or a growth of BG_WIDEN, means for launches (R149, R309). -/
def State.clocked (new old : State) : State :=
  let t := if old.safe = false ∧ new.safe = true then new.safeDrop else new
  if t.ti.widenAcc = old.ti.widenAcc then t else t.condemnAll

/-! ### Mute and wake (R298, R299) -/

/-- MUTE is written as 1. -/
def State.mute (s : State) (n : Nat) : State :=
  if s.flag MC_CTL_MUTE n then s
  else
    let s := (s.macMute n).gateMiss n
    if s.flag MC_STATUS_MUTED n then
      (s.macLanes n).foldl (fun t k => t.setEth k { t.ethL k with phase := 0 } |>.clr SL_ETH_STATUS_TRAINING k) s
    else s

/-- Everything R298 asks for is complete: the instance is down for every other block. -/
def State.muted (s : State) (n : Nat) : State :=
  let m := s.mac n
  if s.flag MC_CTL_MUTE n = false ∨ s.flag MC_STATUS_MUTED n = true ∨ m.cur.isSome = true ∨ m.part.isSome = true ∨
      m.rx ≠ [] ∨ s.ti.elapsed < m.curEnd then s
  else
    let s := (List.range 9).foldl (fun t p => t.holdEnd n p) s
    let s := (s.setMac n { s.mac n with ctl := [], xoff := none, curEnd := 0 }).clr MC_STATUS_XOFF n
    let s := ((s.set1 MC_STATUS_MUTED n).clr MC_STATUS_LINK_UP n).clr MC_STATUS_PREEMPT_ACTIVE n
    (s.macLanes n).foldl (fun t k =>
      (((t.when (t.flag SL_ETH_STATUS_UP k) (fun u => u.set1 SL_ETH_STATUS_LINK_LOST k)).clr SL_ETH_STATUS_UP k).clr
        SL_ETH_STATUS_TRAINING k).setEth k { t.ethL k with phase := 0 }) s

/-- The instance leaves mute; the start signal is sent when the host cleared MUTE (ball code 0x200 + instance). -/
def State.unmute (s : State) (n : Nat) (host : Bool) : State :=
  if s.flag MC_CTL_MUTE n then
    let s := s.clr MC_CTL_MUTE n
    if s.flag MC_STATUS_MUTED n then
      let s := (s.set1 MC_STATUS_WAKING n).when host (fun t => t.emit (.ball (0x200 + n) 1))
      (s.macLanes n).foldl (fun t k =>
        if t.flag SL_ETH_CTL_EN k = true ∧ t.retired 4 k = false then t.ethTrain k true else t) s
    else s
  else s

/-- The wake-pattern detector has seen transitions for `ns` nanoseconds. -/
def State.wake (s : State) (n ns : Nat) : State :=
  if s.flag MC_CTL_MUTE n = false ∨ s.flag MC_STATUS_MUTED n = false then s
  else if ns < 1000 then s.stat n 47 1
  else
    let s := (s.stat n 46 1).set1 MC_STATUS_WAKE_EVENT n
    if s.flag MC_CTL_WAKE_EN n then s.unmute n false else s

/-! ### NTP, NTS, attestation (R310 to R316, R329, R230, R231) -/

/-- A timed launch to be decided for a request. -/
def respOf (kind : Nat) (q : SvcReq) (keys : List Nat) (cookies : List (List Nat)) : Resp :=
  { kind := kind, inst := q.inst, rq := q, seqId := 0, keys := keys, cookies := cookies, tries := 0, t3 := 0, b3 := 0,
    sealed := false, cleared := false, bytes := [] }

/-- An NTS request (R313, R315, R316). -/
def State.ntsServe (s : State) (q : SvcReq) : State :=
  if !ntsOk q.body then s.tsCnt 3 1
  else
    match s.cookieOpen (((extOf q.body 0x0204).getD []).drop 4) with
    | none =>
      let k := s.ntpKiss q "NTSN" true
      (k.2.answer q k.1).tsCnt 2 1
    | some keys =>
      if !ntsAuthOk q.body keys then s.tsCnt 4 1
      else
        let want := 1 + ((exts q.body).filter (fun e => e.1 == 0x0304)).length
        let fit := s.cookieFit q want
        if fit = 0 then s.tsCnt 14 1
        else
          let c := s.cookies keys fit
          c.2.decide_ ptpLaunch (respOf 1 q keys c.1)

/-- The oldest NTP or NTS request is served (R310, R311, R329); one taken before EN was cleared still is (R42). -/
def State.ntpServe (s : State) : State :=
  match s.svcTake 1 none with
  | none => s
  | some (q, s) =>
    if s.service = false ∨ s.roleServes = false then s
    else if s.safe then s.tsCnt 9 1
    else if s.stopped then s.tsCnt 8 1
    else if s.isNts q.unit_ q.body then s.ntsServe q
    else if s.flag TS_SA_CTL_NTP q.unit_ = false then s.tsCnt 5 1
    else s.decide_ ptpLaunch (respOf 0 q [] [])

/-- The oldest attestation request is captured or dropped (R230, R231). -/
def State.attestServe (s : State) : State :=
  match s.svcTake 3 none with
  | none => s
  | some (q, t) =>
    if s.bucketWaits (.svc q) q.stamp q.inst false then s
    else
    let s := t
    let drop := fun (t : State) => t.rcAdd BT_NET_DROP_COUNT 0 1
    if s.flag LC_STATE_RESET_REQUIRED 0 then s.ksRefuseBy .pf1 0 1
    else if !attestOk q.body || s.netSpent || decide (14 ≤ s.netWaiting) then drop s
    else
      let r := s.rateTake q.unit_ q.peer.net q.peer.addr (s.fld BT_NET_CFG_COST 0) false
      if !r.2.1 then drop r.1
      else
        let s := r.1.netSpend.quoteCapture 2 ((q.body.drop 8).take 32) (beAt q.body 4 4) q.inst 0
        s.setTs { s.ts with attest := s.ts.attest ++ [q] }

/-- A network quote is signed: the response leaves (R230, R231); BT_NET_SENT counts one that its instance has taken. -/
def State.attestAnswer (s : State) (req : Nat) (quote : List Nat) : State :=
  match s.ts.attest with
  | q :: qs =>
    let t := (s.setTs { s.ts with attest := qs }).answer q (attestResponse req quote)
    t.when (decide ((s.mac q.inst).pre.length < (t.mac q.inst).pre.length)) (fun u => u.rcAdd BT_NET_SENT_COUNT 0 1)
  | [] => s

/-! ### Cookie minting (R317) and announcements (R305) -/

/-- The two client keys read, and their 64 bytes overwritten with zero. -/
def State.mintTake (s : State) (count : Nat) : State :=
  let src := s.fld TS_MINT_SRC_ADDR 0
  let keys := s.bytesAt src 64
  let s := s.memWrite (.ctrl 4) src (List.replicate 64 0)
  s.setTs { s.ts with mint := some (count, keys) }

/-- TS_MINT_CTL.GO; keys in a DRAM channel in self-refresh are read once it has left it (R23). -/
def State.mintGo (s : State) (a : Actor) (count : Nat) : State :=
  if a ≠ .pf0 ∨ (s.genLive 1 false = false ∧ s.genLive 1 true = false) ∨ count = 0 ∨ 8 < count ∨
      s.flag TS_MINT_CTL_BUSY 0 = true then
    s.set1 TS_MINT_CTL_FAILED 0
  else
    let s := s.set1 TS_MINT_CTL_BUSY 0
    if s.asleep (s.fld TS_MINT_SRC_ADDR 0) then s.setTs { s.ts with mint := some (count, []) } else s.mintTake count

/-- The cookies of `keys` are written. -/
def State.mintWrite (s : State) (k : Nat) (keys : List Nat) : State :=
  let c := s.cookies keys k
  let s := (c.2.setTs { c.2.ts with mint := none }).memWrite (.ctrl 4) (c.2.fld TS_MINT_DEST_ADDR 0) c.1.flatten
  ((s.clr TS_MINT_CTL_BUSY 0).set1 TS_MINT_CTL_DONE 0).tsCnt 25 k

/-- The minted cookies are written, once their DRAM channels are out of self-refresh. -/
def State.mintDone (s : State) : State :=
  match s.ts.mint with
  | some (k, keys) =>
    if s.asleep (s.fld TS_MINT_DEST_ADDR 0) then s
    else if keys ≠ [] then s.mintWrite k keys
    else if s.asleep (s.fld TS_MINT_SRC_ADDR 0) then s
    else
      let t := s.mintTake k
      t.mintWrite k ((t.ts.mint.map (·.2)).getD [])
  | none => s

/-- The gratuitous ARP, or unsolicited Neighbor Advertisement, of service address `k` on instance `n`. -/
def State.announceSa (s : State) (k n : Nat) : State :=
  let v6 := s.flag TS_SA_CTL_IPV6 k
  let ad := s.saAddr k
  let p : Peer := { Peer.init with tag := s.saTag k, here := ad }
  if v6 then s.macSend n (s.naFrame n { p with net := 1, mac := 0x333300000001, addr := 0xFF02 * 2 ^ 112 + 1 } false)
  else s.macSend n (s.arpFrame n 1 { p with mac := 0xFFFFFFFFFFFF } 0 ad)

/-- One round of announcements. -/
def State.announceRound (s : State) : State :=
  if s.ts.rounds = 0 ∨ s.ti.elapsed < s.ts.roundAt then s
  else
    let s := s.setTs { s.ts with rounds := s.ts.rounds - 1, roundAt := s.ts.roundAt + msU }
    let s := (List.range 64).foldl (fun t k =>
      if t.flag TS_SA_CTL_EN k = true ∧ t.flag TS_SA_CTL_ARP_ND k = true then
        (List.range 16).foldl (fun u n => if u.saMac k n = true ∧ u.macExists n = true then u.announceSa k n else u) t
      else t) s
    if s.stopped then s
    else
      let s := (List.range 16).foldl (fun t m =>
        if t.portReady m = true ∧ t.flag TS_PTP_CTL_MCAST m = true then t.annMcast m else t) s
      s.ctGrants.foldl (fun t a => if t.grantLive (t.ctGet a) 0 then t.grantSend a 1 else t) s

/-- The multicast Announce interval of port `m` expires (R324). -/
def State.annTimer (s : State) (m : Nat) : State :=
  if s.portReady m = true ∧ s.flag TS_PTP_CTL_MCAST m = true ∧ s.stopped = false ∧
      s.mcastDue (s.ptp m).annAt (s.fld TS_PTP_LOG_ANN_LOG m) = true then s.annMcast m
  else s

/-- The grants of the entry at `a` that have reached their expiry end (R327). -/
def State.grantExpire (s : State) (a : Nat) : State :=
  (List.range 3).foldl (fun t ty =>
    let e := t.ctGet a
    if e.getD 0 0 = 2 ∧ e.getD (42 + ty) 0x7F ≠ 0x7F ∧ t.grantLive e ty = false then t.grantStop a ty else t) s

/-- The answers to PKT instance `n`'s grant requests are taken, then its grants are requested or renewed (R328). -/
def State.pktGrants (s : State) (n : Nat) : State :=
  match s.svcTake 10 (some n) with
  | some (q, t) => (t.pktGranted n q).pktRenew n
  | none => s.pktRenew n

/-! ### Rings (R404, R409, R411, R417) -/

/-- The head descriptor of staging ring `r` leaves it. -/
def State.stagePop (s : State) (r : Nat) : State := (s.ringTake r).descDone r (s.ring r).fetch (s.descRead r (s.ring r).fetch)

/-- A staged frame goes to the host (R411): dropped when no buffer takes it, held while the host ring has no room. -/
def State.hostFrame (s : State) (r : Nat) : State :=
  match s.ts.staged.find? (fun x => x.1 == r) with
  | some x =>
    let f := x.2
    let d := s.fld TS_CTL_HOST_RING 0
    let out := fun (t : State) => (t.setTs { t.ts with staged := t.ts.staged.erase x }).stagePop r
    if s.flag PE_STATUS_BME_PF0 0 = false then (out s).rcAdd RG_DROP_COUNT d 1
    else if s.ringRoom d = false then s.when (s.ringOn d) (fun t => t.set1 RG_STATUS_FULL d)
    else
      let b := s.rxBuffer d f.bytes.length
      match b.2 with
      | none => (out b.1).rcAdd RG_DROP_COUNT d 1
      | some k =>
        let s := b.1
        let bd := s.descRead (16 + s.fld RG_CTL_FREE d) k
        let ad := bits bd 64 64
        let w := wncOf f.stamp
        let s := { s with hostMem := memPutBytes s.hostMem ad f.bytes }.engEv 127
        let s := (s.ringTake (16 + s.fld RG_CTL_FREE d)).descDone (16 + s.fld RG_CTL_FREE d) k bd
        let p := s.ringOffer d 0x20 0 f.bytes.length (ad % 2 ^ 32) (ad / 2 ^ 32) (w / 2 ^ 16) (w % 2 ^ 16 * 2 ^ 16 + f.inst) f.bound f.seq
        (out p.1).stat f.inst 26 1
  | none => s

/-- A root record has been posted: ARCHIVED passes its batch (R352). -/
def State.archDone (s : State) : State :=
  match s.rc.arch with
  | r :: rs => { s.setFld RC_JRN_ARCHIVED_INDEX 0 ((r.slot + r.len) % s.jSize) with rc := { s.rc with arch := rs } }
  | [] => s

/-- A descriptor of ring 50 or 51 goes to its destination ring when that has room. -/
def State.stageMove (s : State) (r : Nat) : State :=
  let k := (s.ring r).fetch
  let d := s.descRead r k
  let to_ := if r = 50 then s.fld RC_CTL_ARCH_RING 0 else s.fld TM_CH_CTL_RING (bits d 160 16)
  let w := fun (i : Nat) => bits d (32 * i) 32
  let p := s.ringOffer to_ (bits d 24 7) (bits d 16 8) (bits d 0 16) (w 2) (w 3) (w 4) (w 5) (w 6) (w 7)
  if p.2 then (p.1.stagePop r).when (r == 50 && bits d 24 7 == 0x10) State.archDone else p.1

/-- STAGING_FORWARD of ring `r` (R404): a descriptor that reads back poisoned stops the ring (R425). -/
def State.staging (s : State) (r : Nat) : State :=
  if s.ringWaiting r = false ∨ s.ringAsleep r = true then s
  else if s.poisoned (s.descAddr r (s.ring r).fetch) 32 then s.ringStop r 4
  else if r = 48 ∨ r = 49 then s.hostFrame r
  else s.stageMove r

/-- The descriptor types that a CONSUMER accepts (R410). -/
def consumerTypes : Nat → Nat × Nat
  | 1 => (0x21, 0x21)
  | 2 => (0x22, 0x22)
  | 3 => (0x12, 0x12)
  | _ => (0x40, 0x7F)

/-- The engine looks at the next descriptor of a ring that the host produces (R409, R411): a transmit frame is fetched and
given to its instance; the others are checked, and used when a frame, span or program asks for them. -/
def State.ringConsume (s : State) (r : Nat) : State :=
  let c := s.fld RG_CTL_CONSUMER r
  if s.ringWaiting r = false ∨ s.ringAsleep r = true ∨ c = 0 ∨ 4 < c then s
  else
    let k := (s.ring r).fetch
    let t := consumerTypes c
    let why := s.descFails r k t.1 t.2
    if why ≠ 0 then s.ringStop r why
    else if c = 1 ∧ s.flag PE_STATUS_BME_PF0 0 = true then
      let d := s.descRead r k
      let b := memBytes s.hostMem (bits d 64 64) (bits d 0 16)
      ((s.ringTake r).engEv 127).macSubmit (bits d 160 4) b (some (r, k, bitOf d 16))
    else s

/-- A host DMA read of ring `r` fails (R417): the ring stops. Where the waiting descriptor is a transmit frame's, it is the
frame that could not be read: the descriptor is written back with reason 5 (R411; log entry 120). -/
def State.dmaFail (s : State) (r : Nat) : State :=
  if s.ringWaiting r then
    let k := (s.ring r).fetch
    let s := s.when (s.fld RG_CTL_CONSUMER r == 1 && s.descFails r k 0x21 0x21 == 0) (fun t =>
      (t.ringTake r).hostTxDone (r, k, bitOf (t.descRead r k) 16) 5 0 0)
    ((s.ringStop r 5).rcAdd PE_ERR_COUNT 3 1).logFault PCIE_DMA_ERR (Blk.chan .PE) r
  else s

end Sys2Proof.Machine
end

