-- ==== Sys2Proof/Machine/NetCmds.lean ====
section
/-! DEFINITION. The commands of the MAC instances, the time service and the engine-consumed rings (chapters 12, 13, 16). -/

namespace Sys2Proof.Machine

/-- Whether the lanes of instance `n` carry FEC codewords (R259). -/
def State.fecOn (s : State) (n : Nat) : Bool :=
  if s.fld SL_GRP_CFG_MODE (n / 4) = 2 then s.fld SL_GRP_CFG_FEC100 (n / 4) == 1 else s.fld SL_ETH_CTL_FEC n != 0

/-- MAC_FRAME_RX (R260, R281 to R285, R292): `mp` 0 a frame ends, 1 a verify and 2 a respond mPacket, 3 a frame starts; of the
FEC codewords that carried it, those corrected and those not, which mark their blocks in error. A near-end loop takes nothing
from the ball, a far-end loop sends it back (R278). -/
def execMacFrameRx (n : Nat) (bytes : List Nat) (fcs pcs frag asm : Bool) (back lane fecCorr fecUncorr mp : Nat) (s : State) :
    Host.Outcome State Fault Refusal :=
  onUnit (n < 16 && mp < 4) (
    let s := s.when (s.fecOn n) (fun t =>
      (t.rcAdd SL_ETH_FEC_CORR_COUNT n fecCorr).rcAdd SL_ETH_FEC_UNCORR_COUNT n fecUncorr)
    let loop := s.macLoop n
    let s := s.when (loop == 3 && mp == 0) (fun t => t.emit (.frame n false 0 bytes))
    if s.macUp n = false ∨ loop = 1 ∨ loop = 2 then s
    else if mp = 3 then s.rxStart n back lane
    else if mp = 0 then s.macFrame n bytes fcs (pcs || (s.fecOn n && fecUncorr != 0)) frag asm back lane
    else if s.flag MC_CTL_EN n then s.verifyRx n mp
    else s)

/-- PAUSE_HOLD_EXPIRE (R288). -/
def execPauseHoldExpire (n : Nat) (s : State) : Host.Outcome State Fault Refusal := onUnit (n < 16) (s.holdExpire n)

/-- FC_REFRESH (R286). -/
def execFcRefresh (n : Nat) (s : State) : Host.Outcome State Fault Refusal := onUnit (n < 16) (s.fcRefresh n)

/-- MAC_FRAME_BOUNDARY (R291, R295), `ph` (2^-16 ns) after the tick's start at the group's `lane`. -/
def execMacFrameBoundary (n ph lane : Nat) (s : State) : Host.Outcome State Fault Refusal :=
  onUnit (n < 16) (s.macBoundary n ph lane)

/-- AGE_PROMOTE (R291). -/
def execAgePromote (n : Nat) (s : State) : Host.Outcome State Fault Refusal := onUnit (n < 16) (s.agePromote n)

/-- VERIFY_TIMEOUT (R292). -/
def execVerifyTimeout (n : Nat) (s : State) : Host.Outcome State Fault Refusal := onUnit (n < 16) (s.verifyTimeout n)

/-- LAUNCH_HANDOVER of the i-th launch of the time service (R294). -/
def execLaunchHandover (i : Nat) (s : State) : Host.Outcome State Fault Refusal := .next (s.handover i).settle

/-- LAUNCH_CLEAR_INSTANT (R295, R297). -/
def execLaunchClearInstant (n : Nat) (s : State) : Host.Outcome State Fault Refusal := onUnit (n < 16) (s.clearInstant n)

/-- LAUNCH_RELEASE (R296). -/
def execLaunchRelease (n : Nat) (s : State) : Host.Outcome State Fault Refusal := onUnit (n < 16) (s.release n)

/-- MUTE (R298). -/
def execMute (a : Actor) (n : Nat) (s : State) : Host.Outcome State Fault Refusal :=
  onUnit (n < 16) (s.gate a .MC (fun t => if t.macExists n then t.mute n else t))

/-- MUTE_COMPLETE (R298). -/
def execMuteComplete (n : Nat) (s : State) : Host.Outcome State Fault Refusal := onUnit (n < 16) (s.muted n)

/-- UNMUTE (R299). -/
def execUnmute (a : Actor) (n : Nat) (s : State) : Host.Outcome State Fault Refusal :=
  onUnit (n < 16) (s.gate a .MC (fun t => if t.macExists n then t.unmute n true else t))

/-- WAKE_SIGNAL: transitions for `ns` nanoseconds (R299). -/
def execWakeSignal (n ns : Nat) (s : State) : Host.Outcome State Fault Refusal := onUnit (n < 16) (s.wake n ns)

/-- PIPELINE_FRAME (R302). -/
def execPipelineFrame (n : Nat) (s : State) : Host.Outcome State Fault Refusal := onUnit (n < 16) (s.pipeline n)

/-- NTP_REQUEST (R310 to R316). -/
def execNtpRequest (s : State) : Host.Outcome State Fault Refusal := .next s.ntpServe.settle

/-- SEAL_COMPLETE of the i-th launch of the time service (R306). -/
def execSealComplete (i : Nat) (s : State) : Host.Outcome State Fault Refusal := .next (s.sealDone i).settle

/-- ANNOUNCE_CMD (R305). -/
def execAnnounceCmd (a : Actor) (rep : Nat) (s : State) : Host.Outcome State Fault Refusal :=
  .next (s.gate a .TS (fun t => t.announceGo (rep % 8)))

/-- ANNOUNCE_ROUND (R305). -/
def execAnnounceRound (s : State) : Host.Outcome State Fault Refusal := .next s.announceRound.settle

/-- COOKIE_MINT (R317). -/
def execCookieMint (a : Actor) (count : Nat) (s : State) : Host.Outcome State Fault Refusal :=
  .next (s.gate a .TS (fun t => t.mintGo a (count % 16)))

/-- COOKIE_MINT_DONE (R317). -/
def execCookieMintDone (s : State) : Host.Outcome State Fault Refusal := .next s.mintDone.settle

/-- PTP_SYNC_TIMER: the multicast interval of port `m`, or that of grant entry `i` of set `m` (R323, R327). -/
def execPtpSyncTimer (uni : Bool) (m i : Nat) (s : State) : Host.Outcome State Fault Refusal :=
  onUnit (if uni then m < 2 ^ 22 && i < 8 else m < 16)
    (if uni then (if m < 2 ^ s.fld TS_CT_CFG_SETS_LOG2 0 then s.grantTimer (s.ctAddr m i) 0 else s) else s.syncMcast m)

/-- PTP_ANNOUNCE_TIMER, likewise (R324, R327). -/
def execPtpAnnounceTimer (uni : Bool) (m i : Nat) (s : State) : Host.Outcome State Fault Refusal :=
  onUnit (if uni then m < 2 ^ 22 && i < 8 else m < 16)
    (if uni then (if m < 2 ^ s.fld TS_CT_CFG_SETS_LOG2 0 then s.grantTimer (s.ctAddr m i) 1 else s) else s.annTimer m)

/-- The oldest waiting request of a tag goes to its service. -/
def State.serveTag (s : State) (tag : Nat) (u : Option Nat) (g : State → SvcReq → State) : State :=
  match s.svcTake tag u with
  | some (q, t) => g t q
  | none => s

/-- PTP_DELAY_REQ (R323). -/
def execPtpDelayReq (s : State) : Host.Outcome State Fault Refusal := .next (s.serveTag 4 none State.delayReq).settle

/-- PTP_PDELAY_REQ (R323). -/
def execPtpPdelayReq (s : State) : Host.Outcome State Fault Refusal := .next (s.serveTag 5 none State.pdelayReq).settle

/-- PTP_GRANT_REQUEST (R327). -/
def execPtpGrantRequest (s : State) : Host.Outcome State Fault Refusal := .next (s.serveTag 6 none State.grantRequest).settle

/-- PTP_GRANT_CANCEL (R327). -/
def execPtpGrantCancel (s : State) : Host.Outcome State Fault Refusal := .next (s.serveTag 7 none State.grantCancel).settle

/-- GRANT_EXPIRE: entry `i` of set `m` (R327). -/
def execGrantExpire (m i : Nat) (s : State) : Host.Outcome State Fault Refusal :=
  onUnit (m < 2 ^ 22 && i < 8) (if m < 2 ^ s.fld TS_CT_CFG_SETS_LOG2 0 then s.grantExpire (s.ctAddr m i) else s)

/-- PKT_DELAY_REQ_TIMER (R328). -/
def execPktDelayReqTimer (n : Nat) (s : State) : Host.Outcome State Fault Refusal := onUnit (n < 2) (s.pktRequest n)

/-- PKT_SYNC_RX (R328). -/
def execPktSyncRx (n : Nat) (s : State) : Host.Outcome State Fault Refusal :=
  onUnit (n < 2) (s.serveTag 8 (some n) (fun t q => t.pktSync n q))

/-- PKT_GRANT_RENEW (R328). -/
def execPktGrantRenew (n : Nat) (s : State) : Host.Outcome State Fault Refusal := onUnit (n < 2) (s.pktGrants n)

/-- ATTEST_REQUEST (R230, R231). -/
def execAttestRequest (s : State) : Host.Outcome State Fault Refusal := .next s.attestServe.settle

/-- RING_CONSUME (R409, R411). -/
def execRingConsume (r : Nat) (s : State) : Host.Outcome State Fault Refusal :=
  onUnit (16 ≤ r && r < 32) (s.ringConsume r)

/-- STAGING_FORWARD (R404). -/
def execStagingForward (r : Nat) (s : State) : Host.Outcome State Fault Refusal := onUnit (48 ≤ r && r < 52) (s.staging r)

/-- HOST_DMA_TIMEOUT (R417). -/
def execHostDmaTimeout (r : Nat) (s : State) : Host.Outcome State Fault Refusal := onUnit (16 ≤ r && r < 32) (s.dmaFail r)

end Sys2Proof.Machine
end

