-- ==== Sys2Proof/Machine/RefCmds.lean ====
section
/-! DEFINITION. The commands of references and selection (chapters 05 and 06). -/

namespace Sys2Proof.Machine

/-- A command of the reference block on an existing unit; a widened bound judges the launches (R149). -/
def onRef (ok : Bool) (s t : State) : Host.Outcome State Fault Refusal := onUnit ok (t.clocked s)

/-- The records of channel `n` that RS has not taken, and the state without the oldest of them. -/
def State.copyTake (s : State) (n : Nat) : Option (Nat × State) :=
  match smGet [] s.tmb.copies n with
  | r :: rs => some (r, { s with tmb := { s.tmb with copies := smSet [] s.tmb.copies n rs } })
  | [] => none

/-- REF_PPS_MEASUREMENT: RS takes the oldest record of channel `n` (R83, R115, R117). -/
def execRefPpsMeasurement (n : Nat) (s : State) : Host.Outcome State Fault Refusal :=
  onRef (n < 4) s (match s.copyTake n with
    | some (r, t) => (t.ppsRecord n r).rsEval
    | none => s)

/-- REF_PKT_EXCHANGE of PKT instance `n` (R119, R328). -/
def execRefPktExchange (n : Nat) (s : State) : Host.Outcome State Fault Refusal :=
  onRef (n < 2) s (s.serveTag 9 (some n) (fun t q => t.pktExchangeOf n q)).rsEval

/-- REF_ITL_MEASUREMENT of ITL_UP_n (R114, R120), once its millisecond of engine time has ended. -/
def execRefItlMeasurement (n : Nat) (s : State) : Host.Outcome State Fault Refusal :=
  onRef (n < 2) s (
    let k := 6 + n
    if s.rstate k = 0 ∨ s.rstate k = 4 ∨ s.laneMs (s.fld RS_REF_CTL_LANE k) = (s.ref k).itlMs then s
    else s.itlMeasure k)

/-- RS_TOD_WRITE (R117). -/
def execRsTodWrite (a : Actor) (n sec seq : Nat) (s : State) : Host.Outcome State Fault Refusal :=
  onRef (n < 2) s (s.gate a .RS (fun t => (t.todWrite n (sec % 2 ^ 48) (seq % 2 ^ 32)).rsEval))

/-- TOD_LABEL_TIMEOUT (R117). -/
def execTodLabelTimeout (n : Nat) (s : State) : Host.Outcome State Fault Refusal := onRef (n < 2) s (s.labelExpire n)

/-- TOD_RECORD_TIMEOUT (R117). -/
def execTodRecordTimeout (n : Nat) (s : State) : Host.Outcome State Fault Refusal := onRef (n < 2) s (s.recExpire n).rsEval

/-- FREQ_WINDOW_END: engine time has passed the end of the 64 s window in progress (R121, R131, R132). -/
def execFreqWindowEnd (s : State) : Host.Outcome State Fault Refusal :=
  .next (if (s.rs.win + 1) * 64 * secU ≤ s.now then ((s.windowEnd s.rs.win).rsEval).clocked s else s).settle

/-- Whether every criterion has held for QUAL_S seconds (R122). -/
def State.qualifiedNow (s : State) (n : Nat) : Bool :=
  s.rstate n == 1 && !s.rsGap n && (s.ref n).present.isSome &&
    decide ((s.ref n).qualAt + s.fld RS_REF_CTL_QUAL_S n * secU ≤ s.ti.elapsed) &&
    (n < 6 || (s.flag SL_ITL_STATUS_UP (s.fld RS_REF_CTL_LANE n) && s.flag SL_ITL_STATUS_CAL_DONE (s.fld RS_REF_CTL_LANE n)))

/-- REF_QUALIFIED (R122, R127). -/
def execRefQualified (n : Nat) (s : State) : Host.Outcome State Fault Refusal :=
  onRef (n < 8) s (if s.qualifiedNow n then (s.rsGo n 2).rsEval else s)

/-- REF_PRESENCE_LOSS (R122 to R125). -/
def execRefPresenceLoss (n : Nat) (s : State) : Host.Outcome State Fault Refusal :=
  onRef (n < 8) s (if s.rsGap n = true ∧ 1 ≤ s.rstate n ∧ s.rstate n ≤ 3 then (s.rsLoss n).rsEval else s)

/-- Whether a disqualified reference may return by itself (R125). -/
def State.requalOk (s : State) (n : Nat) : Bool :=
  s.rstate n == 3 && [1, 2, 3, 4, 5, 10, 11, 12].contains (s.reason n) && (s.ref n).granted && !s.rsGap n &&
    (match (s.ref n).present with
     | some t => decide (t + 10 * secU ≤ s.ti.elapsed)
     | none => false)

/-- REF_REQUALIFY (R125). -/
def execRefRequalify (n : Nat) (s : State) : Host.Outcome State Fault Refusal :=
  onRef (n < 8) s (if s.requalOk n then (s.rsQualifying n).rsEval else s)

/-! ### RS_REF_CMD_n -/

/-- DISQUALIFY (R123, R124). -/
def State.refDisqualify (s : State) (n : Nat) : State := (s.rsFail n 9).rsEval

/-- ACCEPT (R125): for reasons COMMAND, ASYMMETRY and IMPLAUSIBLE, the last with PLAUS_EXEMPT (R147). -/
def State.refAccept (s : State) (n : Nat) : State :=
  (if s.rstate n = 3 ∧ (s.reason n = 9 ∨ s.reason n = 7) then s.rsQualifying n
   else if s.rstate n = 3 ∧ s.reason n = 6 then (s.rsQualifying n).exemptSet n
   else s).rsEval

/-- CLR_DISPUTE (R132). -/
def State.refClrDispute (s : State) (n : Nat) : State := (s.disputeClr n).rsEval

/-- CLR_COMP (R134): only packet references have compensation. -/
def State.refClrComp (s : State) (n : Nat) : State := if n = 4 ∨ n = 5 then s.setFld RS_ASYM_COMP_COMP n 0 else s

/-- REF_DISQUALIFY. -/
def execRefDisqualify (a : Actor) (n : Nat) (s : State) : Host.Outcome State Fault Refusal :=
  onRef (n < 8) s (s.gate a .RS (fun t => t.refDisqualify n))

/-- REF_ACCEPT. -/
def execRefAccept (a : Actor) (n : Nat) (s : State) : Host.Outcome State Fault Refusal :=
  onRef (n < 8) s (s.gate a .RS (fun t => t.refAccept n))

/-- CLR_DISPUTE. -/
def execClrDispute (a : Actor) (n : Nat) (s : State) : Host.Outcome State Fault Refusal :=
  onRef (n < 8) s (s.gate a .RS (fun t => t.refClrDispute n))

/-- CLR_COMP. -/
def execClrComp (a : Actor) (n : Nat) (s : State) : Host.Outcome State Fault Refusal :=
  onRef (n < 8) s (s.gate a .RS (fun t => t.refClrComp n))

/-- EN written (R126, R127). -/
def State.refEn (s : State) (n : Nat) (on : Bool) : State := (if on then s.rsEnable n else s.rsDisable n).rsEval

/-- REF_ENABLE. -/
def execRefEnable (a : Actor) (n : Nat) (s : State) : Host.Outcome State Fault Refusal :=
  onRef (n < 8) s (s.gate a .RS (fun t => t.refEn n true))

/-- REF_DISABLE. -/
def execRefDisable (a : Actor) (n : Nat) (s : State) : Host.Outcome State Fault Refusal :=
  onRef (n < 8) s (s.gate a .RS (fun t => t.refEn n false))

/-- RS_SELECT is written by PF0 alone (R129). -/
def State.forceBy (s : State) (a : Actor) (ref : Nat) (force : Bool) : State :=
  s.gate a .RS (fun t => if a = .pf0 then t.forceWrite ref force else t)

/-- FORCE_SELECT (R129). -/
def execForceSelect (a : Actor) (ref : Nat) (force : Bool) (s : State) : Host.Outcome State Fault Refusal :=
  onRef (ref < 8) s (s.forceBy a ref force)

/-! ### The engine state -/

/-- LOCK_ACHIEVED (R130). -/
def execLockAchieved (s : State) : Host.Outcome State Fault Refusal :=
  .next (if s.engState = 1 ∧ s.ranLock s.rs.inFrom = true then s.engGo 2 else s).settle

/-- LOCK_WINDOW_EXCEEDED (R130, R139). -/
def execLockWindowExceeded (s : State) : Host.Outcome State Fault Refusal :=
  .next (if s.engState = 2 ∧ s.ranLock s.rs.outFrom = true then s.engGo 1 else s).settle

/-- PLAUS_AGREEMENT (R146, R147): references `x` and `y` have agreed for AGREE_S seconds. -/
def execPlausAgreement (x y : Nat) (s : State) : Host.Outcome State Fault Refusal :=
  onRef (x < y && y < 8) s (if smGet 0 s.ho.runs (x * 8 + y) ≥ s.fld HO_PLAUS_CFG_AGREE_S 0 then (s.agreeDone x y).rsEval else s)

end Sys2Proof.Machine
end

