-- ==== Sys2Proof/Machine/SeqAlu.lean ====
section
/-! DEFINITION. The sequencers' integer, accumulator and time instructions (R188 to R196), one meaning each. -/

namespace Sys2Proof.Machine

/-- A three-register integer function. -/
def aluOp (f : Seqr → Word → Word → Alu) (i : Ins) (q : Seqr) : Seqr := q.alu i.d (f q (q.rv i.a) (q.rv i.b))

/-- An immediate function. -/
def immOp (f : Word → Word → Alu) (imm : Ins → Word) (i : Ins) (q : Seqr) : Seqr := q.alu i.d (f (q.rv i.a) (imm i))

/-! ### R188, R189 -/

/-- ADD (R188). -/
def execAdd (n : Nat) (s : State) : Host.Outcome State Fault Refusal :=
  s.issueReg n .add (aluOp (fun _ a b => aluAdd a b false))
/-- SUB (R188). -/
def execSub (n : Nat) (s : State) : Host.Outcome State Fault Refusal :=
  s.issueReg n .sub (aluOp (fun _ a b => aluSub a b true))
/-- AND (R188). -/
def execAndV (n : Nat) (s : State) : Host.Outcome State Fault Refusal :=
  s.issueReg n .and_ (aluOp (fun _ a b => aluZN (a &&& b)))
/-- OR (R188). -/
def execOrV (n : Nat) (s : State) : Host.Outcome State Fault Refusal :=
  s.issueReg n .or_ (aluOp (fun _ a b => aluZN (a ||| b)))
/-- XOR (R188). -/
def execXorV (n : Nat) (s : State) : Host.Outcome State Fault Refusal :=
  s.issueReg n .xor_ (aluOp (fun _ a b => aluZN (a ^^^ b)))
/-- SHL (R189). -/
def execShl (n : Nat) (s : State) : Host.Outcome State Fault Refusal :=
  s.issueReg n .shl (aluOp (fun _ a b => aluShl a (b.toNat % 64)))
/-- SHR (R189). -/
def execShr (n : Nat) (s : State) : Host.Outcome State Fault Refusal :=
  s.issueReg n .shr (aluOp (fun _ a b => aluShr a (b.toNat % 64)))
/-- ASR (R189). -/
def execAsr (n : Nat) (s : State) : Host.Outcome State Fault Refusal :=
  s.issueReg n .asr (aluOp (fun _ a b => aluAsr a (b.toNat % 64)))
/-- MIN (R188). -/
def execMinV (n : Nat) (s : State) : Host.Outcome State Fault Refusal :=
  s.issueReg n .min_ (aluOp (fun _ a b => aluZN (minS a b)))
/-- MAX (R188). -/
def execMaxV (n : Nat) (s : State) : Host.Outcome State Fault Refusal :=
  s.issueReg n .max_ (aluOp (fun _ a b => aluZN (maxS a b)))
/-- MINU (R188). -/
def execMinu (n : Nat) (s : State) : Host.Outcome State Fault Refusal :=
  s.issueReg n .minu (aluOp (fun _ a b => aluZN (minU a b)))
/-- MAXU (R188). -/
def execMaxu (n : Nat) (s : State) : Host.Outcome State Fault Refusal :=
  s.issueReg n .maxu (aluOp (fun _ a b => aluZN (maxU a b)))
/-- MUL (R188). -/
def execMul (n : Nat) (s : State) : Host.Outcome State Fault Refusal :=
  s.issueReg n .mul (aluOp (fun _ a b => aluZN (a * b)))
/-- MULHS (R188). -/
def execMulhs (n : Nat) (s : State) : Host.Outcome State Fault Refusal :=
  s.issueReg n .mulhs (aluOp (fun _ a b => aluZN (mulHiS a b)))
/-- MULHU (R188). -/
def execMulhu (n : Nat) (s : State) : Host.Outcome State Fault Refusal :=
  s.issueReg n .mulhu (aluOp (fun _ a b => aluZN (mulHiU a b)))
/-- CLZ (R188). -/
def execClz (n : Nat) (s : State) : Host.Outcome State Fault Refusal :=
  s.issueReg n .clz (aluOp (fun _ a _ => aluZN (BitVec.ofNat 32 (clz a))))
/-- ADDC (R188). -/
def execAddc (n : Nat) (s : State) : Host.Outcome State Fault Refusal :=
  s.issueReg n .addc (aluOp (fun q a b => aluAdd a b q.cf))
/-- SUBC (R188). -/
def execSubc (n : Nat) (s : State) : Host.Outcome State Fault Refusal :=
  s.issueReg n .subc (aluOp (fun q a b => aluSub a b q.cf))

/-! ### R189, R190 -/

/-- ADDI (R190). -/
def execAddi (n : Nat) (s : State) : Host.Outcome State Fault Refusal :=
  s.issueReg n .addi (immOp (fun a b => aluAdd a b false) Ins.simm)
/-- SUBI (R190). -/
def execSubi (n : Nat) (s : State) : Host.Outcome State Fault Refusal :=
  s.issueReg n .subi (immOp (fun a b => aluSub a b true) Ins.simm)
/-- ANDI (R190). -/
def execAndi (n : Nat) (s : State) : Host.Outcome State Fault Refusal :=
  s.issueReg n .andi (immOp (fun a b => aluZN (a &&& b)) Ins.zimm)
/-- ORI (R190). -/
def execOri (n : Nat) (s : State) : Host.Outcome State Fault Refusal :=
  s.issueReg n .ori (immOp (fun a b => aluZN (a ||| b)) Ins.zimm)
/-- XORI (R190). -/
def execXori (n : Nat) (s : State) : Host.Outcome State Fault Refusal :=
  s.issueReg n .xori (immOp (fun a b => aluZN (a ^^^ b)) Ins.zimm)
/-- LDI (R190). -/
def execLdi (n : Nat) (s : State) : Host.Outcome State Fault Refusal :=
  s.issueReg n .ldi (fun i q => q.wv i.d i.simm)
/-- SHLI (R189). -/
def execShli (n : Nat) (s : State) : Host.Outcome State Fault Refusal :=
  s.issueReg n .shli (fun i q => q.alu i.d (aluShl (q.rv i.a) i.imm))
/-- SHRI (R189). -/
def execShri (n : Nat) (s : State) : Host.Outcome State Fault Refusal :=
  s.issueReg n .shri (fun i q => q.alu i.d (aluShr (q.rv i.a) i.imm))
/-- ASRI (R189). -/
def execAsri (n : Nat) (s : State) : Host.Outcome State Fault Refusal :=
  s.issueReg n .asri (fun i q => q.alu i.d (aluAsr (q.rv i.a) i.imm))

/-! ### R191, R192 -/

/-- An accumulator takes a saturated value and V says whether it saturated. -/
def Seqr.accPutSat (q : Seqr) (i : Nat) (x : Int) : Seqr := (q.wa i (satAcc x).1).setVf (satAcc x).2

/-- MACS (R191). -/
def execMacs (n : Nat) (s : State) : Host.Outcome State Fault Refusal :=
  s.issueReg n .macs (fun i q => q.accPutSat i.d (q.ra i.d + (q.rv i.a).toInt * (q.rv i.b).toInt))
/-- MACU (R191). -/
def execMacu (n : Nat) (s : State) : Host.Outcome State Fault Refusal :=
  s.issueReg n .macu (fun i q => q.accPutSat i.d (q.ra i.d + ((q.rv i.a).toNat * (q.rv i.b).toNat : Nat)))
/-- MSBS (R191). -/
def execMsbs (n : Nat) (s : State) : Host.Outcome State Fault Refusal :=
  s.issueReg n .msbs (fun i q => q.accPutSat i.d (q.ra i.d - (q.rv i.a).toInt * (q.rv i.b).toInt))
/-- MSBU (R191). -/
def execMsbu (n : Nat) (s : State) : Host.Outcome State Fault Refusal :=
  s.issueReg n .msbu (fun i q => q.accPutSat i.d (q.ra i.d - ((q.rv i.a).toNat * (q.rv i.b).toNat : Nat)))
/-- CLRACC (R191). -/
def execClracc (n : Nat) (s : State) : Host.Outcome State Fault Refusal :=
  s.issueReg n .clracc (fun i q => q.wa i.d 0)
/-- ACCMOV (R191). -/
def execAccmov (n : Nat) (s : State) : Host.Outcome State Fault Refusal :=
  s.issueReg n .accmov (fun i q => q.wa i.d (q.ra i.a))
/-- ACCSET (R191); sext(a) times 2^63 at most fits 96 bits. -/
def execAccset (n : Nat) (s : State) : Host.Outcome State Fault Refusal :=
  s.issueReg n .accset (fun i q => q.wa i.d (satAcc ((q.rv i.a).toInt * 2 ^ (i.imm % 64))).1)
/-- ACCADD (R191). -/
def execAccadd (n : Nat) (s : State) : Host.Outcome State Fault Refusal :=
  s.issueReg n .accadd (fun i q => q.accPutSat i.d (q.ra i.d + (q.rv i.a).toInt * 2 ^ (i.imm % 64)))
/-- ACCW (R191). -/
def execAccw (n : Nat) (s : State) : Host.Outcome State Fault Refusal :=
  s.issueReg n .accw (fun i q => q.wv i.d (accWord (q.ra i.a) (i.imm % 4)))
/-- ACCWR (R191). -/
def execAccwr (n : Nat) (s : State) : Host.Outcome State Fault Refusal :=
  s.issueReg n .accwr (fun i q => q.wa i.d (accPut (q.ra i.d) (i.imm % 4) (q.rv i.a)))
/-- ACCRD (R192). -/
def execAccrd (n : Nat) (s : State) : Host.Outcome State Fault Refusal :=
  s.issueReg n .accrd (fun i q =>
    let r := sat32 (accScale (q.ra i.a) (i.imm % 128) (bitOf i.imm 7))
    q.alu i.d { res := r.1, zn := true, c := none, v := some r.2 })

/-! ### R193 to R195 -/

/-- A TIME128 value moved by `d` units of 2^-48 ns; the nanoseconds come out in range, seconds modulo 2^48. -/
def timeAdd (t : Nat) (d : Int) : Nat := toTime128 (((ofTime128 t : Int) + d) % (timeMod : Int)).toNat

/-- The difference of two TIME128 values in 2^-48 ns. -/
def timeDiff (a b : Nat) : Int := (ofTime128 a : Int) - ofTime128 b

/-- The WNC nanoseconds of a TIME128 value (R55, R195). -/
def wncNs (t : Nat) : Nat := wncOf (ofTime128 t) / 2 ^ 16

/-- TNOW (R193). -/
def execTnow (n : Nat) (s : State) : Host.Outcome State Fault Refusal :=
  s.issue n .tnow (fun i t => .done (t.setSeq n ((t.seq n).wt i.d (toTime128 t.now))))
/-- TADDN (R193). -/
def execTaddn (n : Nat) (s : State) : Host.Outcome State Fault Refusal :=
  s.issueReg n .taddn (fun i q => q.wt i.d (timeAdd (q.rt i.a) (i.simm.toInt * nsU)))
/-- A TIME128 value with its nanoseconds carried into the seconds: after every time instruction they lie below 1,000,000,000
(chapter 08, Time; log entry 46). -/
def timeNorm (t : Nat) : Nat := timeAdd t 0

/-- TMOV (R194). -/
def execTmov (n : Nat) (s : State) : Host.Outcome State Fault Refusal :=
  s.issueReg n .tmov (fun i q => q.wt i.d (timeNorm (q.rt i.a)))
/-- TADD (R194). -/
def execTadd (n : Nat) (s : State) : Host.Outcome State Fault Refusal :=
  s.issueReg n .tadd (fun i q => q.wt i.d (timeAdd (q.rt i.a) ((q.rv i.b).toInt * nsU)))
/-- TADDF (R194). -/
def execTaddf (n : Nat) (s : State) : Host.Outcome State Fault Refusal :=
  s.issueReg n .taddf (fun i q => q.wt i.d (timeAdd (q.rt i.a) ((q.rv i.b).toInt * 2 ^ 32)))

/-- A saturated difference with Z, N and V (R194). -/
def Seqr.diffPut (q : Seqr) (i : Nat) (x : Int) : Seqr :=
  q.alu i { res := (sat32 x).1, zn := true, c := none, v := some (sat32 x).2 }

/-- TDIFN (R194). -/
def execTdifn (n : Nat) (s : State) : Host.Outcome State Fault Refusal :=
  s.issueReg n .tdifn (fun i q => q.diffPut i.d (timeDiff (q.rt i.a) (q.rt i.b) / (nsU : Int)))
/-- TDIFF (R194). -/
def execTdiff (n : Nat) (s : State) : Host.Outcome State Fault Refusal :=
  s.issueReg n .tdiff (fun i q => q.diffPut i.d (timeDiff (q.rt i.a) (q.rt i.b) / 2 ^ 32))
/-- TCMP (R194). -/
def execTcmp (n : Nat) (s : State) : Host.Outcome State Fault Refusal :=
  s.issueReg n .tcmp (fun i q =>
    let a := q.rt i.a
    let b := q.rt i.b
    { q with zf := a == b, nf := decide (a < b), cf := decide (b ≤ a), vf := false })
/-- TSEC (R194). -/
def execTsec (n : Nat) (s : State) : Host.Outcome State Fault Refusal :=
  s.issueReg n .tsec (fun i q => q.wv i.d (BitVec.ofNat 32 (bits (q.rt i.a) 80 32)))
/-- TSECH (R194). -/
def execTsech (n : Nat) (s : State) : Host.Outcome State Fault Refusal :=
  s.issueReg n .tsech (fun i q => q.wv i.d (BitVec.ofNat 32 (bits (q.rt i.a) 112 16)))
/-- TNS (R194). -/
def execTns (n : Nat) (s : State) : Host.Outcome State Fault Refusal :=
  s.issueReg n .tns (fun i q => q.wv i.d (BitVec.ofNat 32 (bits (q.rt i.a) 48 32)))
/-- TFRAC (R194). -/
def execTfrac (n : Nat) (s : State) : Host.Outcome State Fault Refusal :=
  s.issueReg n .tfrac (fun i q => q.wv i.d (BitVec.ofNat 32 (bits (q.rt i.a) 16 32)))
/-- TWNC (R194). -/
def execTwnc (n : Nat) (s : State) : Host.Outcome State Fault Refusal :=
  s.issueReg n .twnc (fun i q => q.wv i.d (BitVec.ofNat 32 (wncNs (q.rt i.a))))
/-- TSET (R194). -/
def execTset (n : Nat) (s : State) : Host.Outcome State Fault Refusal :=
  s.issueReg n .tset (fun i q =>
    if (q.rv i.b).toNat ≥ 1000000000 then q.setVf true
    else (q.wt i.d ((q.rv i.a).toNat * 2 ^ 80 + (q.rv i.b).toNat * 2 ^ 48)).setVf false)
/-- TSETH (R194). -/
def execTseth (n : Nat) (s : State) : Host.Outcome State Fault Refusal :=
  s.issueReg n .tseth (fun i q => q.wt i.d (timeNorm (q.rt i.d) % 2 ^ 112 + (q.rv i.a).toNat % 2 ^ 16 * 2 ^ 112))
/-- TEXTW (R195). -/
def execTextw (n : Nat) (s : State) : Host.Outcome State Fault Refusal :=
  s.issueReg n .textw (fun i q =>
    let base := toTime128 (ofTime128 (q.rt i.a) / nsU * nsU)
    q.wt i.d (timeAdd base (signed 32 ((q.rv i.b).toNat + 2 ^ 32 - wncNs base) * nsU)))

/-! ### Waits and comparators (R158, R159, R196) -/

/-- WAITT (R159): C says whether the instant has been reached; else the sequencer waits. -/
def execWaitt (n : Nat) (s : State) : Host.Outcome State Fault Refusal :=
  s.issue n .waitt (fun i t =>
    let q := t.seq n
    if t.reached (q.rt i.a) then .done (t.setSeq n { q with cf := true })
    else .park ((t.setSeq n { q with cf := false, wait := .time (q.rt i.a) }).set1 SQ_STATUS_WAITING n))

/-- The waiting instruction ends, PC passes it, and the exceptions that it held back are taken (R184). -/
def State.waitRelease (s : State) (n : Nat) : State :=
  let len := match s.insAt n with
    | some i => i.len
    | none => 4
  ((s.endWait n).setPc n (s.pc n + len)).lateTake n

/-- TIME_WAIT_RELEASE (R159). -/
def execTimeWaitRelease (n : Nat) (s : State) : Host.Outcome State Fault Refusal :=
  if n < 8 then
    .next (match (s.seq n).wait with
      | .time t => if s.reached t then s.waitRelease n else s
      | _ => s)
  else .fault .noSuchUnit

/-- ARM (R196). -/
def execArm (n : Nat) (s : State) : Host.Outcome State Fault Refusal :=
  s.issue n .arm (fun i t =>
    let u := t.evClear n (2 ^ (28 + i.a))
    .done (u.setSeq n { u.seq n with cmp := smSet none (u.seq n).cmp i.a (some ((u.seq n).rt i.a)) }))
/-- DISARM (R196). -/
def execDisarm (n : Nat) (s : State) : Host.Outcome State Fault Refusal :=
  s.issue n .disarm (fun i t =>
    let u := t.evClear n (2 ^ (28 + i.a))
    .done (u.setSeq n { u.seq n with cmp := smSet none (u.seq n).cmp i.a none }))

/-- TIME_COMPARE_FIRE: comparator `k` (R196). -/
def execTimeCompareFire (n k : Nat) (s : State) : Host.Outcome State Fault Refusal :=
  if n < 8 ∧ k < 4 then
    .next (match smGet none (s.seq n).cmp k with
      | some t =>
        if s.reached t then
          (s.setSeq n { s.seq n with cmp := smSet none (s.seq n).cmp k none }).latchAt n (28 + k)
        else s
      | none => s)
  else .fault .noSuchUnit

/-- The event wait's answer: the pending masked bits are written and the latched ones cleared (R158). -/
def State.evTake (s : State) (n d mask : Nat) : State :=
  let p := s.evPending n &&& mask
  let t := s.evClear n p
  t.setSeq n ((t.seq n).wv d (BitVec.ofNat 32 p))

/-- WAITE (R158). -/
def execWaite (n : Nat) (s : State) : Host.Outcome State Fault Refusal :=
  s.issue n .waite (fun i t =>
    let mask := i.zimm.toNat
    if t.evPending n &&& mask ≠ 0 then .done (t.evTake n i.d mask)
    else .park ((t.setSeq n { t.seq n with wait := .event i.d mask }).set1 SQ_STATUS_WAITING n))

/-- EVENT_WAIT_RELEASE (R158). -/
def execEventWaitRelease (n : Nat) (s : State) : Host.Outcome State Fault Refusal :=
  if n < 8 then
    .next (match (s.seq n).wait with
      | .event d mask => if s.evPending n &&& mask ≠ 0 then (s.evTake n d mask).waitRelease n else s
      | _ => s)
  else .fault .noSuchUnit

end Sys2Proof.Machine
end

