-- ==== Sys2Proof/Machine/SeqFlow.lean ====
section
/-! DEFINITION. Data RAM, control transfer and system instructions of the sequencers (R199, R204 to R206), the watchdog, and
the host's mailbox and semaphore commands (R170 to R173, R177). -/

namespace Sys2Proof.Machine

/-! ### Data RAM (R199) -/

/-- The effective address in data RAM. -/
def Ins.ea (i : Ins) (q : Seqr) : Nat := ((q.rv i.a).toNat + i.simm.toNat) % 65536

/-- A load of `k` bytes from sequencer `n`'s data RAM. -/
def State.ramLoad (s : State) (n ea k : Nat) : Nat := memNat s.mem (dramBase n + ea) k

/-- A load instruction: `k` bytes, then `f` on what was read. -/
def State.issueLoad (s : State) (n : Nat) (m : SeqOp) (k : Nat) (f : Ins → Nat → Seqr → Seqr) :
    Host.Outcome State Fault Refusal :=
  s.issue n m (fun i t =>
    let ea := i.ea (t.seq n)
    if ea % k ≠ 0 then .exc 8 0 else .done (t.setSeq n (f i (t.ramLoad n ea k) (t.seq n))))

/-- A store instruction of `k` bytes of `f`. -/
def State.issueStore (s : State) (n : Nat) (m : SeqOp) (k : Nat) (f : Ins → Seqr → Nat) :
    Host.Outcome State Fault Refusal :=
  s.issue n m (fun i t =>
    let ea := i.ea (t.seq n)
    if ea % k ≠ 0 then .exc 8 0
    else .done { t with mem := memPut t.mem (dramBase n + ea) k (f i (t.seq n)) })

/-- LDW (R199). -/
def execLdw (n : Nat) (s : State) : Host.Outcome State Fault Refusal :=
  s.issueLoad n .ldw 4 (fun i x q => q.wv i.d (BitVec.ofNat 32 x))
/-- LDH (R199). -/
def execLdh (n : Nat) (s : State) : Host.Outcome State Fault Refusal :=
  s.issueLoad n .ldh 2 (fun i x q => q.wv i.d (BitVec.ofInt 32 (signed 16 x)))
/-- LDHU (R199). -/
def execLdhu (n : Nat) (s : State) : Host.Outcome State Fault Refusal :=
  s.issueLoad n .ldhu 2 (fun i x q => q.wv i.d (BitVec.ofNat 32 x))
/-- LDB (R199). -/
def execLdb (n : Nat) (s : State) : Host.Outcome State Fault Refusal :=
  s.issueLoad n .ldb 1 (fun i x q => q.wv i.d (BitVec.ofInt 32 (signed 8 x)))
/-- LDBU (R199). -/
def execLdbu (n : Nat) (s : State) : Host.Outcome State Fault Refusal :=
  s.issueLoad n .ldbu 1 (fun i x q => q.wv i.d (BitVec.ofNat 32 x))
/-- STW (R199). -/
def execStw (n : Nat) (s : State) : Host.Outcome State Fault Refusal :=
  s.issueStore n .stw 4 (fun i q => (q.rv i.b).toNat)
/-- STH (R199). -/
def execSth (n : Nat) (s : State) : Host.Outcome State Fault Refusal :=
  s.issueStore n .sth 2 (fun i q => (q.rv i.b).toNat)
/-- STB (R199). -/
def execStb (n : Nat) (s : State) : Host.Outcome State Fault Refusal :=
  s.issueStore n .stb 1 (fun i q => (q.rv i.b).toNat)
/-- LDT (R199). -/
def execLdt (n : Nat) (s : State) : Host.Outcome State Fault Refusal :=
  s.issueLoad n .ldt 16 (fun i x q => (q.wt i.d x).setVf (!time128Ok x))
/-- STT (R199). -/
def execStt (n : Nat) (s : State) : Host.Outcome State Fault Refusal :=
  s.issueStore n .stt 16 (fun i q => q.rt i.b)

/-! ### Control transfer (R204, R205) -/

/-- BIF (R204). -/
def execBif (n : Nat) (s : State) : Host.Outcome State Fault Refusal :=
  s.issue n .bif (fun i t =>
    let q := t.seq n
    if condHolds i.d q.zf q.nf q.cf q.vf then
      .jump (t.seqEv n 15) (((t.pc n : Int) + 4 * signed 14 i.imm) % 65536).toNat
    else .done t)

/-- A call to `target` (R204, R207). -/
def State.callTo (t : State) (n target : Nat) : Res :=
  if target % 4 ≠ 0 then .exc 8 0
  else if (t.seq n).ret.length ≥ 16 then .exc 9 0
  else .jump ((t.setSeq n { t.seq n with ret := (t.pc n + 4) % 65536 :: (t.seq n).ret }).seqEv n 15) target

/-- CALL (R204). -/
def execCall (n : Nat) (s : State) : Host.Outcome State Fault Refusal :=
  s.issue n .call (fun i t => t.callTo n (i.imm * 4))
/-- JR (R204). -/
def execJr (n : Nat) (s : State) : Host.Outcome State Fault Refusal :=
  s.issue n .jr (fun i t =>
    let p := ((t.seq n).rv i.a).toNat % 65536
    if p % 4 ≠ 0 then .exc 8 0 else .jump (t.seqEv n 15) p)
/-- CALLR (R204). -/
def execCallr (n : Nat) (s : State) : Host.Outcome State Fault Refusal :=
  s.issue n .callr (fun i t => t.callTo n (((t.seq n).rv i.a).toNat % 65536))
/-- RET (R204). -/
def execRet (n : Nat) (s : State) : Host.Outcome State Fault Refusal :=
  s.issue n .ret (fun _ t =>
    match (t.seq n).ret with
    | p :: ps => .jump ((t.setSeq n { t.seq n with ret := ps }).seqEv n 15) p
    | [] => .exc 10 0)
/-- TRAP (R205). -/
def execTrap (n : Nat) (s : State) : Host.Outcome State Fault Refusal :=
  s.issue n .trap (fun i _ => .exc 11 (i.imm % 256))

/-! ### System functions (R206) -/

/-- NOP (R206). -/
def execNop (n : Nat) (s : State) : Host.Outcome State Fault Refusal := s.issue n .nop (fun _ t => .done t)
/-- RFE (R174, R204, R206): ILLEGAL outside an exception, PRIV in user mode, MISALIGNED to such a target. -/
def execRfe (n : Nat) (s : State) : Host.Outcome State Fault Refusal :=
  s.issue n .rfe (fun _ t =>
    if t.flag SQ_STATUS_IN_EXC n = false then .exc 1 0
    else if t.user n then .exc 2 0
    else if (t.seq n).epc % 4 ≠ 0 then .exc 8 0
    else .jump (t.excReturn n) (t.seq n).epc)
/-- HALT (R176, R206). -/
def execHalt (n : Nat) (s : State) : Host.Outcome State Fault Refusal :=
  s.issue n .halt (fun _ t => if t.user n then .exc 2 0 else .done (t.seqHalt n))
/-- FENCE (R168, R206). -/
def execFence (n : Nat) (s : State) : Host.Outcome State Fault Refusal :=
  s.issue n .fence (fun _ t =>
    if (t.seq n).txns = [] then .done t else .park (t.setSeq n { t.seq n with wait := .fence }))

/-- FENCE_RELEASE (R168). -/
def execFenceRelease (n : Nat) (s : State) : Host.Outcome State Fault Refusal :=
  if n < 8 then
    .next (if (s.seq n).wait = .fence ∧ (s.seq n).txns = [] then (s.waitRelease n).seqDrain n else s)
  else .fault .noSuchUnit

/-! ### The watchdog (R177) -/

/-- One tick of sequencer `n`: the watchdog counts, and the events of R441 that count ticks. -/
def State.seqTick1 (s : State) (n : Nat) : State :=
  let q := s.seq n
  let s := if s.flag SQ_STATUS_RUNNING n = true ∧ s.fld SQ_WDOG_LIMIT n ≠ 0 then s.setSeq n { q with wdog := q.wdog + 1 } else s
  match q.wait with
  | .event _ _ => s.seqEv n 3
  | .time _ => s.seqEv n 3
  | .fence => s.seqEv n 2
  | _ => s

/-- WATCHDOG (R177). -/
def execWatchdog (n : Nat) (s : State) : Host.Outcome State Fault Refusal :=
  if n < 8 then
    .next (if s.fld SQ_WDOG_LIMIT n ≠ 0 ∧ s.fld SQ_WDOG_LIMIT n ≤ (s.seq n).wdog ∧ s.flag SQ_STATUS_RUNNING n = true then
      (s.setSeq n { s.seq n with wdog := 0 }).raise n 12 (s.pc n) false 0
    else s)
  else .fault .noSuchUnit

/-! ### Commands of the host -/

/-- A word from the host to a mailbox (R170). -/
def State.hostMail (s : State) (n w : Nat) : State := s.mboxPush n 8 w

/-- HOST_MAILBOX_SEND (R170). -/
def execHostMailboxSend (a : Actor) (n value : Nat) (s : State) : Host.Outcome State Fault Refusal :=
  if n < 8 then .next (s.gate a .SQ (fun t => t.hostMail n value)) else .fault .noSuchUnit

/-- The host's acquire, release and forced release of semaphore `k` (R171, R172). -/
def State.hostAcquire (s : State) (k : Nat) : State := s.semTake k 8 none
def State.hostRelease (s : State) (k : Nat) : State := if s.semHeldBy k 8 then s.semFree k else s
def State.forceRelease (s : State) (k : Nat) : State := if s.flag SQ_SEM_HELD k then s.semFree k else s

/-- SEM_ACQUIRE (R172). -/
def execSemAcquire (a : Actor) (k : Nat) (s : State) : Host.Outcome State Fault Refusal :=
  if k < 32 then .next (s.gate a .SQ (fun t => t.hostAcquire k)) else .fault .noSuchUnit

/-- SEM_RELEASE (R171). -/
def execSemRelease (a : Actor) (k : Nat) (s : State) : Host.Outcome State Fault Refusal :=
  if k < 32 then .next (s.gate a .SQ (fun t => t.hostRelease k)) else .fault .noSuchUnit

/-- SEM_FORCE_RELEASE: from PF0 alone. -/
def execSemForceRelease (a : Actor) (k : Nat) (s : State) : Host.Outcome State Fault Refusal :=
  if k < 32 then .next (s.gate a .SQ (fun t => if a = .pf0 then t.forceRelease k else t)) else .fault .noSuchUnit

end Sys2Proof.Machine
end

