-- ==== Sys2Proof/Machine/TwCmds.lean ====
section
/-! DEFINITION. The commands of twin operation (chapter 15). -/

namespace Sys2Proof.Machine

/-- BREATH_TX: engine time's nanoseconds reach a multiple of 10,000 (R358). -/
def execBreathTx (s : State) : Host.Outcome State Fault Refusal := .next s.breathTx.settle

/-- BREATH_RX: the oldest received breath (R356, R357, R359, R370, R373, R380). -/
def execBreathRx (s : State) : Host.Outcome State Fault Refusal := .next s.breathRx.settle

/-- LEASE_EXPIRE (R359). -/
def execLeaseExpire (s : State) : Host.Outcome State Fault Refusal := .next s.leaseExpire.settle

/-- WITNESS_PULSE: the engine's slot (R361). -/
def execWitnessPulse (s : State) : Host.Outcome State Fault Refusal := .next s.witnessPulse

/-- WITNESS_PARTNER_PULSE: a low interval of `ns` ns that the engine did not drive has ended (R361, R380). -/
def execWitnessPartnerPulse (ns : Nat) (s : State) : Host.Outcome State Fault Refusal := .next (s.witnessSeen ns).settle

/-- WITNESS_FAULT (R362). -/
def execWitnessFault (s : State) : Host.Outcome State Fault Refusal := .next s.witnessBad.settle

/-- PARTNER_SILENT (R356, R361, R373, R378, R379). -/
def execPartnerSilent (s : State) : Host.Outcome State Fault Refusal := .next s.partnerSilent.settle

/-- The received twin messages, oldest first of their type (R364 to R372, R383 to R386). -/
def execMirrorRx (s : State) : Host.Outcome State Fault Refusal := .next s.mirrorRx.settle
def execConfirmRx (s : State) : Host.Outcome State Fault Refusal := .next s.confirmRx.settle
def execRecordRx (s : State) : Host.Outcome State Fault Refusal := .next s.recordRx.settle
def execFetchRx (s : State) : Host.Outcome State Fault Refusal := .next s.fetchRx.settle
def execJoinRx (s : State) : Host.Outcome State Fault Refusal := .next s.joinRx.settle
def execSublastRx (s : State) : Host.Outcome State Fault Refusal := .next s.sublastRx.settle
def execGrantRx (s : State) : Host.Outcome State Fault Refusal := .next s.grantRx.settle
def execEpochEndRx (s : State) : Host.Outcome State Fault Refusal := .next s.epochEndRx.settle
def execProgRx (s : State) : Host.Outcome State Fault Refusal := .next s.progRx.settle
def execSwapProposeRx (s : State) : Host.Outcome State Fault Refusal := .next s.swapProposeRx.settle
def execSwapAcceptRx (s : State) : Host.Outcome State Fault Refusal := .next s.swapAcceptRx.settle
def execSwapRefuseRx (s : State) : Host.Outcome State Fault Refusal := .next s.swapRefuseRx.settle
def execHandoverRx (s : State) : Host.Outcome State Fault Refusal := .next s.handoverRx.settle
def execArbRx (s : State) : Host.Outcome State Fault Refusal := .next s.arbRx.settle
def execVerdictRx (s : State) : Host.Outcome State Fault Refusal := .next s.verdictRx.settle

/-- MESSAGE_RESEND (R365). -/
def execMessageResend (s : State) : Host.Outcome State Fault Refusal := .next s.resend.settle

/-- EPOCH_CUT (R371). -/
def execEpochCut (s : State) : Host.Outcome State Fault Refusal := .next s.epochCut.settle

/-- EPOCH_DISCARD (R371). -/
def execEpochDiscard (s : State) : Host.Outcome State Fault Refusal := .next s.epochDiscard.settle

/-- PROMOTE_CMD (R373): from PF0, a standby whose partner is silent. -/
def execPromoteCmd (a : Actor) (s : State) : Host.Outcome State Fault Refusal :=
  .next (s.gate a .TW (fun t => if a = .pf0 ∧ t.silent = true then t.promote.settle else t))

/-- DEMOTE_CMD (R377): from PF0. -/
def execDemoteCmd (a : Actor) (s : State) : Host.Outcome State Fault Refusal :=
  .next (s.gate a .TW (fun t => if a = .pf0 then (t.demoteStart false false).settle else t))

/-- DEMOTION_COMPLETE (R377). -/
def execDemotionComplete (s : State) : Host.Outcome State Fault Refusal := .next s.demoteEnd.settle

/-- SWAP_NOW (R385). -/
def execSwapNow (a : Actor) (s : State) : Host.Outcome State Fault Refusal :=
  .next (s.gate a .TW State.proposeSwap)

/-- CLR_UNFIT (R384). -/
def execClrUnfit (a : Actor) (s : State) : Host.Outcome State Fault Refusal :=
  .next (s.gate a .TW (fun t => t.clr TW_STATUS_UNFIT 0))

/-- SELF_CHECK: whether the breath is on time, the copies of the role agree and the lease timer has counted (R376). -/
def execSelfCheck (breath copies lease : Bool) (s : State) : Host.Outcome State Fault Refusal :=
  .next (s.selfCheck breath copies lease).settle

/-- BREATH_GUARD (R377). -/
def execBreathGuard (s : State) : Host.Outcome State Fault Refusal := .next s.breathGuard.settle

/-- DISAGREE_CLEAR (R382). -/
def execDisagreeClear (s : State) : Host.Outcome State Fault Refusal := .next s.disagreeClear

/-- UNFIT_CLEAR (R384). -/
def execUnfitClear (s : State) : Host.Outcome State Fault Refusal := .next s.unfitClear

/-- SWAP_PROPOSE (R385). -/
def execSwapPropose (s : State) : Host.Outcome State Fault Refusal :=
  .next (if s.swapDue then s.proposeSwap else s)

/-- SWAP_EXECUTE: tick E (R386). -/
def execSwapExecute (s : State) : Host.Outcome State Fault Refusal := .next s.swapExecute.settle

/-- TWIN_DISABLE: EN is written as 0 (R377). -/
def execTwinDisable (a : Actor) (s : State) : Host.Outcome State Fault Refusal :=
  .next (s.gate a .TW (fun t => if t.flag TW_CTL_EN 0 then t.twDisable.settle else t))

end Sys2Proof.Machine
end

