-- ==== Sys2Proof/Machine/RegMap.lean ====
section
/-! DEFINITION. The register map at work: which register an address names, whether its block is quiescent (R10), the values
a field accepts (R470), and what a field reads as (R9). -/

namespace Sys2Proof.Machine

/-! ### Finding a register (R7, R8) -/

/-- A word of a register: the register, its unit, the word. -/
structure Hit where
  d : RegD
  n : Nat
  w : Nat

/-- The word of register `d` at an address, when it has one there. -/
def RegD.hit (d : RegD) (addr : Nat) : Option Hit :=
  let o := addr - d.base
  let r := o % d.s1
  if d.base ≤ addr ∧ o / d.s1 < d.c1 ∧ r / d.s2 < d.c2 ∧ r % d.s2 / 4 < d.words then
    some { d := d, n := o / d.s1 * d.c2 + r / d.s2, w := r % d.s2 / 4 }
  else none

/-- The register word at an aligned address. -/
def regAt (addr : Nat) : Option Hit := if addr % 4 = 0 then allRegs.findSome? (fun d => d.hit addr) else none

/-- The address of a unit's first word. -/
def Hit.unitAddr (h : Hit) : Nat := h.d.base + h.n / h.d.c2 * h.d.s1 + h.n % h.d.c2 * h.d.s2

/-! ### Quiescence (R10) -/

/-- Whether MAC instance `n` has finished what R42 lets it finish: the frame in transmission, a preempted one and a
flow-control frame included, and its held launches. Queued frames wait for EN. -/
def State.macIdle (s : State) (n : Nat) : Bool :=
  let m := s.mac n
  m.cur.isNone && m.part.isNone && m.ctl.isEmpty && m.gate.isEmpty && decide (m.curEnd ≤ s.ti.elapsed)
def State.macQuiet (s : State) (n : Nat) : Bool := !s.flag MC_CTL_EN n && s.macIdle n
/-- Whether the time service holds no request that it has classified and no launch (R42). -/
def State.tsIdle (s : State) : Bool :=
  s.ts.sealing.isEmpty && s.ts.queue.all (fun q => q.tag == 2 || q.tag == 3) && (List.range 16).all (fun n => (s.mac n).gate.isEmpty)

/-- Whether an Ethernet lane is quiescent, and a group with its instances (R280). -/
def State.ethQuiet (s : State) (n : Nat) : Bool := !s.flag SL_ETH_CTL_EN n && !s.flag SL_ETH_STATUS_BUSY n
def State.grpQuiet (s : State) (g : Nat) : Bool :=
  (List.range 4).all (fun i => s.ethQuiet (g * 4 + i) && (!s.macExists (g * 4 + i) || s.macQuiet (g * 4 + i)))

/-- Whether the block, or the unit of it, that a register belongs to is quiescent (R10). The spec names no enable and no busy bit of
the warm-up estimator: it counts as quiescent at all times (log entry 122). -/
def State.quiet (s : State) (d : RegD) (n : Nat) : Bool :=
  let b := d.base
  match d.blk with
  | .PO => !s.flag PO_CTL_EN n && !s.flag PO_CTL_BUSY n
  | .TM =>
    if b = R_TM_LOOP_CTL.base then !s.flag TM_LOOP_CTL_EN 0
    else if b < 0x40030100 then true
    else !s.flag TM_CH_CTL_EN n && !s.flag TM_CH_STATUS_BUSY n
  | .SY =>
    if b < 0x40040200 then true
    else if b < 0x40040300 then !s.flag SY_OPLL_CTL_EN n && !s.flag SY_OPLL_STATUS_BUSY n
    else !s.flag SY_CKO_CTL_EN n && !s.flag SY_CKO_STATUS_BUSY n
  | .RS => s.rstate n == 0 || s.rstate n == 4
  | .HO => !s.flag HO_CTL_EN 0 && !s.flag HO_STATUS_SUMMING 0
  | .SQ => !s.flag SQ_CTL_EN n && !s.flag SQ_STATUS_BUSY n
  | .SL =>
    if b = R_SL_GRP_CFG.base then s.grpQuiet n
    else if b < 0x44000400 then s.ethQuiet n
    else !s.flag SL_ITL_CTL_EN n && !s.flag SL_ITL_STATUS_BUSY n
  | .MC => s.macQuiet n
  | .TS =>
    if b < 0x44201000 then !s.flag TS_CTL_EN 0 && s.tsIdle
    else if b < 0x44202000 then !s.flag TS_SA_CTL_EN n
    else if b < 0x44203100 then !s.flag TS_PTP_CTL_EN n
    else !s.flag TS_PKT_CTL_EN n
  | .RC => !s.flag RC_CTL_EN 0 && !s.flag RC_STATUS_BUSY 0
  | .TW => !s.flag TW_CTL_EN 0 && !s.flag TW_STATUS_BUSY 0
  | .DR => !s.flag DR_STATUS_TRAINING n && !s.flag DR_STATUS_ZERO_BUSY n
  | .RG => !s.flag RG_CTL_EN n && !s.flag RG_STATUS_BUSY n
  | .GP =>
    if b < 0x48090100 then !s.flag GP_UART_CTL_EN n && !s.flag GP_UART_STATUS_BUSY n
    else if b < 0x48090200 then !s.flag GP_I2C_CTL_EN 0 && !s.flag GP_I2C_CMD_BUSY 0
    else !s.flag GP_SPI_CFG_EN 0 && !s.flag GP_SPI_CMD_BUSY 0 && !s.flag GP_SPI_CMD_HELD 0
  | _ => true

/-! ### Accepted values (R470) -/

/-- Fields whose accepted values are an interval. -/
def spans1 : List (Fld × Nat × Nat) :=
  [(TC_SLIDE_SLOPE_SLOPE, 1000, 10000000), (TC_SMEAR_WINDOW_W, 3600, 86400),
   (PO_PERIOD_PERIOD, 20 * 65536, 1000000000000 * 65536), (PO_WIDTH_WIDTH, 5, 0xFFFFFFFF),
   (TM_CAL_CTL_HITS_LOG2, 16, 24), (TM_CAL_CTL_STALE_MS, 100, 10000), (TM_LOSC_CTL_WARM_COUNT, 1, 255),
   (TM_LOOP_CTL_PERIOD, 2, 32767), (TM_TIMEOUT_NS, 10, 0xFFFFFFFF), (SY_OPLL_CTL_REF_SEL, 0, 2),
   (SY_CKO_CTL_MARGIN, 5, 255), (SY_CKO_DIV_DIV, 5, 0xFFFFFF), (RS_LOCK_CFG_PHASE_NS, 1, 65535),
   (RS_LOCK_CFG_TIME_S, 1, 255), (RS_ASYM_CFG_STEP_NS, 1, 65535), (RS_REF_CTL_QUAL_S, 1, 65535),
   (HO_MIN_COUNT_COUNT, 1, 43200), (HO_TEMP_CFG_AGE_MAX_MS, 100, 65535), (HO_LOST_THRESH_NS, 1, 1000000000),
   (HO_PLAUS_CFG_AGREE_S, 1, 65535), (SQ_RING_RING, 32, 47), (BT_NET_RATE_RATE, 1, 1000)]
def spans2 : List (Fld × Nat × Nat) :=
  [(SL_GRP_CFG_MODE, 0, 2), (MC_CTL_FC_MODE, 0, 2), (MC_MAX_FRAME_OCTETS, 1518, 9600), (MC_PREEMPT_VERIFY_MS, 1, 128),
   (MC_AGE_AGE_US, 10, 65535), (TS_LATENCY_NS, 500, 100000), (TS_RL_CFG_RATE, 1, 65535), (TS_RL_CFG_BURST, 1, 65535),
   (TS_CT_CFG_SETS_LOG2, 16, 22), (TS_PTP_CTL_TRANSPORT, 0, 2), (TS_PKT_CTL_TRANSPORT, 0, 2),
   (TS_PTP_GRANT_MAX_DURATION, 10, 1000), (TS_PTP_SA_SLOT, 16, 255), (RC_MIRROR_TO_US, 10, 1000), (RC_JRN_CFG_LOG, 16, 26),
   (TW_LEASE_LEASE_US, 100, 600), (TW_CMP_CFG_THRESH_NS, 1, 65535), (TW_CMP_CFG_SUSTAIN_MS, 100, 65535),
   (TW_SWAP_CFG_PERIOD_MIN, 60, 10080), (TW_SWAP_CFG_ANN_REPEAT, 1, 7), (TW_EPOCH_CFG_EPOCH_MS, 1, 1000)]
def spans3 : List (Fld × Nat × Nat) :=
  [(BM_AGING_STEP, 16, 65535), (BM_AGING_STARVE, 16, 65535), (RG_CTL_SIZE_LOG2, 4, 16), (RG_CTL_LOC, 0, 2),
   (RG_IRQ_COUNT, 1, 64), (RG_IRQ_VECTOR, 0, 223), (GP_I2C_CTL_VECTOR, 0, 223), (GP_SPI_CFG_VECTOR, 0, 223),
   (FM_CTL_VECTOR, 0, 223), (GP_UART_BAUD_BAUD, 9600, 921600), (FM_CTL_FATAL_POLICY, 0, 1),
   (FM_TRANSIENT_CFG_COUNT, 2, 255), (FM_TRANSIENT_CFG_WINDOW_S, 1, 65535), (FM_BACKOFF_MIN_MS, 1, 1000)]

/-- Whether the interval of a field, if it has one, admits a value. -/
def inSpan (f : Fld) (x : Nat) : Bool :=
  match (spans1 ++ spans2 ++ spans3).find? (fun r => r.1 == f) with
  | some r => r.2.1 ≤ x && x ≤ r.2.2
  | none => true

/-- The value that field `g` has after a write of `v` to its register. -/
def State.after (s : State) (g : Fld) (n v : Nat) : Nat :=
  if inSpan g (bits v g.lo g.width) then bits v g.lo g.width else s.fld g n

/-- A signed trim of 10,000 ps at most. -/
def trimOk (x : Nat) : Bool := decide ((signed 32 x).natAbs ≤ 10000)

/-- An aligned range of DRAM. -/
def dramRange (a len align : Nat) : Bool := a % align == 0 && 0x1000000000 ≤ a && a + len ≤ 0x2000000000

/-- A range that lies wholly in one DRAM channel. -/
def oneChannel (a len : Nat) : Bool := dramCh a == dramCh (a + len - 1)

/-- The two parts of HO_AVG_CFG together (R138). -/
def State.avgOk (s : State) (v : Nat) : Bool :=
  let l := if bits v 0 16 ≤ 43200 then bits v 0 16 else s.lookback
  let w := if 60 ≤ bits v 16 16 ∧ bits v 16 16 ≤ 43200 then bits v 16 16 else s.window
  l + w ≤ 86000

/-- Whether RS_CTL would prefer a CLK reference (R112). -/
def State.prefClk (s : State) (v : Nat) : Bool := bitOf v 4 && s.isClk (bits v 1 3)

/-- Fields of chapters 02 to 10 whose accepted values are no plain interval; `v` is the whole register. -/
def State.fieldOkA (s : State) (f : Fld) (n v x : Nat) : Bool :=
  if f = TC_INCREMENT_INC_NS ∨ f = TC_INCREMENT_INC_FRAC then incOk v
  else if f = TC_SAFE_INC_INC then safeIncOk x
  else if f = PO_TRIM_TRIM ∨ f = TM_TRIM_TRIM ∨ f = SY_CKO_TRIM_TRIM then trimOk x
  else if f = TM_CH_CTL_RING then x ≤ 15 || (32 ≤ x && x ≤ 47)
  else if f = RS_REF_CTL_MODE then
    4 ≤ n || (x != 3 && (x != 1 || n < 2) &&
      !(x == 2 && s.flag RS_CTL_PREF_VALID 0 && s.fld RS_CTL_PREFERRED 0 == n))
  else if f = RS_REF_CTL_LANE then n < 6 || 2 ≤ x
  else if f = RS_CTL_PREFERRED ∨ f = RS_CTL_PREF_VALID then !s.prefClk v
  else if f = HO_AVG_CFG_LOOKBACK_S then x ≤ 43200 && s.avgOk v
  else if f = HO_AVG_CFG_WINDOW_S then 60 ≤ x && x ≤ 43200 && s.avgOk v
  else if f = HO_HIST_BASE_OFFSET then x * 16 + 1382400 ≤ 16777216
  else if f = BT_Q_CTL_VECTOR then vectorOk n x
  else if f = KS_CMD_SRC_ADDR ∨ f = KS_CMD_DEST_ADDR then x % 32 == 0
  else true

/-- The same for chapters 11 to 17. -/
def State.fieldOkB (s : State) (f : Fld) (n v x : Nat) : Bool :=
  if f = SL_ETH_CTL_FEC then x != 3 && (x != 2 || bitOf v 1)
  else if f = SL_ITL_CTL_ROLE then x ≤ 2
  else if f = SL_ITL_FFE_INIT_PRE ∨ f = SL_ITL_FFE_INIT_MAIN ∨ f = SL_ITL_FFE_INIT_POST then
    ffeOk (bits v 0 4) (bits v 4 6) (bits v 10 5)
  else if f = MC_BUF_WM_LO ∨ f = MC_FC_WM_LO then x ≤ bits v 0 16
  else if f = TS_NTP_CFG_MAXPOLL then signed 8 (bits v 16 8) ≤ signed 8 x
  else if f = TS_CT_BASE_ADDR then dramRange x 512 512
  else if f = TS_MINT_SRC_ADDR then x % 64 == 0
  else if f = TS_MINT_DEST_ADDR then x % 4 == 0
  else if f = RC_TALLY_US then 100 ≤ x && x ≤ 1000000 && 1000000 % x == 0
  else if f = RC_JRN_BASE_ADDR then dramRange x (s.jSize * 64) 4096 && oneChannel x (s.jSize * 64)
  else if f = RC_IDX_BASE_ADDR then dramRange x (s.jSize * 16) 4096
  else if f = RC_SUB_BASE_ADDR then dramRange x 0x1000000 4096
  else if f = RC_SUB_BLOB_ADDR then x % 32 == 0
  else if f = TW_LEASE_SILENCE_US then 300 ≤ x && x ≤ 800 && s.after TW_LEASE_LEASE_US n v + 200 ≤ x
  else if f = TW_STAGE_BASE_ADDR then dramRange x 0x800000 4096
  else if f = RG_CTL_CONSUMER then n < 16 || 32 ≤ n || x ≤ 4
  else if f = FM_BACKOFF_MAX_MS then s.after FM_BACKOFF_MIN_MS n v ≤ x && x ≤ 60000
  else true

/-- Whether field `f` of unit `n` accepts its part of a write of `v` to its register. -/
def State.fieldOk (s : State) (f : Fld) (n v : Nat) : Bool :=
  let x := bits v f.lo f.width
  inSpan f x && s.fieldOkA f n v x && s.fieldOkB f n v x

/-! ### What a field reads as (R9) -/

/-- Quanta left of a PAUSE hold, and the priorities under a PFC hold (R288). -/
def State.pauseLeft (s : State) (n : Nat) : Nat :=
  match (s.mac n).holds.find? (fun h => h.1 == 8 && holdOn s.ti.elapsed h) with
  | some h => min 65535 (ceilDiv ((h.2.2 - s.ti.elapsed) * 1000) (64 * s.octPs n * nsU))
  | none => 0
def State.pfcHeld (s : State) (n : Nat) : Nat :=
  ((List.range 8).map (fun p => if (s.mac n).holds.any (fun h => h.1 == p && holdOn s.ti.elapsed h) then 2 ^ p else 0)).sum

/-- Fields of chapters 02 to 10 that are views of the block's state. -/
def State.viewA (s : State) (f : Fld) (n : Nat) : Option Nat :=
  if f = TC_TIME_TIME then some (toTime128 s.now)
  else if f = TC_WNC_WNC then some (wncOf s.now)
  else if f = TC_SLIDE_REMAIN_REMAIN then some (wrapTo 64 (s.ti.slideRem.tdiv (2 ^ 32)))
  else if f = BG_DT_DT then some s.dtUs
  else if f = TM_LOSC_STATUS_READY_PIN then some (b2n (s.tmb.ready != s.flag TM_LOSC_CTL_READY_POL 0))
  else if f = TM_LOSC_STATUS_WARM then some (b2n s.warm)
  else if f = TM_CH_STATUS_CAL_STALE then some (b2n (s.tmStale n))
  else if f = TM_LEVEL_LEVEL then some (s.tdc n).fifo.length
  else if f = TM_CAL_AGE_AGE then some (s.tmAge n)
  else if f = RS_REF_STATUS_QUAL_REMAIN then some (s.qualRemain n)
  else if f = HO_ELAPSED_SEC then some (min 0xFFFFFFFF s.hoK.toNat)
  else if f = LC_UNIT_ID_ID then some Config.unitId
  else if f = LC_FUSE_REC_RECORD then some (ofBytes (fuseRecord s.lifeCycle))
  else none

/-- The same for chapters 11 to 17. -/
def State.viewB (s : State) (f : Fld) (n : Nat) : Option Nat :=
  if f = SL_ITL_STATUS_PEER_VALID then
    some (b2n ((s.itlL n).accX.isSome && decide (s.ti.elapsed ≤ (s.itlL n).accEl + 500 * usU)))
  else if f = MC_BUF_LEVEL_LEVEL then some (s.occAll / 1024)
  else if f = MC_STATUS_BUSY then some (b2n (!s.flag MC_CTL_EN n && !s.macIdle n))
  else if f = MC_STATUS_HELD then some (b2n ((s.mac n).holds.any (holdOn s.ti.elapsed)))
  else if f = MC_LEVEL_LEVEL then some (s.occupancy n / 1024)
  else if f = MC_LEVEL_LAUNCHES then some (s.mac n).gate.length
  else if f = MC_FC_STATE_REMAIN then some (s.pauseLeft n)
  else if f = MC_FC_STATE_PFC_HELD then some (s.pfcHeld n)
  else if f = TS_STATUS_BUSY then some (b2n (!s.flag TS_CTL_EN 0 && !s.tsIdle))
  else if f = TS_STATUS_SERVING then some (b2n s.serving)
  else if f = TS_STATUS_STOPPED then some (b2n s.stopped)
  else if f = RC_STATUS_ACCEPTING then some (b2n s.rcAccepting)
  else if f = RC_STATUS_MIRROR_UP then some (s.fld TW_STATUS_MIRROR 0)
  else if f = RC_STATUS_BATCH_OPEN then some (b2n s.batchOpen)
  else if f = RC_STATUS_SIGN_QUEUE then some s.signCount
  else if f = TW_STATUS_PARTNER_BREATH then some (b2n s.breathAlive)
  else if f = TW_STATUS_PARTNER_WITNESS then some (b2n s.pulseAlive)
  else if f = FM_STATUS_LEVEL then some s.fm.queue.length
  else if f = FM_STATUS_ALERT then some (b2n s.alert)
  else if f = PC_CTL_SEQ_EN then some s.seqsOn
  else if f = GP_UART_STATUS_RX_LEVEL then some (s.uartOf n).rx.length
  else if f = GP_UART_STATUS_TX_LEVEL then some (s.uartOf n).tx.length
  else none

/-- Whether a unit exists for a register: the registers of a MAC instance that does not exist read as zero (R280). -/
def State.unitHere (s : State) (d : RegD) (n : Nat) : Bool :=
  d.blk != .MC || d.base < 0x44104000 && s.macExists (if d.base = R_MC_STAT.base then n / 48 else n) || 0x44104000 ≤ d.base

/-- What a field holds for a write that leaves it alone (R6): a waiting shadow, or the field. -/
def State.raw (s : State) (f : Fld) (n : Nat) : Nat :=
  match f.acc with
  | .rwsTick => s.shadowed f n
  | .rwsSecond => s.shadowed f n
  | .rwsSuperword => s.shadowed f n
  | _ => s.fld f n

/-- What a field reads as. -/
def State.view (s : State) (f : Fld) (n : Nat) : Nat :=
  match f.acc with
  | .wo => 0
  | .ro => ((s.viewA f n).or (s.viewB f n)).getD (s.fld f n)
  | _ => s.raw f n

/-- A register's fields put together. -/
def regSum (d : RegD) (g : Fld → Nat) : Nat := (d.flds.map (fun f => g f % 2 ^ f.width * 2 ^ f.lo)).sum
def State.rawVal (s : State) (d : RegD) (n : Nat) : Nat := regSum d (fun f => s.raw f n)
def State.regVal (s : State) (d : RegD) (n : Nat) : Nat := if s.unitHere d n then regSum d (fun f => s.view f n) else 0

end Sys2Proof.Machine
end

