-- ==== Sys2Proof/Machine/Registers.lean ====
section
/-! DEFINITION. Writes and reads of registers by an actor (R5 to R13, R43, R225, R415, R470): the fields, then what the
register does. -/

namespace Sys2Proof.Machine

/-! ### Effects shared by several registers -/

/-- What a change of the key slots means for the receipt service (R248, R249, R332): lines of dead KEK generations go, and
the open batch closes when the generation that was CUR is no longer live. -/
def State.keyEdge (new old : State) : State :=
  let s := if new.heldGens 0 = old.heldGens 0 then new else new.cacheSweep
  if old.genHeld 2 false = true ∧ (new.heldGens 2).contains (old.genOf 2 false) = false then s.rcKeyEdge else s

/-- EN written: the action of a 0 to 1, or of a 1 to 0. -/
def State.edge (s : State) (f : Fld) (n : Nat) (b : Bool) (on off : State → State) : State :=
  if b then (if s.flag f n then s else on s) else if s.flag f n then off s else s

/-- The loop generator (R89): its first edge comes one period after EN. -/
def State.loopOn (s : State) : State :=
  { s.set1 TM_LOOP_CTL_EN 0 with
    tmb := { s.tmb with loopNext := some (s.ti.ticks + s.fld TM_LOOP_CTL_PERIOD 0), phase := 0 } }
def State.loopOff (s : State) : State := { s.clr TM_LOOP_CTL_EN 0 with tmb := { s.tmb with loopNext := none } }

/-- TS_CTL.EN is set: the table's hash takes a new key (R320). -/
def State.tsOn (s : State) : State := { s.free.2 with ts := { s.free.2.ts with hkey := s.free.1 } }.set1 TS_CTL_EN 0

/-- CAL_STALE follows a new age limit (R77). -/
def State.staleAll (s : State) : State := (List.range 12).foldl State.tmStaleShow s

/-- A write to a setting of kind 0x08 (R10, R220, R221): `x` and `cur` are the field's written and held values. A lock takes no
fault away. -/
def State.settingWrite (s : State) (d : RegD) (n r v x cur : Nat) : State :=
  if s.quiet d n then s.setting n r v
  else if x = cur then s
  else s.log CFG_WHILE_RUNNING .SQ

/-- Locks written by a privileged actor (R221). -/
def State.lockWrite (s : State) (a : Actor) (v : Nat) : State :=
  if s.privileged a then (List.range 8).foldl (fun t n => if bitOf v n then t.iramLock n else t) s else s

/-- BT_MODE: REFUSED is cleared by a 1; a request waits for the end of the tick (R224). -/
def State.modeWrite (s : State) (a : Actor) (req : Nat) : State :=
  if req ≠ 0 ∧ s.privileged a = true then s.modeAsk req else s

/-- KS_STAGE (R243). -/
def State.stageWrite (s : State) (a : Actor) (v : Nat) : State :=
  let s := if bitOf v 8 then (s.ksStage a (v % 256) (toBytes 256 (s.fld KS_STAGE_REC_RECORD 0))).1 else s
  if bitOf v 9 then (s.ksOp a (v % 256) (fun t => (t.ksDiscard (actorNo a), false))).1 else s

/-- KS_COMMIT.GO (R243, R245). -/
def State.commitWrite (s : State) (a : Actor) : State :=
  match a with
  | .pf0 => s.ksCommit
  | .seq n => (s.ksCommitSeq n).1
  | _ => s.ksRefuseBy a 0 (s.ksGate a)

/-- RC_SUB_CMD.GO (R331). -/
def State.subWriteCmd (s : State) (a : Actor) (op : Nat) : State :=
  if s.subMay a then
    match op with
    | 1 => s.subWrite a false
    | 2 => s.subWrite a true
    | 3 => s.subRemove
    | 4 => s.subRead
    | 5 => s.subSuspend true
    | 6 => s.subSuspend false
    | _ => s
  else s

/-- RS_REF_CMD_n. -/
def State.refCmd (s : State) (n v : Nat) : State :=
  let s := if bitOf v 0 then s.refDisqualify n else s
  let s := if bitOf v 1 then s.refAccept n else s
  let s := if bitOf v 2 then s.refClrDispute n else s
  if bitOf v 3 then s.refClrComp n else s

/-- TW_CMD (R373, R377, R384, R385). -/
def State.twCmd (s : State) (a : Actor) (v : Nat) : State :=
  let s := if bitOf v 0 then s.proposeSwap else s
  let s := if bitOf v 1 = true ∧ a = .pf0 ∧ s.silent = true then s.promote else s
  let s := if bitOf v 2 = true ∧ a = .pf0 then s.demoteStart false false else s
  if bitOf v 3 then s.clr TW_STATUS_UNFIT 0 else s

/-- SQ_SEM_s (R171, R172): the releases of a write, then its acquire. -/
def State.semCmd (s : State) (a : Actor) (k v : Nat) : State :=
  let s := if bitOf v 9 then s.hostRelease k else s
  let s := if bitOf v 10 = true ∧ a = .pf0 then s.forceRelease k else s
  if bitOf v 8 then s.hostAcquire k else s

/-- SQ_CTL_n (R151, R152, R220): RESET is judged by the EN that stands, then START_USER, then EN. -/
def State.sqCtl (s : State) (n v : Nat) : State :=
  let s := if bitOf v 1 then s.seqResetWrite n else s
  let s := s.settingWrite R_SQ_CTL n 4 (b2n (bitOf v 2)) (b2n (bitOf v 2)) (s.fld SQ_CTL_START_USER n)
  s.edge SQ_CTL_EN n (bitOf v 0) (fun t => t.seqEnable n) (fun t => t.seqDisable n)

/-- A change of WARM_SRC begins a new first window (R92). -/
def State.warmSrc (s o : State) : State :=
  if s.fld TM_LOSC_CTL_WARM_SRC 0 = o.fld TM_LOSC_CTL_WARM_SRC 0 then s
  else { s with tmb := { s.tmb with warmY := none, warmRun := 0, win := none } }

/-! ### What each register does on a write -/

/-- A register's own action, after its fields: the state, the state before the write, the actor, the unit, the value. -/
abbrev RegAct := State → State → Actor → Nat → Nat → State

/-- Chapters 02 to 04. -/
def acts02 : List (Nat × RegAct) :=
  [(R_TC_TIME_SET.base, fun s _ _ _ v => s.timeSetWrite v),
   (R_TC_STEP_OFFSET.base, fun s _ _ _ v => s.stepWrite v),
   (R_TC_STEP_ACCEPT.base, fun s _ a _ v => s.stepAccept a (v % 256) (bitOf v 8)),
   (R_BG_CTL.base, fun s _ _ _ _ => s.boundRaise),
   (R_PO_CTL.base, fun s _ _ n v => s.edge PO_CTL_EN n (bitOf v 0) (fun t => t.poArm n) (fun t => t.poDisable n)),
   (R_TM_CAL_CTL.base, fun s _ _ _ _ => s.staleAll),
   (R_TM_LOSC_CTL.base, fun s o _ _ _ => s.warmSrc o),
   (R_TM_LOOP_CTL.base, fun s _ _ _ v => s.edge TM_LOOP_CTL_EN 0 (bitOf v 0) State.loopOn State.loopOff),
   (R_TM_CH_CTL.base, fun s _ _ n v => s.edge TM_CH_CTL_EN n (bitOf v 0) (fun t => t.tmEnable n) (fun t => t.tmDisable n)),
   (R_SY_ROOT_CMD.base, fun s _ _ _ v => s.rootCmd (bitOf v 0) (bitOf v 1)),
   (R_SY_OPLL_CTL.base, fun s _ _ n v =>
     s.edge SY_OPLL_CTL_EN n (bitOf v 0) (fun t => t.opllEnable n) (fun t => t.opllDisable n)),
   (R_SY_OPLL_MULT.base, fun s _ _ n v => s.multWrite n v),
   (R_SY_CKO_CTL.base, fun s _ _ n v =>
     (s.ckoSrc n).edge SY_CKO_CTL_EN n (bitOf v 0) (fun t => t.ckoEnable n) (fun t => t.ckoDisable n))]

/-- Chapters 05 and 06. -/
def acts05 : List (Nat × RegAct) :=
  [(R_RS_CTL.base, fun s _ _ _ _ => s.rsEval),
   (R_RS_SELECT.base, fun s _ a _ v => if a = .pf0 then s.forceWrite (v % 8) (bitOf v 3) else s),
   (R_RS_LOCK_CFG.base, fun s _ _ _ _ => s.rsJudge),
   (R_RS_REF_CTL.base, fun s _ _ n v => s.refEn n (bitOf v 0)),
   (R_RS_REF_CMD.base, fun s _ _ n v => s.refCmd n v),
   (R_RS_TOD.base, fun s _ _ n v => (s.todWrite n (v % 2 ^ 48) (bits v 64 32)).rsEval),
   (R_HO_CTL.base, fun s _ _ _ v => (s.edge HO_CTL_EN 0 (bitOf v 0) State.hoEnable State.hoDisable).hoKick),
   (R_HO_TEMP_BOARD.base, fun s _ _ _ v => s.boardWrite (v % 65536))]

/-- Chapters 07 and 09. -/
def acts07 : List (Nat × RegAct) :=
  [(R_SQ_SEM.base, fun s _ a n v => s.semCmd a n v),
   (R_SQ_CTL.base, fun s _ _ n v => s.sqCtl n v),
   (R_SQ_ENTRY.base, fun s _ _ n v => s.settingWrite R_SQ_ENTRY n 0 v (bits v 0 16) (s.fld SQ_ENTRY_ENTRY n)),
   (R_SQ_VECTOR.base, fun s _ _ n v => s.settingWrite R_SQ_VECTOR n 1 v (bits v 8 8) (s.fld SQ_VECTOR_BASE n)),
   (R_SQ_USER_PORTS.base, fun s _ _ n v =>
     s.settingWrite R_SQ_USER_PORTS n 2 v (bits v 0 8) (s.fld SQ_USER_PORTS_GROUPS n)),
   (R_SQ_USER_TARGETS.base, fun s _ _ n v =>
     s.settingWrite R_SQ_USER_TARGETS n 3 v (bits v 0 9 + 1024 * bits v 10 1)
       (s.fld SQ_USER_TARGETS_TARGETS n + 1024 * s.fld SQ_USER_TARGETS_SEQ_RAM n)),
   (R_SQ_MBOX.base, fun s _ _ n v => s.hostMail n v),
   (R_BT_LOAD.base, fun s _ a _ v => if a = .pf0 ∧ bitOf v 0 = true then s.loadGo else s),
   (R_BT_LAUNCH.base, fun s _ a _ v => if s.launchOk a then s.launch (v % 256) else s),
   (R_BT_MODE.base, fun s _ a _ v => s.modeWrite a (bits v 4 2)),
   (R_BT_WARM.base, fun s _ a _ v => if a = .pf0 ∧ v % 256 = 0xD1 ∧ bitOf v 8 = true then s.warmReset 2 else s),
   (R_BT_IRAM_LOCK.base, fun s _ a _ v => s.lockWrite a v),
   (R_BT_EXTEND.base, fun s _ a _ v => if bitOf v 0 = true ∧ s.privileged a = true then s.hostExtend a else s),
   (R_BT_Q_CTL.base, fun s _ _ n v => if bitOf v 0 then s.quoteGo n else s)]

/-- Chapter 10. -/
def acts10 : List (Nat × RegAct) :=
  [(R_KS_COMMIT.base, fun s o a _ v => if bitOf v 0 then (s.commitWrite a).keyEdge o else s),
   (R_KS_STAGE.base, fun s _ a _ v => s.stageWrite a v),
   (R_KS_INVAL.base, fun s o a _ v => if bitOf v 8 then (s.ksInval a (v % 256)).1.keyEdge o else s),
   (R_KS_CMD.base, fun s _ a _ v => if bitOf v 16 = true ∧ v % 4 ≠ 0 then s.cmdStart a (v % 4) (bits v 8 8) else s),
   (R_KS_STMT_CTL.base, fun s _ _ n v => if bitOf v 8 then s.stmtRequest n (v % 256) else s),
   (R_LC_ADVANCE.base, fun s _ a _ v => s.lcAdvance a (v % 256) (bits v 8 2) (bitOf v 10) (bitOf v 11))]

/-- Chapters 11 to 13. -/
def acts11 : List (Nat × RegAct) :=
  [(R_SL_ETH_CTL.base, fun s _ _ n v =>
     s.edge SL_ETH_CTL_EN n (bitOf v 0) (fun t => t.ethEnable n) (fun t => t.ethDisable n)),
   (R_SL_ITL_CTL.base, fun s _ _ n v =>
     s.edge SL_ITL_CTL_EN n (bitOf v 0) (fun t => t.itlEnable n) (fun t => t.itlDisable n)),
   (R_MC_CTL.base, fun s _ _ n v =>
     s.edge MC_CTL_MUTE n (bitOf v 6) (fun t => t.mute n) (fun t => t.unmute n true)),
   (R_TS_CTL.base, fun s _ _ _ v => s.edge TS_CTL_EN 0 (bitOf v 0) State.tsOn (fun t => t.clr TS_CTL_EN 0)),
   (R_TS_ANNOUNCE.base, fun s _ _ _ v => if bitOf v 0 then s.announceGo (bits v 1 3) else s),
   (R_TS_MINT_CTL.base, fun s _ a _ v => if bitOf v 8 then s.mintGo a (v % 16) else s)]

/-- Chapters 14 and 15. -/
def acts14 : List (Nat × RegAct) :=
  [(R_RC_CTL.base, fun s _ _ _ v =>
     s.edge RC_CTL_EN 0 (bitOf v 0) State.rcEnable (fun t => (t.clr RC_CTL_EN 0).rcStop 5)),
   (R_RC_JRN_RELEASE.base, fun s _ _ _ v => (s.rcRelease v).joinWaitEnd),
   (R_RC_SUB_CMD.base, fun s _ a _ v => if bitOf v 3 then s.subWriteCmd a (v % 8) else s),
   (R_TW_CTL.base, fun s _ _ _ v => s.edge TW_CTL_EN 0 (bitOf v 0) State.twEnable State.twDisable),
   (R_TW_CMD.base, fun s _ a _ v => s.twCmd a v)]

/-- Chapters 16 and 17. -/
def acts16 : List (Nat × RegAct) :=
  [(R_BM_CTRL_RESET.base, fun s _ a _ v => if a = .pf0 then s.ctrlReset (v % 2 ^ 14) else s),
   (R_DR_CTL.base, fun s _ a n v => s.drCtl a n (bitOf v 0) (bitOf v 1)),
   (R_RG_CTL.base, fun s _ _ n v =>
     (s.edge RG_CTL_EN n (bitOf v 0) (fun t => t.ringEnable n) (fun t => t.ringDisable n)).when (bitOf v 15)
       (fun t => t.ringRestart n)),
   (R_RG_PROD.base, fun s _ _ n v => s.ringProdWrite n v),
   (R_RG_CONS.base, fun s _ _ n v => s.ringConsWrite n v),
   (R_GP_UART_CTL.base, fun s _ _ n v =>
     s.edge GP_UART_CTL_EN n (bitOf v 0) (fun t => t.uartEnable n) (fun t => t.uartDisable n)),
   (R_GP_UART_TX.base, fun s _ _ n v => s.uartTx n (v % 256)),
   (R_GP_I2C_CMD.base, fun s _ _ _ v => if bitOf v 16 then s.i2cGo (v % 128) (bits v 8 4) (bits v 12 4) else s),
   (R_GP_SPI_CFG.base, fun s _ _ _ v =>
     s.edge GP_SPI_CFG_EN 0 (bitOf v 0) (fun t => t.set1 GP_SPI_CFG_EN 0) State.spiOff),
   (R_GP_SPI_CMD.base, fun s _ _ _ v => if bitOf v 8 then s.spiGo (v % 64) (bitOf v 6) else s),
   (R_GP_GPIO_DIR.base, fun s _ _ _ _ => s.gpioSync),
   (R_GP_GPIO_OUT.base, fun s _ _ _ _ => s.gpioSync),
   (R_GP_GPIO_SET.base, fun s _ _ _ v => s.gpioSet (v % 65536)),
   (R_GP_GPIO_CLR.base, fun s _ _ _ v => s.gpioClr (v % 65536)),
   (R_FM_INJECT.base, fun s _ _ _ v => s.inject (bits v 0 16) (bits v 16 2) (bits v 32 16) (bits v 48 16)),
   (R_FM_CHAN.base, fun s _ _ n v =>
     if bitOf v 16 = true ∧ s.flag FM_CHAN_RETIRED n = true then s.reenable ((n / 16 + 2) * 256 + n % 16) else s)]

/-- The action of a register, by its address; none for a register that is only its fields. -/
def regActs : List (Nat × RegAct) := acts02 ++ acts05 ++ acts07 ++ acts10 ++ acts11 ++ acts14 ++ acts16
def regAct (b : Nat) : RegAct :=
  match regActs.find? (fun r => r.1 == b) with
  | some r => r.2
  | none => fun s _ _ _ _ => s

/-! ### The fields of a write (R9, R10, R43) -/

/-- Fields that the register's action writes. -/
def actFlds : List Fld :=
  [TC_STEP_OFFSET_OFFSET, PO_CTL_EN, TM_LOOP_CTL_EN, TM_CH_CTL_EN, SY_OPLL_CTL_EN, SY_OPLL_MULT_FRAC, SY_OPLL_MULT_INT,
   SY_CKO_CTL_EN, RS_SELECT_REF, RS_SELECT_FORCE, RS_REF_CTL_EN, HO_CTL_EN, HO_TEMP_BOARD_TEMP, SQ_CTL_EN, SQ_CTL_START_USER,
   SQ_ENTRY_ENTRY, SQ_VECTOR_BASE, SQ_USER_PORTS_GROUPS, SQ_USER_TARGETS_TARGETS, SQ_USER_TARGETS_SEQ_RAM,
   BT_IRAM_LOCK_LOCK, SL_ETH_CTL_EN, SL_ITL_CTL_EN, MC_CTL_MUTE, TS_CTL_EN, RC_CTL_EN, RC_JRN_RELEASE_INDEX, TW_CTL_EN,
   RG_CTL_EN, RG_PROD_COUNT, RG_CONS_COUNT, GP_UART_CTL_EN, GP_SPI_CFG_EN]

/-- Whether a write by `a` reaches field `f` of unit `n` as a field: TC_CTL.STEP_EN is PF0's (R50), ROLE of L_0 and L_1 and
the band table during a sweep ignore writes. -/
def State.takesField (s : State) (a : Actor) (f : Fld) (n : Nat) : Bool :=
  !actFlds.contains f && !(f == TC_CTL_STEP_EN && a != .pf0) && !(f == SL_ITL_CTL_ROLE && n < 2) &&
    !(f.base == R_SY_BAND_TABLE.base && s.flag SY_ROOT_STATUS_SWEEP_BUSY 0)

/-- One field takes its part `x` of a write, by its access code. -/
def State.putFld (s : State) (f : Fld) (n x : Nat) : State :=
  match f.acc with
  | .rw => s.setFld f n x
  | .rwq => s.setFld f n x
  | .wo => s.setFld f n x
  | .w1c => s.clearBits f n x
  | .w1s => s.setFld f n (s.fld f n ||| x)
  | .rwsTick => if f = TC_SLIDE_OFFSET_OFFSET then s.slideWrite x else s.setShadow f n x
  | .rwsSecond => s.setShadow f n x
  | .rwsSuperword => s.setShadow f n x
  | .ro => s
  | .rc => s

/-- Whether a field can take a written value at all. -/
def Fld.writable (f : Fld) : Bool := f.acc != .ro && f.acc != .rc

/-- The fields of a write of `v` (R10, R43, R470): at most one fault of each kind. -/
def State.writeFields (s : State) (a : Actor) (d : RegD) (n v : Nat) : State :=
  let q := s.quiet d n
  let fs := d.flds.filter (fun f => f.writable && s.takesField a f n)
  let held := fun (f : Fld) => f.acc == .rwq && !q
  let bad := fun (f : Fld) => !held f && !s.fieldOk f n v
  let t := fs.foldl (fun t f => if held f || bad f then t else t.putFld f n (bits v f.lo f.width)) s
  let t := t.when (fs.any (fun f => held f && bits v f.lo f.width != s.fld f n)) (fun t => t.log CFG_WHILE_RUNNING d.blk)
  t.when (fs.any bad) (fun t => t.log CFG_RANGE d.blk)

/-! ### A write (R6, R7, R225, R415) -/

/-- The registers of the quote slots and statement slots: unit 0 belongs to PF0, unit 1 to PF1 (R229, R252). -/
def slotRegs : List Nat :=
  [R_BT_Q_CTL.base, R_BT_Q_STATUS.base, R_BT_Q_NONCE.base, R_KS_STMT_CTL.base, R_KS_STMT_NONCE.base]

/-- The precedence of a write among those of one tick: the matrix first, then the ports of the sequencers in ascending order, the
last of which holds (R44, R161). -/
def writeRank (a : Actor) (port : Bool) : Nat :=
  match a, port with
  | .seq n, true => n + 1
  | _, _ => 0

/-- Fields that simply hold what is written to them. -/
def Fld.holds (f : Fld) : Bool := f.acc == .rw || f.acc == .rwq || f.acc == .rwsTick || f.acc == .rwsSecond || f.acc == .rwsSuperword

/-- What a write of rank `p` comes to: a field that a write of a higher rank has given its value on this tick keeps it. -/
def State.outranked (s : State) (p : Nat) (d : RegD) (n v : Nat) : Nat :=
  d.flds.foldl (fun v f => if f.holds = true ∧ p < smGet 0 s.tk.port (f.key n) then
    v - bits v f.lo f.width * 2 ^ f.lo + s.raw f n % 2 ^ f.width * 2 ^ f.lo else v) v

/-- A port write of rank `p` is noted for the rest of the tick. -/
def State.noteRank (s : State) (p : Nat) (d : RegD) (n : Nat) : State :=
  if p = 0 then s
  else { s with tk := { s.tk with port := d.flds.foldl (fun l f => smSet 0 l (f.key n) (max p (smGet 0 l (f.key n)))) s.tk.port } }

/-- The whole register takes effect; PO_START_n ignores an invalid time in whole (R15). -/
def State.writeWhole (s : State) (a : Actor) (port : Bool) (d : RegD) (n v : Nat) : State :=
  let v := s.outranked (writeRank a port) d n v
  if s.unitHere d n = false then s
  else if d.base = R_PO_START.base ∧ time128Ok v = false then s.log BAD_TIME_VALUE .PO
  else ((regAct d.base ((s.pcNote d n).writeFields a d n v) s a n v).clocked s).settle.noteRank (writeRank a port) d n

/-- The key of a word held by an actor. -/
def Hit.wordKey (h : Hit) (a : Actor) (w : Nat) : Nat := actorKey a (h.unitAddr + 4 * w)

/-- The words held by the actor put together with the last one; words not written keep the register's value. -/
def State.assemble (s : State) (a : Actor) (h : Hit) (last : Nat) : Nat :=
  let cur := s.rawVal h.d h.n
  ((List.range h.d.words).map (fun w =>
    (if w = h.w then last else (smGet none s.held (h.wordKey a w)).getD (bits cur (32 * w) 32)) * 2 ^ (32 * w))).sum

/-- The register's held words of an actor given up. -/
def State.unhold (s : State) (a : Actor) (h : Hit) : State :=
  { s with held := s.held.filter (fun e => !(h.wordKey a 0 ≤ e.1 && e.1 < h.wordKey a h.d.words)) }

/-- A permitted write of one word, through the matrix or a port. -/
def State.wordWrite (s : State) (a : Actor) (port : Bool) (h : Hit) (v : Nat) : State :=
  if h.w + 1 < h.d.words then { s with held := smSet none s.held (h.wordKey a h.w) (some (v % 2 ^ 32)) }
  else (s.unhold a h).writeWhole a port h.d h.n (s.assemble a h (v % 2 ^ 32))

/-- A write to slot `n` of a function: PF1's own is permitted in every mode, the other function's is ignored. -/
def State.slotGate (s : State) (a : Actor) (b : Blk) (n : Nat) (k : State → State) : State :=
  match a, n with
  | .pf1, 1 => k s
  | .pf0, 1 => s.gate a b (fun t => t)
  | _, _ => s.gate a b k

/-- GO of statement slot `i` for key slot `k`: PF0's is refused in RECOVERY with its reason too (R225, R245, R257). -/
def State.stmtGate (s : State) (a : Actor) (i k : Nat) (f : State → State) : State :=
  if a = .pf0 ∧ i = 0 then s.keyGate a k f else s.slotGate a .KS i f

/-- The key operation that a write asks for, by the slot it names. -/
def keyAsk (d : RegD) (v : Nat) : Option Nat :=
  if d.base = R_KS_COMMIT.base ∧ bitOf v 0 = true then some 0
  else if d.base = R_KS_STAGE.base ∧ (bitOf v 8 = true ∨ bitOf v 9 = true) then some (v % 256)
  else if d.base = R_KS_INVAL.base ∧ bitOf v 8 = true then some (v % 256)
  else if d.base = R_KS_STMT_CTL.base ∧ bitOf v 8 = true then some (v % 256)
  else none

/-- A write that R225 does not permit, or that another actor than PF0 gives TC_STEP_ACCEPT: what it logs, and what refuses it. -/
def State.barred (s : State) (a : Actor) (h : Hit) (v : Nat) : State :=
  if h.d.base = R_TC_STEP_ACCEPT.base ∧ a ≠ .pf0 then (s.gate a h.d.blk (fun t => t)).stepBarred
  else if h.d.base = R_SY_ROOT_CMD.base ∧ bitOf v 1 = true then (s.gate a h.d.blk (fun t => t)).sweepBarred
  else if h.d.base = R_LC_ADVANCE.base then s.lcGate a (v % 256) (bits v 8 2) (bitOf v 10) (bitOf v 11)
  else if h.d.base = R_KS_CMD.base ∧ bitOf v 16 = true ∧ v % 4 ≠ 0 then s.cmdGate a (v % 4) (bits v 8 8)
  else
    match keyAsk h.d v with
    | some k => s.keyGate a k (fun t => t)
    | none => s.gate a h.d.blk (fun t => t)

/-- A 32-bit write to a register block, through the matrix or a port. -/
def State.writeReg (s : State) (a : Actor) (port : Bool) (addr v : Nat) : State :=
  match regAt addr with
  | some h =>
    if slotRegs.contains h.d.base then
      if a = .pf0 ∧ h.n = 0 ∧ s.mayWrite a h.d.blk = false then s.barred a h v
      else s.slotGate a h.d.blk h.n (fun t => t.wordWrite a port h v)
    else if s.mayWrite a h.d.blk = false ∨ (h.d.base = R_TC_STEP_ACCEPT.base ∧ a ≠ .pf0) then
      s.barred a h v
    else s.wordWrite a port h v
  | none =>
    match blkAt addr with
    | some b => if addr % 4 = 0 then s.gate a b (fun t => t) else s
    | none => s

/-! ### A read (R6, R8, R13, R82, R415, R419, R432, R445) -/

/-- Counters whose reads R445 restricts. -/
def pcRegs : List Nat := [R_PC_CYCLE.base, R_PC_CNT.base, R_PC_FB.base]

/-- Whether an actor's read of FM_QUEUE removes the head. -/
def State.queueReader (s : State) (a : Actor) : Bool :=
  match a with
  | .pf0 => true
  | .seq n => !s.user n
  | _ => false

/-- The head of the fault queue; a record whose CODE is 0 when it is empty. -/
def State.queueHead (s : State) : Nat :=
  match s.fm.queue with
  | r :: _ => r.bits
  | [] => 0

/-- A read of word 0 of TDC FIFO `n`: `port`, through the port space. -/
def State.tmTakeHead (s : State) (a : Actor) (n : Nat) (port : Bool) : Nat × State :=
  if s.tmIsReader n port = true ∧ a ≠ .pf1 then (s.tmHead n, s.tmPop n) else (tmEmpty, s)

/-- What a UART receive FIFO without an entry reads as. -/
def State.uartNone (s : State) : Nat × State := (s.free.1 % 1024, s.free.2)

/-- A read of word 0 of a UART receive FIFO: without an entry, or by another actor, bit 31 is clear and the flags and the
byte are not stated (log entry 3). -/
def State.uartTakeHead (s : State) (a : Actor) (n : Nat) (port : Bool) : Nat × State :=
  match s.uartIsReader a n port, (s.uartOf n).rx with
  | true, e :: es => (e, (s.setUart n { s.uartOf n with rx := es }))
  | _, _ => s.uartNone

/-- A read of word 0 of FM_QUEUE. -/
def State.queueTake (s : State) (a : Actor) : Nat × State :=
  (s.queueHead, if s.queueReader a then s.setQueue s.fm.queue.tail else s)

/-- The RC fields of a register cleared by a read; PF1 clears nothing. -/
def State.readClear (s : State) (a : Actor) (d : RegD) (n : Nat) : State :=
  if a = .pf1 then s else d.flds.foldl (fun t f => if f.acc = .rc then t.setFld f n 0 else t) s

/-- A counter of elapsed nanoseconds brought up to the present tick (R301). -/
def State.statNow (s : State) (d : RegD) (n : Nat) : State :=
  if d.base ≠ R_MC_STAT.base then s
  else if n % 48 = 37 then s.heldCount (n / 48)
  else if n % 48 = 38 then s.xoffCount (n / 48)
  else s

/-- The whole register as a read of its word 0 finds it, with what the read removes. -/
def State.takeWhole (s : State) (a : Actor) (d : RegD) (n : Nat) : Nat × State :=
  let s := s.statNow d n
  if d.base = R_TM_FIFO.base then s.tmTakeHead a n false
  else if d.base = R_GP_UART_RX.base then s.uartTakeHead a n false
  else if d.base = R_FM_QUEUE.base then s.queueTake a
  else if pcRegs.contains d.base = true ∧ s.pcMayRead a = false then (0, s)
  else if d.base = R_PC_FB.base then s.fbRead n
  else if d.base = R_PC_CNT.base then s.cntRead n
  else (s.regVal d n, s.readClear a d n)

/-- What a higher word returns without a snapshot. -/
def State.peekWhole (s : State) (a : Actor) (d : RegD) (n : Nat) : Nat :=
  if d.base = R_TM_FIFO.base then s.tmHead n
  else if d.base = R_GP_UART_RX.base then (s.uartOf n).rx.head?.getD 0
  else if d.base = R_FM_QUEUE.base then s.queueHead
  else if pcRegs.contains d.base = true ∧ s.pcMayRead a = false then 0
  else s.regVal d n

/-- A value captured into the actor's snapshot of the register. -/
def State.snapTake (s : State) (a : Actor) (addr v : Nat) : State :=
  { s with snaps := smSet none s.snaps (actorKey a addr) (some v) }

/-- A word of a register read by an actor: `v0` and the state are what word 0 finds. -/
def State.wordRead (s : State) (a : Actor) (h : Hit) (take : Nat × State) : Nat × State :=
  if h.w = 0 then (take.1 % 2 ^ 32, if 1 < h.d.words then take.2.snapTake a h.unitAddr take.1 else take.2)
  else
    match smGet none s.snaps (actorKey a h.unitAddr) with
    | some v => (bits v (32 * h.w) 32, s)
    | none => (bits (s.peekWhole a h.d h.n) (32 * h.w) 32, s)

/-- A 32-bit read of a register block; zero at an unassigned address or one that is not aligned. -/
def State.readReg (s : State) (a : Actor) (addr : Nat) : Nat × State :=
  match regAt addr with
  | some h => s.wordRead a h (s.takeWhole a h.d h.n)
  | none => (0, s)

end Sys2Proof.Machine
end

