-- ==== Sys2Proof/Machine/RegCmds.lean ====
section
/-! DEFINITION. Register and memory accesses as commands, and the commits and drains of the blocks (R7, R11, R13, R40 to R42,
R82, R225, R419, R432). -/

namespace Sys2Proof.Machine

/-! ### An actor's access to the matrix -/

/-- A write of bytes: registers take aligned words (R7), every other target takes bytes. What no target serves is a decode error
for every actor (R389). -/
def State.busWriteNow (s : State) (a : Actor) (addr : Nat) (bs : List Nat) : State :=
  if (blkAt addr).isSome then
    if s.served a addr true = false then s.decodeErr a addr
    else if bs.length = 4 then s.writeReg a false addr (ofBytes bs)
    else s
  else if s.memMay a || !s.served a addr true then s.memWrite a addr bs
  else s.gateLog .BM

/-- A read of bytes; none is a decode error. A register read of any other width or alignment returns zero (R7). -/
def State.busRead (s : State) (a : Actor) (addr len : Nat) : Option (List Nat) × State :=
  if s.served a addr false = false then (none, s.decodeErr a addr)
  else if (blkAt addr).isSome then
    if len = 4 then
      let r := s.readReg a addr
      (some (toBytes 4 r.1), r.2)
    else (some (List.replicate len 0), s)
  else (some (s.bytesAt addr len), s)

/-- Whether a read meets poisoned data (R403). -/
def State.readPoison (s : State) (addr len : Nat) : Bool := (blkAt addr).isNone && s.poisoned (canon addr) len

/-- A read carried out: the value goes out, or an error does: poisoned data shows in BM_ERR. -/
def State.answerReadNow (s : State) (a : Actor) (addr len : Nat) : State :=
  match s.busRead a addr len with
  | (some b, t) =>
    if s.readPoison addr len then (t.bmErr (ctrlOf a) addr 3).emit (.busError a addr) else t.emit (.read a addr (ofBytes b))
  | (none, t) => t.emit (.busError a addr)

/-- A write of bytes, or a read answered; a request to a DRAM channel in self-refresh is held by the matrix (R23, R24). -/
def State.busWrite (s : State) (a : Actor) (addr : Nat) (bs : List Nat) : State :=
  let s := s.debugNote a
  if s.asleep addr then { s with waits := s.waits ++ [{ actor := a, write := true, addr := addr, len := bs.length, bytes := bs }] }
  else s.busWriteNow a addr bs
def State.answerRead (s : State) (a : Actor) (addr len : Nat) : State :=
  let s := s.debugNote a
  if s.asleep addr then { s with waits := s.waits ++ [{ actor := a, write := false, addr := addr, len := len, bytes := [] }] }
  else s.answerReadNow a addr len

/-- The DRAM channels have left self-refresh: the held requests are carried out in order (R100). -/
def State.releaseWaits (s : State) : State :=
  s.waits.foldl (fun t r => if r.write then t.busWriteNow r.actor r.addr r.bytes else t.answerReadNow r.actor r.addr r.len)
    { s with waits := [] }

/-- REGISTER_WRITE (R6, R7, R9, R10, R43, R225, R470). -/
def execRegisterWrite (a : Actor) (addr value : Nat) (s : State) : Host.Outcome State Fault Refusal :=
  .next (s.busWrite a addr (toBytes 4 value)).settle

/-- RC_COUNTER_READ: a 32-bit read of a register (R6, R7, R13). -/
def execRcCounterRead (a : Actor) (addr : Nat) (s : State) : Host.Outcome State Fault Refusal :=
  .next (s.answerRead a addr 4).settle

/-- A word of a FIFO register read by an actor and answered. -/
def State.fifoRead (s : State) (a : Actor) (d : RegD) (n w : Nat) (take : Nat × State) : State :=
  let h : Hit := { d := d, n := n, w := w }
  let r := s.wordRead a h take
  (r.2.debugNote a).emit (.read a (h.unitAddr + 4 * w) r.1)

/-- Whether an actor can make an access through the port space. -/
def portActor (a : Actor) (port : Bool) : Bool :=
  match a with
  | .seq n => n < 8
  | _ => !port

/-- TM_FIFO_READ: a read of word `word` of TDC FIFO `n`, through the matrix or a port (R82). -/
def execTmFifoRead (a : Actor) (n word : Nat) (port : Bool) (s : State) : Host.Outcome State Fault Refusal :=
  if n < 12 ∧ word < 4 ∧ portActor a port = true then .next (s.fifoRead a R_TM_FIFO n word (s.tmTakeHead a n port))
  else .fault .noSuchUnit

/-- UART_FIFO_READ (R419). -/
def execUartFifoRead (a : Actor) (n word : Nat) (port : Bool) (s : State) : Host.Outcome State Fault Refusal :=
  if n < 2 ∧ word < 4 ∧ portActor a port = true then
    .next (s.fifoRead a R_GP_UART_RX n word (s.uartTakeHead a n port))
  else .fault .noSuchUnit

/-- FAULT_QUEUE_READ: a read of word 0 of FM_QUEUE (R432). -/
def execFaultQueueRead (a : Actor) (s : State) : Host.Outcome State Fault Refusal :=
  .next (s.fifoRead a R_FM_QUEUE 0 0 (s.queueTake a))

/-! ### The control register of a sequencer (R151, R152, R220) -/

/-- A write of SQ_CTL_n that gives START_USER the value it has. -/
def State.sqCtlCmd (s : State) (a : Actor) (n en reset : Nat) : State :=
  s.gate a .SQ (fun t => t.writeWhole a false R_SQ_CTL n (en + 2 * reset + 4 * t.fld SQ_CTL_START_USER n))

/-- SEQ_ENABLE: EN is written as 1 (R152, R176). -/
def execSeqEnable (a : Actor) (n : Nat) (s : State) : Host.Outcome State Fault Refusal :=
  if n < 8 then .next (s.sqCtlCmd a n 1 0) else .fault .noSuchUnit

/-- SEQ_DISABLE: EN is written as 0 (R152). -/
def execSeqDisable (a : Actor) (n : Nat) (s : State) : Host.Outcome State Fault Refusal :=
  if n < 8 then .next (s.sqCtlCmd a n 0 0) else .fault .noSuchUnit

/-- SEQ_RESET: RESET is written as 1, EN as it stands (R151, R152). -/
def execSeqReset (a : Actor) (n : Nat) (s : State) : Host.Outcome State Fault Refusal :=
  if n < 8 then .next (s.sqCtlCmd a n (s.fld SQ_CTL_EN n) 1) else .fault .noSuchUnit

/-! ### Commits (R11, R40, R41) -/

/-- The next-tick fields of the time core commit: a new offset starts its slide (R53, R54). The tick on which a slope commits counts
with it (log entry 123). -/
def State.tcCommitTick (s : State) : State :=
  let off := s.shadow TC_SLIDE_OFFSET_OFFSET 0
  let s := (((s.commit TC_INCREMENT_INC_NS 0).commit TC_INCREMENT_INC_FRAC 0).commit TC_SLIDE_SLOPE_SLOPE 0).commit
    TC_SLIDE_OFFSET_OFFSET 0
  match off with
  | some v => { s with ti := { s.ti with slideHost := false } }.slideStart (signed 64 v)
  | none => s

/-- BG_COEF commits; responses whose bound no longer holds are condemned (R65, R309). -/
def State.bgCommitTick (s : State) : State :=
  if (s.shadow BG_COEF_RESTART 0).isSome then s.coefShadowCommit.condemnAll else s

/-- The next-tick fields of a block commit. -/
def State.commitTick (s : State) (b : Blk) : State :=
  match b with
  | .TC => s.tcCommitTick
  | .BG => s.bgCommitTick
  | .TM => s.tmHitsCommit.tmSwaps
  | _ => s

/-- The next-second fields outside the time core commit (R41): the time core's are part of tcSecond, PO's of poSecond. -/
def State.commitSecond (s : State) : State := s.commitDue RC_TALLY_US 0

/-- RWS_COMMIT: `block` in the order of R426; `boundary` 0 the next tick, 1 the next frame, which no field uses, 2 the next
superword of lane `unit`. -/
def execRwsCommit (block boundary unit_ : Nat) (s : State) : Host.Outcome State Fault Refusal :=
  match allBlks[block]? with
  | some b =>
    if boundary = 0 then .next (s.commitTick b).settle
    else if boundary = 1 then .next s
    else if boundary = 2 ∧ unit_ < 8 then .next (if b = .SL then s.commit SL_ITL_ASYM_ASYM unit_ else s)
    else .fault .noSuchUnit
  | none => .fault .noSuchUnit

/-! ### Drains (R42) -/

/-- A clock output that finished its last pulse is no longer BUSY, nor is its PLL when it was the last (R108). -/
def State.ckoDrained (s : State) (n : Nat) : State :=
  let p := s.fld SY_CKO_CTL_SRC n
  let s := s.clr SY_CKO_STATUS_BUSY n
  if (List.range 8).any (fun k => s.fld SY_CKO_CTL_SRC k == p && s.flag SY_CKO_STATUS_BUSY k) then s
  else s.clr SY_OPLL_STATUS_BUSY p

/-- BUSY of a block's unit clears where only time was wanting; where work is left its own commands end it. Units: of SY the
clock outputs, of SL lanes 0 to 15 and Irnak lanes 16 to 23. -/
def State.drained (s : State) (b : Blk) (u : Nat) : State :=
  match b with
  | .TM => if u < 12 then s.clr TM_CH_STATUS_BUSY u else s
  | .SY => if u < 8 then s.ckoDrained u else s
  | .SQ => if u < 8 then s.seqDrain u else s
  | .SL => if u < 16 then s.clr SL_ETH_STATUS_BUSY u else if u < 24 then s.clr SL_ITL_STATUS_BUSY (u - 16) else s
  | .RG => if u < 64 then s.clr RG_STATUS_BUSY u else s
  | .RC => s.rcIdle
  | _ => s

/-- BLOCK_DRAIN_DONE (R42): `block` in the order of R426. -/
def execBlockDrainDone (block unit_ : Nat) (s : State) : Host.Outcome State Fault Refusal :=
  match allBlks[block]? with
  | some b => .next (s.drained b unit_)
  | none => .fault .noSuchUnit

/-! ### The debug port (R225, R464) -/

/-- DEBUG_ACCESS: an access of `len` bytes through controller 13, while the test access port holds its instruction and the
life cycle permits it. -/
def execDebugAccess (write : Bool) (addr len value : Nat) (s : State) : Host.Outcome State Fault Refusal :=
  let a := Actor.ctrl 13
  .next (if s.tapActs = 0x20 ∧ s.lifeCycle ≤ 1 then
    let t := { s with bt := { s.bt with debug := true } }
    (if write then t.busWrite a addr (toBytes len value) else t.answerRead a addr len).settle
  else s)

end Sys2Proof.Machine
end

