-- ==== Sys2Proof/Machine/BootCmds.lean ====
section
/-! DEFINITION. The commands of resets, power-up, loading, measurement, modes and quotes (R211 to R233, R236, R453). -/

namespace Sys2Proof.Machine

/-! ### Resets (R232, R233, R453) -/

/-- COLD_RESET: PORST_N is low. -/
def execColdReset (s : State) : Host.Outcome State Fault Refusal := .next s.coldReset

/-- POWER_UP: PORST_N rises with the supplies in range. -/
def execPowerUp (s : State) : Host.Outcome State Fault Refusal :=
  .next (if s.bt.held = true ∧ s.bt.brown = false then s.powerUp else s)

/-- ROM_READY (R211). -/
def execRomReady (s : State) : Host.Outcome State Fault Refusal :=
  .next (if s.bt.held = true ∨ s.flag BT_STATUS_ROM_READY 0 = true then s else s.romReady.settle)

/-- WARM_RESET: WARM_N. -/
def execWarmReset (s : State) : Host.Outcome State Fault Refusal :=
  .next (if s.bt.held then s else (s.warmReset 1).settle)

/-- WARM_RESET_CMD: BT_WARM. -/
def execWarmResetCmd (a : Actor) (key : Nat) (s : State) : Host.Outcome State Fault Refusal :=
  .next (s.gate a .BT (fun t => if a = .pf0 ∧ key = 0xD1 then (t.warmReset 2).settle else t))

/-- SUPPLY_BROWNOUT: a cold reset that lasts until the supplies return. -/
def execSupplyBrownout (s : State) : Host.Outcome State Fault Refusal :=
  let t := s.coldReset
  .next { t with bt := { t.bt with brown := true } }

/-- SUPPLY_RECOVERY: power-up goes on from its step 2. -/
def execSupplyRecovery (s : State) : Host.Outcome State Fault Refusal :=
  .next (if s.bt.brown then State.powerUp { s with bt := { s.bt with brown := false } } else s)

/-- PCIE_RESET. -/
def execPcieReset (s : State) : Host.Outcome State Fault Refusal := .next s.peReset

/-- Host DMA in flight is abandoned (R232): no descriptor that has been fetched is written back. -/
def State.dmaAbandon (s : State) : State :=
  let s := (List.range 64).foldl (fun t r => t.setRing r { t.ring r with back := [] }) s
  (List.range 16).foldl (fun t n =>
    let m := t.mac n
    let f := fun (x : TxFrame) => { x with host := none }
    t.setMac n { m with pre := m.pre.map f, cur := m.cur.map f, part := m.part.map f }) s

/-- One function's part of the PCI Express state, and its quote slot, are reset; PF0's staged key writes are discarded (R243). -/
def State.flr (s : State) (fn : Nat) : State :=
  let s := s.clr (if fn = 0 then PE_STATUS_BME_PF0 else PE_STATUS_BME_PF1) 0
  let s := s.resetFlds [BT_Q_CTL_VECTOR, BT_Q_CTL_IRQ_EN, BT_Q_STATUS_BUSY, BT_Q_STATUS_DONE, BT_Q_NONCE_NONCE,
    BT_Q_OUT_QUOTE] fn
  let s := s.when (fn == 0) (fun t => t.dmaAbandon.ksDiscard 0)
  { s.dropHeld (if fn = 0 then .pf0 else .pf1) with
    bt := { s.bt with signQ := s.bt.signQ.filter (fun x => x.src != fn) },
    pe := { unmasked := s.pe.unmasked.filter (fun k => k / 256 != fn), pend := s.pe.pend.filter (fun k => k / 256 != fn),
            table := s.pe.table.filter (fun e => e.1 / 1024 != fn) } }

/-- FUNCTION_LEVEL_RESET. -/
def execFunctionLevelReset (fn : Nat) (s : State) : Host.Outcome State Fault Refusal :=
  if fn < 2 then .next (s.flr fn) else .fault .noSuchUnit

/-! ### Loading and launch (R211 to R216) -/

/-- IMAGE_LOAD: BT_LOAD.GO. -/
def execImageLoad (a : Actor) (s : State) : Host.Outcome State Fault Refusal :=
  .next (s.gate a .BT (fun t => if a = .pf0 then t.loadGo.settle else t))

/-- LAUNCH: a write of BT_LAUNCH. -/
def execLaunch (a : Actor) (mask : Nat) (s : State) : Host.Outcome State Fault Refusal :=
  if mask < 256 then .next (s.gate a .BT (fun t => if t.launchOk a then t.launch mask else t))
  else .fault .noSuchUnit

/-! ### Measurement (R217 to R222) -/

/-- IRAM_WRITE: a word written to an instruction RAM window with its byte strobes. -/
def execIramWrite (a : Actor) (addr value strobes : Nat) (s : State) : Host.Outcome State Fault Refusal :=
  if targetOf addr = some 10 ∧ (addr - 0x60000000) % 0x20000 < 0x10000 ∧ strobes < 16 then
    .next (if s.memMay a then
      ((s.debugNote a).iramWrite a ((addr - 0x60000000) / 0x20000) ((addr - 0x60000000) % 0x20000) value strobes).settle
    else ((s.debugNote a).gateLog .BM).settle)
  else .fault .noSuchUnit

/-- IRAM_LOCK. -/
def execIramLock (a : Actor) (n : Nat) (s : State) : Host.Outcome State Fault Refusal :=
  if n < 8 then .next (s.gate a .BT (fun t => t.lockWrite a (2 ^ n))) else .fault .noSuchUnit

/-- HOST_EXTEND: BT_EXTEND.GO. -/
def execHostExtend (a : Actor) (s : State) : Host.Outcome State Fault Refusal :=
  .next (s.gate a .BT (fun t => if t.privileged a then t.hostExtend a else t))

/-- EXTENSION_COMMIT of accumulator `i`. -/
def execExtensionCommit (i : Nat) (s : State) : Host.Outcome State Fault Refusal :=
  if i < 12 then .next (s.extCommit i) else .fault .noSuchUnit

/-! ### Modes (R224) -/

/-- MODE_REQ_SERVICE. -/
def execModeReqService (a : Actor) (s : State) : Host.Outcome State Fault Refusal :=
  .next (s.gate a .BT (fun t => (t.modeWrite a 1).settle))
/-- MODE_REQ_TEST. -/
def execModeReqTest (a : Actor) (s : State) : Host.Outcome State Fault Refusal :=
  .next (s.gate a .BT (fun t => (t.modeWrite a 2).settle))
/-- MODE_REQ_RECOVERY. -/
def execModeReqRecovery (a : Actor) (s : State) : Host.Outcome State Fault Refusal :=
  .next (s.gate a .BT (fun t => (t.modeWrite a 3).settle))

/-! ### Quotes (R226 to R231) -/

/-- QUOTE_REQUEST: BT_Q_CTL_s.GO. -/
def execQuoteRequest (a : Actor) (slot : Nat) (s : State) : Host.Outcome State Fault Refusal :=
  if slot < 2 then .next (s.slotGate a .BT slot (fun t => (t.quoteGo slot).settle)) else .fault .noSuchUnit

/-- The signing engine has a signature for the queue's head: IDENTITY and ATTEST stand and no batch root waits (R228, R236). -/
def State.signReady (s : State) : Bool := s.flag KS_STATUS_ID_READY 0 && s.signCount == 0

/-- The head of the queue, when it is of the kind that a command names and its signer's slot is VALID (R239, R242), without it in
the queue. -/
def State.signHead (s : State) (stmt : Bool) : Option (SignItem × State) :=
  match s.bt.signQ with
  | x :: xs => if (3 ≤ x.src) = stmt ∧ s.signReady = true ∧ s.slotValid (if x.signer = 1 then 0 else 1) = true then some (x, { s with bt := { s.bt with signQ := xs } }) else none
  | [] => none

/-- QUOTE_SIGNED. -/
def execQuoteSigned (s : State) : Host.Outcome State Fault Refusal :=
  .next (match s.signHead false with
    | some (x, t) =>
      let r := t.signBy x.signer x.body
      let u := r.2.engEv 124
      (if x.src = 2 then u.attestAnswer x.req (x.body ++ r.1) else u.quoteDone x.src (x.body ++ r.1)).settle
    | none => s)

end Sys2Proof.Machine
end

