-- ==== Sys2Proof/Machine/KeyCmds.lean ====
section
/-! DEFINITION. The commands of the key store and the life cycle (R236, R242 to R256, R455). -/

namespace Sys2Proof.Machine

/-! ### Derivation -/

/-- ID_READY: IDENTITY and ATTEST have been derived, or `ok` is false and cannot be (R236, R427). -/
def execIdReady (ok : Bool) (s : State) : Host.Outcome State Fault Refusal :=
  .next (if s.bt.held = true ∨ s.lifeCycle = 0 ∨ s.flag KS_STATUS_ID_READY 0 = true ∨
      s.flag LC_STATE_RESET_REQUIRED 0 = true then s
    else if ok then s.deriveIds.set1 KS_STATUS_ID_READY 0
    else (s.log KEY_STORE_FAIL .KS).settle)

/-- GEN_DERIVE_COMPLETE (R243, R248, R249). -/
def execGenDeriveComplete (s : State) : Host.Outcome State Fault Refusal := .next (s.ksDerived.keyEdge s).settle

/-! ### Slots (R239 to R249) -/

/-- KS_STAGE: STAGE of KS_STAGE. -/
def execKsStage (a : Actor) (slot : Nat) (s : State) : Host.Outcome State Fault Refusal :=
  if slot < 256 then .next (s.keyGate a slot (fun t => t.stageWrite a (slot + 2 ^ 8))).settle else .fault .noSuchUnit

/-- KS_DISCARD: DISCARD of KS_STAGE. -/
def execKsDiscard (a : Actor) (s : State) : Host.Outcome State Fault Refusal :=
  .next (s.keyGate a 0 (fun t => t.stageWrite a (2 ^ 9))).settle

/-- KS_COMMIT: GO. -/
def execKsCommit (a : Actor) (s : State) : Host.Outcome State Fault Refusal :=
  .next (s.keyGate a 0 (fun t => (t.commitWrite a).keyEdge t)).settle

/-- KS_INVALIDATE: KS_INVAL.GO. -/
def execKsInvalidate (a : Actor) (slot : Nat) (s : State) : Host.Outcome State Fault Refusal :=
  if slot < 256 then .next (s.keyGate a slot (fun t => (t.ksInval a slot).1.keyEdge t)).settle else .fault .noSuchUnit

/-- EXPORT: a blob command starts (R246, R247). -/
def execExportBlob (a : Actor) (slot : Nat) (s : State) : Host.Outcome State Fault Refusal :=
  if slot < 256 then .next (s.cmdGate a 1 slot).settle else .fault .noSuchUnit
/-- LOAD. -/
def execLoadBlob (a : Actor) (slot : Nat) (s : State) : Host.Outcome State Fault Refusal :=
  if slot < 256 then .next (s.cmdGate a 2 slot).settle else .fault .noSuchUnit
/-- REWRAP. -/
def execRewrapBlob (a : Actor) (s : State) : Host.Outcome State Fault Refusal :=
  .next (s.cmdGate a 3 0).settle

/-- KS_CMD_COMPLETE. -/
def execKsCmdComplete (s : State) : Host.Outcome State Fault Refusal := .next s.cmdDone.settle

/-- TAG_SWEEP: a slot fails whose tag does not fit what it holds, and each of the slots `bad` that a disturbance has touched
(R242). A use of such a slot checks the tag too: the sweep that names the slot then stands before that use (log entry 115). -/
def execTagSweep (bad : List Nat) (s : State) : Host.Outcome State Fault Refusal :=
  if bad.all (fun k => k < 256) then .next ((s.tagsBad ++ bad).foldl State.tagFail s).settle else .fault .noSuchUnit

/-- DERIVED_AGAIN (R242). -/
def execDerivedAgain (k : Nat) (s : State) : Host.Outcome State Fault Refusal :=
  if k < 8 then .next (s.deriveAgain k) else .fault .noSuchUnit

/-! ### Statements (R251, R252) -/

/-- STATEMENT_REQUEST: GO of KS_STMT_CTL_i. -/
def execStatementRequest (a : Actor) (i slot : Nat) (s : State) : Host.Outcome State Fault Refusal :=
  if i < 2 ∧ slot < 256 then .next (s.stmtGate a i slot (fun t => t.stmtRequest i slot)).settle else .fault .noSuchUnit

/-- STATEMENT_SIGNED. -/
def execStatementSigned (s : State) : Host.Outcome State Fault Refusal :=
  .next (match s.signHead true with
    | some (x, t) =>
      let r := t.signBy x.signer x.body
      r.2.stmtDone (x.src - 3) (x.body ++ r.1)
    | none => s)

/-! ### The life cycle (R253 to R255, R455) -/

/-- LC_PREPARE: LC_ADVANCE with PREPARE. -/
def execLcPrepare (a : Actor) (key target : Nat) (s : State) : Host.Outcome State Fault Refusal :=
  if key < 256 ∧ target < 4 then .next (s.lcGate a key target true false).settle else .fault .noSuchUnit

/-- LC_PREPARED: the current IDENTITY has signed. -/
def execLcPrepared (s : State) : Host.Outcome State Fault Refusal :=
  .next (if s.flag LC_STATE_PREPARED 0 = true ∨ s.flag KS_STATUS_ID_READY 0 = false ∨ s.slotValid 0 = false then s
    else s.lcPrepared)

/-- LC_COMMIT: LC_ADVANCE with COMMIT. -/
def execLcCommit (a : Actor) (key target : Nat) (s : State) : Host.Outcome State Fault Refusal :=
  if key < 256 ∧ target < 4 then .next (s.lcGate a key target false true).settle else .fault .noSuchUnit

/-- LC_FUSES_BLOWN. -/
def execLcFusesBlown (s : State) : Host.Outcome State Fault Refusal := .next (s.lcBlown.keyEdge s).settle

/-- The advance stops with its fuses as they stand: how many of the step's three read blown is open (log entry 3); those
already blown stay blown. -/
def State.fuseStop (s : State) : State :=
  match s.bt.blow with
  | some t =>
    let k := s.free.1 % 4
    let s := s.free.2.clr LC_STATE_ADVANCING 0
    { s with bt := { s.bt with blow := none, fuse2 := if t = 2 then max s.bt.fuse2 k else s.bt.fuse2,
                               fuse3 := if t = 3 then max s.bt.fuse3 k else s.bt.fuse3 } }
  | none => s

/-- FUSE_SUPPLY_LOST. -/
def execFuseSupplyLost (s : State) : Host.Outcome State Fault Refusal := .next (s.clr LC_STATE_FUSE_SUPPLY_OK 0).fuseStop

end Sys2Proof.Machine
end

