-- ==== Sys2Proof/Machine/PcieCmds.lean ====
section
/-! DEFINITION. Inbound PCI Express requests and bridge timeouts (R396, R399, R413 to R417). -/

namespace Sys2Proof.Machine

/-- The actor of a function's requests, and its number of vectors (R416). -/
def fnActor (fn : Nat) : Actor := if fn = 0 then .pf0 else .pf1
def fnVectors (fn : Nat) : Nat := if fn = 0 then 224 else 32

/-- Where a request goes: a matrix address, the MSI-X structures, or nowhere. -/
inductive BarTo where
  | matrix (addr : Nat)
  | msix (off : Nat)
  | nowhere

/-- The BARs (R414). -/
def barMap (fn bar off : Nat) : BarTo :=
  if fn = 0 ∧ bar = 0 ∧ off < 2 ^ 30 then .matrix (0x40000000 + off)
  else if fn = 1 ∧ bar = 0 ∧ off < 2 ^ 29 then .matrix (0x40000000 + off)
  else if fn = 0 ∧ bar = 2 ∧ off < 0x400000 then .matrix (0x20000000 + off)
  else if fn = 0 ∧ bar = 2 ∧ 0x1000000 ≤ off ∧ off < 0x2000000 then .matrix (0x30000000 + (off - 0x1000000))
  else if bar = 4 ∧ off < 0x10000 then .msix off
  else .nowhere

/-! ### The MSI-X table and pending bits (R414, R416) -/

/-- One word of BAR 4: of a table entry the address, the data and the mask bit, or 32 pending bits. -/
def State.msixWord (s : State) (fn off : Nat) : Nat :=
  let v := off / 16
  let k := fn * 256 + v
  if off < 0x8000 then
    if fnVectors fn ≤ v then 0
    else if off % 16 = 12 then b2n (!s.pe.unmasked.contains k)
    else smGet 0 s.pe.table (k * 4 + off % 16 / 4)
  else
    ((List.range 32).map (fun i =>
      if s.pe.pend.contains (fn * 256 + (off - 0x8000) * 8 + i) = true ∧ (off - 0x8000) * 8 + i < fnVectors fn then 2 ^ i
      else 0)).sum

/-- A word of BAR 4 written: a table entry's address, data or mask bit; the pending bits ignore writes. -/
def State.msixWrite (s : State) (fn off w : Nat) : State :=
  let v := off / 16
  if 0x8000 ≤ off ∨ fnVectors fn ≤ v then s
  else if off % 16 = 12 then (if bitOf w 0 then s.msixMask fn v else s.msixUnmask fn v)
  else { s with pe := { s.pe with table := smSet 0 s.pe.table ((fn * 256 + v) * 4 + off % 16 / 4) (w % 2 ^ 32) } }

/-- Whole words written, or read, from an aligned offset. -/
def State.msixWrites (s : State) (fn off : Nat) : List Nat → State
  | b0 :: b1 :: b2 :: b3 :: bs => (s.msixWrite fn off (ofBytes [b0, b1, b2, b3])).msixWrites fn (off + 4) bs
  | _ => s
def State.msixReads (s : State) (fn off len : Nat) : List Nat :=
  (List.range (len / 4)).flatMap (fun i => toBytes 4 (s.msixWord fn (off + 4 * i)))

/-! ### Requests (R413, R415, R417) -/

/-- A read answered with an Unsupported Request, counted; an error goes out (R417). -/
def State.unsupported (s : State) (fn off : Nat) : State :=
  (s.rcAdd PE_ERR_COUNT 0 1).emit (.busError (fnActor fn) off)

/-- An offset of PF0 BAR2 that maps nothing is a decode error (R414); the address that BM_ERR then shows is open. -/
def State.barError (s : State) (fn bar : Nat) : State :=
  if fn = 0 ∧ bar = 2 then
    (((((s.free.2.setFld BM_ERR_ADDR 0 s.free.1).setFld BM_ERR_CTRL 0 0).setFld BM_ERR_TARGET 0 15).setFld BM_ERR_KIND 0 1).set1
      BM_ERR_VALID 0).logFault MATRIX_DECODE (Blk.chan .BM) 0
  else s

/-- An inbound read. -/
def State.hostRead (s : State) (fn bar off len : Nat) : State :=
  let a := fnActor fn
  match barMap fn bar off with
  | .matrix addr =>
    match s.busRead a addr len with
    | (some b, t) =>
      if s.readPoison addr len then
        ((t.bmErr 0 addr 3).rcAdd PE_ERR_COUNT 2 1).emit (.busError a addr)
      else t.emit (.read a addr (ofBytes b))
    | (none, t) => t.unsupported fn addr
  | .msix o => s.emit (.read a o (ofBytes (if o % 4 = 0 then s.msixReads fn o len else List.replicate len 0)))
  | .nowhere => (s.barError fn bar).unsupported fn off

/-- An inbound write: a poisoned one is dropped, and one that is a decode error, which is reported (R417). -/
def State.hostWrite (s : State) (fn bar off : Nat) (bs : List Nat) (ep : Bool) : State :=
  if ep then s.rcAdd PE_ERR_COUNT 1 1
  else
    match barMap fn bar off with
    | .matrix addr =>
      (s.busWrite (fnActor fn) addr bs).when (s.writeErr (fnActor fn) addr bs.length) (fun t => t.emit (.busError (fnActor fn) addr))
    | .msix o => if o % 4 = 0 then s.msixWrites fn o bs else s
    | .nowhere => (s.barError fn bar).emit (.busError (fnActor fn) off)

/-- Bus Master Enable of a function written; once set, what is pending and not masked is sent (R416), and PF0's rings go on
(R417). -/
def State.bmeSet (s : State) (fn : Nat) (on : Bool) : State :=
  let s := s.setFld (if fn = 0 then PE_STATUS_BME_PF0 else PE_STATUS_BME_PF1) 0 (b2n on)
  let s := s.when (on && fn == 0) State.descRelease
  if on then
    (s.pe.pend.filter (fun k => k / 256 == fn && s.pe.unmasked.contains k)).foldl
      (fun (t : State) k => { t with pe := { t.pe with pend := t.pe.pend.erase k } }.emit (.msix fn (k % 256))) s
  else s

/-- PCIE_INBOUND_REQUEST of function `fn`: `kind` 0 a read of `len` bytes, 1 a write of `bytes`, 2 a configuration write that
sets Bus Master Enable to `len`; `ep`, the request is poisoned. -/
def execPcieInboundRequest (fn kind bar off len : Nat) (bytes : List Nat) (ep : Bool) (s : State) :
    Host.Outcome State Fault Refusal :=
  if fn < 2 ∧ kind < 3 ∧ bar < 6 ∧ len ≤ 4096 ∧ bytes.length ≤ 512 then
    .next (if s.flag PE_STATUS_LINK_UP 0 = false then s
    else
      let s := s.engEv 126
      (if kind = 0 then s.hostRead fn bar off len
       else if kind = 1 then s.hostWrite fn bar off bytes ep
       else s.bmeSet fn (len != 0)).settle)
  else .fault .noSuchUnit

/-! ### AtomicOps (R396) -/

/-- The value an AtomicOp writes: 0 FetchAdd, 1 Swap, 2 CAS, which writes only when it compares equal. -/
def atomicNew (op size old val cmp : Nat) : Nat :=
  if op = 0 then (old + val) % 2 ^ (8 * size) else if op = 1 then val else if old = cmp % 2 ^ (8 * size) then val else old

/-- PCIE_ATOMIC_OP of function `fn`: `size` bytes; the old value is returned. -/
def execPcieAtomicOp (fn bar off op size val cmp : Nat) (s : State) : Host.Outcome State Fault Refusal :=
  if fn < 2 ∧ bar < 6 ∧ op < 3 ∧ size ≤ 16 then
    .next (if s.flag PE_STATUS_LINK_UP 0 = false then s
    else
      let s := s.engEv 126
      match barMap fn bar off with
      | .matrix addr =>
        if fn = 0 ∧ bar = 2 ∧ (size = 4 ∨ size = 8) ∧ off % size = 0 then
          if s.served .pf0 addr true = false then (s.decodeErr .pf0 addr).unsupported fn addr
          else if s.poisoned (canon addr) size then ((s.bmErr 0 addr 3).rcAdd PE_ERR_COUNT 2 1).emit (.busError .pf0 addr)
          else
            let old := ofBytes (s.bytesAt addr size)
            ((s.memWrite .pf0 addr (toBytes size (atomicNew op size old val cmp))).emit (.read .pf0 addr old)).settle
        else s.unsupported fn addr
      | _ => (s.barError fn bar).unsupported fn off)
  else .fault .noSuchUnit

/-! ### Bridge timeouts (R399) -/

/-- A sequencer's access that a bridge ends with an error response: its first transaction of that kind to the address (R169). -/
def State.seqTimeout (s : State) (n addr : Nat) (write : Bool) : State :=
  let l := (s.seq n).txns
  match (List.range l.length).find? (fun i =>
      match l[i]? with
      | some x => x.addr == addr && x.store == write && firstAt l i x
      | none => false) with
  | some i =>
    match l[i]? with
    | some x => ((s.txnTake n i).raise n 6 x.pc true x.addr).seqDrain n
    | none => s
  | none => s

/-- BRIDGE_TIMEOUT: an actor's access to a register block goes unanswered. -/
def execBridgeTimeout (a : Actor) (addr : Nat) (write : Bool) (s : State) : Host.Outcome State Fault Refusal :=
  match blkAt addr with
  | some b =>
    let s := ((s.debugNote a).bmErr (ctrlOf a) addr 2).log FT_BRIDGE_TIMEOUT b
    .next (match a, write with
      | .pf0, false => s.unsupported 0 addr
      | .pf1, false => s.unsupported 1 addr
      | .pf0, true => s
      | .pf1, true => s
      | .seq n, w => (s.seqTimeout n addr w).emit (.busError a addr)
      | _, _ => s.emit (.busError a addr)).settle
  | none => .fault .noSuchUnit

end Sys2Proof.Machine
end

