-- ==== Sys2Proof/Machine/RootCmds.lean ====
section
/-! DEFINITION. The commands of the local oscillator, the root and the output PLLs that act on several blocks (R74, R75, R90,
R98 to R107), an edge at a TDC channel (R72) and the die sensors (R141). -/

namespace Sys2Proof.Machine

/-! ### Edges and calibration -/

/-- EDGE_ARRIVAL: an edge at the ball of channel `n`, below 11, sampled on CLK800 cycle `k` with the four line codes (R72); the twin block takes
the records of channel 10 (R83). -/
def execEdgeArrival (n : Nat) (falling : Bool) (k c0 c1 c2 c3 : Nat) (s : State) : Host.Outcome State Fault Refusal :=
  if n < 11 ∧ k < 4 ∧ c0 ≤ 256 ∧ c1 ≤ 256 ∧ c2 ≤ 256 ∧ c3 ≤ 256 then
    .next ((s.tmEdge n falling k [c0, c1, c2, c3]).when (n == 10) State.ppsTake).settle
  else .fault .noSuchUnit

/-- CAL_TABLE_COMPLETE (R75, R427): a table that does not span its line is dropped with TDC_CAL_FAIL. -/
def execCalTableComplete (n : Nat) (s : State) : Host.Outcome State Fault Refusal :=
  if n < 12 then
    .next (if s.tmComplete n = false ∨ s.safe = true then s
      else if s.tmSpanOk n then s.tmSwap n
      else ((s.tmDropBuild n).logFault TDC_CAL_FAIL (chanId 6 n) 0).settle)
  else .fault .noSuchUnit

/-- DIE_TEMP_REFRESH: the four die sensors are read (R141, R427). -/
def execDieTempRefresh (t0 t1 t2 t3 : Nat) (s : State) : Host.Outcome State Fault Refusal :=
  let s := (((s.setFld HO_TEMP_DIE_TEMP 0 t0).setFld HO_TEMP_DIE_TEMP 1 t1).setFld HO_TEMP_DIE_TEMP 2 t2).setFld
    HO_TEMP_DIE_TEMP 3 t3
  .next (s.setHo { s.ho with dieSum := s.ho.dieSum + s.dieSum, dieCnt := s.ho.dieCnt + 1 }).dieWatch

/-! ### The local oscillator (R90) -/

/-- LOSC_LOST (R39): an active engine in pair mode demotes. -/
def execLoscLost (s : State) : Host.Outcome State Fault Refusal :=
  .next (if s.flag TM_LOSC_STATUS_PRESENT 0 then
    let t := ((((s.clr TM_LOSC_STATUS_PRESENT 0).set1 TM_LOSC_STATUS_LOST 0).clr TM_LOSC_STATUS_WARM_EST 0).log FT_LOSC_LOST .SY)
    ((t.lockLoss.clocked s).when s.pairMode (fun u => u.demoteStart false false)).settle
  else s)

/-- LOSC_PRESENT: a relock that waits for it at step 5 goes on (R100). -/
def execLoscPresent (s : State) : Host.Outcome State Fault Refusal :=
  .next (if s.flag TM_LOSC_STATUS_PRESENT 0 then s
  else
    let s := s.set1 TM_LOSC_STATUS_PRESENT 0
    if s.sy.phase = 5 ∧ s.sy.latched = false ∧ s.flag SY_ROOT_STATUS_SWEEP_BUSY 0 = false then s.rootLatch else s)

/-! ### The root (R98 to R104) -/

/-- ROOT_RELOCK_CMD: SY_ROOT_CMD.RELOCK. -/
def execRootRelockCmd (a : Actor) (s : State) : Host.Outcome State Fault Refusal :=
  .next (s.gate a .SY (fun t => ((t.rootCmd true false).clocked t).settle))

/-- BAND_SWEEP_CMD: SY_ROOT_CMD.SWEEP. -/
def execBandSweepCmd (a : Actor) (s : State) : Host.Outcome State Fault Refusal :=
  .next (if s.mayWrite a .SY then (((s.debugNote a).rootCmd false true).clocked s).settle else (s.gate a .SY (fun t => t)).sweepBarred.settle)

/-- ROOT_LOSS_OF_LOCK: a cycle slip, or the tuning voltage out of range (R99). -/
def execRootLossOfLock (s : State) : Host.Outcome State Fault Refusal := .next (s.lockLoss.clocked s).settle

/-- CORE_CLOCK_SWITCHBACK: steps 7 and 8 of R100. -/
def execCoreClockSwitchback (s : State) : Host.Outcome State Fault Refusal :=
  .next (if s.sy.phase = 6 then ((s.switchback.lanesThaw.uartThaw).clocked s).settle else s)

/-- What was held in steps 8 to 10 starts after step 9 (R101). -/
def State.heldRun (s : State) : State :=
  let c := s.sy.heldCmd
  let s := { s with sy := { s.sy with heldCmd := 0 } }
  if c = 0 then s else s.relockCmd c

/-- Steps 9 and 10 of R100. -/
def State.relockEnd (s : State) : State :=
  let s := ((s.clr DR_STATUS_SELF_REFRESH 0).clr DR_STATUS_SELF_REFRESH 1).clr SY_ROOT_STATUS_RELOCKING 0
  let s := s.rcAdd SY_RELOCK_COUNT_COUNT 0 1
  let s := { s with sy := { s.sy with phase := 0 } }
  let s := s.releaseWaits
  ((List.range 4).foldl (fun t n => if t.flag SY_OPLL_CTL_EN n then t.opllStart n else t) s).heldRun

/-- RELOCK_DONE. -/
def execRelockDone (s : State) : Host.Outcome State Fault Refusal :=
  .next (if s.sy.phase = 8 then (s.relockEnd.clocked s).settle else s)

/-- ROOT_LOCK_FAIL (R104): 1 ms of lock time has passed at step 5. -/
def execRootLockFail (s : State) : Host.Outcome State Fault Refusal :=
  .next (if s.sy.phase = 5 ∧ s.sy.latched = true ∧ s.sy.failed = false ∧ msU ≤ s.sy.lockTime then
    (({ s with sy := { s.sy with failed := true } }).log FT_ROOT_LOCK_FAIL .SY).settle
  else s)

/-- OPLL_LOCK_FAIL (R107). -/
def execOpllLockFail (n : Nat) (s : State) : Host.Outcome State Fault Refusal :=
  if n < 4 then
    .next (if s.flag SY_OPLL_STATUS_RELOCKING n = true ∧ (s.pll n).lockedAt = none ∧ (s.pll n).failed = false ∧
        (s.pll n).startAt + msU ≤ s.ti.elapsed then
      ((s.setPll n { s.pll n with failed := true }).logFault FT_OPLL_LOCK_FAIL (chanId 9 n) 0).settle
    else s)
  else .fault .noSuchUnit

end Sys2Proof.Machine
end

