-- ==== Sys2Proof/Machine/SeqPorts.lean ====
section
/-! DEFINITION. The port space of the sequencers, their semaphore, key, ring, counter and matrix instructions, and what
completes those (R153, R154, R161 to R164, R167 to R171, R197, R198, R200 to R203, R445). -/

namespace Sys2Proof.Machine

/-! ### The port space (R162, R163) -/

/-- The register address of a port that shows one. -/
def portReg (p : Nat) : Option Nat :=
  if p < 0x40 then some (blkBase .TC + 4 * p)
  else if p < 0x80 then some (blkBase .BG + 4 * (p - 0x40))
  else if 0x200 ≤ p ∧ p < 0x280 then some (blkBase .PO + 4 * (p - 0x200))
  else if 0x300 ≤ p ∧ p < 0x320 then some (blkBase .RS + 4 * (p - 0x300))
  else if 0x320 ≤ p ∧ p < 0x400 then
    some (blkBase .RS + 0x100 + (p - 0x320) / 0x1C * 0x80 + 4 * ((p - 0x320) % 0x1C))
  else if 0x400 ≤ p ∧ p < 0x500 then some (blkBase .SY + 4 * (p - 0x400))
  else if 0x500 ≤ p ∧ p < 0x540 then some (blkBase .HO + 4 * (p - 0x500))
  else if 0x780 ≤ p ∧ p < 0x800 then some (blkBase .TW + 4 * (p - 0x780))
  else none

/-- Word `w` of a FIFO register read through a port. Of several sequencers on one tick only the first receives the entry; the others
read the empty value (R161). `key` numbers the FIFO. -/
def State.portFifo (s : State) (n : Nat) (d : RegD) (u w key : Nat) (take : State → Nat × State) (empty : Nat × State) : Nat × State :=
  let by_ := smGet 0 s.tk.pops key
  let h : Hit := { d := d, n := u, w := w }
  if w ≠ 0 then s.wordRead (.seq n) h (take s)
  else if by_ = 0 ∨ by_ = n + 1 then
    s.wordRead (.seq n) h (take { s with tk := { s.tk with pops := smSet 0 s.tk.pops key (n + 1) } })
  else s.wordRead (.seq n) h empty

/-- The oldest received program cell taken into the snapshot; with none there its words are not stated (log entry 3). -/
def State.cellTake (s : State) (n : Nat) : Nat × State :=
  let q := s.seq n
  match q.cellFifo with
  | c :: cs => (c % 2 ^ 32, s.setSeq n { q with cellFifo := cs, cellSnap := c })
  | [] => (s.free.1 % 2 ^ 32, s.free.2)

/-- A sequencer's own ports, 0x600 to 0x61F. -/
def State.ownRead (s : State) (n p : Nat) : Nat × State :=
  let q := s.seq n
  match p with
  | 0x608 => let r := s.mboxPop n; (r.2, r.1)
  | 0x609 => (q.mbox.length + 16 * (q.mbox.head?.map (·.1)).getD 0 + 256 * b2n q.recvDrop, s)
  | 0x60A => (b2n q.sentDrop + 2 * b2n q.semForeign, s.setSeq n { q with sentDrop := false, semForeign := false })
  | 0x60D => (s.fld SQ_DOORBELL_BELL n, s.setFld SQ_DOORBELL_BELL n 0)
  | 0x60E => (n + 8 * s.fld SQ_STATUS_USER n + 16 * s.mode, s)
  | 0x610 => (q.epc, s)
  | 0x611 => (q.ecause, s)
  | 0x612 => (q.eaddr % 2 ^ 32, s)
  | 0x613 => (q.eaddr / 2 ^ 32, s)
  | 0x614 => (s.evPending n, s)
  | 0x615 => (q.events &&& latchedMask, s)
  | _ => (0, s)

/-- The twin program cell ports, 0x700 to 0x706 (R164). -/
def State.cellRead (s : State) (n p : Nat) : Nat × State :=
  let q := s.seq n
  match p with
  | 0x700 => (q.cellHeld % 2 ^ 32, s)
  | 0x701 => (q.cellHeld / 2 ^ 32, s)
  | 0x702 => (b2n q.cellQueued.isSome + 2 * b2n q.replaced, s.setSeq n { q with replaced := false })
  | 0x704 => s.cellTake n
  | 0x705 => (q.cellSnap / 2 ^ 32, s)
  | 0x706 => (q.cellFifo.length + 16 * b2n q.rxDrop, s.setSeq n { q with rxDrop := false })
  | _ => (0, s)

/-- A read of port `p` below 0x800 by sequencer `n` (R161 to R163). -/
def State.portRead (s : State) (n p : Nat) : Nat × State :=
  match portReg p with
  | some addr => s.readReg (.seq n) addr
  | none =>
    if p = 0x080 then (wncOf s.now / 2 ^ 16, s)
    else if p = 0x081 then (wncOf s.now % 2 ^ 16 * 2 ^ 16, s)
    else if p = 0x082 then (s.fld BG_CURRENT_BOUND 0, s)
    else if 0x100 ≤ p ∧ p < 0x1C0 then
      let c := (p - 0x100) / 16
      if p % 16 < 4 then s.portFifo n R_TM_FIFO c (p % 16) c (fun t => t.tmTakeHead (.seq n) c true) (tmEmpty, s)
      else if p % 16 = 4 then ((s.tdc c).fifo.length, s)
      else (0, s)
    else if 0x1C0 ≤ p ∧ p < 0x1D0 then
      let u := (p - 0x1C0) / 8
      if p % 8 < 4 then s.portFifo n R_GP_UART_RX u (p % 8) (16 + u) (fun t => t.uartTakeHead (.seq n) u true) (s.uartNone)
      else if p % 8 = 5 then (s.regVal R_GP_UART_STATUS u % 2 ^ 20, s)
      else (0, s)
    else if 0x600 ≤ p ∧ p < 0x620 then s.ownRead n p
    else if 0x700 ≤ p ∧ p < 0x707 then s.cellRead n p
    else (0, s)

/-- A read of port `p` into vD: a semaphore's is an acquire (R171). -/
def State.portIn (s : State) (n p d : Nat) : State :=
  if 0x620 ≤ p ∧ p < 0x640 then s.semTake (p - 0x620) n (some (d, false))
  else
    let r := s.portRead n p
    r.2.putV n d r.1

/-- The transmit cell's words: word 1 queues the cell, in place of one that is pending (R164). -/
def State.cellWrite (s : State) (n p v : Nat) : State :=
  let q := s.seq n
  if p = 0x700 then s.setSeq n { q with cellHeld := q.cellHeld / 2 ^ 32 * 2 ^ 32 + v }
  else
    let c := q.cellHeld % 2 ^ 32 + v * 2 ^ 32
    s.setSeq n { q with cellHeld := c, cellQueued := some c, replaced := q.replaced || q.cellQueued.isSome }

/-- A write of `v` to port `p` below 0x800 by sequencer `n`. -/
def State.portWrite (s : State) (n p v : Nat) : State :=
  match portReg p with
  | some addr => s.writeReg (.seq n) true addr v
  | none =>
    if p = 0x1C4 then s.writeReg (.seq n) true R_GP_UART_TX.base v
    else if p = 0x1CC then s.writeReg (.seq n) true (R_GP_UART_TX.base + R_GP_UART_TX.s1) v
    else if 0x600 ≤ p ∧ p < 0x608 then s.mboxPush (p - 0x600) n v
    else if p = 0x60C then s.setSeq n { s.seq n with wdog := 0 }
    else if p = 0x610 then s.setSeq n { s.seq n with epc := v % 65536 }
    else if p = 0x615 then s.evClear n v
    else if 0x620 ≤ p ∧ p < 0x640 then s.semWrite n (p - 0x620)
    else if p = 0x700 ∨ p = 0x701 then s.cellWrite n p v
    else s

/-- Whether the mode permits sequencer `n` the port (R154). -/
def State.portMay (s : State) (n p : Nat) : Bool :=
  !s.user n || (bitOf (s.fld SQ_USER_PORTS_GROUPS n) (p / 256) && !(0x610 ≤ p && p < 0x620))

/-- The checks of a port access, in the order of R207: the exception's cause, or 0. -/
def State.portCause (s : State) (n p : Nat) (write : Bool) : Nat :=
  if write = true ∧ p = 0x610 ∧ s.user n = true then 2
  else if 0x800 ≤ p then 4
  else if s.portMay n p then 0
  else 3

/-- A port access that passes its checks. -/
def State.portAcc (s : State) (n p : Nat) (write : Bool) (k : State → State) : Res :=
  if s.portCause n p write ≠ 0 then .exc (s.portCause n p write) 0
  else .done ((k s).seqEv n (if write then 7 else 6))

/-- The port of in and out (R197). -/
def Ins.port (i : Ins) (q : Seqr) : Nat := (q.rv i.a).toNat + i.imm % 4096

/-- IN (R161, R197). -/
def execInPort (n : Nat) (s : State) : Host.Outcome State Fault Refusal :=
  s.issue n .in_ (fun i t =>
    let p := i.port (t.seq n)
    t.portAcc n p false (fun u => (u.portIn n p i.d).settle))

/-- OUT (R161, R197). -/
def execOutPort (n : Nat) (s : State) : Host.Outcome State Fault Refusal :=
  s.issue n .out (fun i t =>
    let p := i.port (t.seq n)
    let v := ((t.seq n).rv i.b).toNat
    t.portAcc n p true (fun u => (u.portWrite n p v).settle))

/-- SACQ (R171, R198). -/
def execSacq (n : Nat) (s : State) : Host.Outcome State Fault Refusal :=
  s.issue n .sacq (fun i t =>
    t.portAcc n (0x620 + i.imm % 32) false (fun u => u.semTake (i.imm % 32) n (some (i.d, true))))

/-- SREL (R171, R198). -/
def execSrel (n : Nat) (s : State) : Host.Outcome State Fault Refusal :=
  s.issue n .srel (fun i t => t.portAcc n (0x620 + i.imm % 32) true (fun u => u.semWrite n (i.imm % 32)))

/-! ### Key instructions (R153, R202) -/

/-- A key instruction stalls until the key store answers: supervisor mode, and an aligned record for kstage. -/
def State.issueKey (s : State) (n : Nat) (m : SeqOp) (fn : Nat) : Host.Outcome State Fault Refusal :=
  s.issue n m (fun i t =>
    let q := t.seq n
    let b := (q.rv i.b).toNat % 65536
    if t.user n then .exc 2 0
    else if fn = 0 ∧ b % 32 ≠ 0 then .exc 8 0
    else .park ((t.setSeq n { q with wait := .key fn i.d ((q.rv i.a).toNat % 256) b }).seqEv n 12))

/-- KSTAGE (R202). -/
def execKstage (n : Nat) (s : State) : Host.Outcome State Fault Refusal := s.issueKey n .kstage 0
/-- KCOMMIT (R202, R243). -/
def execKcommit (n : Nat) (s : State) : Host.Outcome State Fault Refusal := s.issueKey n .kcommit 1
/-- KINVAL (R202, R248). -/
def execKinval (n : Nat) (s : State) : Host.Outcome State Fault Refusal := s.issueKey n .kinval 2
/-- KSTAT (R202). -/
def execKstat (n : Nat) (s : State) : Host.Outcome State Fault Refusal := s.issueKey n .kstat 3

/-- The operation of a key instruction, and whether the key store refuses it. Reading a status word is no operation that
R245 or R257 can refuse. -/
def State.keyFn (s : State) (n fn d slot addr : Nat) : State × Bool :=
  match fn with
  | 0 => s.ksStage (.seq n) slot (s.bytesAt (dramBase n + addr) 256)
  | 1 => let r := s.ksCommitSeq n; (r.1.keyEdge s, r.2)
  | 2 => let r := s.ksInval (.seq n) slot; (r.1.keyEdge s, r.2)
  | _ => (s.putV n d (s.statusWord slot), false)

/-- KEY_INSTR_COMPLETE (R202). -/
def execKeyInstrComplete (n : Nat) (s : State) : Host.Outcome State Fault Refusal :=
  if n < 8 then
    .next (match (s.seq n).wait with
      | .key fn d slot addr =>
        let r := s.keyFn n fn d slot addr
        (if r.2 then (r.1.takeExc n 13 (s.pc n) 0 false 0).lateTake n else r.1.waitRelease n).settle.seqDrain n
      | _ => s)
  else .fault .noSuchUnit

/-! ### Ring instructions (R201) -/

/-- A ring instruction stalls until the ring engine answers. -/
def State.issueRing (s : State) (n : Nat) (m : SeqOp) (pop : Bool) : Host.Outcome State Fault Refusal :=
  s.issue n m (fun i t =>
    let q := t.seq n
    let b := (q.rv i.b).toNat % 65536
    if b % 32 ≠ 0 then .exc 8 0
    else .park ((t.setSeq n { q with wait := .ring pop i.d ((q.rv i.a).toNat % 64) b }).seqEv n 10))

/-- RPUSH (R201). -/
def execRpush (n : Nat) (s : State) : Host.Outcome State Fault Refusal := s.issueRing n .rpush false
/-- RPOP (R201). -/
def execRpop (n : Nat) (s : State) : Host.Outcome State Fault Refusal := s.issueRing n .rpop true

/-- Whether the ring is one of 32 to 47. -/
def seqRing (r : Nat) : Bool := 32 ≤ r && r < 48

/-- A push from data RAM at `addr`: the state and the status. -/
def State.rpush (s : State) (n r addr : Nat) : State × Nat :=
  let d := memNat s.mem (dramBase n + addr) 32
  if !(seqRing r || (r < 16 && !s.user n)) then (s, 3)
  else if !s.ringOn r then (s, 2)
  else if s.ringFull r then (s.set1 RG_STATUS_FULL r, 1)
  else
    (s.ringProduce r (mkDesc (bits d 24 7) (bits d 16 8) (bits d 0 16) (s.ringSeq r) (bits d 64 32) (bits d 96 32)
      (bits d 128 32) (bits d 160 32) (bits d 192 32) (bits d 224 32)), 0)

/-- Whether sequencer `n` may pop from ring `r`. -/
def State.rpopMay (s : State) (n r : Nat) : Bool :=
  seqRing r || (16 ≤ r && r < 32 && s.fld RG_CTL_CONSUMER r == 4 && !s.user n)

/-- A pop into data RAM at `addr`: the state and the status. -/
def State.rpop (s : State) (n r addr : Nat) : State × Nat :=
  let k := (s.ring r).fetch
  let why := s.descFails r k (if r < 32 then 0x40 else 0) 0x7F
  if !s.rpopMay n r then (s, 3)
  else if !s.ringOn r then (s, 2)
  else if s.flag RG_STATUS_STOPPED r then (s, 4)
  else if s.fld RG_PROD_COUNT r = k then (s, 1)
  else if why ≠ 0 then (s.ringStop r why, 4)
  else
    let d := s.descRead r k
    let s := { s with mem := memPut s.mem (dramBase n + addr) 32 d }
    ((s.ringTake r).descDone r k d, 0)

/-- Whether the ring engine can answer: a ring at LOC 2 makes no progress while Bus Master Enable is clear (R417), one in DRAM while
the matrix holds its requests (R23). -/
def State.ringLive (s : State) (r : Nat) : Bool :=
  !s.ringOn r || (!s.ringAsleep r && (s.fld RG_CTL_LOC r != 2 || s.flag PE_STATUS_BME_PF0 0))

/-- The status of a ring instruction written with Z, and the next instruction follows. -/
def State.ringAnswer (s : State) (n d : Nat) (r : State × Nat) : State :=
  let t := (r.1.putV n d r.2).when (r.2 = 1) (fun u => u.seqEv n 11)
  ((t.setSeq n { t.seq n with zf := r.2 == 0 }).waitRelease n).seqDrain n

/-- RING_INSTR_COMPLETE (R201). -/
def execRingInstrComplete (n : Nat) (s : State) : Host.Outcome State Fault Refusal :=
  if n < 8 then
    .next (match (s.seq n).wait with
      | .ring pop d r addr =>
        if s.ringLive r then (s.ringAnswer n d (if pop then s.rpop n r addr else s.rpush n r addr)).settle else s
      | _ => s)
  else .fault .noSuchUnit

/-! ### Counter reads (R203, R445) -/

/-- Whether sequencer `n` may read a counter of bank `sel`. -/
def State.cntMay (s : State) (n sel : Nat) : Bool :=
  if s.user n then sel < 2 && s.seqsOn ≤ 4 && s.flag PC_CTL_USER_READ 0 else true

/-- The counter that IMM names, as it reads. -/
def State.cntAt (s : State) (n imm : Nat) : Nat × State :=
  match imm / 4096 with
  | 0 => (s.fld PC_CYCLE_COUNT n, s)
  | 1 => s.cntRead (n * 8 + bits imm 1 3)
  | 2 => s.fbRead (imm % 256)
  | _ => s.cntRead (bits imm 4 3 * 8 + bits imm 1 3)

/-- RDCNT (R203): a refused read raises PRIV. -/
def execRdcnt (n : Nat) (s : State) : Host.Outcome State Fault Refusal :=
  s.issue n .rdcnt (fun i t =>
    let q := t.seq n
    let r := t.cntAt n i.imm
    if t.cntMay n (i.imm / 4096) = false then .exc 2 0
    else if i.imm / 4096 = 2 then .done (r.2.putV n i.d r.1)
    else if bitOf i.imm 0 then .done (t.putV n i.d (q.cntSnap / 2 ^ 32))
    else .done ((r.2.setSeq n { q with cntSnap := r.1 }).putV n i.d r.1))

/-! ### Matrix instructions (R154, R167, R169, R200) -/

/-- The 40-bit address: the S immediate is a signed value. -/
def Ins.mea (i : Ins) (q : Seqr) : Nat :=
  ((((q.rv i.b).toNat % 256 * 2 ^ 32 + (q.rv i.a).toNat : Nat) + i.simm.toInt) % 2 ^ 40).toNat

/-- Whether the mode permits the target (R154). -/
def State.matrixMay (s : State) (n addr : Nat) : Bool :=
  !s.user n ||
    (match targetOf addr with
     | some 9 => false
     | some 10 => s.flag SQ_USER_TARGETS_SEQ_RAM n
     | some t => bitOf (s.fld SQ_USER_TARGETS_TARGETS n) t
     | none => false)

/-- A matrix instruction issues one transaction; a ninth stalls. -/
def State.issueMatrix (s : State) (n : Nat) (m : SeqOp) (store wide : Bool) (data : Ins → Seqr → Nat) :
    Host.Outcome State Fault Refusal :=
  s.issue n m (fun i t =>
    let q := t.seq n
    let ea := i.mea q
    if ea % (if wide then 16 else 4) ≠ 0 then .exc 8 0
    else if t.matrixMay n ea = false then .excAt 5 ea
    else if 8 ≤ q.txns.length then .stall 2
    else
      let x : Txn := { store := store, wide := wide, dest := i.d, addr := ea, data := data i q, pc := t.pc n, um := t.user n }
      .done ((t.setSeq n { q with txns := q.txns ++ [x] }).seqEv n (if store then 5 else 4)))

/-- MLDW (R200). -/
def execMldw (n : Nat) (s : State) : Host.Outcome State Fault Refusal := s.issueMatrix n .mldw false false (fun _ _ => 0)
/-- MSTW (R200). -/
def execMstw (n : Nat) (s : State) : Host.Outcome State Fault Refusal :=
  s.issueMatrix n .mstw true false (fun i q => (q.rv i.d).toNat)
/-- MLDT (R200). -/
def execMldt (n : Nat) (s : State) : Host.Outcome State Fault Refusal := s.issueMatrix n .mldt false true (fun _ _ => 0)
/-- MSTT (R200). -/
def execMstt (n : Nat) (s : State) : Host.Outcome State Fault Refusal :=
  s.issueMatrix n .mstt true true (fun i q => q.rt i.d)

/-- How a transaction ends: 0 well, else the cause of the exception; and a load's value. -/
structure TxnEnd where
  cause : Nat
  val   : Nat
  st    : State

/-- A transaction at its target. -/
def State.txnRun (s : State) (n : Nat) (x : Txn) : TxnEnd :=
  let a := Actor.seq n
  let len := if x.wide then 16 else 4
  if x.store then
    { cause := if s.writeErr a x.addr len then 6 else 0, val := 0, st := s.busWrite a x.addr (toBytes len x.data) }
  else
    match s.busRead a x.addr len with
    | (none, t) => { cause := 6, val := 0, st := t }
    | (some b, t) =>
      if s.readPoison x.addr len then
        { cause := 7, val := 0, st := t.bmErr (ctrlOf a) x.addr 3 }
      else { cause := 0, val := ofBytes b, st := t }

/-- The same in the mode the instruction was issued in. -/
def State.txnRunAs (s : State) (n : Nat) (x : Txn) : TxnEnd :=
  let r := (s.setFld SQ_STATUS_USER n (b2n x.um)).txnRun n x
  { r with st := r.st.setFld SQ_STATUS_USER n (s.fld SQ_STATUS_USER n) }

/-- MATRIX_TXN_COMPLETE: transaction `i` of sequencer `n`, counted from the oldest, completes (R167 to R169); one to a DRAM
channel in self-refresh is held (R23). -/
def execMatrixTxnComplete (n i : Nat) (s : State) : Host.Outcome State Fault Refusal :=
  if n < 8 ∧ i < 8 then
    .next (match (s.seq n).txns[i]? with
      | some x =>
        if firstAt (s.seq n).txns i x = true ∧ s.asleep x.addr = false then
          let r := (s.txnTake n i).txnRunAs n x
          (if r.cause = 0 then r.st.txnFill n x r.val
           else r.st.raise n r.cause x.pc true x.addr).settle.seqDrain n
        else s
      | none => s)
  else .fault .noSuchUnit

end Sys2Proof.Machine
end

