-- ==== Sys2Proof/Machine/TimeCmds.lean ====
section
/-! DEFINITION. The commands of the time core and the bound generator, and TICK (R20, R40, R46 to R65, R102, R135, R143, R436,
R440). -/

namespace Sys2Proof.Machine

/-! ### Engine seconds, leaps and smears (R56 to R62) -/

/-- Everything that happens on an engine second. -/
def State.second (s : State) : State :=
  let t := (s.tcSecond.poSecond.hoHistory.runsSecond.hoSecondWrite.rsEval.clocked s).commitSecond.arbSecond
  (t.pktExpire 0).pktExpire 1

/-- ENGINE_SECOND. -/
def execEngineSecond (s : State) : Host.Outcome State Fault Refusal :=
  .next (if s.ti.secondDue then s.second.settle else s)

/-- LEAP (R60). -/
def execLeap (s : State) : Host.Outcome State Fault Refusal := .next (if s.leapReached then s.leapNow else s)

/-- SMEAR_START (R62). -/
def execSmearStart (s : State) : Host.Outcome State Fault Refusal := .next (if s.smearStartDue then s.smearStart else s)

/-- SMEAR_END (R62). -/
def execSmearEnd (s : State) : Host.Outcome State Fault Refusal := .next (if s.smearEndDue then s.smearEnd else s)

/-! ### Steps and slides (R49 to R54) -/

/-- TIME_SET: a write of TC_TIME_SET. -/
def execTimeSet (a : Actor) (value : Nat) (s : State) : Host.Outcome State Fault Refusal :=
  .next (s.gate a .TC (fun t => (t.timeSetWrite (value % 2 ^ 128)).settle))

/-- STEP_OFFSET_WRITE: a write of TC_STEP_OFFSET. -/
def execStepOffsetWrite (a : Actor) (value : Nat) (s : State) : Host.Outcome State Fault Refusal :=
  .next (s.gate a .TC (fun t => if t.portHas TC_STEP_OFFSET_OFFSET 0 then t else (t.stepWrite (value % 2 ^ 64)).settle))

/-- STEP_ACCEPT: a write of TC_STEP_ACCEPT. -/
def execStepAccept (a : Actor) (seq : Nat) (go : Bool) (s : State) : Host.Outcome State Fault Refusal :=
  if seq < 256 then
    .next (if a = .pf0 then s.gate a .TC (fun t => (t.stepAccept a seq go).settle)
      else (s.gate a .TC (fun t => t)).stepBarred.settle)
  else .fault .noSuchUnit

/-- A due step or setting is applied: the time core, the pulse outputs and selection. -/
def State.stepNow (s : State) (t : Nat) : State := (s.tcStepTo t).poStepped.rsStepped

/-- The end of a 1 us interval: the LOST threshold is judged by the bound that stood, then the next one is published. -/
def State.boundEnd (s : State) : State := (if s.lostDue then s.goLost else s).boundPublish

/-- What the latest count made due and no command carried out: an interval's end, an engine second. -/
def State.dues (s : State) : State :=
  let s := if s.ti.boundDue then s.boundEnd else s
  if s.ti.secondDue then s.second else s

/-- A due step or setting, if there is one, after what the latest count made due. -/
def State.stepDues (s : State) : State :=
  let s := s.dues
  match s.stepTarget with
  | some t => s.stepNow t
  | none => s

/-- STEP_APPLIED: the step's part of the coming tick; the second it crosses is found by that tick's count (R52). -/
def execStepApplied (s : State) : Host.Outcome State Fault Refusal :=
  .next (match s.stepTarget with
    | some _ => s.stepDues.settle
    | none => s)

/-- SLIDE_OFFSET_WRITE: a write of TC_SLIDE_OFFSET; the slide starts when it commits (R40, R53). -/
def execSlideOffsetWrite (a : Actor) (value : Nat) (s : State) : Host.Outcome State Fault Refusal :=
  .next (s.gate a .TC (fun t => if t.portHas TC_SLIDE_OFFSET_OFFSET 0 then t else t.slideWrite value))

/-- SLIDE_COMPLETE: less than one slope step remains, and the slide unit adds exactly that, as a part of the present tick: engine
time, elapsed time, Δt and TC_INC_APPLIED gain it (log entry 108). -/
def State.slideLast (s : State) : State :=
  (((s.advance s.ti.slideRem).setSlide 0).setFld TC_INC_APPLIED_APPLIED 0
    ((s.fld TC_INC_APPLIED_APPLIED 0 : Int) + s.ti.slideRem).toNat).boundRaise
def execSlideComplete (s : State) : Host.Outcome State Fault Refusal :=
  .next (if s.ti.slideRem ≠ 0 ∧ s.ti.slideRem.natAbs < s.slopeStep ∧ s.safe = false then s.slideLast else s)

/-! ### The bound (R20, R64, R65, R143) -/

/-- BOUND_INTERVAL_END. -/
def execBoundIntervalEnd (s : State) : Host.Outcome State Fault Refusal :=
  .next (if s.ti.boundDue then s.boundEnd.settle else s)

/-- BG_COEF_COMMIT. -/
def execBgCoefCommit (s : State) : Host.Outcome State Fault Refusal := .next s.bgCommitTick.settle

/-! ### TICK -/

/-- The levels of the pins sampled on a tick: bit 0 LOSC_READY, bit 1 VDD_FUSE in its range, bit 2 SENIOR (R91, R455, R459). -/
def State.pinsTake (s : State) (p : Nat) : State :=
  let s := { s with tmb := { s.tmb with ready := bitOf p 0 } }
  let s := if bitOf p 1 then s.set1 LC_STATE_FUSE_SUPPLY_OK 0 else (s.clr LC_STATE_FUSE_SUPPLY_OK 0).fuseStop
  s.seniorPin (bitOf p 2)

/-- The policy of a FATAL fault is carried out on the next tick (R436). -/
def State.fatalTick (s : State) : State :=
  if s.fm.fatalDue then
    let t := { s with fm := { s.fm with fatalDue := false } }
    if t.fld FM_CTL_FATAL_POLICY 0 = 1 then
      { t with fm := { t.fm with warmAt := some (t.ti.elapsed + 10 * usU) } }
    else if t.mode = 1 ∨ t.mode = 2 then { t with bt := { t.bt with modeDue := some 3 } }
    else t
  else s

/-- What the blocks do when the mode has changed (R142, R278, R309, R342, R355). -/
def State.modeEntered (new old : State) : State :=
  if new.mode = old.mode then new
  else
    let t := new.twMode
    if t.recovery then t.gateDrop.rcStop 4
    else if t.service then t.loopsOff
    else t

/-- A change of mode that is due. -/
def State.modeStep (s : State) : State := s.modeTick.modeEntered s

/-- The lock time of a relock at step 5 (R104): only while LOSC is present. -/
def State.lockClock (s : State) (d : Nat) : State :=
  if s.sy.phase = 5 ∧ s.sy.latched = true ∧ s.flag TM_LOSC_STATUS_PRESENT 0 = true then
    { s with sy := { s.sy with lockTime := s.sy.lockTime + d } }
  else s

/-- The counting of one tick. -/
def State.tickCount (s : State) : State :=
  let d := s.applied
  let s := (s.tcTick.lockClock d).opllTick.hoTick.rsTick.warmTick
  let s := (List.range 8).foldl State.seqTick1 s
  let s := s.fcAll.lanesTick
  (s.when s.safe (fun t => t.engEv 120)).pcTick

/-- TICK: what the latest count made due, a step, the next-tick commits, the mode, then the counting. -/
def execTick (pins : Nat) (s : State) : Host.Outcome State Fault Refusal :=
  if pins < 8 then
    .next (if s.bt.held then s
    else
      let s := ({ s with tk := { TickSt.init with cnts := s.tk.cnts, cfgs := s.tk.cfgs } }.pinsTake pins).stepDues
      let s := ((s.commitTick .TC).commitTick .BG).commitTick .TM
      (s.fatalTick.modeStep).tickCount.settle)
  else .fault .noSuchUnit

end Sys2Proof.Machine
end

