-- ==== Sys2Proof/Machine/Dispatch.lean ====
section
/-! DEFINITION. The dispatcher: one arm for each command. -/

namespace Sys2Proof.Machine

def exec (i : Instr) (s : State) : Host.Outcome State Fault Refusal :=
  match i with
  | .coldReset => Sys2Proof.Machine.execColdReset s
  | .powerUp => Sys2Proof.Machine.execPowerUp s
  | .romReady => Sys2Proof.Machine.execRomReady s
  | .warmReset => Sys2Proof.Machine.execWarmReset s
  | .warmResetCmd a key => Sys2Proof.Machine.execWarmResetCmd a key s
  | .supplyBrownout => Sys2Proof.Machine.execSupplyBrownout s
  | .supplyRecovery => Sys2Proof.Machine.execSupplyRecovery s
  | .pcieReset => Sys2Proof.Machine.execPcieReset s
  | .functionLevelReset fn => Sys2Proof.Machine.execFunctionLevelReset fn s
  | .registerWrite a addr value => Sys2Proof.Machine.execRegisterWrite a addr value s
  | .rcCounterRead a addr => Sys2Proof.Machine.execRcCounterRead a addr s
  | .rwsCommit block boundary unit => Sys2Proof.Machine.execRwsCommit block boundary unit s
  | .blockDrainDone block unit => Sys2Proof.Machine.execBlockDrainDone block unit s
  | .engineSecond => Sys2Proof.Machine.execEngineSecond s
  | .leap => Sys2Proof.Machine.execLeap s
  | .smearStart => Sys2Proof.Machine.execSmearStart s
  | .smearEnd => Sys2Proof.Machine.execSmearEnd s
  | .timeSet a value => Sys2Proof.Machine.execTimeSet a value s
  | .stepOffsetWrite a value => Sys2Proof.Machine.execStepOffsetWrite a value s
  | .stepAccept a seq go => Sys2Proof.Machine.execStepAccept a seq go s
  | .stepApplied => Sys2Proof.Machine.execStepApplied s
  | .slideOffsetWrite a value => Sys2Proof.Machine.execSlideOffsetWrite a value s
  | .slideComplete => Sys2Proof.Machine.execSlideComplete s
  | .boundIntervalEnd => Sys2Proof.Machine.execBoundIntervalEnd s
  | .bgCoefCommit => Sys2Proof.Machine.execBgCoefCommit s
  | .pulseArm n => Sys2Proof.Machine.execPulseArm n s
  | .pulseLeadingEdge n => Sys2Proof.Machine.execPulseLeadingEdge n s
  | .pulseTrailingEdge n => Sys2Proof.Machine.execPulseTrailingEdge n s
  | .pulseDisable n => Sys2Proof.Machine.execPulseDisable n s
  | .edgeArrival n falling k c0 c1 c2 c3 => Sys2Proof.Machine.execEdgeArrival n falling k c0 c1 c2 c3 s
  | .intervalTimeout n => Sys2Proof.Machine.execIntervalTimeout n s
  | .tmChannelEnable n => Sys2Proof.Machine.execTmChannelEnable n s
  | .tmChannelDisable n => Sys2Proof.Machine.execTmChannelDisable n s
  | .offsetCalDone n offset => Sys2Proof.Machine.execOffsetCalDone n offset s
  | .calHit n c0 c1 c2 c3 near => Sys2Proof.Machine.execCalHit n c0 c1 c2 c3 near s
  | .calTableComplete n => Sys2Proof.Machine.execCalTableComplete n s
  | .calStale n => Sys2Proof.Machine.execCalStale n s
  | .tmFifoRead a n word port => Sys2Proof.Machine.execTmFifoRead a n word port s
  | .eventDmaPost n => Sys2Proof.Machine.execEventDmaPost n s
  | .loopEdge k c0 c1 c2 c3 => Sys2Proof.Machine.execLoopEdge k c0 c1 c2 c3 s
  | .loscLost => Sys2Proof.Machine.execLoscLost s
  | .loscPresent => Sys2Proof.Machine.execLoscPresent s
  | .warmWindowEnd => Sys2Proof.Machine.execWarmWindowEnd s
  | .rootRelockCmd a => Sys2Proof.Machine.execRootRelockCmd a s
  | .bandSweepCmd a => Sys2Proof.Machine.execBandSweepCmd a s
  | .bandSweepComplete lo hi => Sys2Proof.Machine.execBandSweepComplete lo hi s
  | .rootLossOfLock => Sys2Proof.Machine.execRootLossOfLock s
  | .rootLockDeclared => Sys2Proof.Machine.execRootLockDeclared s
  | .coreClockSwitchback => Sys2Proof.Machine.execCoreClockSwitchback s
  | .relockDone => Sys2Proof.Machine.execRelockDone s
  | .rootLockFail => Sys2Proof.Machine.execRootLockFail s
  | .laneFreezeTimeout irnak n => Sys2Proof.Machine.execLaneFreezeTimeout irnak n s
  | .safeMeasWindow period => Sys2Proof.Machine.execSafeMeasWindow period s
  | .opllEnable n => Sys2Proof.Machine.execOpllEnable n s
  | .opllMultWrite a n value => Sys2Proof.Machine.execOpllMultWrite a n value s
  | .opllLocked n band => Sys2Proof.Machine.execOpllLocked n band s
  | .opllSettled n => Sys2Proof.Machine.execOpllSettled n s
  | .opllLockFail n => Sys2Proof.Machine.execOpllLockFail n s
  | .ckoEnable n => Sys2Proof.Machine.execCkoEnable n s
  | .ckoDisable n => Sys2Proof.Machine.execCkoDisable n s
  | .ckoGuardSuppress n falling gap => Sys2Proof.Machine.execCkoGuardSuppress n falling gap s
  | .ckoAlignStart n => Sys2Proof.Machine.execCkoAlignStart n s
  | .ckoAligned n => Sys2Proof.Machine.execCkoAligned n s
  | .refPpsMeasurement n => Sys2Proof.Machine.execRefPpsMeasurement n s
  | .refPktExchange n => Sys2Proof.Machine.execRefPktExchange n s
  | .refItlMeasurement n => Sys2Proof.Machine.execRefItlMeasurement n s
  | .rsTodWrite a n sec seq => Sys2Proof.Machine.execRsTodWrite a n sec seq s
  | .todLabelTimeout n => Sys2Proof.Machine.execTodLabelTimeout n s
  | .todRecordTimeout n => Sys2Proof.Machine.execTodRecordTimeout n s
  | .freqWindowEnd => Sys2Proof.Machine.execFreqWindowEnd s
  | .refQualified n => Sys2Proof.Machine.execRefQualified n s
  | .refPresenceLoss n => Sys2Proof.Machine.execRefPresenceLoss n s
  | .refRequalify n => Sys2Proof.Machine.execRefRequalify n s
  | .refDisqualify a n => Sys2Proof.Machine.execRefDisqualify a n s
  | .refAccept a n => Sys2Proof.Machine.execRefAccept a n s
  | .clrDispute a n => Sys2Proof.Machine.execClrDispute a n s
  | .clrComp a n => Sys2Proof.Machine.execClrComp a n s
  | .refEnable a n => Sys2Proof.Machine.execRefEnable a n s
  | .refDisable a n => Sys2Proof.Machine.execRefDisable a n s
  | .forceSelect a ref force => Sys2Proof.Machine.execForceSelect a ref force s
  | .lockAchieved => Sys2Proof.Machine.execLockAchieved s
  | .lockWindowExceeded => Sys2Proof.Machine.execLockWindowExceeded s
  | .hoEnable a => Sys2Proof.Machine.execHoEnable a s
  | .hoSummingDone => Sys2Proof.Machine.execHoSummingDone s
  | .holdReady => Sys2Proof.Machine.execHoldReady s
  | .hoTempBoardWrite a value => Sys2Proof.Machine.execHoTempBoardWrite a value s
  | .tempStale => Sys2Proof.Machine.execTempStale s
  | .plausAgreement x y => Sys2Proof.Machine.execPlausAgreement x y s
  | .add n => Sys2Proof.Machine.execAdd n s
  | .sub n => Sys2Proof.Machine.execSub n s
  | .andV n => Sys2Proof.Machine.execAndV n s
  | .orV n => Sys2Proof.Machine.execOrV n s
  | .xorV n => Sys2Proof.Machine.execXorV n s
  | .shl n => Sys2Proof.Machine.execShl n s
  | .shr n => Sys2Proof.Machine.execShr n s
  | .asr n => Sys2Proof.Machine.execAsr n s
  | .minV n => Sys2Proof.Machine.execMinV n s
  | .maxV n => Sys2Proof.Machine.execMaxV n s
  | .minu n => Sys2Proof.Machine.execMinu n s
  | .maxu n => Sys2Proof.Machine.execMaxu n s
  | .mul n => Sys2Proof.Machine.execMul n s
  | .mulhs n => Sys2Proof.Machine.execMulhs n s
  | .mulhu n => Sys2Proof.Machine.execMulhu n s
  | .clz n => Sys2Proof.Machine.execClz n s
  | .addc n => Sys2Proof.Machine.execAddc n s
  | .subc n => Sys2Proof.Machine.execSubc n s
  | .addi n => Sys2Proof.Machine.execAddi n s
  | .subi n => Sys2Proof.Machine.execSubi n s
  | .andi n => Sys2Proof.Machine.execAndi n s
  | .ori n => Sys2Proof.Machine.execOri n s
  | .xori n => Sys2Proof.Machine.execXori n s
  | .ldi n => Sys2Proof.Machine.execLdi n s
  | .shli n => Sys2Proof.Machine.execShli n s
  | .shri n => Sys2Proof.Machine.execShri n s
  | .asri n => Sys2Proof.Machine.execAsri n s
  | .macs n => Sys2Proof.Machine.execMacs n s
  | .macu n => Sys2Proof.Machine.execMacu n s
  | .msbs n => Sys2Proof.Machine.execMsbs n s
  | .msbu n => Sys2Proof.Machine.execMsbu n s
  | .clracc n => Sys2Proof.Machine.execClracc n s
  | .accmov n => Sys2Proof.Machine.execAccmov n s
  | .accset n => Sys2Proof.Machine.execAccset n s
  | .accadd n => Sys2Proof.Machine.execAccadd n s
  | .accw n => Sys2Proof.Machine.execAccw n s
  | .accwr n => Sys2Proof.Machine.execAccwr n s
  | .accrd n => Sys2Proof.Machine.execAccrd n s
  | .tnow n => Sys2Proof.Machine.execTnow n s
  | .taddn n => Sys2Proof.Machine.execTaddn n s
  | .tmov n => Sys2Proof.Machine.execTmov n s
  | .tadd n => Sys2Proof.Machine.execTadd n s
  | .taddf n => Sys2Proof.Machine.execTaddf n s
  | .tdifn n => Sys2Proof.Machine.execTdifn n s
  | .tdiff n => Sys2Proof.Machine.execTdiff n s
  | .tcmp n => Sys2Proof.Machine.execTcmp n s
  | .tsec n => Sys2Proof.Machine.execTsec n s
  | .tsech n => Sys2Proof.Machine.execTsech n s
  | .tns n => Sys2Proof.Machine.execTns n s
  | .tfrac n => Sys2Proof.Machine.execTfrac n s
  | .twnc n => Sys2Proof.Machine.execTwnc n s
  | .tset n => Sys2Proof.Machine.execTset n s
  | .tseth n => Sys2Proof.Machine.execTseth n s
  | .textw n => Sys2Proof.Machine.execTextw n s
  | .waitt n => Sys2Proof.Machine.execWaitt n s
  | .timeWaitRelease n => Sys2Proof.Machine.execTimeWaitRelease n s
  | .arm n => Sys2Proof.Machine.execArm n s
  | .disarm n => Sys2Proof.Machine.execDisarm n s
  | .timeCompareFire n k => Sys2Proof.Machine.execTimeCompareFire n k s
  | .waite n => Sys2Proof.Machine.execWaite n s
  | .eventWaitRelease n => Sys2Proof.Machine.execEventWaitRelease n s
  | .inPort n => Sys2Proof.Machine.execInPort n s
  | .outPort n => Sys2Proof.Machine.execOutPort n s
  | .sacq n => Sys2Proof.Machine.execSacq n s
  | .srel n => Sys2Proof.Machine.execSrel n s
  | .kstage n => Sys2Proof.Machine.execKstage n s
  | .kcommit n => Sys2Proof.Machine.execKcommit n s
  | .kinval n => Sys2Proof.Machine.execKinval n s
  | .kstat n => Sys2Proof.Machine.execKstat n s
  | .keyInstrComplete n => Sys2Proof.Machine.execKeyInstrComplete n s
  | .rpush n => Sys2Proof.Machine.execRpush n s
  | .rpop n => Sys2Proof.Machine.execRpop n s
  | .ringInstrComplete n => Sys2Proof.Machine.execRingInstrComplete n s
  | .rdcnt n => Sys2Proof.Machine.execRdcnt n s
  | .ldw n => Sys2Proof.Machine.execLdw n s
  | .ldh n => Sys2Proof.Machine.execLdh n s
  | .ldhu n => Sys2Proof.Machine.execLdhu n s
  | .ldb n => Sys2Proof.Machine.execLdb n s
  | .ldbu n => Sys2Proof.Machine.execLdbu n s
  | .stw n => Sys2Proof.Machine.execStw n s
  | .sth n => Sys2Proof.Machine.execSth n s
  | .stb n => Sys2Proof.Machine.execStb n s
  | .ldt n => Sys2Proof.Machine.execLdt n s
  | .stt n => Sys2Proof.Machine.execStt n s
  | .mldw n => Sys2Proof.Machine.execMldw n s
  | .mstw n => Sys2Proof.Machine.execMstw n s
  | .mldt n => Sys2Proof.Machine.execMldt n s
  | .mstt n => Sys2Proof.Machine.execMstt n s
  | .matrixTxnComplete n idx => Sys2Proof.Machine.execMatrixTxnComplete n idx s
  | .bif n => Sys2Proof.Machine.execBif n s
  | .call n => Sys2Proof.Machine.execCall n s
  | .jr n => Sys2Proof.Machine.execJr n s
  | .callr n => Sys2Proof.Machine.execCallr n s
  | .ret n => Sys2Proof.Machine.execRet n s
  | .trap n => Sys2Proof.Machine.execTrap n s
  | .nop n => Sys2Proof.Machine.execNop n s
  | .rfe n => Sys2Proof.Machine.execRfe n s
  | .halt n => Sys2Proof.Machine.execHalt n s
  | .fence n => Sys2Proof.Machine.execFence n s
  | .fenceRelease n => Sys2Proof.Machine.execFenceRelease n s
  | .watchdog n => Sys2Proof.Machine.execWatchdog n s
  | .seqEnable a n => Sys2Proof.Machine.execSeqEnable a n s
  | .seqDisable a n => Sys2Proof.Machine.execSeqDisable a n s
  | .seqReset a n => Sys2Proof.Machine.execSeqReset a n s
  | .hostMailboxSend a n value => Sys2Proof.Machine.execHostMailboxSend a n value s
  | .semAcquire a k => Sys2Proof.Machine.execSemAcquire a k s
  | .semRelease a k => Sys2Proof.Machine.execSemRelease a k s
  | .semForceRelease a k => Sys2Proof.Machine.execSemForceRelease a k s
  | .imageLoad a => Sys2Proof.Machine.execImageLoad a s
  | .launch a mask => Sys2Proof.Machine.execLaunch a mask s
  | .iramWrite a addr value strobes => Sys2Proof.Machine.execIramWrite a addr value strobes s
  | .iramLock a n => Sys2Proof.Machine.execIramLock a n s
  | .hostExtend a => Sys2Proof.Machine.execHostExtend a s
  | .modeReqService a => Sys2Proof.Machine.execModeReqService a s
  | .modeReqTest a => Sys2Proof.Machine.execModeReqTest a s
  | .modeReqRecovery a => Sys2Proof.Machine.execModeReqRecovery a s
  | .quoteRequest a slot => Sys2Proof.Machine.execQuoteRequest a slot s
  | .quoteSigned => Sys2Proof.Machine.execQuoteSigned s
  | .attestRequest => Sys2Proof.Machine.execAttestRequest s
  | .idReady ok => Sys2Proof.Machine.execIdReady ok s
  | .ksStage a slot => Sys2Proof.Machine.execKsStage a slot s
  | .ksDiscard a => Sys2Proof.Machine.execKsDiscard a s
  | .ksCommit a => Sys2Proof.Machine.execKsCommit a s
  | .genDeriveComplete => Sys2Proof.Machine.execGenDeriveComplete s
  | .ksInvalidate a slot => Sys2Proof.Machine.execKsInvalidate a slot s
  | .exportBlob a slot => Sys2Proof.Machine.execExportBlob a slot s
  | .loadBlob a slot => Sys2Proof.Machine.execLoadBlob a slot s
  | .rewrapBlob a => Sys2Proof.Machine.execRewrapBlob a s
  | .ksCmdComplete => Sys2Proof.Machine.execKsCmdComplete s
  | .tagSweep bad => Sys2Proof.Machine.execTagSweep bad s
  | .statementRequest a idx slot => Sys2Proof.Machine.execStatementRequest a idx slot s
  | .statementSigned => Sys2Proof.Machine.execStatementSigned s
  | .lcPrepare a key target => Sys2Proof.Machine.execLcPrepare a key target s
  | .lcPrepared => Sys2Proof.Machine.execLcPrepared s
  | .lcCommit a key target => Sys2Proof.Machine.execLcCommit a key target s
  | .lcFusesBlown => Sys2Proof.Machine.execLcFusesBlown s
  | .ethLaneEnable n => Sys2Proof.Machine.execEthLaneEnable n s
  | .laneCalComplete irnak n sum dtx scatter => Sys2Proof.Machine.execLaneCalComplete irnak n sum dtx scatter s
  | .ethLinkUp n swap => Sys2Proof.Machine.execEthLinkUp n swap s
  | .ethTrainFail n => Sys2Proof.Machine.execEthTrainFail n s
  | .ethLinkLoss n inFrame => Sys2Proof.Machine.execEthLinkLoss n inFrame s
  | .itlLaneEnable n => Sys2Proof.Machine.execItlLaneEnable n s
  | .itlSuperwordTx n req ready => Sys2Proof.Machine.execItlSuperwordTx n req ready s
  | .itlSuperwordRx n hdr line arr seed => Sys2Proof.Machine.execItlSuperwordRx n hdr line arr seed s
  | .trainRequestRepeat n => Sys2Proof.Machine.execTrainRequestRepeat n s
  | .itlTrainFail n => Sys2Proof.Machine.execItlTrainFail n s
  | .itlWindowEnd n => Sys2Proof.Machine.execItlWindowEnd n s
  | .macFrameRx n bytes fcs pcs frag asm back lane fecCorr fecUncorr mp => Sys2Proof.Machine.execMacFrameRx n bytes fcs pcs frag asm back lane fecCorr fecUncorr mp s
  | .pauseHoldExpire n => Sys2Proof.Machine.execPauseHoldExpire n s
  | .fcRefresh n => Sys2Proof.Machine.execFcRefresh n s
  | .macFrameBoundary n ph lane => Sys2Proof.Machine.execMacFrameBoundary n ph lane s
  | .agePromote n => Sys2Proof.Machine.execAgePromote n s
  | .verifyTimeout n => Sys2Proof.Machine.execVerifyTimeout n s
  | .launchHandover idx => Sys2Proof.Machine.execLaunchHandover idx s
  | .launchClearInstant n => Sys2Proof.Machine.execLaunchClearInstant n s
  | .launchRelease n => Sys2Proof.Machine.execLaunchRelease n s
  | .mute a n => Sys2Proof.Machine.execMute a n s
  | .muteComplete n => Sys2Proof.Machine.execMuteComplete n s
  | .unmute a n => Sys2Proof.Machine.execUnmute a n s
  | .wakeSignal n ns => Sys2Proof.Machine.execWakeSignal n ns s
  | .pipelineFrame n => Sys2Proof.Machine.execPipelineFrame n s
  | .ntpRequest => Sys2Proof.Machine.execNtpRequest s
  | .sealComplete idx => Sys2Proof.Machine.execSealComplete idx s
  | .announceCmd a rep => Sys2Proof.Machine.execAnnounceCmd a rep s
  | .announceRound => Sys2Proof.Machine.execAnnounceRound s
  | .cookieMint a count => Sys2Proof.Machine.execCookieMint a count s
  | .cookieMintDone => Sys2Proof.Machine.execCookieMintDone s
  | .ptpSyncTimer uni m idx => Sys2Proof.Machine.execPtpSyncTimer uni m idx s
  | .ptpAnnounceTimer uni m idx => Sys2Proof.Machine.execPtpAnnounceTimer uni m idx s
  | .ptpDelayReq => Sys2Proof.Machine.execPtpDelayReq s
  | .ptpPdelayReq => Sys2Proof.Machine.execPtpPdelayReq s
  | .ptpGrantRequest => Sys2Proof.Machine.execPtpGrantRequest s
  | .ptpGrantCancel => Sys2Proof.Machine.execPtpGrantCancel s
  | .grantExpire m idx => Sys2Proof.Machine.execGrantExpire m idx s
  | .pktDelayReqTimer n => Sys2Proof.Machine.execPktDelayReqTimer n s
  | .pktSyncRx n => Sys2Proof.Machine.execPktSyncRx n s
  | .pktGrantRenew n => Sys2Proof.Machine.execPktGrantRenew n s
  | .receiptRequest => Sys2Proof.Machine.execReceiptRequest s
  | .receiptPlace => Sys2Proof.Machine.execReceiptPlace s
  | .journalWriteDone => Sys2Proof.Machine.execJournalWriteDone s
  | .mirrorTimeout => Sys2Proof.Machine.execMirrorTimeout s
  | .tallyBoundary => Sys2Proof.Machine.execTallyBoundary s
  | .batchClose => Sys2Proof.Machine.execBatchClose s
  | .batchSigned => Sys2Proof.Machine.execBatchSigned s
  | .archiveStream => Sys2Proof.Machine.execArchiveStream s
  | .rcDisable a => Sys2Proof.Machine.execRcDisable a s
  | .subRegister a => Sys2Proof.Machine.execSubRegister a s
  | .subUpdate a => Sys2Proof.Machine.execSubUpdate a s
  | .subRemove a => Sys2Proof.Machine.execSubRemove a s
  | .subRead a => Sys2Proof.Machine.execSubRead a s
  | .subSuspend a => Sys2Proof.Machine.execSubSuspend a s
  | .subResume a => Sys2Proof.Machine.execSubResume a s
  | .breathTx => Sys2Proof.Machine.execBreathTx s
  | .breathRx => Sys2Proof.Machine.execBreathRx s
  | .leaseExpire => Sys2Proof.Machine.execLeaseExpire s
  | .witnessPulse => Sys2Proof.Machine.execWitnessPulse s
  | .witnessPartnerPulse ns => Sys2Proof.Machine.execWitnessPartnerPulse ns s
  | .witnessFault => Sys2Proof.Machine.execWitnessFault s
  | .partnerSilent => Sys2Proof.Machine.execPartnerSilent s
  | .mirrorRx => Sys2Proof.Machine.execMirrorRx s
  | .confirmRx => Sys2Proof.Machine.execConfirmRx s
  | .recordRx => Sys2Proof.Machine.execRecordRx s
  | .fetchRx => Sys2Proof.Machine.execFetchRx s
  | .joinRx => Sys2Proof.Machine.execJoinRx s
  | .sublastRx => Sys2Proof.Machine.execSublastRx s
  | .grantRx => Sys2Proof.Machine.execGrantRx s
  | .epochEndRx => Sys2Proof.Machine.execEpochEndRx s
  | .progRx => Sys2Proof.Machine.execProgRx s
  | .swapProposeRx => Sys2Proof.Machine.execSwapProposeRx s
  | .swapAcceptRx => Sys2Proof.Machine.execSwapAcceptRx s
  | .swapRefuseRx => Sys2Proof.Machine.execSwapRefuseRx s
  | .handoverRx => Sys2Proof.Machine.execHandoverRx s
  | .arbRx => Sys2Proof.Machine.execArbRx s
  | .verdictRx => Sys2Proof.Machine.execVerdictRx s
  | .messageResend => Sys2Proof.Machine.execMessageResend s
  | .epochCut => Sys2Proof.Machine.execEpochCut s
  | .epochDiscard => Sys2Proof.Machine.execEpochDiscard s
  | .promoteCmd a => Sys2Proof.Machine.execPromoteCmd a s
  | .demoteCmd a => Sys2Proof.Machine.execDemoteCmd a s
  | .demotionComplete => Sys2Proof.Machine.execDemotionComplete s
  | .swapNow a => Sys2Proof.Machine.execSwapNow a s
  | .clrUnfit a => Sys2Proof.Machine.execClrUnfit a s
  | .selfCheck breath copies lease => Sys2Proof.Machine.execSelfCheck breath copies lease s
  | .breathGuard => Sys2Proof.Machine.execBreathGuard s
  | .disagreeClear => Sys2Proof.Machine.execDisagreeClear s
  | .unfitClear => Sys2Proof.Machine.execUnfitClear s
  | .swapPropose => Sys2Proof.Machine.execSwapPropose s
  | .swapExecute => Sys2Proof.Machine.execSwapExecute s
  | .twinDisable a => Sys2Proof.Machine.execTwinDisable a s
  | .pcieInboundRequest fn kind bar off len bytes ep => Sys2Proof.Machine.execPcieInboundRequest fn kind bar off len bytes ep s
  | .pcieAtomicOp fn bar off op size val cmp => Sys2Proof.Machine.execPcieAtomicOp fn bar off op size val cmp s
  | .bridgeTimeout a addr write => Sys2Proof.Machine.execBridgeTimeout a addr write s
  | .controllerReset a mask => Sys2Proof.Machine.execControllerReset a mask s
  | .controllerDrainDone c => Sys2Proof.Machine.execControllerDrainDone c s
  | .dramInit a c => Sys2Proof.Machine.execDramInit a c s
  | .dramInitDone c ok => Sys2Proof.Machine.execDramInitDone c ok s
  | .dramZero a c => Sys2Proof.Machine.execDramZero a c s
  | .dramZeroDone c => Sys2Proof.Machine.execDramZeroDone c s
  | .dramReadError addr ue => Sys2Proof.Machine.execDramReadError addr ue s
  | .patrolScrub addr err => Sys2Proof.Machine.execPatrolScrub addr err s
  | .ringEnable a r => Sys2Proof.Machine.execRingEnable a r s
  | .ringProdWrite a r value => Sys2Proof.Machine.execRingProdWrite a r value s
  | .ringConsWrite a r value => Sys2Proof.Machine.execRingConsWrite a r value s
  | .ringRestart a r => Sys2Proof.Machine.execRingRestart a r s
  | .ringConsume r => Sys2Proof.Machine.execRingConsume r s
  | .ringProduce r typ flags len w2 w3 w4 w5 w6 w7 => Sys2Proof.Machine.execRingProduce r typ flags len w2 w3 w4 w5 w6 w7 s
  | .stagingForward r => Sys2Proof.Machine.execStagingForward r s
  | .ringIrq r => Sys2Proof.Machine.execRingIrq r s
  | .hostDmaTimeout r => Sys2Proof.Machine.execHostDmaTimeout r s
  | .msixUnmask fn v => Sys2Proof.Machine.execMsixUnmask fn v s
  | .uartRxByte n byte framing back cut => Sys2Proof.Machine.execUartRxByte n byte framing back cut s
  | .uartTxWrite a n byte => Sys2Proof.Machine.execUartTxWrite a n byte s
  | .uartTxByteDone n => Sys2Proof.Machine.execUartTxByteDone n s
  | .uartFifoRead a n word port => Sys2Proof.Machine.execUartFifoRead a n word port s
  | .i2cTransaction a addr wlen rlen => Sys2Proof.Machine.execI2cTransaction a addr wlen rlen s
  | .i2cDone nack timeout data => Sys2Proof.Machine.execI2cDone nack timeout data s
  | .spiTransfer a len keep => Sys2Proof.Machine.execSpiTransfer a len keep s
  | .spiDone data => Sys2Proof.Machine.execSpiDone data s
  | .spiDisable a => Sys2Proof.Machine.execSpiDisable a s
  | .gpioSet a mask => Sys2Proof.Machine.execGpioSet a mask s
  | .gpioClr a mask => Sys2Proof.Machine.execGpioClr a mask s
  | .gpioInputChange levels => Sys2Proof.Machine.execGpioInputChange levels s
  | .faultInject a code cls chan detail => Sys2Proof.Machine.execFaultInject a code cls chan detail s
  | .fatalWarmReset => Sys2Proof.Machine.execFatalWarmReset s
  | .retryGrant ch => Sys2Proof.Machine.execRetryGrant ch s
  | .faultQueueRead a => Sys2Proof.Machine.execFaultQueueRead a s
  | .channelReenable a ch => Sys2Proof.Machine.execChannelReenable a ch s
  | .cryptoKat p ok => Sys2Proof.Machine.execCryptoKat p ok s
  | .thermalWarn k => Sys2Proof.Machine.execThermalWarn k s
  | .thermalTrip => Sys2Proof.Machine.execThermalTrip s
  | .timeCoreParity => Sys2Proof.Machine.execTimeCoreParity s
  | .sramError target ue => Sys2Proof.Machine.execSramError target ue s
  | .counterOverflow n k => Sys2Proof.Machine.execCounterOverflow n k s
  | .tick pins => Sys2Proof.Machine.execTick pins s
  | .pcieLinkUp speed width => Sys2Proof.Machine.execPcieLinkUp speed width s
  | .extensionCommit idx => Sys2Proof.Machine.execExtensionCommit idx s
  | .derivedAgain k => Sys2Proof.Machine.execDerivedAgain k s
  | .fetchTimeout => Sys2Proof.Machine.execFetchTimeout s
  | .dieTempRefresh t0 t1 t2 t3 => Sys2Proof.Machine.execDieTempRefresh t0 t1 t2 t3 s
  | .fuseSupplyLost => Sys2Proof.Machine.execFuseSupplyLost s
  | .debugAccess write addr len value => Sys2Proof.Machine.execDebugAccess write addr len value s
  | .tapInstruction code => Sys2Proof.Machine.execTapInstruction code s

end Sys2Proof.Machine
end

