-- ==== Sys2Proof/Safety.lean ====
section
/-! DEFINITION. What counts as a safe run: the invariants that every step keeps, and what no command takes back. -/

namespace Sys2Proof.Machine

/-- The fault queue is well formed: at most 64 records (R431), at most one of each channel (R429). -/
def QueueOk (q : List FaultRec) : Prop := q.length ≤ 64 ∧ (q.map FaultRec.chan).Nodup

/-- The invariant of the state: both memories in canonical form, the fault queue well formed. -/
structure State.Inv (s : State) : Prop where
  mem     : Memory.wf s.mem = true
  hostMem : Memory.wf s.hostMem = true
  queue   : QueueOk s.fm.queue

/-- What holds from a state to every later one: no free value is taken twice, and nothing sent is taken back. -/
structure State.Later (s t : State) : Prop where
  free : s.freeCtr ≤ t.freeCtr
  out  : s.out <:+ t.out

/-- An outcome with a next state that has the property. -/
def Completes (o : Host.Outcome State Fault Refusal) (p : State → Prop) : Prop := ∃ t, o = .next t ∧ p t

end Sys2Proof.Machine
end

