-- ==== Sys2Proof/WellFormed.lean ====
section
/-! DEFINITION. Well-formed commands: operands within what the spec gives the engine. -/

namespace Sys2Proof

open Machine

/-- The actors of R161 and R391: two PCI Express functions, eight sequencers, fourteen matrix controllers. -/
def Actor.ok : Actor → Bool
  | .pf0 => true
  | .pf1 => true
  | .seq n => n < 8
  | .ctrl c => c < 14

/-- Every number of the list is a byte. -/
def isBytes (l : List Nat) : Bool := l.all (fun b => b < 256)

/-- Every unit, index and length the command names is one the spec gives the engine. These are the checks whose
failure stops the command (noSuchUnit). -/
def Instr.inRange : Instr → Bool
  | .coldReset => true
  | .powerUp => true
  | .romReady => true
  | .warmReset => true
  | .warmResetCmd _ _ => true
  | .supplyBrownout => true
  | .supplyRecovery => true
  | .pcieReset => true
  | .functionLevelReset fn => fn < 2
  | .registerWrite _ _ _ => true
  | .rcCounterRead _ _ => true
  | .rwsCommit block boundary unit_ => block < 23 && boundary < 3 && (boundary != 2 || unit_ < 8)
  | .blockDrainDone block _ => block < 23
  | .engineSecond => true
  | .leap => true
  | .smearStart => true
  | .smearEnd => true
  | .timeSet _ _ => true
  | .stepOffsetWrite _ _ => true
  | .stepAccept _ seq _ => seq < 256
  | .stepApplied => true
  | .slideOffsetWrite _ _ => true
  | .slideComplete => true
  | .boundIntervalEnd => true
  | .bgCoefCommit => true
  | .pulseArm n => n < 8
  | .pulseLeadingEdge n => n < 8
  | .pulseTrailingEdge n => n < 8
  | .pulseDisable n => n < 8
  | .edgeArrival n _ k c0 c1 c2 c3 => n < 11 && k < 4 && c0 ≤ 256 && c1 ≤ 256 && c2 ≤ 256 && c3 ≤ 256
  | .intervalTimeout n => n < 12
  | .tmChannelEnable n => n < 12
  | .tmChannelDisable n => n < 12
  | .offsetCalDone n _ => n < 12
  | .calHit n c0 c1 c2 c3 _ => n < 12 && c0 ≤ 256 && c1 ≤ 256 && c2 ≤ 256 && c3 ≤ 256
  | .calTableComplete n => n < 12
  | .calStale n => n < 12
  | .tmFifoRead a n word port => n < 12 && word < 4 && portActor a port
  | .eventDmaPost n => n < 12
  | .loopEdge k c0 c1 c2 c3 => k < 4 && c0 ≤ 256 && c1 ≤ 256 && c2 ≤ 256 && c3 ≤ 256
  | .loscLost => true
  | .loscPresent => true
  | .warmWindowEnd => true
  | .rootRelockCmd _ => true
  | .bandSweepCmd _ => true
  | .bandSweepComplete lo hi => lo.length == 32 && hi.length == 32
  | .rootLossOfLock => true
  | .rootLockDeclared => true
  | .coreClockSwitchback => true
  | .relockDone => true
  | .rootLockFail => true
  | .laneFreezeTimeout irnak n => n < (if irnak then 8 else 16)
  | .safeMeasWindow _ => true
  | .opllEnable n => n < 4
  | .opllMultWrite _ n _ => n < 4
  | .opllLocked n band => n < 4 && band < 16
  | .opllSettled n => n < 4
  | .opllLockFail n => n < 4
  | .ckoEnable n => n < 8
  | .ckoDisable n => n < 8
  | .ckoGuardSuppress n _ _ => n < 8
  | .ckoAlignStart n => n < 8
  | .ckoAligned n => n < 8
  | .refPpsMeasurement n => n < 4
  | .refPktExchange n => n < 2
  | .refItlMeasurement n => n < 2
  | .rsTodWrite _ n _ _ => n < 2
  | .todLabelTimeout n => n < 2
  | .todRecordTimeout n => n < 2
  | .freqWindowEnd => true
  | .refQualified n => n < 8
  | .refPresenceLoss n => n < 8
  | .refRequalify n => n < 8
  | .refDisqualify _ n => n < 8
  | .refAccept _ n => n < 8
  | .clrDispute _ n => n < 8
  | .clrComp _ n => n < 8
  | .refEnable _ n => n < 8
  | .refDisable _ n => n < 8
  | .forceSelect _ ref _ => ref < 8
  | .lockAchieved => true
  | .lockWindowExceeded => true
  | .hoEnable _ => true
  | .hoSummingDone => true
  | .holdReady => true
  | .hoTempBoardWrite _ _ => true
  | .tempStale => true
  | .plausAgreement x y => x < y && y < 8
  | .add n => n < 8
  | .sub n => n < 8
  | .andV n => n < 8
  | .orV n => n < 8
  | .xorV n => n < 8
  | .shl n => n < 8
  | .shr n => n < 8
  | .asr n => n < 8
  | .minV n => n < 8
  | .maxV n => n < 8
  | .minu n => n < 8
  | .maxu n => n < 8
  | .mul n => n < 8
  | .mulhs n => n < 8
  | .mulhu n => n < 8
  | .clz n => n < 8
  | .addc n => n < 8
  | .subc n => n < 8
  | .addi n => n < 8
  | .subi n => n < 8
  | .andi n => n < 8
  | .ori n => n < 8
  | .xori n => n < 8
  | .ldi n => n < 8
  | .shli n => n < 8
  | .shri n => n < 8
  | .asri n => n < 8
  | .macs n => n < 8
  | .macu n => n < 8
  | .msbs n => n < 8
  | .msbu n => n < 8
  | .clracc n => n < 8
  | .accmov n => n < 8
  | .accset n => n < 8
  | .accadd n => n < 8
  | .accw n => n < 8
  | .accwr n => n < 8
  | .accrd n => n < 8
  | .tnow n => n < 8
  | .taddn n => n < 8
  | .tmov n => n < 8
  | .tadd n => n < 8
  | .taddf n => n < 8
  | .tdifn n => n < 8
  | .tdiff n => n < 8
  | .tcmp n => n < 8
  | .tsec n => n < 8
  | .tsech n => n < 8
  | .tns n => n < 8
  | .tfrac n => n < 8
  | .twnc n => n < 8
  | .tset n => n < 8
  | .tseth n => n < 8
  | .textw n => n < 8
  | .waitt n => n < 8
  | .timeWaitRelease n => n < 8
  | .arm n => n < 8
  | .disarm n => n < 8
  | .timeCompareFire n k => n < 8 && k < 4
  | .waite n => n < 8
  | .eventWaitRelease n => n < 8
  | .inPort n => n < 8
  | .outPort n => n < 8
  | .sacq n => n < 8
  | .srel n => n < 8
  | .kstage n => n < 8
  | .kcommit n => n < 8
  | .kinval n => n < 8
  | .kstat n => n < 8
  | .keyInstrComplete n => n < 8
  | .rpush n => n < 8
  | .rpop n => n < 8
  | .ringInstrComplete n => n < 8
  | .rdcnt n => n < 8
  | .ldw n => n < 8
  | .ldh n => n < 8
  | .ldhu n => n < 8
  | .ldb n => n < 8
  | .ldbu n => n < 8
  | .stw n => n < 8
  | .sth n => n < 8
  | .stb n => n < 8
  | .ldt n => n < 8
  | .stt n => n < 8
  | .mldw n => n < 8
  | .mstw n => n < 8
  | .mldt n => n < 8
  | .mstt n => n < 8
  | .matrixTxnComplete n i => n < 8 && i < 8
  | .bif n => n < 8
  | .call n => n < 8
  | .jr n => n < 8
  | .callr n => n < 8
  | .ret n => n < 8
  | .trap n => n < 8
  | .nop n => n < 8
  | .rfe n => n < 8
  | .halt n => n < 8
  | .fence n => n < 8
  | .fenceRelease n => n < 8
  | .watchdog n => n < 8
  | .seqEnable _ n => n < 8
  | .seqDisable _ n => n < 8
  | .seqReset _ n => n < 8
  | .hostMailboxSend _ n _ => n < 8
  | .semAcquire _ k => k < 32
  | .semRelease _ k => k < 32
  | .semForceRelease _ k => k < 32
  | .imageLoad _ => true
  | .launch _ mask => mask < 256
  | .iramWrite _ addr _ strobes => targetOf addr == some 10 && (addr - 0x60000000) % 0x20000 < 0x10000 && strobes < 16
  | .iramLock _ n => n < 8
  | .hostExtend _ => true
  | .modeReqService _ => true
  | .modeReqTest _ => true
  | .modeReqRecovery _ => true
  | .quoteRequest _ slot => slot < 2
  | .quoteSigned => true
  | .attestRequest => true
  | .idReady _ => true
  | .ksStage _ slot => slot < 256
  | .ksDiscard _ => true
  | .ksCommit _ => true
  | .genDeriveComplete => true
  | .ksInvalidate _ slot => slot < 256
  | .exportBlob _ slot => slot < 256
  | .loadBlob _ slot => slot < 256
  | .rewrapBlob _ => true
  | .ksCmdComplete => true
  | .tagSweep bad => bad.all (fun k => k < 256)
  | .statementRequest _ i slot => i < 2 && slot < 256
  | .statementSigned => true
  | .lcPrepare _ key target => key < 256 && target < 4
  | .lcPrepared => true
  | .lcCommit _ key target => key < 256 && target < 4
  | .lcFusesBlown => true
  | .ethLaneEnable n => n < 16
  | .laneCalComplete irnak n sum dtx _ => n < (if irnak then 8 else 16) && dtx ≤ sum && sum < 2 ^ 32
  | .ethLinkUp n _ => n < 16
  | .ethTrainFail n => n < 16
  | .ethLinkLoss n _ => n < 16
  | .itlLaneEnable n => n < 8
  | .itlSuperwordTx n _ _ => n < 8
  | .itlSuperwordRx n hdr line _ seed => n < 8 && hdr < 2 ^ 16 && line < 2 ^ 1008 && seed < 2 ^ 31
  | .trainRequestRepeat n => n < 8
  | .itlTrainFail n => n < 8
  | .itlWindowEnd n => n < 8
  | .macFrameRx n _ _ _ _ _ _ lane _ _ mp => n < 16 && lane < 4 && mp < 4
  | .pauseHoldExpire n => n < 16
  | .fcRefresh n => n < 16
  | .macFrameBoundary n ph lane => n < 16 && ph < 2 ^ 20 && lane < 4
  | .agePromote n => n < 16
  | .verifyTimeout n => n < 16
  | .launchHandover _ => true
  | .launchClearInstant n => n < 16
  | .launchRelease n => n < 16
  | .mute _ n => n < 16
  | .muteComplete n => n < 16
  | .unmute _ n => n < 16
  | .wakeSignal n _ => n < 16
  | .pipelineFrame n => n < 16
  | .ntpRequest => true
  | .sealComplete _ => true
  | .announceCmd _ _ => true
  | .announceRound => true
  | .cookieMint _ _ => true
  | .cookieMintDone => true
  | .ptpSyncTimer uni m i => if uni then m < 2 ^ 22 && i < 8 else m < 16
  | .ptpAnnounceTimer uni m i => if uni then m < 2 ^ 22 && i < 8 else m < 16
  | .ptpDelayReq => true
  | .ptpPdelayReq => true
  | .ptpGrantRequest => true
  | .ptpGrantCancel => true
  | .grantExpire m i => m < 2 ^ 22 && i < 8
  | .pktDelayReqTimer n => n < 2
  | .pktSyncRx n => n < 2
  | .pktGrantRenew n => n < 2
  | .receiptRequest => true
  | .receiptPlace => true
  | .journalWriteDone => true
  | .mirrorTimeout => true
  | .tallyBoundary => true
  | .batchClose => true
  | .batchSigned => true
  | .archiveStream => true
  | .rcDisable _ => true
  | .subRegister _ => true
  | .subUpdate _ => true
  | .subRemove _ => true
  | .subRead _ => true
  | .subSuspend _ => true
  | .subResume _ => true
  | .breathTx => true
  | .breathRx => true
  | .leaseExpire => true
  | .witnessPulse => true
  | .witnessPartnerPulse _ => true
  | .witnessFault => true
  | .partnerSilent => true
  | .mirrorRx => true
  | .confirmRx => true
  | .recordRx => true
  | .fetchRx => true
  | .joinRx => true
  | .sublastRx => true
  | .grantRx => true
  | .epochEndRx => true
  | .progRx => true
  | .swapProposeRx => true
  | .swapAcceptRx => true
  | .swapRefuseRx => true
  | .handoverRx => true
  | .arbRx => true
  | .verdictRx => true
  | .messageResend => true
  | .epochCut => true
  | .epochDiscard => true
  | .promoteCmd _ => true
  | .demoteCmd _ => true
  | .demotionComplete => true
  | .swapNow _ => true
  | .clrUnfit _ => true
  | .selfCheck _ _ _ => true
  | .breathGuard => true
  | .disagreeClear => true
  | .unfitClear => true
  | .swapPropose => true
  | .swapExecute => true
  | .twinDisable _ => true
  | .pcieInboundRequest fn kind bar _ len bytes _ => fn < 2 && kind < 3 && bar < 6 && len ≤ 4096 && bytes.length ≤ 512
  | .pcieAtomicOp fn bar _ op size _ _ => fn < 2 && bar < 6 && op < 3 && size ≤ 16
  | .bridgeTimeout _ addr _ => (blkAt addr).isSome
  | .controllerReset _ _ => true
  | .controllerDrainDone c => c < 14
  | .dramInit _ c => c < 2
  | .dramInitDone c _ => c < 2
  | .dramZero _ c => c < 2
  | .dramZeroDone c => c < 2
  | .dramReadError addr _ => inDram addr
  | .patrolScrub addr err => inDram addr && err < 3
  | .ringEnable _ r => r < 64
  | .ringProdWrite _ r _ => r < 64
  | .ringConsWrite _ r _ => r < 64
  | .ringRestart _ r => r < 64
  | .ringConsume r => 16 ≤ r && r < 32
  | .ringProduce r _ _ _ _ _ _ _ _ _ => r < 64 && (r < 16 || 32 ≤ r) && r < 52
  | .stagingForward r => 48 ≤ r && r < 52
  | .ringIrq r => r < 32
  | .hostDmaTimeout r => 16 ≤ r && r < 32
  | .msixUnmask fn v => vectorOk fn v
  | .uartRxByte n byte _ _ _ => n < 2 && byte < 256
  | .uartTxWrite _ n byte => n < 2 && byte < 256
  | .uartTxByteDone n => n < 2
  | .uartFifoRead a n word port => n < 2 && word < 4 && portActor a port
  | .i2cTransaction _ addr wlen rlen => addr < 128 && wlen < 16 && rlen < 16
  | .i2cDone _ _ _ => true
  | .spiTransfer _ len _ => len < 64
  | .spiDone _ => true
  | .spiDisable _ => true
  | .gpioSet _ mask => mask < 65536
  | .gpioClr _ mask => mask < 65536
  | .gpioInputChange levels => levels < 65536
  | .faultInject _ code cls chan detail => code < 65536 && cls < 4 && chan < 65536 && detail < 65536
  | .fatalWarmReset => true
  | .retryGrant ch => chanOk ch
  | .faultQueueRead _ => true
  | .channelReenable _ ch => chanOk ch && chanRetirable ch
  | .cryptoKat p _ => p < 8
  | .thermalWarn k => k < 4
  | .thermalTrip => true
  | .timeCoreParity => true
  | .sramError target _ => target == 2 || target == 3 || target == 10
  | .counterOverflow n k => (n < 8 && k < 9) || (n == 8 && k < 240)
  | .tick pins => pins < 8
  | .pcieLinkUp speed width => 1 ≤ speed && speed ≤ 4 && (width == 1 || width == 2 || width == 4 || width == 8)
  | .extensionCommit i => i < 12
  | .derivedAgain k => k < 8
  | .fetchTimeout => true
  | .dieTempRefresh _ _ _ _ => true
  | .fuseSupplyLost => true
  | .debugAccess _ _ _ _ => true
  | .tapInstruction code => code < 256

/-- The actor is one that R161 and R391 know, and byte operands are bytes. -/
def Instr.sane : Instr → Bool
  | .coldReset => true
  | .powerUp => true
  | .romReady => true
  | .warmReset => true
  | .warmResetCmd a _ => a.ok
  | .supplyBrownout => true
  | .supplyRecovery => true
  | .pcieReset => true
  | .functionLevelReset _ => true
  | .registerWrite a _ _ => a.ok
  | .rcCounterRead a _ => a.ok
  | .rwsCommit _ _ _ => true
  | .blockDrainDone _ _ => true
  | .engineSecond => true
  | .leap => true
  | .smearStart => true
  | .smearEnd => true
  | .timeSet a _ => a.ok
  | .stepOffsetWrite a _ => a.ok
  | .stepAccept a _ _ => a.ok
  | .stepApplied => true
  | .slideOffsetWrite a _ => a.ok
  | .slideComplete => true
  | .boundIntervalEnd => true
  | .bgCoefCommit => true
  | .pulseArm _ => true
  | .pulseLeadingEdge _ => true
  | .pulseTrailingEdge _ => true
  | .pulseDisable _ => true
  | .edgeArrival _ _ _ _ _ _ _ => true
  | .intervalTimeout _ => true
  | .tmChannelEnable _ => true
  | .tmChannelDisable _ => true
  | .offsetCalDone _ _ => true
  | .calHit _ _ _ _ _ _ => true
  | .calTableComplete _ => true
  | .calStale _ => true
  | .tmFifoRead a _ _ _ => a.ok
  | .eventDmaPost _ => true
  | .loopEdge _ _ _ _ _ => true
  | .loscLost => true
  | .loscPresent => true
  | .warmWindowEnd => true
  | .rootRelockCmd a => a.ok
  | .bandSweepCmd a => a.ok
  | .bandSweepComplete _ _ => true
  | .rootLossOfLock => true
  | .rootLockDeclared => true
  | .coreClockSwitchback => true
  | .relockDone => true
  | .rootLockFail => true
  | .laneFreezeTimeout _ _ => true
  | .safeMeasWindow _ => true
  | .opllEnable _ => true
  | .opllMultWrite a _ _ => a.ok
  | .opllLocked _ _ => true
  | .opllSettled _ => true
  | .opllLockFail _ => true
  | .ckoEnable _ => true
  | .ckoDisable _ => true
  | .ckoGuardSuppress _ _ _ => true
  | .ckoAlignStart _ => true
  | .ckoAligned _ => true
  | .refPpsMeasurement _ => true
  | .refPktExchange _ => true
  | .refItlMeasurement _ => true
  | .rsTodWrite a _ _ _ => a.ok
  | .todLabelTimeout _ => true
  | .todRecordTimeout _ => true
  | .freqWindowEnd => true
  | .refQualified _ => true
  | .refPresenceLoss _ => true
  | .refRequalify _ => true
  | .refDisqualify a _ => a.ok
  | .refAccept a _ => a.ok
  | .clrDispute a _ => a.ok
  | .clrComp a _ => a.ok
  | .refEnable a _ => a.ok
  | .refDisable a _ => a.ok
  | .forceSelect a _ _ => a.ok
  | .lockAchieved => true
  | .lockWindowExceeded => true
  | .hoEnable a => a.ok
  | .hoSummingDone => true
  | .holdReady => true
  | .hoTempBoardWrite a _ => a.ok
  | .tempStale => true
  | .plausAgreement _ _ => true
  | .add _ => true
  | .sub _ => true
  | .andV _ => true
  | .orV _ => true
  | .xorV _ => true
  | .shl _ => true
  | .shr _ => true
  | .asr _ => true
  | .minV _ => true
  | .maxV _ => true
  | .minu _ => true
  | .maxu _ => true
  | .mul _ => true
  | .mulhs _ => true
  | .mulhu _ => true
  | .clz _ => true
  | .addc _ => true
  | .subc _ => true
  | .addi _ => true
  | .subi _ => true
  | .andi _ => true
  | .ori _ => true
  | .xori _ => true
  | .ldi _ => true
  | .shli _ => true
  | .shri _ => true
  | .asri _ => true
  | .macs _ => true
  | .macu _ => true
  | .msbs _ => true
  | .msbu _ => true
  | .clracc _ => true
  | .accmov _ => true
  | .accset _ => true
  | .accadd _ => true
  | .accw _ => true
  | .accwr _ => true
  | .accrd _ => true
  | .tnow _ => true
  | .taddn _ => true
  | .tmov _ => true
  | .tadd _ => true
  | .taddf _ => true
  | .tdifn _ => true
  | .tdiff _ => true
  | .tcmp _ => true
  | .tsec _ => true
  | .tsech _ => true
  | .tns _ => true
  | .tfrac _ => true
  | .twnc _ => true
  | .tset _ => true
  | .tseth _ => true
  | .textw _ => true
  | .waitt _ => true
  | .timeWaitRelease _ => true
  | .arm _ => true
  | .disarm _ => true
  | .timeCompareFire _ _ => true
  | .waite _ => true
  | .eventWaitRelease _ => true
  | .inPort _ => true
  | .outPort _ => true
  | .sacq _ => true
  | .srel _ => true
  | .kstage _ => true
  | .kcommit _ => true
  | .kinval _ => true
  | .kstat _ => true
  | .keyInstrComplete _ => true
  | .rpush _ => true
  | .rpop _ => true
  | .ringInstrComplete _ => true
  | .rdcnt _ => true
  | .ldw _ => true
  | .ldh _ => true
  | .ldhu _ => true
  | .ldb _ => true
  | .ldbu _ => true
  | .stw _ => true
  | .sth _ => true
  | .stb _ => true
  | .ldt _ => true
  | .stt _ => true
  | .mldw _ => true
  | .mstw _ => true
  | .mldt _ => true
  | .mstt _ => true
  | .matrixTxnComplete _ _ => true
  | .bif _ => true
  | .call _ => true
  | .jr _ => true
  | .callr _ => true
  | .ret _ => true
  | .trap _ => true
  | .nop _ => true
  | .rfe _ => true
  | .halt _ => true
  | .fence _ => true
  | .fenceRelease _ => true
  | .watchdog _ => true
  | .seqEnable a _ => a.ok
  | .seqDisable a _ => a.ok
  | .seqReset a _ => a.ok
  | .hostMailboxSend a _ _ => a.ok
  | .semAcquire a _ => a.ok
  | .semRelease a _ => a.ok
  | .semForceRelease a _ => a.ok
  | .imageLoad a => a.ok
  | .launch a _ => a.ok
  | .iramWrite a _ _ _ => a.ok
  | .iramLock a _ => a.ok
  | .hostExtend a => a.ok
  | .modeReqService a => a.ok
  | .modeReqTest a => a.ok
  | .modeReqRecovery a => a.ok
  | .quoteRequest a _ => a.ok
  | .quoteSigned => true
  | .attestRequest => true
  | .idReady _ => true
  | .ksStage a _ => a.ok
  | .ksDiscard a => a.ok
  | .ksCommit a => a.ok
  | .genDeriveComplete => true
  | .ksInvalidate a _ => a.ok
  | .exportBlob a _ => a.ok
  | .loadBlob a _ => a.ok
  | .rewrapBlob a => a.ok
  | .ksCmdComplete => true
  | .tagSweep _ => true
  | .statementRequest a _ _ => a.ok
  | .statementSigned => true
  | .lcPrepare a _ _ => a.ok
  | .lcPrepared => true
  | .lcCommit a _ _ => a.ok
  | .lcFusesBlown => true
  | .ethLaneEnable _ => true
  | .laneCalComplete _ _ _ _ _ => true
  | .ethLinkUp _ _ => true
  | .ethTrainFail _ => true
  | .ethLinkLoss _ _ => true
  | .itlLaneEnable _ => true
  | .itlSuperwordTx _ _ _ => true
  | .itlSuperwordRx _ _ _ _ _ => true
  | .trainRequestRepeat _ => true
  | .itlTrainFail _ => true
  | .itlWindowEnd _ => true
  | .macFrameRx _ bytes _ _ _ _ _ _ _ _ _ => isBytes bytes
  | .pauseHoldExpire _ => true
  | .fcRefresh _ => true
  | .macFrameBoundary _ _ _ => true
  | .agePromote _ => true
  | .verifyTimeout _ => true
  | .launchHandover _ => true
  | .launchClearInstant _ => true
  | .launchRelease _ => true
  | .mute a _ => a.ok
  | .muteComplete _ => true
  | .unmute a _ => a.ok
  | .wakeSignal _ _ => true
  | .pipelineFrame _ => true
  | .ntpRequest => true
  | .sealComplete _ => true
  | .announceCmd a _ => a.ok
  | .announceRound => true
  | .cookieMint a _ => a.ok
  | .cookieMintDone => true
  | .ptpSyncTimer _ _ _ => true
  | .ptpAnnounceTimer _ _ _ => true
  | .ptpDelayReq => true
  | .ptpPdelayReq => true
  | .ptpGrantRequest => true
  | .ptpGrantCancel => true
  | .grantExpire _ _ => true
  | .pktDelayReqTimer _ => true
  | .pktSyncRx _ => true
  | .pktGrantRenew _ => true
  | .receiptRequest => true
  | .receiptPlace => true
  | .journalWriteDone => true
  | .mirrorTimeout => true
  | .tallyBoundary => true
  | .batchClose => true
  | .batchSigned => true
  | .archiveStream => true
  | .rcDisable a => a.ok
  | .subRegister a => a.ok
  | .subUpdate a => a.ok
  | .subRemove a => a.ok
  | .subRead a => a.ok
  | .subSuspend a => a.ok
  | .subResume a => a.ok
  | .breathTx => true
  | .breathRx => true
  | .leaseExpire => true
  | .witnessPulse => true
  | .witnessPartnerPulse _ => true
  | .witnessFault => true
  | .partnerSilent => true
  | .mirrorRx => true
  | .confirmRx => true
  | .recordRx => true
  | .fetchRx => true
  | .joinRx => true
  | .sublastRx => true
  | .grantRx => true
  | .epochEndRx => true
  | .progRx => true
  | .swapProposeRx => true
  | .swapAcceptRx => true
  | .swapRefuseRx => true
  | .handoverRx => true
  | .arbRx => true
  | .verdictRx => true
  | .messageResend => true
  | .epochCut => true
  | .epochDiscard => true
  | .promoteCmd a => a.ok
  | .demoteCmd a => a.ok
  | .demotionComplete => true
  | .swapNow a => a.ok
  | .clrUnfit a => a.ok
  | .selfCheck _ _ _ => true
  | .breathGuard => true
  | .disagreeClear => true
  | .unfitClear => true
  | .swapPropose => true
  | .swapExecute => true
  | .twinDisable a => a.ok
  | .pcieInboundRequest _ _ _ _ _ bytes _ => isBytes bytes
  | .pcieAtomicOp _ _ _ _ _ _ _ => true
  | .bridgeTimeout a _ _ => a.ok
  | .controllerReset a _ => a.ok
  | .controllerDrainDone _ => true
  | .dramInit a _ => a.ok
  | .dramInitDone _ _ => true
  | .dramZero a _ => a.ok
  | .dramZeroDone _ => true
  | .dramReadError _ _ => true
  | .patrolScrub _ _ => true
  | .ringEnable a _ => a.ok
  | .ringProdWrite a _ _ => a.ok
  | .ringConsWrite a _ _ => a.ok
  | .ringRestart a _ => a.ok
  | .ringConsume _ => true
  | .ringProduce _ _ _ _ _ _ _ _ _ _ => true
  | .stagingForward _ => true
  | .ringIrq _ => true
  | .hostDmaTimeout _ => true
  | .msixUnmask _ _ => true
  | .uartRxByte _ _ _ _ _ => true
  | .uartTxWrite a _ _ => a.ok
  | .uartTxByteDone _ => true
  | .uartFifoRead a _ _ _ => a.ok
  | .i2cTransaction a _ _ _ => a.ok
  | .i2cDone _ _ data => isBytes data
  | .spiTransfer a _ _ => a.ok
  | .spiDone data => isBytes data
  | .spiDisable a => a.ok
  | .gpioSet a _ => a.ok
  | .gpioClr a _ => a.ok
  | .gpioInputChange _ => true
  | .faultInject a _ _ _ _ => a.ok
  | .fatalWarmReset => true
  | .retryGrant _ => true
  | .faultQueueRead a => a.ok
  | .channelReenable a _ => a.ok
  | .cryptoKat _ _ => true
  | .thermalWarn _ => true
  | .thermalTrip => true
  | .timeCoreParity => true
  | .sramError _ _ => true
  | .counterOverflow _ _ => true
  | .tick _ => true
  | .pcieLinkUp _ _ => true
  | .extensionCommit _ => true
  | .derivedAgain _ => true
  | .fetchTimeout => true
  | .dieTempRefresh _ _ _ _ => true
  | .fuseSupplyLost => true
  | .debugAccess _ _ _ _ => true
  | .tapInstruction _ => true
/-- A well-formed command. -/
def Instr.wf (c : Instr) : Bool := c.inRange && c.sane

end Sys2Proof
end

