-- ==== Sys2Proof/Certificates/Slice0/Obligations.lean ====
section
/-! DEFINITION. The statements for the provers. Each definition named Obligations.<Name> is one; the definitions before a group
of them are the vocabulary they share. -/

open Sys2Proof Sys2Proof.Machine

/-! ### The whole machine -/

/-- The command at the front of the queue runs, on the state with the queue's rest (the step of a block). -/
def Obligations.StepRunsFrontCommand : Prop :=
  ∀ (s : State) (c : Instr) (cs : List Instr), s.pending = c :: cs → step s = exec c { s with pending := cs }

/-- Right after reset the invariant holds: both memories in canonical form, the fault queue well formed. -/
def Obligations.ResetInvariant : Prop := State.reset.Inv

/-- The invariant is kept by every step, from every state that has it: both memories stay in the canonical form, and the fault
queue holds at most 64 records (R428, R431), at most one of each channel (R429). -/
def Obligations.StepKeepsInvariant : Prop := ∀ s t : State, s.Inv → step s = .next t → t.Inv

/-- No command touches the queue of waiting commands, takes a free value twice, or takes back anything the engine has sent. -/
def Obligations.CommandsOnlyGoForward : Prop :=
  ∀ (c : Instr) (s t : State), exec c s = .next t → t.pending = s.pending ∧ s.Later t

/-- A command whose units, indices and lengths are in range has a next state from every state; any other names a unit the engine
does not have and stops (the model's choice, log entry 1). No command is refused. -/
def Obligations.RangeDecidesCompletion : Prop :=
  ∀ (c : Instr) (s : State),
    (c.inRange = true → ∃ t, exec c s = .next t) ∧ (c.inRange = false → exec c s = .fault .noSuchUnit)

/-- After reset: engine time zero (R46), the core clocks on SAFE_OSC and engine time disturbed (R22, R48), mode BOOT (R2), no
sequencer enabled, sequencer entry and vector at their table values, the fault queue empty, every output and command queue
empty, and every register field but those of resetRegs at the reset value of its table. -/
def Obligations.ResetState : Prop :=
  State.reset.ti.now = 0 ∧ State.reset.safe = true ∧ State.reset.flag TC_STATUS_DISTURBED 0 = true ∧ State.reset.mode = 0 ∧
  (∀ n, State.reset.flag SQ_CTL_EN n = false ∧ State.reset.pc n = 0x100 ∧ State.reset.seq n = Seqr.init) ∧
  State.reset.fm.queue = [] ∧ State.reset.out = [] ∧ State.reset.pending = [] ∧ State.reset.mem = [] ∧
  (∀ (f : Fld) (n : Nat), (∀ p ∈ resetRegs, p.1 ≠ f.key n) → State.reset.fld f n = f.rst) ∧
  (∀ n, 4 ≤ n → n < 8 → State.reset.fld RS_LOSS_MS_MS n = if n < 6 then 1000 else 1)

/-! ### Sequencer instructions: the vocabulary -/

namespace Sys2Proof.Machine

/-- Sequencer `n` is running, in no wait, and the words at its PC are instruction `i`, an `m`, none of whose registers waits for
a matrix load (R155, R167, R180). -/
structure Ready (s : State) (n : Nat) (m : SeqOp) (i : Ins) : Prop where
  unit    : n < 8
  issues  : s.canIssue n = true
  at_     : s.insAt n = some i
  is_     : i.row.m = m
  free    : i.blocked (s.seq n) = false

/-- What an instruction of sequencer `n` that reaches nothing else leaves: PC (modulo 65,536, R180), every register field but PC,
the other sequencers, and all the rest of the engine but the performance counters' events of this tick. -/
structure SeqFrame (s t : State) (n pc : Nat) : Prop where
  pc     : t.pc n = pc % 65536
  fields : ∀ f k, f.key k ≠ SQ_PC_PC.key n → t.fld f k = s.fld f k
  others : ∀ k, k ≠ n → t.seq k = s.seq k
  rest   : { t with regs := s.regs, seqs := s.seqs, evc := s.evc } = s

/-- The four flags Z, N, C, V. -/
def Seqr.flags (q : Seqr) : Bool × Bool × Bool × Bool := (q.zf, q.nf, q.cf, q.vf)

/-- vD takes `w` (v0 stays zero), the flags become `fl`, and nothing else of the sequencer changes. -/
structure ValueFrame (q q' : Seqr) (d : Nat) (w : Word) (fl : Bool × Bool × Bool × Bool) : Prop where
  dest   : q'.rv d = if d = 0 then 0 else w
  others : ∀ k, k ≠ d → q'.rv k = q.rv k
  flags  : q'.flags = fl
  rest   : { q' with v := q.v, zf := q.zf, nf := q.nf, cf := q.cf, vf := q.vf } = q

/-- tD takes `x`, the flags become `fl`, and nothing else of the sequencer changes. -/
structure TimeFrame (q q' : Seqr) (d x : Nat) (fl : Bool × Bool × Bool × Bool) : Prop where
  dest   : q'.rt d = x
  others : ∀ k, k ≠ d → q'.rt k = q.rt k
  flags  : q'.flags = fl
  rest   : { q' with t := q.t, zf := q.zf, nf := q.nf, cf := q.cf, vf := q.vf } = q

/-- accD takes `x`, the flags become `fl`, and nothing else of the sequencer changes. -/
structure AccFrame (q q' : Seqr) (d : Nat) (x : Int) (fl : Bool × Bool × Bool × Bool) : Prop where
  dest   : q'.ra d = x
  others : ∀ k, k ≠ d → q'.ra k = q.ra k
  flags  : q'.flags = fl
  rest   : { q' with acc := q.acc, zf := q.zf, nf := q.nf, cf := q.cf, vf := q.vf } = q

/-- Flags of a result: Z and N from it, C and V as they were (R185). -/
def zn (q : Seqr) (r : Word) : Bool × Bool × Bool × Bool := (r == 0, r.msb, q.cf, q.vf)

/-- Whenever it is ready, the instruction completes: `res` into vD, the flags `fl` of the instruction, the sequencer before it
and the result; PC past it; nothing else changed. -/
def ValueOp (c : Nat → Instr) (m : SeqOp) (res : Ins → State → Seqr → Word)
    (fl : Ins → Seqr → Word → Bool × Bool × Bool × Bool) : Prop :=
  ∀ (s : State) (n : Nat) (i : Ins), Ready s n m i → Completes (exec (c n) s) fun t =>
    SeqFrame s t n (s.pc n + i.len) ∧
    ValueFrame (s.seq n) (t.seq n) i.d (res i s (s.seq n)) (fl i (s.seq n) (res i s (s.seq n)))

/-- The same for a time register. -/
def TimeOp (c : Nat → Instr) (m : SeqOp) (res : Ins → State → Seqr → Nat)
    (fl : Ins → Seqr → Bool × Bool × Bool × Bool) : Prop :=
  ∀ (s : State) (n : Nat) (i : Ins), Ready s n m i → Completes (exec (c n) s) fun t =>
    SeqFrame s t n (s.pc n + i.len) ∧ TimeFrame (s.seq n) (t.seq n) i.d (res i s (s.seq n)) (fl i (s.seq n))

/-- The same for an accumulator. -/
def AccOp (c : Nat → Instr) (m : SeqOp) (res : Ins → Seqr → Int) (fl : Ins → Seqr → Bool × Bool × Bool × Bool) : Prop :=
  ∀ (s : State) (n : Nat) (i : Ins), Ready s n m i → Completes (exec (c n) s) fun t =>
    SeqFrame s t n (s.pc n + i.len) ∧ AccFrame (s.seq n) (t.seq n) i.d (res i (s.seq n)) (fl i (s.seq n))

/-- Flags of a sum or difference: Z and N from the result, `c` and `v` (R185). -/
def zncv (c v : Seqr → Word → Word → Bool) (x y : Ins → Seqr → Word) (i : Ins) (q : Seqr) (r : Word) :
    Bool × Bool × Bool × Bool := (r == 0, r.msb, c q (x i q) (y i q), v q (x i q) (y i q))

/-- The operands: vA, vB, the S and Z immediates. -/
def opA (i : Ins) (q : Seqr) : Word := q.rv i.a
def opB (i : Ins) (q : Seqr) : Word := q.rv i.b
def opS (i : Ins) (_ : Seqr) : Word := i.simm
def opZ (i : Ins) (_ : Seqr) : Word := i.zimm

/-- Signed overflow of an exact result (R185). -/
def ovf (x : Int) : Bool := decide (x < -2 ^ 31 ∨ 2 ^ 31 ≤ x)

/-- An accumulator kept to −2^95 to 2^95 − 1 (R191), and whether that changed it. -/
def clampAcc (x : Int) : Int := max (-2 ^ 95) (min (2 ^ 95 - 1) x)
def satV (x : Int) (q : Seqr) : Bool × Bool × Bool × Bool := (q.zf, q.nf, q.cf, decide (clampAcc x ≠ x))

/-- A TIME128 value as a time instruction leaves it: its nanoseconds are in range, the excess carried into the seconds. -/
def inRange128 (x : Nat) : Nat := if time128Ok x = true then x % 2 ^ 128 else toTime128 (ofTime128 x % timeMod)

/-- A value kept to signed 32 bits (R192, R194). -/
def clamp32 (x : Int) : Int := max (-2 ^ 31) (min (2 ^ 31 - 1) x)

end Sys2Proof.Machine

/-! ### Sequencer instructions: arithmetic and logic -/

/-- ADD, SUB, ADDC, SUBC, ADDI and SUBI: the sum or difference modulo 2^32, and the flags of R185: C the carry out of bit 31 of a
sum and the absence of a borrow of a difference, V signed overflow. -/
def Obligations.AddAndSubtract : Prop :=
  ValueOp .add .add (fun i _ q => opA i q + opB i q)
    (zncv (fun _ a b => decide (2 ^ 32 ≤ a.toNat + b.toNat)) (fun _ a b => ovf (a.toInt + b.toInt)) opA opB) ∧
  ValueOp .addi .addi (fun i _ q => opA i q + opS i q)
    (zncv (fun _ a b => decide (2 ^ 32 ≤ a.toNat + b.toNat)) (fun _ a b => ovf (a.toInt + b.toInt)) opA opS) ∧
  ValueOp .addc .addc (fun i _ q => opA i q + opB i q + BitVec.ofNat 32 (b2n q.cf))
    (zncv (fun q a b => decide (2 ^ 32 ≤ a.toNat + b.toNat + b2n q.cf))
      (fun q a b => ovf (a.toInt + b.toInt + b2n q.cf)) opA opB) ∧
  ValueOp .sub .sub (fun i _ q => opA i q - opB i q)
    (zncv (fun _ a b => decide (b.toNat ≤ a.toNat)) (fun _ a b => ovf (a.toInt - b.toInt)) opA opB) ∧
  ValueOp .subi .subi (fun i _ q => opA i q - opS i q)
    (zncv (fun _ a b => decide (b.toNat ≤ a.toNat)) (fun _ a b => ovf (a.toInt - b.toInt)) opA opS) ∧
  ValueOp .subc .subc (fun i _ q => opA i q - opB i q - BitVec.ofNat 32 (1 - b2n q.cf))
    (zncv (fun q a b => decide (b.toNat + (1 - b2n q.cf) ≤ a.toNat))
      (fun q a b => ovf (a.toInt - b.toInt - (1 - b2n q.cf : Nat))) opA opB)

/-- AND, OR, XOR, the minima and maxima, the products, and their immediate forms: the result, Z and N from it, C and V as they were
(R188, R190); LDI sets no flag. CLZ: the number of leading zero bits of a, 0 to 32 (R188). -/
def Obligations.LogicExtremesProducts : Prop :=
  (ValueOp .andV .and_ (fun i _ q => opA i q &&& opB i q) (fun _ => zn) ∧
  ValueOp .orV .or_ (fun i _ q => opA i q ||| opB i q) (fun _ => zn) ∧
  ValueOp .xorV .xor_ (fun i _ q => opA i q ^^^ opB i q) (fun _ => zn) ∧
  ValueOp .andi .andi (fun i _ q => opA i q &&& opZ i q) (fun _ => zn) ∧
  ValueOp .ori .ori (fun i _ q => opA i q ||| opZ i q) (fun _ => zn) ∧
  ValueOp .xori .xori (fun i _ q => opA i q ^^^ opZ i q) (fun _ => zn) ∧
  ValueOp .ldi .ldi (fun i _ q => opS i q) (fun _ q _ => q.flags) ∧
  ValueOp .minV .min_ (fun i _ q => if (opA i q).toInt < (opB i q).toInt then opA i q else opB i q) (fun _ => zn) ∧
  ValueOp .maxV .max_ (fun i _ q => if (opA i q).toInt < (opB i q).toInt then opB i q else opA i q) (fun _ => zn) ∧
  ValueOp .minu .minu (fun i _ q => if (opA i q).toNat < (opB i q).toNat then opA i q else opB i q) (fun _ => zn) ∧
  ValueOp .maxu .maxu (fun i _ q => if (opA i q).toNat < (opB i q).toNat then opB i q else opA i q) (fun _ => zn) ∧
  ValueOp .mul .mul (fun i _ q => BitVec.ofNat 32 ((opA i q).toNat * (opB i q).toNat)) (fun _ => zn) ∧
  ValueOp .mulhs .mulhs (fun i _ q => BitVec.ofInt 32 ((opA i q).toInt * (opB i q).toInt / 2 ^ 32)) (fun _ => zn) ∧
  ValueOp .mulhu .mulhu (fun i _ q => BitVec.ofNat 32 ((opA i q).toNat * (opB i q).toNat / 2 ^ 32)) (fun _ => zn)) ∧
  (∀ (s : State) (n : Nat) (i : Ins), Ready s n .clz i → ∃ k ≤ 32,
    ((s.seq n).rv i.a).toNat < 2 ^ (32 - k) ∧ (k < 32 → 2 ^ (31 - k) ≤ ((s.seq n).rv i.a).toNat) ∧
    Completes (exec (.clz n) s) fun t => SeqFrame s t n (s.pc n + i.len) ∧
      ValueFrame (s.seq n) (t.seq n) i.d (BitVec.ofNat 32 k) (zn (s.seq n) (BitVec.ofNat 32 k)))

namespace Sys2Proof.Machine

/-- Amounts of the register and the immediate shifts. -/
def amtB (i : Ins) (q : Seqr) : Nat := (q.rv i.b).toNat % 64
def amtI (i : Ins) (_ : Seqr) : Nat := i.imm

/-- A shift by `k`: with amount 0 C keeps its value; else C is the bit `out` names, when it names one (R189). -/
def shiftFlags (k : Ins → Seqr → Nat) (out : Word → Nat → Bool) (i : Ins) (q : Seqr) (r : Word) :
    Bool × Bool × Bool × Bool := (r == 0, r.msb, if k i q = 0 then q.cf else out (q.rv i.a) (k i q), q.vf)

/-- The last bit shifted out, by amounts of 1 to 63 (R189). -/
def outL (a : Word) (k : Nat) : Bool := decide (k ≤ 32) && a.getLsbD (32 - k)
def outR (a : Word) (k : Nat) : Bool := decide (k ≤ 32) && a.getLsbD (k - 1)
def outA (a : Word) (k : Nat) : Bool := if k ≤ 32 then a.getLsbD (k - 1) else a.getLsbD 31

end Sys2Proof.Machine

/-- SHL, SHR, ASR and their immediate forms: the shift by b[5:0] or the immediate amount, and C by R189. -/
def Obligations.Shifts : Prop :=
  ValueOp .shl .shl (fun i _ q => BitVec.ofNat 32 ((opA i q).toNat * 2 ^ amtB i q)) (shiftFlags amtB outL) ∧
  ValueOp .shli .shli (fun i _ q => BitVec.ofNat 32 ((opA i q).toNat * 2 ^ amtI i q)) (shiftFlags amtI outL) ∧
  ValueOp .shr .shr (fun i _ q => BitVec.ofNat 32 ((opA i q).toNat / 2 ^ amtB i q)) (shiftFlags amtB outR) ∧
  ValueOp .shri .shri (fun i _ q => BitVec.ofNat 32 ((opA i q).toNat / 2 ^ amtI i q)) (shiftFlags amtI outR) ∧
  ValueOp .asr .asr (fun i _ q => BitVec.ofInt 32 ((opA i q).toInt / 2 ^ amtB i q)) (shiftFlags amtB outA) ∧
  ValueOp .asri .asri (fun i _ q => BitVec.ofInt 32 ((opA i q).toInt / 2 ^ amtI i q)) (shiftFlags amtI outA)

/-- The accumulator instructions: exact products, sums and shifts, saturated to −2^95 to 2^95 − 1, with V set exactly when the
result saturated and no other flag changed (R191). ACCW, ACCWR and ACCRD. ACCW gives a 32-bit word of the accumulator's 96 bits;
ACCWR replaces it, and an accumulator put together from its three words is the accumulator; ACCRD gives the accumulator scaled by
2^sh, rounded when ROUND is set, saturated to signed 32 bits, with Z, N and V from that (R191, R192). -/
def Obligations.AccumulatorInstructions : Prop :=
  (AccOp .macs .macs (fun i q => clampAcc (q.ra i.d + (opA i q).toInt * (opB i q).toInt))
    (fun i q => satV (q.ra i.d + (opA i q).toInt * (opB i q).toInt) q) ∧
  AccOp .macu .macu (fun i q => clampAcc (q.ra i.d + ((opA i q).toNat * (opB i q).toNat : Nat)))
    (fun i q => satV (q.ra i.d + ((opA i q).toNat * (opB i q).toNat : Nat)) q) ∧
  AccOp .msbs .msbs (fun i q => clampAcc (q.ra i.d - (opA i q).toInt * (opB i q).toInt))
    (fun i q => satV (q.ra i.d - (opA i q).toInt * (opB i q).toInt) q) ∧
  AccOp .msbu .msbu (fun i q => clampAcc (q.ra i.d - ((opA i q).toNat * (opB i q).toNat : Nat)))
    (fun i q => satV (q.ra i.d - ((opA i q).toNat * (opB i q).toNat : Nat)) q) ∧
  AccOp .accadd .accadd (fun i q => clampAcc (q.ra i.d + (opA i q).toInt * 2 ^ (i.imm % 64)))
    (fun i q => satV (q.ra i.d + (opA i q).toInt * 2 ^ (i.imm % 64)) q) ∧
  AccOp .accset .accset (fun i q => (opA i q).toInt * 2 ^ (i.imm % 64)) (fun _ q => q.flags) ∧
  AccOp .clracc .clracc (fun _ _ => 0) (fun _ q => q.flags) ∧
  AccOp .accmov .accmov (fun i q => q.ra i.a) (fun _ q => q.flags)) ∧
  (ValueOp .accw .accw (fun i _ q => BitVec.ofInt 32 (q.ra i.a / 2 ^ (32 * (i.imm % 4)))) (fun _ q _ => q.flags) ∧
  (∀ (s : State) (n : Nat) (i : Ins), Ready s n .accwr i → Completes (exec (.accwr n) s) fun t =>
    SeqFrame s t n (s.pc n + i.len) ∧ AccFrame (s.seq n) (t.seq n) i.d ((t.seq n).ra i.d) (s.seq n).flags ∧
    -2 ^ 95 ≤ (t.seq n).ra i.d ∧ (t.seq n).ra i.d < 2 ^ 95 ∧
    ∀ k < 3, accWord ((t.seq n).ra i.d) k =
      if k = i.imm % 4 then (s.seq n).rv i.a else accWord ((s.seq n).ra i.d) k) ∧
  ValueOp .accrd .accrd
    (fun i _ q => BitVec.ofInt 32 (clamp32
      ((q.ra i.a + if bitOf i.imm 7 = true ∧ 0 < i.imm % 128 then 2 ^ (i.imm % 128 - 1) else 0) / 2 ^ (i.imm % 128))))
    (fun i q r =>
      let x := (q.ra i.a + if bitOf i.imm 7 = true ∧ 0 < i.imm % 128 then 2 ^ (i.imm % 128 - 1) else 0) / 2 ^ (i.imm % 128)
      (r == 0, r.msb, q.cf, decide (clamp32 x ≠ x))))

/-! ### Sequencer instructions: time -/

/-- TNOW loads the engine time at the start of the tick; TADDN, TADD and TADDF add signed nanoseconds, or signed 2^-16 ns, modulo
2^48 seconds; TMOV copies; TSETH replaces seconds [47:32]; nanoseconds that a load left out of range are carried into the seconds
(the model's choice, log entry 46); none changes a flag. TSET builds a time of seconds and nanoseconds and
clears V, and with 1,000,000,000 nanoseconds or more sets V and leaves tD (R193, R194). TEXTW gives the instant whose WNC nanosecond
count is b, whose fraction is zero, and which lies within −2^31 to 2^31 − 1 ns of tA truncated to a whole nanosecond (R195), for a
tA in TIME128 whose result stays inside the range of engine time. -/
def Obligations.TimeRegisters : Prop :=
  (TimeOp .tnow .tnow (fun _ s _ => toTime128 s.now) (fun _ q => q.flags) ∧
  TimeOp .tmov .tmov (fun i _ q => inRange128 (q.rt i.a)) (fun _ q => q.flags) ∧
  TimeOp .taddn .taddn (fun i _ q => toTime128 (((ofTime128 (q.rt i.a) + (opS i q).toInt * nsU) % timeMod).toNat))
    (fun _ q => q.flags) ∧
  TimeOp .tadd .tadd (fun i _ q => toTime128 (((ofTime128 (q.rt i.a) + (opB i q).toInt * nsU) % timeMod).toNat))
    (fun _ q => q.flags) ∧
  TimeOp .taddf .taddf (fun i _ q => toTime128 (((ofTime128 (q.rt i.a) + (opB i q).toInt * 2 ^ 32) % timeMod).toNat))
    (fun _ q => q.flags) ∧
  TimeOp .tseth .tseth (fun i _ q => inRange128 (q.rt i.d) % 2 ^ 112 + (opA i q).toNat % 2 ^ 16 * 2 ^ 112)
    (fun _ q => q.flags) ∧
  TimeOp .tset .tset
    (fun i _ q => if 1000000000 ≤ (opB i q).toNat then q.rt i.d
      else (opA i q).toNat * 2 ^ 80 + (opB i q).toNat * 2 ^ 48)
    (fun i q => (q.zf, q.nf, q.cf, decide (1000000000 ≤ (opB i q).toNat)))) ∧
  (∀ (s : State) (n : Nat) (i : Ins), Ready s n .textw i → time128Ok ((s.seq n).rt i.a) = true → (s.seq n).rt i.a < 2 ^ 128 →
    2 ^ 31 ≤ ofTime128 ((s.seq n).rt i.a) / nsU → ofTime128 ((s.seq n).rt i.a) / nsU + 2 ^ 31 < timeMod / nsU →
    ∃ d : Int, -2 ^ 31 ≤ d ∧ d < 2 ^ 31 ∧ Completes (exec (.textw n) s) fun t =>
      SeqFrame s t n (s.pc n + i.len) ∧
      TimeFrame (s.seq n) (t.seq n) i.d ((t.seq n).rt i.d) (s.seq n).flags ∧
      (ofTime128 ((t.seq n).rt i.d) : Int) = (ofTime128 ((s.seq n).rt i.a) / nsU : Nat) * nsU + d * nsU ∧
      wncOf (ofTime128 ((t.seq n).rt i.d)) = ((s.seq n).rv i.b).toNat * 2 ^ 16)

/-- TDIFN and TDIFF give the difference of two times rounded down to nanoseconds, or to 2^-16 ns, saturated to signed 32 bits,
with Z, N and V (V set exactly when it saturated). TCMP orders two times in Z, N, C and clears V. TSEC, TSECH, TNS, TFRAC and
TWNC read the parts of a time and change no flag (R194). -/
def Obligations.TimeValues : Prop :=
  ValueOp .tdifn .tdifn
    (fun i _ q => BitVec.ofInt 32 (clamp32 (((ofTime128 (q.rt i.a) : Int) - ofTime128 (q.rt i.b)) / nsU)))
    (fun i q r => (r == 0, r.msb, q.cf,
      decide (clamp32 (((ofTime128 (q.rt i.a) : Int) - ofTime128 (q.rt i.b)) / nsU) ≠
        ((ofTime128 (q.rt i.a) : Int) - ofTime128 (q.rt i.b)) / nsU))) ∧
  ValueOp .tdiff .tdiff
    (fun i _ q => BitVec.ofInt 32 (clamp32 (((ofTime128 (q.rt i.a) : Int) - ofTime128 (q.rt i.b)) / 2 ^ 32)))
    (fun i q r => (r == 0, r.msb, q.cf,
      decide (clamp32 (((ofTime128 (q.rt i.a) : Int) - ofTime128 (q.rt i.b)) / 2 ^ 32) ≠
        ((ofTime128 (q.rt i.a) : Int) - ofTime128 (q.rt i.b)) / 2 ^ 32))) ∧
  (∀ (s : State) (n : Nat) (i : Ins), Ready s n .tcmp i → Completes (exec (.tcmp n) s) fun t =>
    SeqFrame s t n (s.pc n + i.len) ∧
    (t.seq n).flags = (decide ((s.seq n).rt i.a = (s.seq n).rt i.b), decide ((s.seq n).rt i.a < (s.seq n).rt i.b),
      decide ((s.seq n).rt i.b ≤ (s.seq n).rt i.a), false) ∧
    { t.seq n with zf := (s.seq n).zf, nf := (s.seq n).nf, cf := (s.seq n).cf, vf := (s.seq n).vf } = s.seq n) ∧
  ValueOp .tsec .tsec (fun i _ q => BitVec.ofNat 32 (q.rt i.a / 2 ^ 80)) (fun _ q _ => q.flags) ∧
  ValueOp .tsech .tsech (fun i _ q => BitVec.ofNat 32 (q.rt i.a / 2 ^ 112 % 2 ^ 16)) (fun _ q _ => q.flags) ∧
  ValueOp .tns .tns (fun i _ q => BitVec.ofNat 32 (q.rt i.a / 2 ^ 48)) (fun _ q _ => q.flags) ∧
  ValueOp .tfrac .tfrac (fun i _ q => BitVec.ofNat 32 (q.rt i.a / 2 ^ 16)) (fun _ q _ => q.flags) ∧
  ValueOp .twnc .twnc (fun i _ q => BitVec.ofNat 32 (ofTime128 (q.rt i.a) / nsU)) (fun _ q _ => q.flags)

/-! ### Sequencer instructions: waiting -/

namespace Sys2Proof.Machine

/-- Sequencer `n` waits at its PC: `q'` is its state, SQ_STATUS_n.WAITING reads 1, every other register field, the other
sequencers and the rest of the engine are as they were. -/
structure Parked (s t : State) (n : Nat) (q' : Seqr) : Prop where
  seq     : t.seq n = q'
  pc      : t.pc n = s.pc n % 65536
  waiting : t.fld SQ_STATUS_WAITING n = 1
  fields  : ∀ f k, f.key k ≠ SQ_PC_PC.key n → f.key k ≠ SQ_STATUS_WAITING.key n → t.fld f k = s.fld f k
  others  : ∀ k, k ≠ n → t.seq k = s.seq k
  rest    : { t with regs := s.regs, seqs := s.seqs, evc := s.evc } = s

/-- Sequencer `n`, which was waiting, goes on past the waiting instruction: `q'` is its state, no wait, WAITING reads 0. -/
structure Resumed (s t : State) (n : Nat) (i : Ins) (q' : Seqr) : Prop where
  seq     : t.seq n = { q' with wait := .none_ }
  pc      : t.pc n = (s.pc n + i.len) % 65536
  waiting : t.fld SQ_STATUS_WAITING n = 0
  fields  : ∀ f k, f.key k ≠ SQ_PC_PC.key n → f.key k ≠ SQ_STATUS_WAITING.key n → t.fld f k = s.fld f k
  others  : ∀ k, k ≠ n → t.seq k = s.seq k
  rest    : { t with regs := s.regs, seqs := s.seqs } = s

end Sys2Proof.Machine

/-- WAITT and TIME_WAIT_RELEASE: an instant already reached sets C and the next instruction follows; else C clears and the sequencer
waits until engine time has reached the instant (R159). WAITE and EVENT_WAIT_RELEASE: when a masked event is pending the masked
pending bits are written to vD and the latched ones among them cleared; else the sequencer waits until one is (R157, R158). ARM
copies tA into comparator n and clears its latched event; DISARM disarms it and clears the event; the comparator latches event 28 +
n once engine time has reached it, and is then disarmed (R159, R196). -/
def Obligations.WaitsAndCompares : Prop :=
  ((∀ (s : State) (n : Nat) (i : Ins), Ready s n .waitt i → (s.seq n).rt i.a ≤ toTime128 s.now →
    Completes (exec (.waitt n) s) fun t =>
      SeqFrame s t n (s.pc n + i.len) ∧ t.seq n = { s.seq n with cf := true }) ∧
  (∀ (s : State) (n : Nat) (i : Ins), Ready s n .waitt i → toTime128 s.now < (s.seq n).rt i.a →
    Completes (exec (.waitt n) s) fun t =>
      Parked s t n { s.seq n with cf := false, wait := .time ((s.seq n).rt i.a) }) ∧
  (∀ (s : State) (n x : Nat) (i : Ins), n < 8 → (s.seq n).wait = .time x → (s.seq n).late = [] → s.insAt n = some i →
    (x ≤ toTime128 s.now → Completes (exec (.timeWaitRelease n) s) fun t => Resumed s t n i (s.seq n)) ∧
    (toTime128 s.now < x → exec (.timeWaitRelease n) s = .next s))) ∧
  ((∀ (s : State) (n : Nat) (i : Ins), Ready s n .waite i → s.evPending n &&& i.zimm.toNat ≠ 0 →
    Completes (exec (.waite n) s) fun t => SeqFrame s t n (s.pc n + i.len) ∧
      (t.seq n).rv i.d = (if i.d = 0 then 0 else BitVec.ofNat 32 (s.evPending n &&& i.zimm.toNat)) ∧
      (∀ k, k ≠ i.d → (t.seq n).rv k = (s.seq n).rv k) ∧
      (t.seq n).events &&& (s.evPending n &&& i.zimm.toNat) = 0 ∧ (t.seq n).flags = (s.seq n).flags) ∧
  (∀ (s : State) (n : Nat) (i : Ins), Ready s n .waite i → s.evPending n &&& i.zimm.toNat = 0 →
    Completes (exec (.waite n) s) fun t => Parked s t n { s.seq n with wait := .event i.d i.zimm.toNat }) ∧
  (∀ (s : State) (n d mask : Nat) (i : Ins), n < 8 → (s.seq n).wait = .event d mask → (s.seq n).late = [] →
    s.insAt n = some i →
    (s.evPending n &&& mask ≠ 0 → Completes (exec (.eventWaitRelease n) s) fun t =>
      t.pc n = (s.pc n + i.len) % 65536 ∧ t.fld SQ_STATUS_WAITING n = 0 ∧ (t.seq n).wait = .none_ ∧
      (t.seq n).rv d = (if d = 0 then 0 else BitVec.ofNat 32 (s.evPending n &&& mask)) ∧
      (t.seq n).events &&& (s.evPending n &&& mask) = 0 ∧ (∀ k, k ≠ n → t.seq k = s.seq k)) ∧
    (s.evPending n &&& mask = 0 → exec (.eventWaitRelease n) s = .next s))) ∧
  ((∀ (s : State) (n : Nat) (i : Ins), Ready s n .arm i → Completes (exec (.arm n) s) fun t =>
    SeqFrame s t n (s.pc n + i.len) ∧ smGet none (t.seq n).cmp i.a = some ((s.seq n).rt i.a) ∧
    (∀ k, k ≠ i.a → smGet none (t.seq n).cmp k = smGet none (s.seq n).cmp k) ∧
    bitOf (t.seq n).events (28 + i.a) = false) ∧
  (∀ (s : State) (n : Nat) (i : Ins), Ready s n .disarm i → Completes (exec (.disarm n) s) fun t =>
    SeqFrame s t n (s.pc n + i.len) ∧ smGet none (t.seq n).cmp i.a = none ∧
    (∀ k, k ≠ i.a → smGet none (t.seq n).cmp k = smGet none (s.seq n).cmp k) ∧
    bitOf (t.seq n).events (28 + i.a) = false) ∧
  (∀ (s : State) (n k x : Nat), n < 8 → k < 4 → smGet none (s.seq n).cmp k = some x →
    (x ≤ toTime128 s.now → Completes (exec (.timeCompareFire n k) s) fun t =>
      smGet none (t.seq n).cmp k = none ∧ bitOf (t.seq n).events (28 + k) = true ∧
      (∀ j, j ≠ n → t.seq j = s.seq j) ∧ { t with seqs := s.seqs } = s) ∧
    (toTime128 s.now < x → exec (.timeCompareFire n k) s = .next s)))

/-! ### Sequencer instructions: data RAM -/

namespace Sys2Proof.Machine

/-- The address of a data RAM access in the matrix map: (a + imm) mod 65,536 in sequencer `n`'s data RAM window (R165, R199). -/
def ramAddr (n : Nat) (i : Ins) (q : Seqr) : Nat := 0x60010000 + n * 0x20000 + ((q.rv i.a).toNat + i.simm.toNat) % 65536

/-- A load of `k` bytes at an aligned address completes with `res` of the number read. -/
def LoadOp (c : Nat → Instr) (m : SeqOp) (k : Nat) (res : Nat → Word) : Prop :=
  ∀ (s : State) (n : Nat) (i : Ins), Ready s n m i → ramAddr n i (s.seq n) % k = 0 → Completes (exec (c n) s) fun t =>
    SeqFrame s t n (s.pc n + i.len) ∧
    ValueFrame (s.seq n) (t.seq n) i.d (res (memNat s.mem (ramAddr n i (s.seq n)) k)) (s.seq n).flags

/-- A store of `k` bytes at an aligned address: those bytes hold `val`; every other byte of memory, every register field but PC,
every sequencer's own state and the rest of the engine are as they were. -/
def StoreOp (c : Nat → Instr) (m : SeqOp) (k : Nat) (val : Ins → Seqr → Nat) : Prop :=
  ∀ (s : State) (n : Nat) (i : Ins), Ready s n m i → ramAddr n i (s.seq n) % k = 0 → Completes (exec (c n) s) fun t =>
    t.pc n = (s.pc n + i.len) % 65536 ∧ (∀ f j, f.key j ≠ SQ_PC_PC.key n → t.fld f j = s.fld f j) ∧
    memNat t.mem (ramAddr n i (s.seq n)) k = val i (s.seq n) % 256 ^ k ∧
    (∀ a, a < ramAddr n i (s.seq n) ∨ ramAddr n i (s.seq n) + k ≤ a → memGet t.mem a = memGet s.mem a) ∧
    { t with regs := s.regs, mem := s.mem, evc := s.evc } = s

end Sys2Proof.Machine

/-- LDW, LDH, LDHU, LDB, LDBU and LDT at aligned addresses: the loaded value, sign- or zero-extended, into the destination; memory
and the flags unchanged, but LDT sets V exactly when the nanoseconds field is out of range (R199). STW, STH, STB and STT at aligned
addresses: the low bytes of the source are stored little-endian at the computed address and no other byte of memory changes (R5,
R199). -/
def Obligations.DataRam : Prop :=
  (LoadOp .ldw .ldw 4 (fun x => BitVec.ofNat 32 x) ∧
  LoadOp .ldh .ldh 2 (fun x => BitVec.signExtend 32 (BitVec.ofNat 16 x)) ∧
  LoadOp .ldhu .ldhu 2 (fun x => BitVec.ofNat 32 x) ∧
  LoadOp .ldb .ldb 1 (fun x => BitVec.signExtend 32 (BitVec.ofNat 8 x)) ∧
  LoadOp .ldbu .ldbu 1 (fun x => BitVec.ofNat 32 x) ∧
  (∀ (s : State) (n : Nat) (i : Ins), Ready s n .ldt i → ramAddr n i (s.seq n) % 16 = 0 →
    Completes (exec (.ldt n) s) fun t => SeqFrame s t n (s.pc n + i.len) ∧
      TimeFrame (s.seq n) (t.seq n) i.d (memNat s.mem (ramAddr n i (s.seq n)) 16)
        ((s.seq n).zf, (s.seq n).nf, (s.seq n).cf,
          decide (1000000000 ≤ memNat s.mem (ramAddr n i (s.seq n)) 16 / 2 ^ 48 % 2 ^ 32)))) ∧
  (StoreOp .stw .stw 4 (fun i q => (q.rv i.b).toNat) ∧ StoreOp .sth .sth 2 (fun i q => (q.rv i.b).toNat) ∧
  StoreOp .stb .stb 1 (fun i q => (q.rv i.b).toNat) ∧ StoreOp .stt .stt 16 (fun i q => q.rt i.b))

/-! ### Sequencer instructions: control transfer and exceptions -/

namespace Sys2Proof.Machine

/-- Sequencer `n`, not handling an exception and with no watchdog expiry on this tick, takes exception `cause` at its PC: EPC,
ECAUSE (cause, IMPRECISE 0, the mode before entry, the trap number), supervisor mode, IN_EXC, PC at
SQ_VECTOR_n.BASE + cause × 16; its other registers and memory are as they were (R174). -/
structure Excepted (s t : State) (n cause num : Nat) : Prop where
  epc    : (t.seq n).epc = s.pc n % 65536
  ecause : (t.seq n).ecause = cause + 64 * s.fld SQ_STATUS_USER n + 256 * (num % 256)
  user   : t.fld SQ_STATUS_USER n = 0
  inExc  : t.fld SQ_STATUS_IN_EXC n = 1
  last   : t.fld SQ_STATUS_LAST_CAUSE n = cause
  pc     : t.pc n = (s.fld SQ_VECTOR_BASE n * 256 + cause * 16) % 65536
  regs   : { t.seq n with epc := (s.seq n).epc, ecause := (s.seq n).ecause, wait := (s.seq n).wait } = s.seq n
  others : ∀ k, k ≠ n → t.seq k = s.seq k
  mem    : t.mem = s.mem

/-- No exception is being handled and the watchdog has not reached LIMIT. -/
def MayEnter (s : State) (n : Nat) : Prop :=
  s.flag SQ_STATUS_IN_EXC n = false ∧ (s.fld SQ_WDOG_LIMIT n = 0 ∨ (s.seq n).wdog < s.fld SQ_WDOG_LIMIT n)

/-- Whenever it is ready under `p`, the instruction jumps to `pc`, its sequencer's state becoming `q'`. -/
def JumpOp (c : Nat → Instr) (m : SeqOp) (p : Ins → State → Seqr → Prop) (pc : Ins → State → Nat → Nat)
    (q' : State → Nat → Seqr → Seqr) : Prop :=
  ∀ (s : State) (n : Nat) (i : Ins), Ready s n m i → p i s (s.seq n) → Completes (exec (c n) s) fun t =>
    SeqFrame s t n (pc i s n) ∧ t.seq n = q' s n (s.seq n)

/-- The condition codes of R186. -/
def condition (k : Nat) (q : Seqr) : Prop :=
  k = 0 ∨ (k = 1 ∧ q.zf = true) ∨ (k = 2 ∧ q.zf = false) ∨ (k = 3 ∧ q.nf = true) ∨ (k = 4 ∧ q.nf = false) ∨
  (k = 5 ∧ q.cf = true) ∨ (k = 6 ∧ q.cf = false) ∨ (k = 7 ∧ q.vf = true) ∨ (k = 8 ∧ q.vf = false) ∨
  (k = 9 ∧ q.cf = true ∧ q.zf = false) ∨ (k = 10 ∧ (q.cf = false ∨ q.zf = true)) ∨ (k = 11 ∧ q.nf = q.vf) ∨
  (k = 12 ∧ q.nf ≠ q.vf) ∨ (k = 13 ∧ q.zf = false ∧ q.nf = q.vf) ∨ (k = 14 ∧ (q.zf = true ∨ q.nf ≠ q.vf))

end Sys2Proof.Machine

/-- BIF, CALL, JR, CALLR and RET: the branch by the condition of R186 to PC + 4 × the offset, calls that push PC + 4, returns
that pop, with no other effect (R204); a call or jump to an aligned target, a call with fewer than 16 addresses held, a return
with one held. -/
def Obligations.ControlTransfer : Prop :=
  JumpOp .bif .bif (fun i _ q => condition i.d q)
    (fun i s n => (((s.pc n : Int) + 4 * signed 14 i.imm) % 65536).toNat) (fun _ _ q => q) ∧
  JumpOp .bif .bif (fun i _ q => i.d < 15 ∧ ¬ condition i.d q) (fun i s n => s.pc n + i.len) (fun _ _ q => q) ∧
  JumpOp .call .call (fun _ _ q => q.ret.length < 16) (fun i _ _ => i.imm * 4)
    (fun s n q => { q with ret := (s.pc n + 4) % 65536 :: q.ret }) ∧
  JumpOp .jr .jr (fun i _ q => (q.rv i.a).toNat % 4 = 0) (fun i s n => ((s.seq n).rv i.a).toNat) (fun _ _ q => q) ∧
  JumpOp .callr .callr (fun i _ q => (q.rv i.a).toNat % 4 = 0 ∧ q.ret.length < 16)
    (fun i s n => ((s.seq n).rv i.a).toNat) (fun s n q => { q with ret := (s.pc n + 4) % 65536 :: q.ret }) ∧
  (∀ (s : State) (n : Nat) (i : Ins) (p : Nat) (ps : List Nat), Ready s n .ret i → (s.seq n).ret = p :: ps →
    Completes (exec (.ret n) s) fun t => SeqFrame s t n p ∧ t.seq n = { s.seq n with ret := ps })

/-- NOP does nothing but advance PC; FENCE does the same when no transaction is outstanding and otherwise stalls until
FENCE_RELEASE finds none; RFE in supervisor mode, while an exception is handled and EPC is aligned, clears IN_EXC, restores the
mode saved at entry and continues at EPC; HALT in supervisor mode stops the sequencer, clears EN and BUSY and releases its
semaphores (R168, R173, R174, R176, R206). -/
def Obligations.SystemInstructions : Prop :=
  JumpOp .nop .nop (fun _ _ _ => True) (fun i s n => s.pc n + i.len) (fun _ _ q => q) ∧
  JumpOp .fence .fence (fun _ _ q => q.txns = []) (fun i s n => s.pc n + i.len) (fun _ _ q => q) ∧
  JumpOp .fence .fence (fun _ _ q => q.txns ≠ []) (fun _ s n => s.pc n) (fun _ _ q => { q with wait := .fence }) ∧
  (∀ (s : State) (n : Nat) (i : Ins), n < 8 → (s.seq n).wait = .fence → s.insAt n = some i →
    (s.seq n).txns = [] → (s.seq n).late = [] → s.flag SQ_STATUS_BUSY n = false →
    Completes (exec (.fenceRelease n) s) fun t => Resumed s t n i (s.seq n)) ∧
  (∀ (s : State) (n : Nat) (i : Ins), Ready s n .rfe i → s.flag SQ_STATUS_IN_EXC n = true → s.user n = false →
    (s.seq n).epc % 4 = 0 → Completes (exec (.rfe n) s) fun t =>
      t.pc n = (s.seq n).epc % 65536 ∧ t.fld SQ_STATUS_IN_EXC n = 0 ∧
      t.fld SQ_STATUS_USER n = (s.seq n).ecause / 64 % 2 ∧ t.seqs = s.seqs ∧ t.mem = s.mem ∧
      { t with regs := s.regs, evc := s.evc } = s) ∧
  (∀ (s : State) (n : Nat) (i : Ins), Ready s n .halt i → s.user n = false → Completes (exec (.halt n) s) fun t =>
    t.fld SQ_STATUS_RUNNING n = 0 ∧ t.fld SQ_STATUS_HALTED n = 1 ∧ t.fld SQ_CTL_EN n = 0 ∧ t.fld SQ_STATUS_BUSY n = 0 ∧
    (∀ k < 32, t.fld SQ_SEM_HELD k = 1 → t.fld SQ_SEM_OWNER k ≠ n) ∧ t.mem = s.mem)

/-- The exceptions of the instructions above, outside an exception: misaligned data addresses and jump targets raise MISALIGNED (8),
a call with 16 addresses held STACK_OVER (9), a return with none STACK_UNDER (10), RFE and HALT in user mode PRIV (2), RFE outside
an exception ILLEGAL (1) (R153, R175, R199, R204, R206). A word at PC that is no instruction raises ILLEGAL, whichever instruction
the sequencer is told to issue (R175, R187). TRAP raises exception 11 with its number, at its own address, in either mode, and logs
no fault (R174, R205). -/
def Obligations.InstructionExceptions : Prop :=
  (∀ (s : State) (n : Nat) (i : Ins), MayEnter s n →
    (Ready s n .ldw i → ramAddr n i (s.seq n) % 4 ≠ 0 → Completes (exec (.ldw n) s) fun t => Excepted s t n 8 0) ∧
    (Ready s n .ldh i → ramAddr n i (s.seq n) % 2 ≠ 0 → Completes (exec (.ldh n) s) fun t => Excepted s t n 8 0) ∧
    (Ready s n .ldhu i → ramAddr n i (s.seq n) % 2 ≠ 0 → Completes (exec (.ldhu n) s) fun t => Excepted s t n 8 0) ∧
    (Ready s n .ldt i → ramAddr n i (s.seq n) % 16 ≠ 0 → Completes (exec (.ldt n) s) fun t => Excepted s t n 8 0) ∧
    (Ready s n .stw i → ramAddr n i (s.seq n) % 4 ≠ 0 → Completes (exec (.stw n) s) fun t => Excepted s t n 8 0) ∧
    (Ready s n .sth i → ramAddr n i (s.seq n) % 2 ≠ 0 → Completes (exec (.sth n) s) fun t => Excepted s t n 8 0) ∧
    (Ready s n .stt i → ramAddr n i (s.seq n) % 16 ≠ 0 → Completes (exec (.stt n) s) fun t => Excepted s t n 8 0) ∧
    (Ready s n .jr i → ((s.seq n).rv i.a).toNat % 4 ≠ 0 → Completes (exec (.jr n) s) fun t => Excepted s t n 8 0) ∧
    (Ready s n .callr i → ((s.seq n).rv i.a).toNat % 4 ≠ 0 → Completes (exec (.callr n) s) fun t => Excepted s t n 8 0) ∧
    (Ready s n .call i → 16 ≤ (s.seq n).ret.length → Completes (exec (.call n) s) fun t => Excepted s t n 9 0) ∧
    (Ready s n .ret i → (s.seq n).ret = [] → Completes (exec (.ret n) s) fun t => Excepted s t n 10 0) ∧
    (Ready s n .halt i → s.user n = true → Completes (exec (.halt n) s) fun t => Excepted s t n 2 0) ∧
    (Ready s n .rfe i → Completes (exec (.rfe n) s) fun t => Excepted s t n 1 0)) ∧
  (∀ (s : State) (n : Nat), n < 8 → s.canIssue n = true → s.insAt n = none → MayEnter s n →
    Completes (exec (.add n) s) (fun t => Excepted s t n 1 0) ∧ Completes (exec (.nop n) s) (fun t => Excepted s t n 1 0) ∧
    Completes (exec (.halt n) s) (fun t => Excepted s t n 1 0) ∧ Completes (exec (.ldw n) s) (fun t => Excepted s t n 1 0)) ∧
  (∀ (s : State) (n : Nat) (i : Ins), Ready s n .trap i → MayEnter s n →
    Completes (exec (.trap n) s) fun t => Excepted s t n 11 (i.imm % 256) ∧ t.fm = s.fm)


/-! ### Resets, loading, measurement, modes and quotes -/

namespace Sys2Proof.Machine

/-- The command completes, and its next state is the state `u` that `p` describes once the blocks have acted on the channels it
retired (R434; with none retired, settling changes nothing: State.settle_nil). -/
def Settles (o : Host.Outcome State Fault Refusal) (p : State → Prop) : Prop := Completes o fun t => ∃ u, t = u.settle ∧ p u

/-- Every register field but those of the list is as it was. -/
def Writes (s t : State) (l : List (Fld × Nat)) : Prop := ∀ f k, (∀ p ∈ l, f.key k ≠ p.1.key p.2) → t.fld f k = s.fld f k

/-- What survives a cold reset: the fuses, the host's memory, what has been sent; no free value comes again. -/
structure Outside (s t : State) : Prop where
  fuses : t.bt.fuse1 = s.bt.fuse1 ∧ t.bt.fuse2 = s.bt.fuse2 ∧ t.bt.fuse3 = s.bt.fuse3
  host  : t.hostMem = s.hostMem
  free  : s.freeCtr ≤ t.freeCtr
  out   : t.out = s.out

/-- Everything in the engine at its reset value. -/
structure AtReset (t : State) : Prop where
  fields : ∀ f n, t.fld f n = State.reset.fld f n
  rest   : t.mem = [] ∧ t.ti = State.reset.ti ∧ t.seqs = State.reset.seqs ∧ t.fm = State.reset.fm ∧ t.ks = State.reset.ks ∧
    t.refs = State.reset.refs ∧ t.rc = State.reset.rc ∧ t.tw = State.reset.tw ∧ t.mc = State.reset.mc

/-- The engine has been powered up: it is out of reset, its key store has drawn a new tag key (the `k`-th free value, R242), and
sequencer 0 runs the boot ROM from address 0 in supervisor mode. -/
structure PoweredUp (k : Nat) (t : State) : Prop where
  held  : t.bt.held = false
  tag   : t.ks.tagKey = Config.freeValue k % 2 ^ 384
  code  : t.fld LC_STATE_CODE 0 = t.fuseCode
  pc    : t.pc 0 = 0
  runs  : t.flag SQ_CTL_EN 0 = true ∧ t.flag SQ_STATUS_RUNNING 0 = true ∧ t.user 0 = false

end Sys2Proof.Machine

/-- Cold reset and brown-out leave every register at its reset value, the memories empty and engine time zero, and keep the fuses
(R232); power-up and supply recovery sense the fuses, draw the tag key and start sequencer 0 at address 0 of the boot ROM (R215, R242,
R255). A warm reset, by WARM_N or by BT_WARM with the key 0xD1 from PF0, gives its cause, starts the engine again from address 0 with
engine time zero, and keeps DRAM, shared SRAM and the data RAMs and nothing of the instruction RAMs; ROM_READY zeroes working SRAM and
the data RAM of sequencer 0. PERST_N resets the PE registers, a function-level reset one function's; what the function had staged in
the key store and what it held goes with it (R6, R232, R233, R243). -/
def Obligations.Resets : Prop :=
  (∀ s : State,
    Completes (exec .coldReset s) (fun t => AtReset t ∧ Outside s t ∧ t.freeCtr = s.freeCtr ∧ t.bt.held = true ∧
      t.bt.brown = s.bt.brown) ∧
    Completes (exec .supplyBrownout s) (fun t => AtReset t ∧ Outside s t ∧ t.freeCtr = s.freeCtr ∧ t.bt.held = true ∧
      t.bt.brown = true) ∧
    (s.bt.brown = true → Completes (exec .supplyRecovery s) fun t =>
      PoweredUp s.freeCtr t ∧ Outside s t ∧ t.bt.brown = false ∧ t.mem = s.mem ∧ t.ti = s.ti ∧ t.fm = s.fm) ∧
    (s.bt.held = true → s.bt.brown = false → Completes (exec .powerUp s) fun t =>
      PoweredUp s.freeCtr t ∧ Outside s t ∧ t.bt.brown = false ∧ t.mem = s.mem ∧ t.ti = s.ti ∧ t.fm = s.fm)) ∧
  (∀ s : State,
    (s.bt.held = false → Settles (exec .warmReset s) fun u => PoweredUp s.freeCtr u ∧ Outside s u ∧ u.ti.now = 0 ∧ u.mode = 0 ∧
      u.flag BT_RESET_CAUSE_WARM_PIN 0 = true ∧ u.flag BT_RESET_CAUSE_COLD 0 = false ∧
      u.fld FM_LAST_FATAL_RECORD 0 = s.fld FM_LAST_FATAL_RECORD 0 % 2 ^ 128 ∧
      (∀ a, a < 0x60000000 ∨ 0x60100000 ≤ a ∨ 0x10000 ≤ (a - 0x60000000) % 0x20000 → memGet u.mem a = memGet s.mem a) ∧
      ∀ a, 0x60000000 ≤ a → a < 0x60100000 → (a - 0x60000000) % 0x20000 < 0x10000 → memGet u.mem a = 0) ∧
    (Completes (exec (.warmResetCmd .pf0 0xD1) s) fun t => ∃ u, t = u.settle ∧ PoweredUp s.freeCtr u ∧ Outside s u ∧ u.ti.now = 0 ∧
      u.flag BT_RESET_CAUSE_WARM_CMD 0 = true ∧ u.flag BT_RESET_CAUSE_COLD 0 = false) ∧
    (s.bt.held = false → s.flag BT_STATUS_ROM_READY 0 = false → s.bt.goHeld = false → Settles (exec .romReady s) fun u =>
      u.flag BT_STATUS_ROM_READY 0 = true ∧
      Writes s u [(BT_STATUS_ROM_READY, 0), (GP_GPIO_DIR_DIR, 0), (GP_GPIO_OUT_OUT, 0), (GP_GPIO_PULL_PULL, 0)] ∧
      (∀ a, (0x20000000 ≤ a ∧ a < 0x20400000) ∨ (0x60010000 ≤ a ∧ a < 0x60020000) → memGet u.mem a = 0) ∧
      (∀ a, ¬((0x20000000 ≤ a ∧ a < 0x20400000) ∨ (0x60010000 ≤ a ∧ a < 0x60020000)) → memGet u.mem a = memGet s.mem a) ∧
      { u with regs := s.regs, mem := s.mem } = s) ∧
    Completes (exec .pcieReset s) (fun t => t.flag PE_STATUS_LINK_UP 0 = false ∧ t.flag PE_STATUS_BME_PF0 0 = false ∧
      t.flag PE_STATUS_BME_PF1 0 = false ∧ t.pe = State.reset.pe ∧
      (t.flag PE_STATUS_LINK_LOST 0 = (s.flag PE_STATUS_LINK_UP 0 || s.flag PE_STATUS_LINK_LOST 0)) ∧
      (∀ x ∈ t.ks.staged, x.actor ≠ 0) ∧
      { t with regs := s.regs, pe := s.pe, held := s.held, snaps := s.snaps, waits := s.waits, ks := s.ks } = s) ∧
    (∀ fn < 2, Completes (exec (.functionLevelReset fn) s) fun t =>
      t.flag BT_Q_STATUS_BUSY fn = false ∧ t.fld BT_Q_NONCE_NONCE fn = 0 ∧
      t.flag (if fn = 0 then PE_STATUS_BME_PF0 else PE_STATUS_BME_PF1) 0 = false ∧ t.mem = s.mem ∧ t.seqs = s.seqs ∧
      (fn = 0 → ∀ x ∈ t.ks.staged, x.actor ≠ 0) ∧ (∀ x ∈ t.bt.signQ, x.src ≠ fn) ∧ ∀ k ∈ t.pe.unmasked, k / 256 ≠ fn))

/-- A load that may start counts itself; one that the root does not let run ends with RESULT 8. A launch, from the boot ROM's
sequencer while nothing was launched, lets the transactions to the boot ROM's two targets end, maps sequencer 0 to its instruction RAM for good and sets LAUNCHED (R211, R214, R216). A whole
word written to an open instruction RAM is stored, there alone, and measured; a privileged lock holds and is measured; an extension
commits the oldest event of its accumulator into it; EXTEND from the host is queued for accumulator 11 (R217 to R222). -/
def Obligations.LoadLaunchMeasure : Prop :=
  (∀ s : State,
    (s.flag BT_STATUS_LAUNCHED 0 = false → s.flag BT_STATUS_LOADING 0 = false → s.flag BT_STATUS_ROM_READY 0 = true →
      s.flag SY_ROOT_STATUS_LOCKED 0 = false → Settles (exec (.imageLoad .pf0) s) fun u =>
        u.fld BT_LOAD_STATUS_RESULT 0 = 8 ∧ u.fld BT_LOAD_STATUS_LOADS 0 = min 65535 (s.fld BT_LOAD_STATUS_LOADS 0 + 1) ∧
        u.flag BT_STATUS_LOADING 0 = false ∧ u.mem = s.mem ∧ u.seqs = s.seqs ∧
        Writes s u [(BT_LOAD_STATUS_RESULT, 0), (BT_LOAD_STATUS_SECTION, 0), (BT_LOAD_STATUS_LOADS, 0), (BT_STATUS_LOADING, 0)]) ∧
    (s.flag BT_STATUS_LAUNCHED 0 = false → s.flag BT_STATUS_LOADING 0 = false → s.flag BT_STATUS_ROM_READY 0 = false →
      Settles (exec (.imageLoad .pf0) s) fun u => u = { s with bt := { s.bt with goHeld := true } }) ∧
    (∀ (a : Actor) (mask : Nat), mask < 256 → s.mayWrite a .BT = true → s.launchOk a = true →
      Completes (exec (.launch a mask) s) fun t => t.flag BM_REMAP_REMAP 0 = true ∧ t.flag BT_STATUS_LAUNCHED 0 = true ∧
        t.mem = s.mem ∧ t.ti = s.ti ∧ (∀ n < 8, ∀ x ∈ (t.seq n).txns, targetOf x.addr ≠ some 0 ∧ targetOf x.addr ≠ some 1) ∧
        (∀ n < 8, bitOf mask n = true → s.flag SQ_STATUS_RETIRED n = false → s.retired 11 n = false →
          t.flag SQ_CTL_EN n = true ∧ t.flag SQ_STATUS_RUNNING n = true ∧ t.pc n = s.fld SQ_ENTRY_ENTRY n / 4 * 4 % 65536) ∧
        ∀ n < 8, 0 < n → bitOf mask n = false → t.flag SQ_CTL_EN n = s.flag SQ_CTL_EN n ∧ t.pc n = s.pc n) ∧
    (∀ (a : Actor) (mask : Nat), mask < 256 → s.mayWrite a .BT = true → s.launchOk a = false → exec (.launch a mask) s = .next (s.debugNote a))) ∧
  (∀ s : State,
    (∀ (a : Actor) (n off w : Nat), n < 8 → off < 0x10000 → off % 4 = 0 → w < 2 ^ 32 → s.iramOpen n = true → s.memMay a = true →
      Settles (exec (.iramWrite a (0x60000000 + n * 0x20000 + off) w 15) s) fun u =>
        memNat u.mem (0x60000000 + n * 0x20000 + off) 4 = w ∧
        (∀ x, x < 0x60000000 + n * 0x20000 + off ∨ 0x60000000 + n * 0x20000 + off + 4 ≤ x →
          memGet u.mem x = memGet s.mem x) ∧
        u.bt.exts.length = s.bt.exts.length + 1 ∧ (∃ e, u.bt.exts.getLast? = some (n + 1, e)) ∧
        { u with mem := s.mem, bt := s.bt } = s) ∧
    (∀ (a : Actor) (n : Nat), n < 8 → s.mayWrite a .BT = true → s.privileged a = true → s.fld BT_IRAM_LOCK_LOCK 0 = 0 →
      Completes (exec (.iramLock a n) s) fun t => t.fld BT_IRAM_LOCK_LOCK 0 = 2 ^ n ∧ t.iramLocked n = true ∧
        Writes s t [(BT_IRAM_LOCK_LOCK, 0)] ∧ t.bt.exts.length = s.bt.exts.length + 1 ∧ { t with regs := s.regs, bt := s.bt } = s) ∧
    (∀ (idx : Nat) (e : List Nat) (xs : List (Nat × List Nat)), idx < 12 → s.bt.exts = (idx, e) :: xs →
      Completes (exec (.extensionCommit idx) s) fun t =>
        t.fld BT_MA_MA idx = ofBytes (sha384b (s.maBytes idx ++ e)) % 2 ^ BT_MA_MA.width ∧ t.bt.exts = xs ∧
        Writes s t ((BT_MA_MA, idx) :: if idx = 11 then [(BT_STATUS_EXT_BUSY, 0)] else []) ∧
        (idx = 11 → t.flag BT_STATUS_EXT_BUSY 0 = false) ∧ { t with regs := s.regs, bt := s.bt } = s) ∧
    (∀ a : Actor, s.mayWrite a .BT = true → s.privileged a = true → s.flag BT_STATUS_EXT_BUSY 0 = false →
      Completes (exec (.hostExtend a) s) fun t => t.flag BT_STATUS_EXT_BUSY 0 = true ∧
        Writes s t [(BT_STATUS_EXT_BUSY, 0)] ∧
        t.bt.exts = s.bt.exts ++ [(11, padTo 64 (padTo 16 [0x06, actorNo a] ++ toBytes 48 (s.fld BT_EXT_DATA_DATA 0)))] ∧
        { t with regs := s.regs, bt := s.bt } = s) ∧
    (∀ a : Actor, s.mayWrite a .BT = true → s.privileged a = true → s.flag BT_STATUS_EXT_BUSY 0 = true →
      exec (.hostExtend a) s = .next s))

/-- A mode request of a privileged actor waits for the end of its tick, the last one of the tick alone. There SERVICE needs a BOOT
mode, a launched image, a locked root, a life cycle of 1 or 2 and no latched FATAL, TEST a BOOT mode, RECOVERY SERVICE or TEST; one
that is refused gives its reason and leaves the mode (R2, R3, R224). A quote is captured outside BLANK, counted and signed in order by
a VALID slot (R227 to R229, R236, R239). -/
def Obligations.ModesAndQuotes : Prop :=
  ∀ s : State,
    (∀ a : Actor, s.mayWrite a .BT = true → s.privileged a = true →
      Settles (exec (.modeReqService a) s) (fun u => u = (s.debugNote a).modeAsk 1) ∧
      Settles (exec (.modeReqTest a) s) (fun u => u = (s.debugNote a).modeAsk 2) ∧
      Settles (exec (.modeReqRecovery a) s) (fun u => u = (s.debugNote a).modeAsk 3)) ∧
    (∀ req : Nat, (s.modeAsk req).bt.modeReq = some req ∧ { s.modeAsk req with bt := s.bt } = s) ∧
    (s.bt.modeReq = some 1 → s.mode = 0 → s.flag BT_STATUS_LAUNCHED 0 = true → s.flag SY_ROOT_STATUS_LOCKED 0 = true →
      (s.lifeCycle = 1 ∨ s.lifeCycle = 2) → s.flag FM_STATUS_FATAL 0 = false → s.modeTick.mode = 1) ∧
    (s.bt.modeReq = some 2 → s.mode = 0 → s.modeTick.mode = 2) ∧
    (s.bt.modeReq = some 3 → (s.mode = 1 ∨ s.mode = 2) → s.modeTick.mode = 3) ∧
    (s.bt.modeReq = some 1 → s.bt.modeDue = none → s.mode = 0 → s.flag BT_STATUS_LAUNCHED 0 = false →
      s.modeTick.mode = 0 ∧ s.modeTick.flag BT_MODE_REFUSED 0 = true ∧ s.modeTick.fld BT_MODE_REASON 0 = 2) ∧
    (∀ slot < 2, s.mayWrite .pf0 .BT = true → s.flag BT_Q_STATUS_BUSY slot = false → s.flag LC_STATE_RESET_REQUIRED 0 = false → s.lifeCycle ≠ 0 →
      Settles (exec (.quoteRequest (if slot = 0 then .pf0 else .pf1) slot) s) fun u =>
        u.flag BT_Q_STATUS_BUSY slot = true ∧ u.bt.quotes = s.bt.quotes + 1 ∧ u.bt.signQ.length = s.bt.signQ.length + 1 ∧
        Writes s u [(BT_Q_STATUS_BUSY, slot)] ∧ { u with regs := s.regs, bt := s.bt } = s) ∧
    (∀ (x : SignItem) (xs : List SignItem), s.bt.signQ = x :: xs → x.src < 2 → s.signReady = true →
      s.slotValid (if x.signer = 1 then 0 else 1) = true → s.flag BT_Q_CTL_IRQ_EN x.src = false →
      Settles (exec .quoteSigned s) fun u => u.bt.signQ = xs ∧ u.flag BT_Q_STATUS_BUSY x.src = false ∧
        u.flag BT_Q_STATUS_DONE x.src = true ∧ Writes s u [(BT_Q_OUT_QUOTE, x.src), (BT_Q_STATUS_BUSY, x.src), (BT_Q_STATUS_DONE, x.src)] ∧
        u.mem = s.mem ∧ u.seqs = s.seqs)

/-! ### Sequencer instructions: ports, semaphores, keys, rings, counters, the matrix -/

namespace Sys2Proof.Machine

/-- No retirement waits to be acted on (as at reset; every command that can cause one settles before it answers). -/
def Settled (s : State) : Prop := s.fm.todo = []

/-- No command of the present tick has touched semaphore `k` (R172), or written register `d` of unit `n` through a port (R44). -/
def Untouched (s : State) (k : Nat) : Prop := smGet none s.tk.sems k = none
def NoPort (s : State) (d : RegD) (n : Nat) : Prop := ∀ f ∈ d.flds, s.portHas f n = false

/-- A store's or load's transaction as issued. -/
def txnOf (s : State) (n : Nat) (i : Ins) (store wide : Bool) (data : Nat) : Txn :=
  { store := store, wide := wide, dest := i.d, addr := i.mea (s.seq n), data := data, pc := s.pc n, um := s.user n }

/-- A matrix instruction at an aligned and permitted address, with fewer than eight outstanding, adds its transaction. -/
def MatrixOp (c : Nat → Instr) (m : SeqOp) (k : Nat) (x : State → Nat → Ins → Txn) : Prop :=
  ∀ (s : State) (n : Nat) (i : Ins), Ready s n m i → i.mea (s.seq n) % k = 0 → s.matrixMay n (i.mea (s.seq n)) = true →
    (s.seq n).txns.length < 8 → Completes (exec (c n) s) fun t => SeqFrame s t n (s.pc n + i.len) ∧
      t.seq n = { s.seq n with txns := (s.seq n).txns ++ [x s n i] }

/-- A key instruction in supervisor mode, its record aligned, stalls for the key store. -/
def KeyOp (c : Nat → Instr) (m : SeqOp) (fn : Nat) : Prop :=
  ∀ (s : State) (n : Nat) (i : Ins), Ready s n m i → s.user n = false →
    (fn = 0 → ((s.seq n).rv i.b).toNat % 65536 % 32 = 0) → Completes (exec (c n) s) fun t => SeqFrame s t n (s.pc n) ∧
      t.seq n = { s.seq n with
        wait := .key fn i.d (((s.seq n).rv i.a).toNat % 256) (((s.seq n).rv i.b).toNat % 65536) }

/-- A ring instruction at an aligned descriptor stalls for the ring engine. -/
def RingOp (c : Nat → Instr) (m : SeqOp) (pop : Bool) : Prop :=
  ∀ (s : State) (n : Nat) (i : Ins), Ready s n m i → ((s.seq n).rv i.b).toNat % 65536 % 32 = 0 →
    Completes (exec (c n) s) fun t => SeqFrame s t n (s.pc n) ∧
      t.seq n = { s.seq n with
        wait := .ring pop i.d (((s.seq n).rv i.a).toNat % 64) (((s.seq n).rv i.b).toNat % 65536) }

end Sys2Proof.Machine

/-- IN of the identity port gives the sequencer's number, mode and the engine's mode; OUT to a mailbox port with room adds the word
and its sender, before the words that higher-numbered senders have sent on the same tick; a port of 0x800 or more is unmapped and one the mode does not permit is denied (R161 to R163, R170, R175, R197,
R207). -/
def Obligations.PortInstructions : Prop :=
  ∀ (s : State) (n : Nat) (i : Ins),
    (Ready s n .in_ i → Settled s → i.port (s.seq n) = 0x60E → s.portMay n 0x60E = true → Completes (exec (.inPort n) s) fun t =>
      SeqFrame s t n (s.pc n + i.len) ∧
      ValueFrame (s.seq n) (t.seq n) i.d (BitVec.ofNat 32 (n + 8 * s.fld SQ_STATUS_USER n + 16 * s.mode)) (s.seq n).flags) ∧
    (∀ k old new, Ready s n .out i → Settled s → k < 8 → k ≠ n → i.port (s.seq n) = 0x600 + k → s.portMay n (0x600 + k) = true →
      (s.seq k).mbox = old ++ new → new.length = smGet 0 s.tk.mail k → (∀ x ∈ new, n < x.1) → (s.seq k).mbox.length < 8 →
      Completes (exec (.outPort n) s) fun t =>
        t.pc n = (s.pc n + i.len) % 65536 ∧ t.seq n = s.seq n ∧
        t.seq k = { s.seq k with mbox := old ++ (n, ((s.seq n).rv i.b).toNat) :: new } ∧
        (∀ j, j ≠ k → t.seq j = s.seq j) ∧ { t with regs := s.regs, seqs := s.seqs, evc := s.evc, tk := s.tk } = s) ∧
    (Ready s n .in_ i → MayEnter s n → 0x800 ≤ i.port (s.seq n) → Completes (exec (.inPort n) s) fun t => Excepted s t n 4 0) ∧
    (Ready s n .out i → MayEnter s n → 0x800 ≤ i.port (s.seq n) → Completes (exec (.outPort n) s) fun t => Excepted s t n 4 0) ∧
    (Ready s n .in_ i → MayEnter s n → i.port (s.seq n) < 0x800 → s.portMay n (i.port (s.seq n)) = false →
      Completes (exec (.inPort n) s) fun t => Excepted s t n 3 0)

/-- Semaphores. SACQ takes a free one or its own, with 0 in vD and Z set, and of one held by another gives its owner and leaves it;
SREL releases its own, whatever the count of its acquires, and of another's only sets SEM_FOREIGN. The host acquires, releases and, as
PF0, forces a release. Of the acquires of one tick the host's comes first, then the sequencers' from (tick count mod 8) upward, and a
release goes before them all. A word from the host enters a mailbox that has room, and is dropped by a full one (R170 to R173, R198). -/
def Obligations.SemaphoresAndMail : Prop :=
  ∀ (s : State),
    (∀ n i, Ready s n .sacq i → s.portMay n (0x620 + i.imm % 32) = true → Untouched s (i.imm % 32) →
      s.flag SQ_SEM_HELD (i.imm % 32) = false →
      Completes (exec (.sacq n) s) fun t => t.flag SQ_SEM_HELD (i.imm % 32) = true ∧ t.fld SQ_SEM_OWNER (i.imm % 32) = n ∧
        (t.seq n).rv i.d = 0 ∧ (t.seq n).zf = true ∧ t.pc n = (s.pc n + i.len) % 65536 ∧
        Writes s t [(SQ_SEM_HELD, i.imm % 32), (SQ_SEM_OWNER, i.imm % 32), (SQ_PC_PC, n)] ∧ (∀ k, k ≠ n → t.seq k = s.seq k) ∧
        { t with regs := s.regs, seqs := s.seqs, semRef := s.semRef, tk := s.tk, evc := s.evc } = s) ∧
    (∀ n i, Ready s n .sacq i → s.portMay n (0x620 + i.imm % 32) = true → Untouched s (i.imm % 32) →
      s.flag SQ_SEM_HELD (i.imm % 32) = true → s.fld SQ_SEM_OWNER (i.imm % 32) ≠ n → s.fld SQ_SEM_OWNER (i.imm % 32) ≤ 8 →
      Completes (exec (.sacq n) s) fun t =>
        (t.seq n).rv i.d = (if i.d = 0 then 0 else BitVec.ofNat 32 (1 + 2 * s.fld SQ_SEM_OWNER (i.imm % 32))) ∧
        (t.seq n).zf = false ∧ t.pc n = (s.pc n + i.len) % 65536 ∧ t.flag SQ_SEM_HELD (i.imm % 32) = true ∧
        t.fld SQ_SEM_OWNER (i.imm % 32) = s.fld SQ_SEM_OWNER (i.imm % 32) ∧
        smGet none t.semRef (i.imm % 32) = some n ∧
        Writes s t [(SQ_SEM_HELD, i.imm % 32), (SQ_SEM_OWNER, i.imm % 32), (SQ_PC_PC, n)] ∧ (∀ k, k ≠ n → t.seq k = s.seq k) ∧
        { t with regs := s.regs, seqs := s.seqs, semRef := s.semRef, tk := s.tk, evc := s.evc } = s) ∧
    (∀ n i, Ready s n .sacq i → s.portMay n (0x620 + i.imm % 32) = true → Untouched s (i.imm % 32) →
      s.semHeldBy (i.imm % 32) n = true →
      Completes (exec (.sacq n) s) fun t => t.flag SQ_SEM_HELD (i.imm % 32) = true ∧ t.fld SQ_SEM_OWNER (i.imm % 32) = n ∧
        (t.seq n).rv i.d = 0 ∧ (t.seq n).zf = true ∧ t.pc n = (s.pc n + i.len) % 65536 ∧ (∀ k, k ≠ n → t.seq k = s.seq k) ∧
        { t with regs := s.regs, seqs := s.seqs, semRef := s.semRef, tk := s.tk, evc := s.evc } = s) ∧
    (∀ n i, Ready s n .srel i → s.portMay n (0x620 + i.imm % 32) = true → s.semHeldBy (i.imm % 32) n = false →
      Completes (exec (.srel n) s) fun t => t.seq n = { s.seq n with semForeign := true } ∧ t.pc n = (s.pc n + i.len) % 65536 ∧
        Writes s t [(SQ_PC_PC, n)] ∧ { t with regs := s.regs, seqs := s.seqs, evc := s.evc } = s) ∧
    (∀ n i, Ready s n .srel i → s.portMay n (0x620 + i.imm % 32) = true → Untouched s (i.imm % 32) →
      s.semHeldBy (i.imm % 32) n = true →
      Completes (exec (.srel n) s) fun t => t.flag SQ_SEM_HELD (i.imm % 32) = false ∧ t.pc n = (s.pc n + i.len) % 65536 ∧
        (∀ k < 8, smGet none s.semRef (i.imm % 32) = some k → bitOf (t.seq k).events 15 = true) ∧
        Writes s t [(SQ_SEM_HELD, i.imm % 32), (SQ_SEM_OWNER, i.imm % 32), (SQ_PC_PC, n)] ∧
        { t with regs := s.regs, seqs := s.seqs, semRef := s.semRef, tk := s.tk, evc := s.evc } = s) ∧
    (∀ (a : Actor) (k : Nat), k < 32 → s.mayWrite a .SQ = true → Untouched s k →
      (s.flag SQ_SEM_HELD k = false → Completes (exec (.semAcquire a k) s) fun t => t.flag SQ_SEM_HELD k = true ∧
        t.fld SQ_SEM_OWNER k = 8 ∧ Writes s t [(SQ_SEM_HELD, k), (SQ_SEM_OWNER, k)] ∧
        { t with regs := s.regs, semRef := s.semRef, tk := s.tk, bt := s.bt } = s) ∧
      (s.semHeldBy k 8 = true → Completes (exec (.semRelease a k) s) fun t => t.flag SQ_SEM_HELD k = false ∧
        Writes s t [(SQ_SEM_HELD, k), (SQ_SEM_OWNER, k)] ∧
        { t with regs := s.regs, seqs := s.seqs, semRef := s.semRef, tk := s.tk, bt := s.bt } = s) ∧
      (s.flag SQ_SEM_HELD k = true → a = .pf0 → Completes (exec (.semForceRelease a k) s) fun t => t.flag SQ_SEM_HELD k = false ∧
        Writes s t [(SQ_SEM_HELD, k), (SQ_SEM_OWNER, k)] ∧
        { t with regs := s.regs, seqs := s.seqs, semRef := s.semRef, tk := s.tk } = s)) ∧
    (∀ (a : Actor) (k : Nat), k < 32 → s.mayWrite a .SQ = true →
      (s.semHeldBy k 8 = false → exec (.semRelease a k) s = .next (s.debugNote a)) ∧
      (a ≠ .pf0 → exec (.semForceRelease a k) s = .next (s.debugNote a))) ∧
    (∀ (k n m : Nat) (x y : Option (Nat × Bool)), k < 32 → n < 8 → m ≤ 8 → n ≠ m → Untouched s k →
      (s.flag SQ_SEM_HELD k = false →
        (m = 8 ∨ (m + 8 - s.ti.ticks % 8) % 8 < (n + 8 - s.ti.ticks % 8) % 8 →
          ((s.semTake k n x).semTake k m y).fld SQ_SEM_OWNER k = m ∧ ((s.semTake k m y).semTake k n x).fld SQ_SEM_OWNER k = m)) ∧
      (s.semHeldBy k m = true → ((s.semTake k n x).semFree k).flag SQ_SEM_HELD k = true ∧
        ((s.semTake k n x).semFree k).fld SQ_SEM_OWNER k = n)) ∧
    (∀ (a : Actor) (n w : Nat), n < 8 → s.mayWrite a .SQ = true → (s.seq n).mbox.length < 8 → (∀ x ∈ (s.seq n).mbox, x.1 ≤ 8) →
      Completes (exec (.hostMailboxSend a n w) s) fun t => (t.seq n).mbox = (s.seq n).mbox ++ [(8, w % 2 ^ 32)] ∧
        (∀ j, j ≠ n → t.seq j = s.seq j) ∧ { t with seqs := s.seqs, evc := s.evc, tk := s.tk, bt := s.bt } = s) ∧
    (∀ (a : Actor) (n w : Nat), n < 8 → s.mayWrite a .SQ = true → (s.seq n).mbox.length = 8 → (∀ x ∈ (s.seq n).mbox, x.1 ≤ 8) →
      Completes (exec (.hostMailboxSend a n w) s) fun t => (t.seq n).mbox = (s.seq n).mbox ∧
        t.flag SQ_STATUS_MBOX_DROP n = true ∧ (t.seq n).recvDrop = true ∧ t.mem = s.mem)

/-- The key and ring instructions stall until they are answered. KSTAT's answer is the slot's status word; one the key store refuses
raises KEY (13), any other ends the wait. A push to a ring with room answers 0 with Z set and PROD advances; to a full one, 1; to a
ring the sequencer may not use, 3; a pop stores the descriptor in data RAM (R201, R202). -/
def Obligations.KeyAndRingInstructions : Prop :=
  KeyOp .kstage .kstage 0 ∧ KeyOp .kcommit .kcommit 1 ∧ KeyOp .kinval .kinval 2 ∧ KeyOp .kstat .kstat 3 ∧
  RingOp .rpush .rpush false ∧ RingOp .rpop .rpop true ∧
  (∀ (s : State) (n fn d slot addr : Nat), n < 8 → (s.seq n).wait = .key fn d slot addr → (s.seq n).late = [] →
    (3 ≤ fn → ∃ u : State, exec (.keyInstrComplete n) s = .next (u.settle.seqDrain n) ∧ (u.seq n).wait = .none_ ∧
      (u.seq n).rv d = (if d = 0 then 0 else BitVec.ofNat 32 (s.statusWord slot)) ∧ (u.seq n).flags = (s.seq n).flags ∧
      u.mem = s.mem ∧ u.ks = s.ks) ∧
    (fn < 3 → (s.keyFn n fn d slot addr).2 = false → ∃ u : State, exec (.keyInstrComplete n) s = .next (u.settle.seqDrain n) ∧
      (u.seq n).wait = .none_ ∧ u.flag SQ_STATUS_WAITING n = false ∧ u.ks = (s.keyFn n fn d slot addr).1.ks) ∧
    (fn < 3 → (s.keyFn n fn d slot addr).2 = true → s.flag SQ_STATUS_IN_EXC n = false →
      ∃ u : State, exec (.keyInstrComplete n) s = .next (u.settle.seqDrain n) ∧ u.fld SQ_STATUS_LAST_CAUSE n = 13 ∧
        u.flag SQ_STATUS_IN_EXC n = true ∧ (u.seq n).wait = .none_)) ∧
  (∀ (s : State) (n d r addr : Nat), n < 8 → (s.seq n).wait = .ring false d r addr → (s.seq n).late = [] → r < 64 →
    (32 ≤ r → r < 48 → s.ringOn r = true → s.ringFull r = false → s.ringLive r = true →
      Settles (exec (.ringInstrComplete n) s) fun u => (u.seq n).wait = .none_ ∧ (u.seq n).zf = true ∧ (u.seq n).rv d = 0 ∧
        u.fld RG_PROD_COUNT r = (s.fld RG_PROD_COUNT r + 1) % 2 ^ 32 ∧ (∀ j, j ≠ n → u.seq j = s.seq j)) ∧
    (32 ≤ r → r < 48 → s.ringOn r = true → s.ringFull r = true → s.ringLive r = true →
      Settles (exec (.ringInstrComplete n) s) fun u => (u.seq n).wait = .none_ ∧ (u.seq n).zf = false ∧
        (u.seq n).rv d = (if d = 0 then 0 else 1) ∧ u.flag RG_STATUS_FULL r = true ∧ u.mem = s.mem) ∧
    (16 ≤ r → r < 32 → s.ringLive r = true → Settles (exec (.ringInstrComplete n) s) fun u => (u.seq n).wait = .none_ ∧
      (u.seq n).zf = false ∧ (u.seq n).rv d = (if d = 0 then 0 else 3) ∧ u.mem = s.mem)) ∧
  (∀ (s : State) (n d r addr : Nat), n < 8 → (s.seq n).wait = .ring true d r addr → (s.seq n).late = [] → 32 ≤ r → r < 48 →
    addr + 32 ≤ 65536 → s.ringOn r = true → s.ringLive r = true → s.flag RG_STATUS_STOPPED r = false → s.fld RG_PROD_COUNT r ≠ (s.ring r).fetch →
    s.descFails r (s.ring r).fetch 0 0x7F = 0 → Settles (exec (.ringInstrComplete n) s) fun u =>
      (u.seq n).wait = .none_ ∧ (u.seq n).zf = true ∧ (u.seq n).rv d = 0 ∧
      (u.ring r).fetch = ((s.ring r).fetch + 1) % 2 ^ 32 ∧ (∀ j, j ≠ n → u.seq j = s.seq j))

/-- RDCNT in supervisor mode reads a counter's low word and keeps all of it, or the high word kept; a counter whose events this model
does not see reads a free value (the model's choice, log entry 121). The matrix instructions issue their transaction, up to eight. A
load's completion writes its destination and a store's the memory, and the transaction is gone (R167, R169, R200, R203). -/
def Obligations.CountersAndMatrix : Prop :=
  (∀ (s : State) (n : Nat) (i : Ins), Ready s n .rdcnt i → s.user n = false → Completes (exec (.rdcnt n) s) fun t =>
    t.pc n = (s.pc n + i.len) % 65536 ∧ (∀ f k, f.key k ≠ SQ_PC_PC.key n → t.fld f k = s.fld f k) ∧
    (∀ k, k ≠ n → t.seq k = s.seq k) ∧ { t with regs := s.regs, seqs := s.seqs, evc := s.evc, freeCtr := s.freeCtr } = s ∧
    (∀ k, k ≠ i.d → (t.seq n).rv k = (s.seq n).rv k) ∧ (t.seq n).flags = (s.seq n).flags ∧
    (t.seq n).rv i.d = (if i.d = 0 then 0 else if i.imm / 4096 ≠ 2 ∧ bitOf i.imm 0 = true then
      BitVec.ofNat 32 ((s.seq n).cntSnap / 2 ^ 32) else BitVec.ofNat 32 (s.cntAt n i.imm).1) ∧
    (i.imm / 4096 = 0 → (s.cntAt n i.imm).1 = s.fld PC_CYCLE_COUNT n) ∧
    (i.imm / 4096 ≠ 2 → bitOf i.imm 0 = false → (t.seq n).cntSnap = (s.cntAt n i.imm).1)) ∧
  MatrixOp .mldw .mldw 4 (fun s n i => txnOf s n i false false 0) ∧
  MatrixOp .mstw .mstw 4 (fun s n i => txnOf s n i true false ((s.seq n).rv i.d).toNat) ∧
  MatrixOp .mldt .mldt 16 (fun s n i => txnOf s n i false true 0) ∧
  MatrixOp .mstt .mstt 16 (fun s n i => txnOf s n i true true ((s.seq n).rt i.d)) ∧
  (∀ (s : State) (n : Nat) (x : Txn) (xs : List Txn), n < 8 → (s.seq n).txns = x :: xs → x.wide = false → 0x20000000 ≤ x.addr →
    x.addr + 4 ≤ 0x20400000 →
    (x.store = false → s.readPoison x.addr 4 = false → ∃ u : State, exec (.matrixTxnComplete n 0) s = .next (u.settle.seqDrain n) ∧
      (u.seq n).txns = xs ∧ (u.seq n).rv x.dest = (if x.dest = 0 then 0 else BitVec.ofNat 32 (memNat s.mem x.addr 4)) ∧
      (∀ k, k ≠ x.dest → (u.seq n).rv k = (s.seq n).rv k) ∧ (∀ j, j ≠ n → u.seq j = s.seq j) ∧ u.mem = s.mem) ∧
    (x.store = true → s.imgBlocked (.seq n) x.addr 4 = false → s.writeErr (.seq n) x.addr 4 = false →
      ∃ u : State, exec (.matrixTxnComplete n 0) s = .next (u.settle.seqDrain n) ∧ (u.seq n).txns = xs ∧
        memNat u.mem x.addr 4 = x.data % 2 ^ 32 ∧
        (∀ a, a < x.addr ∨ x.addr + 4 ≤ a → memGet u.mem a = memGet s.mem a) ∧ (∀ j, j ≠ n → u.seq j = s.seq j)))

/-- Enabling a sequencer sets EN and RUNNING, unless it is halted or retired, and the write is measured while the sequencer is quiescent
and its settings are open (R220); disabling clears both, ends an event or time wait at once and leaves BUSY while anything else is
outstanding; a reset of a disabled one puts it at its entry with every register zero; the watchdog at its limit raises WATCHDOG
(12) and restarts (R151, R152, R176, R177). -/
def Obligations.SequencerControl : Prop :=
  ∀ (s : State) (n : Nat), n < 8 → Settled s →
    (∀ a : Actor, s.mayWrite a .SQ = true → NoPort s R_SQ_CTL n →
      (s.flag SQ_STATUS_RETIRED n = false → s.retired 11 n = false → s.flag SQ_STATUS_HALTED n = false →
        (s.flag SQ_CTL_EN n = false ∨ s.flag SQ_STATUS_RUNNING n = true) → Completes (exec (.seqEnable a n) s) fun t => t.flag SQ_CTL_EN n = true ∧ t.flag SQ_STATUS_RUNNING n = true ∧
          Writes s t [(SQ_CTL_EN, n), (SQ_STATUS_RUNNING, n), (SQ_CTL_START_USER, n)] ∧
          t.fld SQ_CTL_START_USER n % 2 = s.fld SQ_CTL_START_USER n % 2 ∧
          t.bt.exts = s.bt.exts ++ (if s.flag SQ_CTL_EN n = false ∧ s.flag SQ_STATUS_BUSY n = false ∧ s.iramLocked n = false then
            [(n + 1, padTo 16 ([0x08, 4, 0, 0] ++ toBytesBE 4 (s.fld SQ_CTL_START_USER n % 2)))] else []) ∧
          t.seqs = s.seqs ∧ t.mem = s.mem ∧ t.ti = s.ti) ∧
      (s.flag SQ_STATUS_HALTED n = true ∨ s.flag SQ_STATUS_RETIRED n = true → Completes (exec (.seqEnable a n) s) fun t =>
        t.flag SQ_CTL_EN n = s.flag SQ_CTL_EN n ∧ t.flag SQ_STATUS_RUNNING n = s.flag SQ_STATUS_RUNNING n ∧ t.seqs = s.seqs) ∧
      (s.flag SQ_CTL_EN n = true → Completes (exec (.seqDisable a n) s) fun t => t.flag SQ_CTL_EN n = false ∧
        t.flag SQ_STATUS_RUNNING n = false ∧
        ((∃ d m, (s.seq n).wait = .event d m) ∨ (∃ x, (s.seq n).wait = .time x) →
          (t.seq n).wait = .none_ ∧ t.fld SQ_STATUS_BUSY n = s.fld SQ_STATUS_BUSY n ∧ t.flag SQ_STATUS_WAITING n = false) ∧
        ((s.seq n).wait = .none_ → (s.seq n).txns ≠ [] → t.flag SQ_STATUS_BUSY n = true) ∧
        ((s.seq n).txns = [] → (s.seq n).wait = .none_ → t.flag SQ_STATUS_BUSY n = false) ∧
        (t.seq n).v = (s.seq n).v ∧ (∀ j, j ≠ n → t.seq j = s.seq j) ∧ t.mem = s.mem) ∧
      (s.flag SQ_CTL_EN n = false → Completes (exec (.seqReset a n) s) fun t =>
        t.pc n = s.fld SQ_ENTRY_ENTRY n / 4 * 4 % 65536 ∧ (∀ k, (t.seq n).rv k = 0) ∧ (∀ k, (t.seq n).rt k = 0) ∧
        (t.seq n).ret = [] ∧ (t.seq n).txns = [] ∧ (t.seq n).mbox = [] ∧ t.flag SQ_STATUS_IN_EXC n = false ∧
        t.fld SQ_STATUS_USER n = s.fld SQ_CTL_START_USER n % 2 ∧ t.stagedBy (n + 1) = [] ∧ t.mem = s.mem)) ∧
    (s.fld SQ_WDOG_LIMIT n ≠ 0 → s.fld SQ_WDOG_LIMIT n ≤ (s.seq n).wdog → s.flag SQ_STATUS_RUNNING n = true →
      s.flag SQ_STATUS_IN_EXC n = false → Completes (exec (.watchdog n) s) fun t => (t.seq n).wdog = 0 ∧
        (t.seq n).epc = s.pc n % 65536 ∧ (t.seq n).ecause % 32 = 12 ∧ t.flag SQ_STATUS_IN_EXC n = true ∧
        t.pc n = (s.fld SQ_VECTOR_BASE n * 256 + 12 * 16) % 65536 ∧ (t.seq n).v = (s.seq n).v ∧ t.mem = s.mem)

/-! ### Register and memory access from the matrix -/

/-- A write by a permitted actor: a memory word takes its four bytes and no other byte changes; a register whose fields are in range
takes them; a word that is not its register's last waits and changes no field. A read of a memory word or of an ordinary
one-word register answers its value, and clears the register's RC counters, for any actor but PF1. A request to a DRAM channel in
self-refresh is held by the matrix (R6, R7, R9, R13, R23, R225). -/
def Obligations.RegisterAccess : Prop :=
  ∀ (s : State) (a : Actor),
    (∀ addr v, 0x20000000 ≤ addr → addr + 4 ≤ 0x20400000 → s.memMay a = true → s.imgBlocked a addr 4 = false → v < 2 ^ 32 →
      Settles (exec (.registerWrite a addr v) s) fun u => memNat u.mem addr 4 = v ∧
        (∀ x, x < addr ∨ addr + 4 ≤ x → memGet u.mem x = memGet s.mem x) ∧
        { u with mem := s.mem, poison := s.poison } = s.debugNote a) ∧
    (∀ v, v < 2 ^ 32 → s.fieldOk FM_TRANSIENT_CFG_COUNT 0 v = true → s.fieldOk FM_TRANSIENT_CFG_WINDOW_S 0 v = true →
      NoPort s R_FM_TRANSIENT_CFG 0 →
      ∃ u, exec (.registerWrite .pf0 0x48030020 v) s = .next u.settle.settle ∧
        u.fld FM_TRANSIENT_CFG_COUNT 0 = v % 256 ∧ u.fld FM_TRANSIENT_CFG_WINDOW_S 0 = v / 256 % 65536 ∧
        Writes s u [(FM_TRANSIENT_CFG_COUNT, 0), (FM_TRANSIENT_CFG_WINDOW_S, 0)] ∧
        { u with regs := s.regs, held := s.held } = s) ∧
    (∀ addr v h, regAt addr = some h → h.w + 1 < h.d.words → h.d.base ∉ slotRegs → s.mayWrite a h.d.blk = true →
      s.served a addr true = true → v < 2 ^ 32 → Settles (exec (.registerWrite a addr v) s) fun u =>
        smGet none u.held (h.wordKey a h.w) = some v ∧ { u with held := s.held } = s.debugNote a) ∧
    (∀ addr, 0x20000000 ≤ addr → addr + 4 ≤ 0x20400000 → s.readPoison addr 4 = false →
      Settles (exec (.rcCounterRead a addr) s) fun u => u = (s.debugNote a).emit (.read a addr (memNat s.mem addr 4))) ∧
    (∀ addr h, regAt addr = some h → h.w = 0 → h.d.words = 1 → a ≠ .pf1 → s.served a addr false = true →
      h.d.base ∉ pcRegs → h.d.base ∉ [R_TM_FIFO.base, R_GP_UART_RX.base, R_FM_QUEUE.base, R_MC_STAT.base] →
      Settles (exec (.rcCounterRead a addr) s) fun u => u.out = .read a addr (s.regVal h.d h.n % 2 ^ 32) :: s.out ∧
        (∀ f ∈ h.d.flds, f.acc = .rc → u.fld f h.n = 0) ∧
        Writes s u (h.d.flds.filterMap fun f => if f.acc = .rc then some (f, h.n) else none) ∧
        { u with regs := s.regs, out := s.out } = s.debugNote a) ∧
    (∀ addr v, s.asleep addr = true → v < 2 ^ 32 →
      Settles (exec (.registerWrite a addr v) s) (fun u =>
        u.waits = s.waits ++ [{ actor := a, write := true, addr := addr, len := 4, bytes := toBytes 4 v }] ∧
        { u with waits := s.waits } = s.debugNote a) ∧
      Settles (exec (.rcCounterRead a addr) s) fun u =>
        u.waits = s.waits ++ [{ actor := a, write := false, addr := addr, len := 4, bytes := [] }] ∧
        { u with waits := s.waits } = s.debugNote a)

/-- Fields that commit on a boundary: the next-tick fields of the time core take their shadows, which are then empty, and a lane's
asymmetry at its superword; a frame boundary commits nothing. A drained unit is no longer BUSY (R11, R40, R42). A read of word 0 of
a TDC, UART or fault FIFO by its reader answers the head and removes it; by another reader it removes nothing and of the TDC FIFO
answers the empty value (R82, R419, R432). -/
def Obligations.CommitsAndFifoReads : Prop :=
  (∀ s : State,
    (∀ x, s.shadow TC_SLIDE_SLOPE_SLOPE 0 = some x → s.shadow TC_SLIDE_OFFSET_OFFSET 0 = none →
      Settles (exec (.rwsCommit 0 0 0) s) fun u =>
        u.fld TC_SLIDE_SLOPE_SLOPE 0 = x % 2 ^ TC_SLIDE_SLOPE_SLOPE.width ∧ u.shadow TC_SLIDE_SLOPE_SLOPE 0 = none ∧
        Writes s u [(TC_SLIDE_SLOPE_SLOPE, 0), (TC_INCREMENT_INC_NS, 0), (TC_INCREMENT_INC_FRAC, 0)] ∧
        { u with regs := s.regs, shadows := s.shadows } = s) ∧
    (∀ n x, n < 8 → s.shadow SL_ITL_ASYM_ASYM n = some x → Completes (exec (.rwsCommit 7 2 n) s) fun t =>
      t.fld SL_ITL_ASYM_ASYM n = x % 2 ^ SL_ITL_ASYM_ASYM.width ∧ t.shadow SL_ITL_ASYM_ASYM n = none ∧
      Writes s t [(SL_ITL_ASYM_ASYM, n)] ∧ { t with regs := s.regs, shadows := s.shadows } = s) ∧
    (∀ b < 23, ∀ n, exec (.rwsCommit b 1 n) s = .next s) ∧
    (∀ n < 12, Completes (exec (.blockDrainDone 3 n) s) fun t => t.flag TM_CH_STATUS_BUSY n = false ∧
      Writes s t [(TM_CH_STATUS_BUSY, n)] ∧ { t with regs := s.regs } = s) ∧
    (∀ n < 64, Completes (exec (.blockDrainDone 19 n) s) fun t => t.flag RG_STATUS_BUSY n = false ∧
      Writes s t [(RG_STATUS_BUSY, n)] ∧ { t with regs := s.regs } = s)) ∧
  (∀ s : State,
    (∀ (a : Actor) (n : Nat) (port : Bool), n < 12 → portActor a port = true → a ≠ .pf1 → s.tmIsReader n port = true →
      (s.tdc n).fifo ≠ [] → Completes (exec (.tmFifoRead a n 0 port) s) fun t =>
        (t.tdc n).fifo = (s.tdc n).fifo.tail ∧ (∀ k, k ≠ n → t.tdc k = s.tdc k) ∧
        t.out = .read a (R_TM_FIFO.base + n * R_TM_FIFO.s1) (s.tmHead n % 2 ^ 32) :: s.out ∧ t.mem = s.mem ∧ t.seqs = s.seqs) ∧
    (∀ (a : Actor) (n : Nat) (port : Bool), n < 12 → portActor a port = true → s.tmIsReader n port = false →
      Completes (exec (.tmFifoRead a n 0 port) s) fun t => t.tm = s.tm ∧ t.regs = s.regs ∧
        t.out = .read a (R_TM_FIFO.base + n * R_TM_FIFO.s1) (tmEmpty % 2 ^ 32) :: s.out) ∧
    (∀ (a : Actor) (n e : Nat) (es : List Nat) (port : Bool), n < 2 → portActor a port = true →
      s.uartIsReader a n port = true → (s.uartOf n).rx = e :: es → Completes (exec (.uartFifoRead a n 0 port) s) fun t =>
        (t.uartOf n).rx = es ∧ (∀ k, k ≠ n → t.uartOf k = s.uartOf k) ∧ (∃ x, t.out = .read a x (e % 2 ^ 32) :: s.out) ∧
        t.regs = s.regs ∧ t.mem = s.mem) ∧
    (∀ (r : FaultRec) (rs : List FaultRec), s.fm.queue = r :: rs → Completes (exec (.faultQueueRead .pf0) s) fun t =>
      t.fm.queue = rs ∧ t.out = .read .pf0 R_FM_QUEUE.base (r.bits % 2 ^ 32) :: s.out ∧ t.regs = s.regs ∧ t.mem = s.mem ∧
      t.seqs = s.seqs ∧ { t.fm with queue := s.fm.queue } = s.fm))

/-! ### The time core, the bound and the pulse outputs -/

/-- One tick: engine time advances by the applied increment modulo 2^48 s, SAFE_INC on SAFE_OSC, else the increment with the slide's
part; elapsed time and the tick count advance; while the engine is held in reset nothing happens (R46 to R48, R53). A slide offset
waits in its shadow; a remainder below one slope step is added whole, as a part of the present tick (the model's choice, log entry
108), and the slide ends. At the end of an interval the bound of the
next is published. The coefficients commit together, RESTART takes the anchor and CLR_WIDEN clears the widening (R11, R53, R64,
R65). -/
def Obligations.TickSlideBound : Prop :=
  (∀ (s : State) (pins : Nat), pins < 8 →
    (s.bt.held = true → exec (.tick pins) s = .next s) ∧
    (s.bt.held = false → s.stepTarget = none → s.ti.boundDue = false → s.ti.secondDue = false → s.shadows = [] →
      s.bt.modeReq = none → s.bt.modeDue = none → s.fm.fatalDue = false → Settles (exec (.tick pins) s) fun u =>
        u.ti.now = (s.ti.now + s.applied) % timeMod ∧ u.ti.elapsed = s.ti.elapsed + s.applied ∧ u.ti.ticks = s.ti.ticks + 1 ∧
        (s.safe = true → u.ti.now = (s.ti.now + s.fld TC_SAFE_INC_INC 0) % timeMod) ∧
        (s.safe = false → s.ti.slideRem = 0 → u.ti.now = (s.ti.now + s.increment) % timeMod ∧ u.ti.slideRem = 0) ∧
        s.ti.widenAcc ≤ u.ti.widenAcc ∧ u.hostMem = s.hostMem)) ∧
  (∀ s : State,
    (∀ (a : Actor) (v : Nat), s.mayWrite a .TC = true → s.portHas TC_SLIDE_OFFSET_OFFSET 0 = false →
      Completes (exec (.slideOffsetWrite a v) s) fun t => t.shadow TC_SLIDE_OFFSET_OFFSET 0 = some (v % 2 ^ 64) ∧
        { t with shadows := s.shadows, ti := s.ti } = s.debugNote a ∧ { t.ti with slideHost := s.ti.slideHost } = s.ti) ∧
    (s.ti.slideRem ≠ 0 → s.ti.slideRem.natAbs < s.slopeStep → s.safe = false → Completes (exec .slideComplete s) fun t =>
      (t.ti.now : Int) = ((s.ti.now : Int) + s.ti.slideRem) % timeMod ∧
      t.ti.elapsed = ((s.ti.elapsed : Int) + s.ti.slideRem).toNat ∧ t.ti.dt = ((s.ti.dt : Int) + s.ti.slideRem).toNat ∧
      t.ti.slideRem = 0 ∧ t.flag TC_STATUS_SLIDE_ACTIVE 0 = false ∧
      t.fld TC_INC_APPLIED_APPLIED 0 =
        ((s.fld TC_INC_APPLIED_APPLIED 0 : Int) + s.ti.slideRem).toNat % 2 ^ TC_INC_APPLIED_APPLIED.width ∧
      s.fld BG_CURRENT_BOUND 0 ≤ t.fld BG_CURRENT_BOUND 0 ∧
      Writes s t [(TC_STATUS_SLIDE_ACTIVE, 0), (TC_INC_APPLIED_APPLIED, 0), (BG_CURRENT_BOUND, 0)] ∧
      { t with regs := s.regs, ti := s.ti, evc := s.evc, shadows := s.shadows, due := s.due } = s) ∧
    (s.ti.boundDue = true → s.lostDue = false → Settles (exec .boundIntervalEnd s) fun u =>
      u.fld BG_CURRENT_BOUND 0 = s.boundNow ∧ u.ti.boundDue = false ∧ Writes s u [(BG_CURRENT_BOUND, 0)] ∧
      { u with regs := s.regs, ti := s.ti, evc := s.evc } = s) ∧
    (∀ b0 b1 b2, b0 < 2 ^ 32 → b1 < 2 ^ 32 → b2 < 2 ^ 48 → s.shadow BG_COEF_B0 0 = some b0 → s.shadow BG_COEF_B1 0 = some b1 →
      s.shadow BG_COEF_B2 0 = some b2 → s.shadow BG_COEF_RESTART 0 = some 1 → s.shadow BG_COEF_CLR_WIDEN 0 = some 1 →
      s.ts.sealing = [] → (∀ n < 16, (s.mac n).gate = []) → Settles (exec .bgCoefCommit s) fun u =>
        u.coef 0 = b0 ∧ u.coef 1 = b1 ∧ u.coef 2 = b2 ∧ u.ti.dt = 0 ∧ u.ti.boundDue = false ∧ u.ti.widenAcc = 0 ∧
        u.fld BG_ANCHOR_TIME 0 = toTime128 s.ti.now ∧ s.fld BG_CURRENT_BOUND 0 ≤ u.fld BG_CURRENT_BOUND 0 ∧
        u.ti.now = s.ti.now) ∧
    (s.shadow BG_COEF_RESTART 0 = none → Settles (exec .bgCoefCommit s) fun u => u = s))

/-- TIME_SET outside SERVICE, with a valid time, is due on the next tick; in SERVICE it changes no time. TC_STEP_OFFSET is due at
once outside SERVICE and waits in SERVICE for an accept by PF0 with its sequence number, which no other actor can give. A step applied sets engine time, ends the
slide and sets STEP_DONE (R49 to R52). A leap whose second has begun moves the UTC offset by one, disarms and latches event 25; the
smear's flag follows its window; an engine second latches event 16 in every sequencer and leaves engine time (R57, R59 to R62,
R156). -/
def Obligations.StepsAndSeconds : Prop :=
  (∀ s : State,
    (∀ (a : Actor) (v : Nat), s.mayWrite a .TC = true → v < 2 ^ 128 →
      (s.service = false → time128Ok v = true → Settles (exec (.timeSet a v) s) fun u =>
        u = { s.debugNote a with ti := { s.ti with setDue := some (ofTime128 v), stepDue := none } }) ∧
      (s.service = true → Settles (exec (.timeSet a v) s) fun u => u.ti = s.ti ∧ u.mem = s.mem ∧ u.seqs = s.seqs)) ∧
    (∀ (a : Actor) (v : Nat), s.mayWrite a .TC = true → s.portHas TC_STEP_OFFSET_OFFSET 0 = false → v < 2 ^ 64 →
      Settles (exec (.stepOffsetWrite a v) s) fun u =>
      u.fld TC_STEP_OFFSET_OFFSET 0 = v ∧ u.fld TC_STATUS_STEP_SEQ 0 = (s.fld TC_STATUS_STEP_SEQ 0 + 1) % 256 ∧
      u.flag TC_STATUS_STEP_PENDING 0 = s.service ∧ u.ti.now = s.ti.now ∧
      (if s.service = true then u.ti.stepPend = some (signed 64 v) ∧ u.ti.stepDue = s.ti.stepDue
       else u.ti.stepPend = none ∧ u.ti.stepDue = some (signed 64 v)) ∧
      Writes s u [(TC_STEP_OFFSET_OFFSET, 0), (TC_STATUS_STEP_SEQ, 0), (TC_STATUS_STEP_PENDING, 0)] ∧
      { u with regs := s.regs, ti := s.ti } = s.debugNote a) ∧
    (∀ d seq, s.ti.stepPend = some d → seq < 256 → seq = s.fld TC_STATUS_STEP_SEQ 0 → s.flag TC_CTL_STEP_EN 0 = true →
      s.mayWrite .pf0 .TC = true → Settles (exec (.stepAccept .pf0 seq true) s) fun u =>
        u = { s with ti := { s.ti with stepPend := none, stepDue := some d } }) ∧
    (∀ d seq, s.ti.stepPend = some d → seq < 256 → seq ≠ s.fld TC_STATUS_STEP_SEQ 0 → s.mayWrite .pf0 .TC = true →
      Settles (exec (.stepAccept .pf0 seq true) s) fun u => u.ti = s.ti) ∧
    (∀ (a : Actor) (seq : Nat) (go : Bool), a ≠ .pf0 → seq < 256 →
      Settles (exec (.stepAccept a seq go) s) fun u => u.ti = s.ti ∧ u.mem = s.mem ∧ u.seqs = s.seqs) ∧
    (∀ x, s.stepTarget = some x → s.ti.boundDue = false → s.ti.secondDue = false → Settles (exec .stepApplied s) fun u =>
      u.ti.now = x % timeMod ∧ u.ti.slideRem = 0 ∧ u.ti.stepDue = none ∧ u.ti.setDue = none ∧
      u.ti.stepFrom = some (s.ti.stepFrom.getD s.ti.now) ∧ u.flag TC_STATUS_STEP_DONE 0 = true ∧ u.flag TC_STATUS_SLIDE_ACTIVE 0 = false ∧ u.ti.elapsed = s.ti.elapsed ∧
      u.mem = s.mem) ∧
    (s.stepTarget = none → exec .stepApplied s = .next s)) ∧
  (∀ s : State,
    (s.ti.secondDue = true → Settles (exec .engineSecond s) fun u => u.ti.secondDue = false ∧ u.ti.now = s.ti.now ∧
      u.ti.elapsed = s.ti.elapsed ∧ ∀ n < 8, bitOf (u.seq n).events 16 = true) ∧
    (s.ti.secondDue = false → exec .engineSecond s = .next s) ∧
    (s.leapReached = true → s.ti.utcWritten = false → s.flag TC_STATUS_LEAP_DONE 0 = false → Completes (exec .leap s) fun t =>
      t.fld TC_UTC_OFFSET_OFFSET 0 = (s.fld TC_UTC_OFFSET_OFFSET 0 + if s.ti.leapDel = true then 65535 else 1) % 65536 ∧
      t.flag TC_STATUS_LEAP_ARMED 0 = false ∧ t.flag TC_LEAP_CTL_ARM 0 = false ∧ t.flag TC_STATUS_LEAP_DONE 0 = true ∧
      (∀ n < 8, bitOf (t.seq n).events 25 = true) ∧
      Writes s t [(TC_UTC_OFFSET_OFFSET, 0), (TC_STATUS_LEAP_ARMED, 0), (TC_LEAP_CTL_ARM, 0), (TC_STATUS_LEAP_DONE, 0)] ∧
      t.ti = { s.ti with lastL := s.ti.leapL, lastDel := s.ti.leapDel, lastOff := signed 16 (s.fld TC_UTC_OFFSET_OFFSET 0) } ∧
      { t with regs := s.regs, seqs := s.seqs, ti := s.ti, tk := s.tk } = s) ∧
    (s.leapReached = false → exec .leap s = .next s) ∧
    (s.smearStartDue = true → Completes (exec .smearStart s) fun t => t.flag TC_STATUS_SMEAR_ACTIVE 0 = true ∧
      Writes s t [(TC_STATUS_SMEAR_ACTIVE, 0)] ∧ { t with regs := s.regs } = s) ∧
    (s.smearEndDue = true → Completes (exec .smearEnd s) fun t => t.flag TC_STATUS_SMEAR_ACTIVE 0 = false ∧
      Writes s t [(TC_STATUS_SMEAR_ACTIVE, 0)] ∧ { t with regs := s.regs } = s))

/-- A periodic output arms at the first instant of its schedule at least 10 ns ahead; a single pulse whose start is nearer is MISSED
and stays disarmed. A leading edge whose instant at the ball, trim included, has come is emitted with the output's active level and
counted, its trailing edge set a pulse width later, the next a period later; the trailing edge returns the output to its inactive
level; disabling drops the schedule and a high pulse keeps BUSY (R66 to R70). -/
def Obligations.PulseOutputs : Prop :=
  ∀ (s : State) (n : Nat), n < 8 →
    (s.flag PO_CTL_EN n = false → s.poPeriodic n = true → 0 < s.fld PO_PERIOD_PERIOD n → Completes (exec (.pulseArm n) s) fun t =>
      t.flag PO_CTL_EN n = true ∧ ∃ x k, (t.pout n).next = some x ∧ x = s.poStart n + k * s.poPeriod n ∧
        s.ti.now + 10 * nsU ≤ x ∧ (k = 0 ∨ x < s.ti.now + 10 * nsU + s.poPeriod n) ∧ t.fld PO_NEXT_TIME n = toTime128 x ∧
        (t.pout n).cnt = 0 ∧ (∀ j, j ≠ n → t.pout j = s.pout j) ∧ t.mem = s.mem ∧ t.ti = s.ti) ∧
    (s.flag PO_CTL_EN n = false → s.poPeriodic n = false → s.poStart n < s.ti.now + 10 * nsU →
      Completes (exec (.pulseArm n) s) fun t => t.flag PO_CTL_EN n = false ∧ t.flag PO_STATUS_MISSED n = true ∧
        (t.pout n).next = none ∧ (s.flag PO_STATUS_MISSED n = false → ∀ j < 8, bitOf (t.seq j).events 24 = true)) ∧
    (∀ x, s.flag PO_CTL_EN n = true → (s.pout n).next = some x → s.poBall n x ≤ s.ti.now → s.poHeld = false →
      s.retired 7 n = false → s.poPeriodic n = true → s.fld PO_CTL_COUNT n = 0 →
      Completes (exec (.pulseLeadingEdge n) s) fun t =>
        t.out = .pulse n true (!s.flag PO_CTL_POL n) (s.placeSteps (s.poBall n x)) :: s.out ∧
        (t.pout n).high = some (x + s.poWidthAt n x) ∧
        (t.pout n).next = some (x + s.poPeriod n) ∧ (t.pout n).cnt = (s.pout n).cnt + 1 ∧
        t.fld PO_EMITTED_COUNT n = min (2 ^ 32 - 1) (s.fld PO_EMITTED_COUNT n + 1) ∧ t.flag PO_CTL_EN n = true ∧
        Writes s t [(PO_EMITTED_COUNT, n), (PO_NEXT_TIME, n)] ∧ { t with regs := s.regs, po := s.po, out := s.out } = s) ∧
    (∀ x, (s.pout n).high = some x → s.poBall n x ≤ s.ti.now → Completes (exec (.pulseTrailingEdge n) s) fun t =>
      t.out = .pulse n false (s.flag PO_CTL_POL n) (s.placeSteps (s.poBall n x)) :: s.out ∧ (t.pout n).high = none ∧
      t.flag PO_CTL_BUSY n = false ∧
      (∀ j, j ≠ n → t.pout j = s.pout j) ∧ Writes s t [(PO_CTL_BUSY, n)] ∧
      { t with regs := s.regs, po := s.po, out := s.out } = s) ∧
    (s.flag PO_CTL_EN n = true → Completes (exec (.pulseDisable n) s) fun t => t.flag PO_CTL_EN n = false ∧
      t.flag PO_CTL_BUSY n = (s.pout n).high.isSome ∧ (t.pout n).next = none ∧ (t.pout n).high = (s.pout n).high ∧
      Writes s t [(PO_CTL_EN, n), (PO_CTL_BUSY, n)] ∧ { t with regs := s.regs, po := s.po } = s)

/-! ### The edge-measurement block -/

/-- An edge of the selected polarity at a live channel of MODE 0, outside the dead time: one in every N is recorded with its sequence
number, stamp and bound; one inside the dead time is lost and counted; one of the other polarity, or at a channel that is not
live, changes no channel; a record of the PPS channel, 10, goes on to the twin block (R72, R73, R78 to R83). -/
def Obligations.EdgeRecords : Prop :=
  ∀ (s : State) (n k c0 c1 c2 c3 : Nat) (falling : Bool), n < 11 → (s.tdc n).open_ = none → k < 4 → c0 ≤ 256 → c1 ≤ 256 → c2 ≤ 256 → c3 ≤ 256 →
    let raw := s.tmRaw n k [c0, c1, c2, c3]
    let inst : Int := (s.ti.ticks : Int) * (5000 * 2 ^ 26) + raw
    (s.tmLive n = false → Settles (exec (.edgeArrival n falling k c0 c1 c2 c3) s) fun u => u.tm = s.tm ∧ (n ≠ 10 → u = s)) ∧
    (s.tmLive n = true → s.tmMode n = 0 → s.tmSelected n falling = false →
      Settles (exec (.edgeArrival n falling k c0 c1 c2 c3) s) fun u => u.tm = s.tm ∧ (n ≠ 10 → u = s)) ∧
    (s.tmLive n = true → s.tmMode n = 0 → s.tmSelected n falling = true → s.tmDead n inst = true →
      Settles (exec (.edgeArrival n falling k c0 c1 c2 c3) s) fun u => (u.tdc n).fifo = (s.tdc n).fifo ∧ (u.tdc n).ovf = true ∧
        u.fld TM_DEAD_COUNT n = min (2 ^ 32 - 1) (s.fld TM_DEAD_COUNT n + 1) ∧
        (∀ j, j ≠ n → u.tdc j = s.tdc j) ∧
        (n ≠ 10 → Writes s u [(TM_DEAD_COUNT, n)] ∧ { u with regs := s.regs, tm := s.tm } = s)) ∧
    (s.tmLive n = true → s.tmMode n = 0 → s.tmSelected n falling = true → s.tmDead n inst = false →
      (s.tdc n).presc % s.tmPrescale n = 0 → (s.tdc n).fifo.length < 256 →
      Settles (exec (.edgeArrival n falling k c0 c1 c2 c3) s) fun u => ∃ r, (u.tdc n).fifo = (s.tdc n).fifo ++ [r] ∧
        r % 2 ^ 32 = (s.tdc n).seq % 2 ^ 32 ∧ r / 2 ^ 32 % 2 ^ 32 = s.tmBound n % 2 ^ 32 ∧
        r / 2 ^ 96 = s.tmStamp n raw / 2 ^ 16 % 2 ^ 32 ∧ r / 2 ^ 80 % 2 ^ 16 = s.tmStamp n raw % 2 ^ 16 ∧
        (u.tdc n).seq = ((s.tdc n).seq + 1) % 2 ^ 32 ∧ (u.tdc n).last = some inst ∧ (u.tdc n).ovf = false ∧
        (n < 4 → smGet [] u.tmb.copies n = smGet [] s.tmb.copies n ++ [r]) ∧
        (∀ j, j ≠ n → u.tdc j = s.tdc j) ∧
        (n ≠ 10 → { u with tm := s.tm, tmb := s.tmb, evc := s.evc } = s)) ∧
    (s.tmLive n = true → s.tmMode n = 0 → s.tmSelected n falling = true → s.tmDead n inst = false →
      (s.tdc n).presc % s.tmPrescale n ≠ 0 →
      Settles (exec (.edgeArrival n falling k c0 c1 c2 c3) s) fun u => (u.tdc n).fifo = (s.tdc n).fifo ∧
        (u.tdc n).presc = ((s.tdc n).presc + 1) % s.tmPrescale n ∧ (u.tdc n).seq = (s.tdc n).seq ∧
        (n ≠ 10 → { u with tm := s.tm } = s))

/-- Enabling a channel starts its offset calibration, which ends with the measured offset after 10 ms; an interval whose timeout has
passed closes with a stop record, as does one of a channel that is disabled; hits build a table until it is complete; a
complete table that spans every line becomes the active one at the next tick, another is discarded; CAL_STALE follows a table's age
(R74 to R77, R86, R88). -/
def Obligations.ChannelsAndCalibration : Prop :=
  ∀ (s : State) (n : Nat), n < 12 →
    (s.flag TM_CH_CTL_EN n = false → Completes (exec (.tmChannelEnable n) s) fun t => t.flag TM_CH_CTL_EN n = true ∧
      t.flag TM_CH_STATUS_OFS_CAL n = true ∧ (t.tdc n).seq = 0 ∧ (t.tdc n).last = none ∧ (t.tdc n).fifo = (s.tdc n).fifo ∧
      (t.tdc n).calFrom = (if s.safe then none else some s.ti.elapsed) ∧ (∀ j, j ≠ n → t.tdc j = s.tdc j) ∧
      Writes s t [(TM_CH_CTL_EN, n), (TM_CH_STATUS_OFS_CAL, n)] ∧ { t with regs := s.regs, tm := s.tm } = s) ∧
    (∀ x offset, (s.tdc n).calFrom = some x → s.flag TM_CH_STATUS_OFS_CAL n = true → s.safe = false →
      x + 10 * msU ≤ s.ti.elapsed → Completes (exec (.offsetCalDone n offset) s) fun t =>
        t.fld TM_OFFSET_OFFSET n = offset % 2 ^ 32 ∧ t.flag TM_CH_STATUS_OFS_CAL n = false ∧ (t.tdc n).calFrom = none ∧
        (t.tdc n).liveAt = s.ti.ticks + 1 ∧
        Writes s t [(TM_OFFSET_OFFSET, n), (TM_CH_STATUS_OFS_CAL, n)] ∧ { t with regs := s.regs, tm := s.tm } = s) ∧
    (∀ o, (s.tdc n).open_ = some o → o.until_ ≤ s.ti.elapsed → (s.tdc n).fifo.length < 256 →
      Completes (exec (.intervalTimeout n) s) fun t => (t.tdc n).open_ = none ∧ t.flag TM_CH_STATUS_INTERVAL_OPEN n = false ∧
        (∃ r, (t.tdc n).fifo = (s.tdc n).fifo ++ [r] ∧ r % 2 ^ 32 = o.seq % 2 ^ 32 ∧ bitOf r 65 = true) ∧
        (t.tdc n).seq = (o.seq + 1) % 2 ^ 32 ∧ Writes s t [(TM_CH_STATUS_INTERVAL_OPEN, n)] ∧
        { t with regs := s.regs, tm := s.tm, tmb := s.tmb, evc := s.evc } = s) ∧
    (s.flag TM_CH_CTL_EN n = true → (s.tdc n).open_ = none → Completes (exec (.tmChannelDisable n) s) fun t =>
      t.flag TM_CH_CTL_EN n = false ∧ t.flag TM_CH_STATUS_BUSY n = false ∧ (t.tdc n).fifo = (s.tdc n).fifo ∧
      Writes s t [(TM_CH_CTL_EN, n), (TM_CH_STATUS_OFS_CAL, n), (TM_CH_STATUS_BUSY, n)] ∧
      { t with regs := s.regs, tm := s.tm } = s) ∧
    (∀ c0 c1 c2 c3, c0 ≤ 256 → c1 ≤ 256 → c2 ≤ 256 → c3 ≤ 256 → s.safe = false → s.tmComplete n = false →
      Completes (exec (.calHit n c0 c1 c2 c3 false) s) fun t => (t.tdc n).hits = (s.tdc n).hits + 1 ∧
        smGet 0 (t.tdc n).hist c0 = smGet 0 (s.tdc n).hist c0 + 1 ∧
        smGet 0 (t.tdc n).hist (1536 + c3) = smGet 0 (s.tdc n).hist (1536 + c3) + 1 ∧ (t.tdc n).table = (s.tdc n).table ∧
        (∀ j, j ≠ n → t.tdc j = s.tdc j) ∧ { t with tm := s.tm } = s) ∧
    (s.tmComplete n = true → s.safe = false → s.tmSpanOk n = true → Completes (exec (.calTableComplete n) s) fun t =>
      (t.tdc n).newTab = some (s.tmBuilt n) ∧ (t.tdc n).tabAt = s.ti.elapsed ∧ (t.tdc n).hits = 0 ∧
      (t.tdc n).table = (s.tdc n).table ∧ (∀ j, j ≠ n → t.tdc j = s.tdc j) ∧ { t with tm := s.tm } = s) ∧
    (∀ tab, (s.tdc n).newTab = some tab → s.shadow TM_CAL_CTL_HITS_LOG2 0 = none → Settles (exec (.rwsCommit 3 0 0) s) fun u =>
      (u.tdc n).table = tab ∧ (u.tdc n).hasTab = true ∧ (u.tdc n).newTab = none ∧
      u.flag TM_CH_STATUS_CAL_STALE n = u.tmStale n ∧ { u with regs := s.regs, tm := s.tm } = s) ∧
    (s.tmComplete n = true → s.safe = false → s.tmSpanOk n = false → Settles (exec (.calTableComplete n) s) fun u =>
      (u.tdc n).hits = 0 ∧ (u.tdc n).table = (s.tdc n).table ∧ (u.tdc n).hasTab = (s.tdc n).hasTab ∧ u.mem = s.mem) ∧
    Completes (exec (.calStale n) s) (fun t => t.flag TM_CH_STATUS_CAL_STALE n = s.tmStale n ∧
      Writes s t [(TM_CH_STATUS_CAL_STALE, n)] ∧ { t with regs := s.regs } = s)

/-- An event-DMA record leaves its FIFO when ring 51 has room, and the ring's PROD advances; with the ring full FULL sets and it
stays. The loop generator's due edge goes out with its phase and reaches channel 11, and the next is a period later. A warm-up
window's y, a whole multiple of 1e-15 within one of the exact value (which of two is the model's free value, log entry 3), is published
and compared with the one before; a window in which the root lost lock, or that does not count, leaves the estimator (R84, R89, R92,
R404). -/
def Obligations.EventDmaLoopWarm : Prop :=
  ∀ s : State,
    (∀ n r rs, n < 12 → (s.tdc n).fifo = r :: rs → s.fld TM_CH_CTL_READER n = 2 → s.ringRoom 51 = true →
      Completes (exec (.eventDmaPost n) s) fun t => (t.tdc n).fifo = rs ∧ (∀ j, j ≠ n → t.tdc j = s.tdc j) ∧
        t.fld RG_PROD_COUNT 51 = (s.fld RG_PROD_COUNT 51 + 1) % 2 ^ 32 ∧ Writes s t [(RG_PROD_COUNT, 51)] ∧
        t.seqs = s.seqs ∧ t.fm = s.fm) ∧
    (∀ n, n < 12 → (s.tdc n).fifo ≠ [] → s.fld TM_CH_CTL_READER n = 2 → s.ringOn 51 = true → s.ringFull 51 = true →
      Completes (exec (.eventDmaPost n) s) fun t => t.flag RG_STATUS_FULL 51 = true ∧ t.tm = s.tm ∧
        Writes s t [(RG_STATUS_FULL, 51)] ∧ { t with regs := s.regs, tk := s.tk } = s) ∧
    (∀ x k c0 c1 c2 c3, s.tmb.loopNext = some x → s.flag TM_LOOP_CTL_EN 0 = true → x ≤ s.ti.ticks → k < 4 → c0 ≤ 256 → c1 ≤ 256 →
      c2 ≤ 256 → c3 ≤ 256 → Completes (exec (.loopEdge k c0 c1 c2 c3) s) fun t =>
        t.tmb.loopNext = some (x + s.fld TM_LOOP_CTL_PERIOD 0) ∧
        t.tmb.phase = (s.tmb.phase + s.fld TM_LOOP_CTL_PHASE_STEP 0) % 4096 ∧ t.out = .ball 0 s.tmb.phase :: s.out ∧
        (s.tmLive 11 = false → { t with tmb := s.tmb, out := s.out } = s) ∧
        (s.tmLive 11 = true → s.tmMode 11 = 0 → s.tmSelected 11 false = true → (s.tdc 11).open_ = none → (s.tdc 11).last = none →
          (s.tdc 11).presc % s.tmPrescale 11 = 0 → (s.tdc 11).fifo.length < 256 →
          ∃ r, (t.tdc 11).fifo = (s.tdc 11).fifo ++ [r] ∧ r % 2 ^ 32 = (s.tdc 11).seq % 2 ^ 32)) ∧
    ((∀ x, s.tmb.loopNext = some x → s.flag TM_LOOP_CTL_EN 0 = false ∨ s.ti.ticks < x) → ∀ k c0 c1 c2 c3, k < 4 → c0 ≤ 256 → c1 ≤ 256 →
      c2 ≤ 256 → c3 ≤ 256 → exec (.loopEdge k c0 c1 c2 c3) s = .next s) ∧
    (∀ w y d, s.tmb.win = some w → w.from_ + warmLen ≤ s.tmb.root → w.lost = false →
      warmY w.edges (w.last - w.first).toNat = some (y, d) → Completes (exec .warmWindowEnd s) fun t => ∃ v : Int,
        y * 10 ^ 15 - d < v * d ∧ v * d < y * 10 ^ 15 + d ∧ (y * 10 ^ 15 % d = 0 → v * d = y * 10 ^ 15) ∧
        t.fld TM_WARM_FREQ_Y 0 = wrapTo 32 (satS32 v) % 2 ^ 32 ∧ t.tmb.warmY = some v ∧
        t.tmb.win = some { from_ := w.from_ + warmLen, edges := 0, first := 0, last := 0, lost := false } ∧
        (s.tmb.warmY = none → t.tmb.warmRun = s.tmb.warmRun) ∧
        (∀ y0, s.tmb.warmY = some y0 →
          (t.tmb.warmRun = if (v - y0).natAbs < s.fld TM_LOSC_CTL_WARM_THRESH 0 * 1000 then s.tmb.warmRun + 1 else 0) ∧
          ((v - y0).natAbs ≥ s.fld TM_LOSC_CTL_WARM_THRESH 0 * 1000 → t.flag TM_LOSC_STATUS_WARM_EST 0 = false)) ∧
        Writes s t [(TM_WARM_FREQ_Y, 0), (TM_LOSC_STATUS_WARM_EST, 0)] ∧
        { t with regs := s.regs, tmb := s.tmb, freeCtr := s.freeCtr } = s) ∧
    (∀ w, s.tmb.win = some w → w.from_ + warmLen ≤ s.tmb.root → w.lost = true ∨ warmY w.edges (w.last - w.first).toNat = none →
      Completes (exec .warmWindowEnd s) fun t =>
        t.tmb.win = some { from_ := w.from_ + warmLen, edges := 0, first := 0, last := 0, lost := false } ∧
        t.tmb.warmY = s.tmb.warmY ∧ { t with tmb := s.tmb } = s) ∧
    ((∀ w, s.tmb.win = some w → s.tmb.root < w.from_ + warmLen) → exec .warmWindowEnd s = .next s)

/-! ### Root and output synthesis -/

namespace Sys2Proof.Machine

/-- A relock stands at step 5: the core clocks run from SAFE_OSC, the root is not locked and both DRAM channels are in
self-refresh (R100). -/
structure AtStep5 (s u : State) : Prop where
  phase : u.sy.phase = 5
  root  : u.flag SY_ROOT_STATUS_LOCKED 0 = false
  safe  : u.safe = true
  dist  : s.safe = false → u.flag TC_STATUS_DISTURBED 0 = true
  relk  : u.flag SY_ROOT_STATUS_RELOCKING 0 = true
  sleep : u.flag DR_STATUS_SELF_REFRESH 0 = true ∧ u.flag DR_STATUS_SELF_REFRESH 1 = true
  time  : u.ti.now = s.ti.now ∧ u.ti.elapsed = s.ti.elapsed ∧ s.ti.widenAcc ≤ u.ti.widenAcc
  mem   : u.mem = s.mem

end Sys2Proof.Machine

/-- A loss of lock, of LOSC, a relock command and an accepted sweep from rest each bring the root to step 5; with LOSC an active engine
in pair mode demotes; during steps 8 to 10 a command is held; a sweep in SERVICE or in RECOVERY changes nothing of the root (R39,
R98 to R101). LOSC coming back lets a waiting root latch its configuration; a sweep ends with its measured table, narrowed by 640
kHz, and the latch; LOCKED, the switch back to the root's clock and the end of the relock follow in order, and a DRAM request held
until then is carried out; a lock that takes 1 ms is a failure, once; SAFE_OSC is measured while the root is locked (R23, R95 to
R100, R103, R104). -/
def Obligations.Relocks : Prop :=
  (∀ s : State,
    (s.sy.phase = 0 → s.flag SY_ROOT_STATUS_LOCKED 0 = true → Settles (exec .rootLossOfLock s) fun u =>
      AtStep5 s u ∧ u.flag SY_ROOT_STATUS_UNLOCKED 0 = true) ∧
    (s.flag SY_ROOT_STATUS_LOCKED 0 = false → Settles (exec .rootLossOfLock s) fun u => u = s) ∧
    (s.flag TM_LOSC_STATUS_PRESENT 0 = true → Settles (exec .loscLost s) fun u =>
      u.flag TM_LOSC_STATUS_PRESENT 0 = false ∧ u.flag TM_LOSC_STATUS_LOST 0 = true ∧
      u.flag TM_LOSC_STATUS_WARM_EST 0 = false ∧ u.flag SY_ROOT_STATUS_LOCKED 0 = false ∧ u.ti.now = s.ti.now ∧
      (s.flag SY_ROOT_STATUS_LOCKED 0 = true → s.sy.phase = 0 → AtStep5 s u) ∧
      (s.pairMode = true → s.role = 3 → u.role = 4)) ∧
    (s.flag TM_LOSC_STATUS_PRESENT 0 = false → exec .loscLost s = .next s) ∧
    (∀ a : Actor, s.mayWrite a .SY = true →
      (s.sy.phase = 0 → s.flag SY_ROOT_STATUS_SWEEP_BUSY 0 = false → Settles (exec (.rootRelockCmd a) s) fun u => AtStep5 s u) ∧
      (s.sy.phase = 8 → s.flag SY_ROOT_STATUS_SWEEP_BUSY 0 = false → Settles (exec (.rootRelockCmd a) s) fun u =>
        u = { s.debugNote a with sy := { s.sy with heldCmd := max s.sy.heldCmd 1 } }) ∧
      (s.mode = 0 ∨ s.mode = 2 → s.flag TM_LOSC_STATUS_PRESENT 0 = true → s.sy.phase = 0 →
        Settles (exec (.bandSweepCmd a) s) fun u => AtStep5 s u ∧ u.flag SY_ROOT_STATUS_SWEEP_BUSY 0 = true ∧
          u.sy.latched = false) ∧
      (s.mode = 1 → Settles (exec (.bandSweepCmd a) s) fun u => u.sy = s.sy ∧ u.flag SY_ROOT_STATUS_SWEEP_BUSY 0 =
        s.flag SY_ROOT_STATUS_SWEEP_BUSY 0 ∧ u.ti = s.ti ∧ u.mem = s.mem)) ∧
    (∀ a : Actor, s.mode = 3 → s.mayWrite a .SY = false → Settles (exec (.bandSweepCmd a) s) fun u => u.sy = s.sy ∧
      u.flag SY_ROOT_STATUS_SWEEP_BUSY 0 = s.flag SY_ROOT_STATUS_SWEEP_BUSY 0 ∧ u.ti = s.ti ∧ u.mem = s.mem ∧
      (s.fm.queue = [] → u.fm.queue.map (fun r => (r.code, r.chan, r.count)) = [(RECOVERY_WRITE.1, 0x104, 2)]))) ∧
  (∀ s : State,
    (s.flag TM_LOSC_STATUS_PRESENT 0 = false → Completes (exec .loscPresent s) fun t =>
      t.flag TM_LOSC_STATUS_PRESENT 0 = true ∧ t.ti = s.ti ∧ t.mem = s.mem ∧
      (s.sy.phase = 5 → s.sy.latched = false → s.flag SY_ROOT_STATUS_SWEEP_BUSY 0 = false → t.sy.latched = true ∧
        t.sy.lockTime = 0 ∧ t.fld SY_ROOT_STATUS_N 0 =
          rootN (s.fld SY_ROOT_CFG_LOSC_FREQ 0) (s.fld SY_ROOT_CFG_PATH 0) % 2 ^ 11) ∧
      (s.sy.phase ≠ 5 → Writes s t [(TM_LOSC_STATUS_PRESENT, 0)] ∧ { t with regs := s.regs } = s)) ∧
    (∀ lo hi : List Nat, lo.length = 32 → hi.length = 32 → s.flag SY_ROOT_STATUS_SWEEP_BUSY 0 = true → s.sy.phase = 5 →
      s.flag TM_LOSC_STATUS_PRESENT 0 = true → Completes (exec (.bandSweepComplete lo hi) s) fun t =>
        t.flag SY_ROOT_STATUS_SWEEP_BUSY 0 = false ∧ t.sy.latched = true ∧ t.sy.phase = 5 ∧
        ∀ k < 32, t.fld SY_BAND_TABLE_FMIN k = ceilDiv (lo.getD k 0 + 640) 250 % 2 ^ 15 ∧
          t.fld SY_BAND_TABLE_FMAX k = (hi.getD k 0 - 640) / 250 % 2 ^ 15 ∧ t.flag SY_BAND_TABLE_VALID k = true) ∧
    (s.sy.phase = 5 → s.sy.latched = true → s.flag TM_LOSC_STATUS_PRESENT 0 = true →
      Completes (exec .rootLockDeclared s) fun t => t.flag SY_ROOT_STATUS_LOCKED 0 = true ∧ t.sy.phase = 6 ∧
        Writes s t [(SY_ROOT_STATUS_LOCKED, 0)] ∧ { t with regs := s.regs, sy := s.sy } = s) ∧
    (s.sy.phase = 6 → Settles (exec .coreClockSwitchback s) fun u => u.safe = false ∧ u.sy.phase = 8 ∧
      u.sy.freezeAt = none ∧ u.ti.distClear = true ∧ u.ti.now = s.ti.now ∧ s.ti.widenAcc ≤ u.ti.widenAcc) ∧
    (∀ addr v, s.sy.phase = 8 → s.sy.heldCmd = 0 → v < 2 ^ 32 → inDram addr = true → inDram (addr + 3) = true →
      s.waits = [{ actor := .pf0, write := true, addr := addr, len := 4, bytes := toBytes 4 v }] →
      s.served .pf0 addr true = true → s.imgBlocked .pf0 addr 4 = false → Settles (exec .relockDone s) fun u =>
        u.waits = [] ∧ memNat u.mem addr 4 = v ∧ (∀ x, x < addr ∨ addr + 4 ≤ x → memGet u.mem x = memGet s.mem x)) ∧
    (s.sy.phase = 8 → s.sy.heldCmd = 0 → s.waits = [] → Settles (exec .relockDone s) fun u => u.sy.phase = 0 ∧
      u.flag SY_ROOT_STATUS_RELOCKING 0 = false ∧ u.flag DR_STATUS_SELF_REFRESH 0 = false ∧
      u.flag DR_STATUS_SELF_REFRESH 1 = false ∧
      u.fld SY_RELOCK_COUNT_COUNT 0 = min (2 ^ 32 - 1) (s.fld SY_RELOCK_COUNT_COUNT 0 + 1) ∧ u.mem = s.mem ∧ u.ti = s.ti) ∧
    (s.sy.phase = 5 → s.sy.latched = true → s.sy.failed = false → msU ≤ s.sy.lockTime → Settles (exec .rootLockFail s) fun u =>
      u.sy = { s.sy with failed := true } ∧ u.mem = s.mem ∧ u.ti = s.ti) ∧
    (∀ period, s.flag SY_ROOT_STATUS_LOCKED 0 = true → Completes (exec (.safeMeasWindow period) s) fun t =>
      t.fld SY_SAFE_MEAS_PERIOD 0 = period % 2 ^ 64 ∧ Writes s t [(SY_SAFE_MEAS_PERIOD, 0), (SY_SAFE_DRIFT_DRIFT, 0)] ∧
      t.sy.safeLink = true ∧ { t with regs := s.regs, sy := s.sy } = s) ∧
    (∀ n x, s.sy.freezeAt = some x → x + msU ≤ s.ti.elapsed →
      (n < 8 → (s.itlL n).phase ≠ 0 → (s.itlL n).phase ≠ 8 → Settles (exec (.laneFreezeTimeout true n) s) fun u =>
        (u.itlL n).phase = 8 ∧ u.flag SL_ITL_STATUS_UP n = false) ∧
      (n < 16 → (s.ethL n).phase ≠ 0 → (s.ethL n).phase ≠ 6 → Settles (exec (.laneFreezeTimeout false n) s) fun u =>
        (u.ethL n).phase = 6 ∧ u.flag SL_ETH_STATUS_UP n = false)))

/-- The output PLLs: enabling starts a relock, which locks on a band and settles 20 us later or fails after 1 ms; a multiplier in the
range of 4.8 to 5.6 GHz is taken (R105 to R107). The clock outputs: an output runs at its divisor with its high phase from its enable on
and rests low after its disable; a rising edge of a CLAMP output that comes too early is suppressed and counted, one that does not
goes out, and a falling edge too early is held; the divider restarts at the engine second after settling plus the trim, and not
during a hold (R108 to R111). -/
def Obligations.OutputClocks : Prop :=
  ∀ (s : State) (n : Nat),
    (n < 4 → s.flag SY_OPLL_CTL_EN n = false → Completes (exec (.opllEnable n) s) fun t => t.flag SY_OPLL_CTL_EN n = true ∧
      t.flag SY_OPLL_STATUS_RELOCKING n = true ∧ t.flag SY_OPLL_STATUS_LOCKED n = false ∧
      (t.pll n).startAt = s.ti.elapsed ∧ (t.pll n).lockedAt = none ∧ (t.pll n).hold = true ∧ (∀ j, j ≠ n → t.pll j = s.pll j) ∧
      (∀ k < 8, s.fld SY_CKO_CTL_SRC k = n → t.flag SY_CKO_STATUS_HOLDING k = true ∧ (t.ck k).waitSec = none) ∧
      { t with regs := s.regs, opll := s.opll, cko := s.cko, out := s.out } = s) ∧
    (∀ a v, n < 4 → s.mayWrite a .SY = true → s.multOk n (v % 2 ^ 54) = true →
      Completes (exec (.opllMultWrite a n v) s) fun t => t.fld SY_OPLL_MULT_FRAC n = v % 2 ^ 48 ∧
        t.fld SY_OPLL_MULT_INT n = v / 2 ^ 48 % 2 ^ 6 ∧
        { t with regs := s.regs, opll := s.opll, cko := s.cko, out := s.out } = s.debugNote a ∧
        (s.safe = true → Writes s t [(SY_OPLL_MULT_FRAC, n), (SY_OPLL_MULT_INT, n)])) ∧
    (∀ band, n < 4 → band < 16 → s.flag SY_OPLL_STATUS_RELOCKING n = true → s.sy.phase = 0 → (s.pll n).lockedAt = none →
      Completes (exec (.opllLocked n band) s) fun t => t.fld SY_OPLL_STATUS_BAND n = band ∧
        (t.pll n).lockedAt = some s.ti.elapsed ∧ Writes s t [(SY_OPLL_STATUS_BAND, n)] ∧
        { t with regs := s.regs, opll := s.opll } = s) ∧
    (∀ x, n < 4 → (s.pll n).lockedAt = some x → s.flag SY_OPLL_STATUS_RELOCKING n = true → s.sy.phase = 0 →
      x + 20 * usU ≤ s.ti.elapsed → Completes (exec (.opllSettled n) s) fun t => t.flag SY_OPLL_STATUS_LOCKED n = true ∧
        t.flag SY_OPLL_STATUS_RELOCKING n = false ∧ (t.pll n).hold = false ∧
        (∀ k < 8, s.fld SY_CKO_CTL_SRC k = n → t.flag SY_CKO_STATUS_HOLDING k = false ∧
          (t.ck k).waitSec = if (s.ck k).alignOn then some (secOf s.ti.now) else none) ∧
        { t with regs := s.regs, opll := s.opll, cko := s.cko, out := s.out } = s) ∧
    (n < 4 → s.sy.phase ≠ 0 → ∀ band < 16, exec (.opllLocked n band) s = .next s ∧ exec (.opllSettled n) s = .next s) ∧
    (n < 4 → s.flag SY_OPLL_STATUS_RELOCKING n = true → (s.pll n).lockedAt = none → (s.pll n).failed = false →
      (s.pll n).startAt + msU ≤ s.ti.elapsed → Settles (exec (.opllLockFail n) s) fun u => (u.pll n).failed = true ∧
        (u.pll n).startAt = (s.pll n).startAt ∧ u.mem = s.mem ∧ u.ti = s.ti) ∧
    (n < 8 → s.flag SY_CKO_CTL_EN n = false → s.retired 8 n = false → s.retired 9 (s.fld SY_CKO_CTL_SRC n) = false →
      s.ckoTooFast n = false → s.flag SY_CKO_CTL_ALIGN n = false → Completes (exec (.ckoEnable n) s) fun t =>
        t.flag SY_CKO_CTL_EN n = true ∧ (t.ck n).runs = true ∧ (t.ck n).waitSec = none ∧ (∀ j, j ≠ n → t.ck j = s.ck j) ∧
        t.out = (if s.flag SY_CKO_CTL_HOLD_MODE n = true ∨ s.flag SY_CKO_STATUS_HOLDING n = false then
          [.clock n (s.fld SY_CKO_DIV_DIV n + 1) (s.ckoHigh n)] else []) ++ s.out ∧
        Writes s t [(SY_CKO_CTL_EN, n), (SY_CKO_STATUS_BUSY, n)] ∧ { t with regs := s.regs, cko := s.cko, out := s.out } = s) ∧
    (n < 8 → s.flag SY_CKO_CTL_EN n = true → Completes (exec (.ckoDisable n) s) fun t => t.flag SY_CKO_CTL_EN n = false ∧
      t.flag SY_CKO_STATUS_BUSY n = (s.ck n).runs ∧ t.flag SY_CKO_STATUS_ALIGNED n = false ∧ (∀ j, j ≠ n → t.ck j = s.ck j) ∧
      t.out = (if (s.ck n).runs then [.clock n 0 0] else []) ++ s.out ∧
      { t with regs := s.regs, cko := s.cko, out := s.out } = s) ∧
    (∀ gap, n < 8 → s.flag SY_CKO_CTL_EN n = true → s.flag SY_CKO_CTL_HOLD_MODE n = true → (s.ck n).runs = true →
      (s.ckoShort n (2 * s.ckoD n) (s.fld SY_CKO_CTL_MARGIN n) gap = true → s.flag SY_CKO_STATUS_HOLDING n = true →
        Completes (exec (.ckoGuardSuppress n false gap) s) fun t =>
          t.fld SY_CKO_SWALLOW_COUNT n = min (2 ^ 32 - 1) (s.fld SY_CKO_SWALLOW_COUNT n + 1) ∧
          Writes s t [(SY_CKO_SWALLOW_COUNT, n)] ∧ { t with regs := s.regs, evc := s.evc } = s) ∧
      (s.ckoShort n (2 * s.ckoD n) (s.fld SY_CKO_CTL_MARGIN n - 4) gap = false →
        exec (.ckoGuardSuppress n false gap) s = .next s) ∧
      (s.ckoShort n (s.ckoHigh n) (s.fld SY_CKO_CTL_MARGIN n) gap = false →
        exec (.ckoGuardSuppress n true gap) s = .next s) ∧
      (s.ckoShort n (s.ckoHigh n) (s.fld SY_CKO_CTL_MARGIN n) gap = true → 0 < s.opllMult (s.fld SY_CKO_CTL_SRC n) →
        Completes (exec (.ckoGuardSuppress n true gap) s) fun t => ∃ d > gap, t = s.emit (.clockFall n d))) ∧
    (∀ gap falling, n < 8 → s.flag SY_CKO_CTL_HOLD_MODE n = false ∨ (s.ck n).runs = false →
      exec (.ckoGuardSuppress n falling gap) s = .next s) ∧
    (∀ x, n < 8 → (s.ck n).waitSec = some x → s.flag SY_CKO_CTL_EN n = true → s.flag SY_CKO_STATUS_HOLDING n = false →
      x < secOf s.ti.now → Completes (exec (.ckoAlignStart n) s) fun t =>
        t.flag SY_CKO_STATUS_ALIGNING n = true ∧ (t.ck n).waitSec = none ∧
        t.out = [.clock n (s.fld SY_CKO_DIV_DIV n + 1) (s.ckoHigh n),
          .clockAlign n ((secOf s.ti.now * 10 ^ 12 : Nat) + signed 32 (s.fld SY_CKO_TRIM_TRIM n))] ++ s.out ∧
        Writes s t [(SY_CKO_STATUS_ALIGNING, n)] ∧ { t with regs := s.regs, cko := s.cko, out := s.out } = s) ∧
    (∀ x, n < 8 → (s.ck n).waitSec = some x → s.flag SY_CKO_STATUS_HOLDING n = true →
      exec (.ckoAlignStart n) s = .next s) ∧
    (n < 8 → s.flag SY_CKO_STATUS_ALIGNING n = true → Completes (exec (.ckoAligned n) s) fun t =>
      t.flag SY_CKO_STATUS_ALIGNED n = true ∧ t.flag SY_CKO_STATUS_ALIGNING n = false ∧
      Writes s t [(SY_CKO_STATUS_ALIGNING, n), (SY_CKO_STATUS_ALIGNED, n)] ∧ { t with regs := s.regs } = s)

/-! ### References, selection and holdover -/

/-- Measurements: a counted PPS record gives the phase's instant and advances the sequence; a packet exchange completes; the mean of
1 ms of Irnak offsets is one measurement; a TAI label waits for its record, and an unmatched label or record expires; a window of
64 s ends (R114 to R121, R131, R328). -/
def Obligations.Measurements : Prop :=
  ∀ s : State,
    (∀ n r rs, n < 4 → smGet [] s.tmb.copies n = r :: rs → s.refMode n ≠ 1 → s.rstate n ≠ 0 → s.rstate n ≠ 4 →
      recCounts r = true → Settles (exec (.refPpsMeasurement n) s) fun u => smGet [] u.tmb.copies n = rs ∧
        u.fld RS_SAMPLE_SEQ n = (s.fld RS_SAMPLE_SEQ n + 1) % 2 ^ RS_SAMPLE_SEQ.width ∧
        (u.ref n).at_ = some (s.expand (r / 2 ^ 96 % 2 ^ 32 * 2 ^ 16 + r / 2 ^ 80 % 2 ^ 16)) ∧ u.mem = s.mem ∧ u.ti.now = s.ti.now) ∧
    (∀ n, n < 4 → smGet [] s.tmb.copies n = [] → Settles (exec (.refPpsMeasurement n) s) fun u => u = s) ∧
    (∀ n q, n < 2 → s.ts.queue.find? (fun x => x.tag == 9 && x.unit_ == n) = some q →
      let s1 : State := { s with ts := { s.ts with queue := s.ts.queue.erase q } }
      let p := (s1.pktAccept n q).1.pkt n
      (s1.pktAccept n q).2 = true → p.dreq.map (·.1) = some (beAt q.body 30 2) → (p.pair.bind (·.2.1)).isSome = true →
      (q.body.drop 44).take 10 = (s1.pktAccept n q).1.ptpId ((s1.pktAccept n q).1.fld TS_PKT_CTL_MAC n) →
      Settles (exec (.refPktExchange n) s) fun u => (u.pkt n).dreq = none ∧ u.ts.queue = s.ts.queue.erase q ∧
        u.fld TS_PKT_STATUS_EXCHANGES n = ((s1.pktAccept n q).1.fld TS_PKT_STATUS_EXCHANGES n + 1) %
          2 ^ TS_PKT_STATUS_EXCHANGES.width ∧ u.mem = s.mem) ∧
    (∀ n, n < 2 → s.rstate (6 + n) ≠ 0 → s.rstate (6 + n) ≠ 4 →
      (s.upstream (s.fld RS_REF_CTL_LANE (6 + n))).2.2 ≠ 0xFFFFFFFF → (s.ref (6 + n)).itlCnt ≠ 0 →
      s.laneMs (s.fld RS_REF_CTL_LANE (6 + n)) ≠ (s.ref (6 + n)).itlMs →
      Settles (exec (.refItlMeasurement n) s) fun u => (u.ref (6 + n)).itlCnt = 0 ∧ (u.ref (6 + n)).itlSum = 0 ∧
        (u.ref (6 + n)).at_ = some (((s.ref (6 + n)).itlMs + 1) * msU) ∧ u.mem = s.mem) ∧
    (∀ n, n < 2 → s.laneMs (s.fld RS_REF_CTL_LANE (6 + n)) = (s.ref (6 + n)).itlMs →
      Settles (exec (.refItlMeasurement n) s) fun u => u = s) ∧
    (∀ a n sec seq, n < 2 → sec < 2 ^ 48 → seq < 2 ^ 32 → s.mayWrite a .RS = true → s.rstate n ≠ 0 → s.refMode n = 1 →
      (s.ref n).recs.find? (fun x => x.seq == seq) = none → Settles (exec (.rsTodWrite a n sec seq) s) fun u =>
        (u.ref n).labels = (s.ref n).labels ++ [{ seq := seq, sec := sec, until_ := s.ti.elapsed + 2 * secU }] ∧
        (u.ref n).recs = (s.ref n).recs ∧ u.rstate n = s.rstate n ∧ u.mem = s.mem) ∧
    (∀ n l ls, n < 2 → (s.ref n).labels = l :: ls → l.until_ ≤ s.ti.elapsed → Settles (exec (.todLabelTimeout n) s) fun u =>
      (u.ref n).labels = ls ∧ u.fld RS_TOD_LATE_COUNT n = min (2 ^ 32 - 1) (s.fld RS_TOD_LATE_COUNT n + 1) ∧
      Writes s u [(RS_TOD_LATE_COUNT, n)] ∧ { u with regs := s.regs, refs := s.refs } = s) ∧
    (∀ n x xs, n < 2 → (s.ref n).recs = x :: xs → x.until_ ≤ s.ti.elapsed → Settles (exec (.todRecordTimeout n) s) fun u =>
      (u.ref n).recs = xs ∧ (s.rstate n = 2 → u.rstate n = 3 ∧ u.reason n = 4) ∧ u.mem = s.mem) ∧
    ((s.rs.win + 1) * 64 * secU ≤ s.now → Settles (exec .freqWindowEnd s) fun u => u.rs.win = s.rs.win + 1 ∧ u.mem = s.mem) ∧
    (s.now < (s.rs.win + 1) * 64 * secU → Settles (exec .freqWindowEnd s) fun u => u = s)

/-- The state of a reference: qualified when its criteria have held, disqualified by a loss of presence or by command, qualifying
again by itself or by acceptance, enabled, disabled; no other reference's state changes (R122 to R126). Selection: a forced
qualified reference is selected, by PF0 alone. The engine locks when it has stood in the window for the lock time, and acquires
again when it has stood outside for as long. References that agreed long enough after holdover are plausible again (R127, R129,
R130, R146, R147). -/
def Obligations.ReferencesAndSelection : Prop :=
  (∀ (s : State) (n : Nat), n < 8 →
    let others := fun u : State => ∀ m < 8, m ≠ n → u.rstate m = s.rstate m
    (s.qualifiedNow n = true → Settles (exec (.refQualified n) s) fun u => u.rstate n = 2 ∧ others u ∧ u.mem = s.mem) ∧
    (s.qualifiedNow n = false → Settles (exec (.refQualified n) s) fun u => u = s) ∧
    (s.rsGap n = true → s.rstate n = 2 → Settles (exec (.refPresenceLoss n) s) fun u =>
      u.rstate n = 3 ∧ u.reason n = 1 ∧ (u.ref n).present = none ∧ others u ∧ u.mem = s.mem) ∧
    (s.rsGap n = true → s.rstate n = 1 → Settles (exec (.refPresenceLoss n) s) fun u =>
      u.rstate n = 1 ∧ (u.ref n).qualAt = s.ti.elapsed ∧ (u.ref n).present = none ∧ others u ∧ u.mem = s.mem) ∧
    (s.rsGap n = false → Settles (exec (.refPresenceLoss n) s) fun u => u = s) ∧
    (s.requalOk n = true → Settles (exec (.refRequalify n) s) fun u => u.rstate n = 1 ∧ u.reason n = 0 ∧
      (u.ref n).qualAt = s.ti.elapsed ∧ others u ∧ u.mem = s.mem) ∧
    (∀ a : Actor, s.mayWrite a .RS = true →
      (s.rstate n = 1 ∨ s.rstate n = 2 → Settles (exec (.refDisqualify a n) s) fun u =>
        u.rstate n = 3 ∧ u.reason n = 9 ∧ others u ∧ u.mem = s.mem) ∧
      (s.rstate n = 3 → s.reason n = 9 ∨ s.reason n = 7 ∨ s.reason n = 6 → Settles (exec (.refAccept a n) s) fun u =>
        u.rstate n = 1 ∧ u.reason n = 0 ∧ others u ∧ u.mem = s.mem) ∧
      (s.rstate n = 0 → Settles (exec (.refEnable a n) s) fun u =>
        u.flag RS_REF_CTL_EN n = true ∧ u.rstate n = 1 ∧ others u ∧ u.mem = s.mem) ∧
      (s.rstate n ≠ 4 → Settles (exec (.refDisable a n) s) fun u =>
        u.flag RS_REF_CTL_EN n = false ∧ u.rstate n = 0 ∧ u.flag RS_REF_STATUS_FREQ_VALID n = false ∧ others u ∧ u.mem = s.mem) ∧
      (Settles (exec (.clrDispute a n) s) fun u => u.flag RS_REF_STATUS_DISPUTED n = false ∧ u.rstate n = s.rstate n ∧
        others u ∧ u.mem = s.mem) ∧
      (n = 4 ∨ n = 5 → Settles (exec (.clrComp a n) s) fun u => u.fld RS_ASYM_COMP_COMP n = 0 ∧
        Writes s u [(RS_ASYM_COMP_COMP, n)] ∧ { u with regs := s.regs } = s.debugNote a))) ∧
  (∀ s : State,
    (∀ ref, ref < 8 → s.mayWrite .pf0 .RS = true → s.isClk ref = false → s.rstate ref = 2 → s.flag RS_CTL_EN 0 = true →
      Settles (exec (.forceSelect .pf0 ref true) s) fun u => u.current = some ref ∧ u.fld RS_SELECT_REF 0 = ref ∧
        u.flag RS_SELECT_FORCE 0 = true ∧ u.flag RS_STATE_FORCED 0 = true ∧ u.mem = s.mem) ∧
    (∀ a ref force, ref < 8 → a ≠ .pf0 → s.mayWrite a .RS = true → Settles (exec (.forceSelect a ref force) s) fun u => u = s.debugNote a) ∧
    (s.engState = 1 → s.ranLock s.rs.inFrom = true → Settles (exec .lockAchieved s) fun u => u.engState = 2 ∧
      u.flag RS_STATE_EVER_LOCKED 0 = true ∧ u.rs.inFrom = none ∧ u.rs.outFrom = none ∧ u.ti = s.ti ∧ u.mem = s.mem) ∧
    (s.engState = 2 → s.ranLock s.rs.outFrom = true → Settles (exec .lockWindowExceeded s) fun u => u.engState = 1 ∧
      u.rs.outFrom = none ∧ u.fld HO_LOSS_TIME_TIME 0 = toTime128 s.now ∧ u.ti.now = s.ti.now ∧ u.mem = s.mem) ∧
    (s.engState ≠ 1 → Settles (exec .lockAchieved s) fun u => u = s) ∧
    (∀ x y, x < y → y < 8 → s.fld HO_PLAUS_CFG_AGREE_S 0 ≤ smGet 0 s.ho.runs (x * 8 + y) → s.implausible x = true →
      Settles (exec (.plausAgreement x y) s) fun u => u.rstate x = 1 ∧ u.reason x = 0 ∧ smGet 0 u.ho.runs (x * 8 + y) = 0 ∧
        u.mem = s.mem))

/-- Holdover: enabling starts the sums, which end with the count of usable entries; the values held are latched when they have been
formed; a board temperature is taken and ends its staleness, which begins when none has come for AGE_MAX_MS (R135 to R141). -/
def Obligations.Holdover : Prop :=
  ∀ s : State,
    (∀ a : Actor, s.mayWrite a .HO = true → s.flag HO_CTL_EN 0 = false → Completes (exec (.hoEnable a) s) fun t =>
      t.flag HO_CTL_EN 0 = true ∧ t.flag HO_STATUS_SUMMING 0 = true ∧ Writes s t [(HO_CTL_EN, 0), (HO_STATUS_SUMMING, 0)] ∧
      { t with regs := s.regs } = s.debugNote a) ∧
    (s.flag HO_STATUS_SUMMING 0 = true → Completes (exec .hoSummingDone s) fun t => t.flag HO_STATUS_SUMMING 0 = false ∧
      t.ho.counted = s.usableRange (secOf s.now - s.lookback) s.window ∧
      t.fld HO_AVG_COUNT_COUNT 0 = (s.usableRange (secOf s.now - s.lookback) s.window).length % 2 ^ 32 ∧
      Writes s t [(HO_STATUS_SUMMING, 0), (HO_AVG_INC_DEV, 0), (HO_AVG_TEMP_TEMP, 0), (HO_AVG_COUNT_COUNT, 0)] ∧
      t.mem = s.mem ∧ t.ti = s.ti) ∧
    (s.ho.wait = true → s.flag HO_STATUS_SUMMING 0 = false → Completes (exec .holdReady s) fun t =>
      t.flag HO_STATUS_HOLD_READY 0 = true ∧ t.ho.wait = false ∧ t.mem = s.mem ∧ t.ti.now = s.ti.now ∧
      (s.fld HO_MIN_COUNT_COUNT 0 ≤ s.fld HO_AVG_COUNT_COUNT 0 → t.fld HO_STATUS_HOLD_SRC 0 = 1)) ∧
    (∀ (a : Actor) (v : Nat), s.mayWrite a .HO = true → Completes (exec (.hoTempBoardWrite a v) s) fun t =>
      t.fld HO_TEMP_BOARD_TEMP 0 = v % 2 ^ 16 ∧ t.flag HO_STATUS_TEMP_STALE 0 = false ∧ t.ho.tempAt = s.ti.elapsed ∧
      Writes s t [(HO_TEMP_BOARD_TEMP, 0), (HO_STATUS_TEMP_STALE, 0)] ∧ { t with regs := s.regs, ho := s.ho } = s.debugNote a) ∧
    (s.tempStaleDue = true → Completes (exec .tempStale s) fun t => t.flag HO_STATUS_TEMP_STALE 0 = true ∧ t.ho = s.ho ∧
      t.mem = s.mem ∧ t.ti = s.ti ∧ ∃ r ∈ t.fm.queue, r.chan = 0x106 ∨ 64 ≤ t.fm.queue.length) ∧
    (s.tempStaleDue = false → exec .tempStale s = .next s)

/-! ### Keys and the life cycle -/

namespace Sys2Proof.Machine

/-- The bytes `bs` stand in memory from address `a`. -/
def Holds (s : State) (a : Nat) (bs : List Nat) : Prop := ∀ k < bs.length, memGet s.mem (a + k) = BitVec.ofNat 8 (bs.getD k 0)

end Sys2Proof.Machine

/-- The key slots. ID_READY places IDENTITY and ATTEST; a good record is staged for its slot and its actor, DISCARD drops what an
actor has staged, a commit of changed generations starts the derivation and one of none imports what is staged; derivation ends
with each live generation in its slot; an invalidated slot is INVALID, with the children of a KEK generation that is no longer
live; a slot whose tag does not fit, or that a disturbance touched, goes to TAG_FAIL, and a derived slot is derived again. A key
operation that the mode, the life cycle or the privilege bars is refused with its reason, in RECOVERY and by PF1 too (R236, R239 to
R243, R245, R248, R257). -/
def Obligations.KeySlots : Prop :=
  ∀ s : State,
    (s.bt.held = false → s.lifeCycle ≠ 0 → s.flag KS_STATUS_ID_READY 0 = false → s.flag LC_STATE_RESET_REQUIRED 0 = false →
      (Completes (exec (.idReady true) s) fun t => t.flag KS_STATUS_ID_READY 0 = true ∧ t.slotState 0 = 1 ∧ t.slotState 1 = 1 ∧
        t.fld KS_SLOT_STATUS_TYPE 0 = 5 ∧ t.fld KS_SLOT_STATUS_TYPE 1 = 4 ∧ (t.kslot 0).key = identityKey s.lifeCycle ∧
        (t.kslot 1).key = attestKey s.lifeCycle ∧ t.tagGood 0 = true ∧ t.tagGood 1 = true ∧
        (∀ k, 2 ≤ k → t.kslot k = s.kslot k) ∧
        { t with regs := s.regs, ks := s.ks } = s) ∧
      Settles (exec (.idReady false) s) fun u => u.flag FM_STATUS_FATAL 0 = true ∧ u.flag KS_STATUS_ID_READY 0 = false ∧
        u.ks = s.ks ∧ u.mem = s.mem) ∧
    (∀ (a : Actor) (slot : Nat), s.mayWrite a .KS = true → slot < 256 →
      let r := toBytes 256 (s.fld KS_STAGE_REC_RECORD 0)
      let len := ofBytes ((r.drop 4).take 2)
      (s.ksGate a = 0 → 16 ≤ slot → recOk r = true → r.getD 1 0 % 2 = 0 → s.stageFull (actorNo a) slot = false →
        Settles (exec (.ksStage a slot) s) fun u => u.flag KS_SLOT_STATUS_STAGED slot = true ∧
          (∃ x, u.ks.staged = s.ks.staged.filter (fun y => !(y.actor == actorNo a && y.slot == slot)) ++ [x] ∧
            x.actor = actorNo a ∧ x.slot = slot ∧ x.rec_.key = (r.drop 64).take len ∧ x.exp = bitOf (r.getD 1 0) 1) ∧
          Writes s u [(KS_SLOT_STATUS_STAGED, slot), (KS_STAGE_COUNT, 0)] ∧ { u with regs := s.regs, ks := s.ks } = s) ∧
      (s.ksGate a = 0 → slot < 16 → Settles (exec (.ksStage a slot) s) fun u => u.fld KS_REFUSE_REASON 0 = 4 ∧
        u.fld KS_REFUSE_SLOT 0 = slot ∧ u.flag KS_REFUSE_VALID 0 = true ∧ u.ks = s.ks ∧ u.mem = s.mem) ∧
      (s.ksGate a = 0 → 16 ≤ slot → Settles (exec (.ksInvalidate a slot) s) fun u => u.slotState slot = 2 ∧
        Writes s u [(KS_SLOT_STATUS_STATE, slot)] ∧ { u with regs := s.regs } = s) ∧
      (s.ksGate a = 0 → slot = 2 → s.genLive 0 false = true → (s.genHeld 0 true = true → s.genOf 0 true ≠ s.genOf 0 false) →
        Settles (exec (.ksInvalidate a slot) s) fun u => u.slotState 2 = 2 ∧ ∀ k, 16 ≤ k → k < 256 → s.slotState k = 1 →
          s.fld KS_SLOT_STATUS_PARENT k = 2 → (s.kslot k).gen = s.genOf 0 false → u.slotState k = 2) ∧
      (s.ksGate a = 0 → slot < 2 → Settles (exec (.ksInvalidate a slot) s) fun u => u.slotState slot = s.slotState slot ∧
        u.fld KS_REFUSE_REASON 0 = 4 ∧ u.ks = s.ks ∧ u.mem = s.mem) ∧
      (s.ksGate a ≠ 0 → Settles (exec (.ksInvalidate a slot) s) fun u => u.slotState slot = s.slotState slot ∧
        u.fld KS_REFUSE_REASON 0 = s.ksGate a ∧ u.ks = s.ks ∧ u.mem = s.mem)) ∧
    (∀ (a : Actor) (slot : Nat), slot < 256 → s.mayWrite a .KS = false → s.ksReach a = true → s.ksGate a ≠ 0 →
      ∀ c ∈ [Instr.ksStage a slot, .ksDiscard a, .ksCommit a, .ksInvalidate a slot, .exportBlob a slot, .loadBlob a slot,
        .rewrapBlob a], Settles (exec c s) fun u => u.fld KS_REFUSE_REASON 0 = s.ksGate a ∧ u.flag KS_REFUSE_VALID 0 = true ∧
          u.slotState slot = s.slotState slot ∧ u.ks = s.ks ∧ u.mem = s.mem) ∧
    (∀ a : Actor, s.mayWrite a .KS = true → s.ksGate a = 0 → Settles (exec (.ksDiscard a) s) fun u =>
      u.ks = { s.ks with staged := s.ks.staged.filter (fun x => x.actor != actorNo a) } ∧
      { u with regs := s.regs, ks := s.ks } = s) ∧
    (s.mayWrite .pf0 .KS = true → s.ksGate .pf0 = 0 → s.ks.deriv = none →
      (s.flag KS_GEN_CFG_RCPT_ALG 0 = true → bitOf Config.fuseOptions 0 = true) →
      (s.genChanges s.genStage = true → s.genRefuse s.genStage = 0 → Settles (exec (.ksCommit .pf0) s) fun u =>
        u.ks = { s.ks with deriv := some (s.derivOf s.genStage) } ∧ u.flag KS_STATUS_DERIVING 0 = true ∧
        Writes s u [(KS_STATUS_DERIVING, 0)] ∧ { u with regs := s.regs, ks := s.ks } = s) ∧
      (s.genChanges s.genStage = true → s.genRefuse s.genStage ≠ 0 → Settles (exec (.ksCommit .pf0) s) fun u =>
        u.fld KS_REFUSE_REASON 0 = s.genRefuse s.genStage ∧ u.ks = s.ks ∧ u.mem = s.mem) ∧
      ∀ x, s.genChanges s.genStage = false → s.ks.staged = [x] → x.actor = 0 → 16 ≤ x.slot → x.slot < 256 →
        Settles (exec (.ksCommit .pf0) s) fun u => u.slotState x.slot = 1 ∧ u.ks.staged = [] ∧
          (∃ tag, u.kslot x.slot = { x.rec_ with tag := tag }) ∧ u.tagGood x.slot = true ∧
          u.bt.exts = s.bt.exts ++ [(10, importEvent x)] ∧ (∀ k, k ≠ x.slot → u.kslot k = s.kslot k) ∧ u.mem = s.mem) ∧
    (∀ (d : Deriv) (g : Nat), s.ks.deriv = some d → d.gens = g → s.ks.held = false → s.ks.staged = [] → Settles (exec .genDeriveComplete s) fun u =>
      u.ks.deriv = none ∧ u.flag KS_STATUS_DERIVING 0 = false ∧ u.fld KS_GEN_ACTIVE_GEN 0 = g % 2 ^ 224 ∧
      ∀ f < 3, (genCurV g f = true → u.slotState (2 + 2 * f) = 1 ∧ (u.kslot (2 + 2 * f)).gen = genCur g f) ∧
        (genCurV g f = false → u.slotState (2 + 2 * f) = 0) ∧
        (genPrevV g f = true → u.slotState (3 + 2 * f) = 1 ∧ (u.kslot (3 + 2 * f)).gen = genPrev g f) ∧
        (genPrevV g f = false → u.slotState (3 + 2 * f) = 0)) ∧
    (∀ bad : List Nat, (∀ k ∈ bad, k < 256) → Settles (exec (.tagSweep bad) s) fun u =>
      (∀ k < 256, u.slotState k = if k ∈ bad ∨ (k ∈ s.ks.slots.map (·.1) ∧ s.tagGood k = false) then 3 else s.slotState k) ∧ u.ks = s.ks ∧ u.mem = s.mem) ∧
    (∀ k, k < 8 → (s.slotState k = 3 → Completes (exec (.derivedAgain k) s) fun t => t.slotState k = 1 ∧
        (k = 0 → (t.kslot 0).key = identityKey s.lifeCycle) ∧ (k = 1 → (t.kslot 1).key = attestKey s.lifeCycle) ∧
        (2 ≤ k → (t.kslot k).gen = (s.kslot k).gen) ∧ (∀ j, j ≠ k → t.kslot j = s.kslot j) ∧
        { t with regs := s.regs, ks := s.ks } = s) ∧
      (s.slotState k ≠ 3 → exec (.derivedAgain k) s = .next s))

/-- A blob command makes CMD_BUSY and remembers its addresses; a second one is refused with CMD_BUSY (12). EXPORT of a valid
exportable slot stores the blob; one of a slot that is not valid ends with NOT_VALID (7); one whose destination lies in a DRAM channel
in self-refresh waits (R23). A statement waits to be signed, by
IDENTITY when it is about slot 1 and else by ATTEST, and is delivered when signed (R245 to R247, R251, R252). -/
def Obligations.BlobsAndStatements : Prop :=
  ∀ s : State,
    (∀ (a : Actor) (slot : Nat), slot < 256 → s.mayWrite a .KS = true → s.ksGate a = 0 → s.ks.cmd = none →
      let c : Nat → Nat → KsCmd := fun op k =>
        { op := op, actor := actorNo a, slot := k, src := s.fld KS_CMD_SRC_ADDR 0, dest := s.fld KS_CMD_DEST_ADDR 0 }
      let started := fun (x : KsCmd) (u : State) => u.ks = { s.ks with cmd := some x } ∧ u.flag KS_STATUS_CMD_BUSY 0 = true ∧
        Writes s u [(KS_STATUS_CMD_BUSY, 0)] ∧ { u with regs := s.regs, ks := s.ks } = s
      Settles (exec (.exportBlob a slot) s) (started (c 1 slot)) ∧ Settles (exec (.loadBlob a slot) s) (started (c 2 slot)) ∧
      Settles (exec (.rewrapBlob a) s) (started (c 3 0))) ∧
    (∀ (a : Actor) (slot : Nat), slot < 256 → s.mayWrite a .KS = true → s.ksGate a = 0 → s.ks.cmd.isSome = true →
      Settles (exec (.exportBlob a slot) s) fun u => u.fld KS_REFUSE_REASON 0 = 12 ∧ u.flag KS_CMD_STATUS_FAILED 0 = true ∧
        u.ks = s.ks ∧ u.mem = s.mem) ∧
    (∀ c : KsCmd, s.ks.cmd = some c → c.op = 1 → 16 ≤ c.slot → s.slotState c.slot = 1 → s.flag LC_STATE_RESET_REQUIRED 0 = false →
      s.flag KS_SLOT_STATUS_EXPORTABLE c.slot = true → s.genLive 0 false = true → 0x20000000 ≤ c.dest → c.dest < 0x20400000 →
      s.imgBlocked (.ctrl 4) c.dest 160 = false →
      let b := s.blobSeal (s.kslot c.slot) (s.fld KS_SLOT_STATUS_TYPE c.slot) true
      Settles (exec .ksCmdComplete s) fun u => u.ks = { s.ks with cmd := none } ∧ u.flag KS_CMD_STATUS_DONE 0 = true ∧
        u.flag KS_STATUS_CMD_BUSY 0 = false ∧ Holds u c.dest b ∧
        (∀ x, x < c.dest ∨ c.dest + b.length ≤ x → memGet u.mem x = memGet s.mem x) ∧
        Writes s u [(KS_CMD_STATUS_DONE, 0), (KS_STATUS_CMD_BUSY, 0)]) ∧
    (∀ c : KsCmd, s.ks.cmd = some c → c.op = 1 → s.asleep c.dest = true → Settles (exec .ksCmdComplete s) fun u => u = s) ∧
    (∀ c : KsCmd, s.ks.cmd = some c → c.op = 1 → s.slotState c.slot ≠ 1 → s.flag LC_STATE_RESET_REQUIRED 0 = false →
      s.asleep c.dest = false → Settles (exec .ksCmdComplete s) fun u =>
      u.ks = { s.ks with cmd := none } ∧ u.fld KS_REFUSE_REASON 0 = 7 ∧ u.flag KS_CMD_STATUS_FAILED 0 = true ∧ u.mem = s.mem) ∧
    (s.ks.cmd = none → Settles (exec .ksCmdComplete s) fun u => u = s) ∧
    (∀ i slot, i < 2 → slot < 256 → s.mayWrite .pf0 .KS = true → s.flag KS_STMT_CTL_BUSY i = false → s.lifeCycle ≠ 0 →
      s.flag LC_STATE_RESET_REQUIRED 0 = false → s.slotState slot = 1 →
      Settles (exec (.statementRequest (if i = 0 then .pf0 else .pf1) i slot) s) fun u =>
        u.flag KS_STMT_CTL_BUSY i = true ∧ u.fld KS_STMT_CTL_SLOT i = slot ∧
        (∃ x, u.bt.signQ = s.bt.signQ ++ [x] ∧ x.src = 3 + i ∧ x.signer = if slot = 1 then 1 else 2) ∧
        Writes s u [(KS_STMT_CTL_SLOT, i), (KS_STMT_CTL_BUSY, i)] ∧ { u with regs := s.regs, bt := s.bt } = s) ∧
    (∀ (x : SignItem) (xs : List SignItem), s.bt.signQ = x :: xs → 3 ≤ x.src → x.src < 5 → s.signReady = true →
      s.slotValid (if x.signer = 1 then 0 else 1) = true →
      Completes (exec .statementSigned s) fun t => t.bt = { s.bt with signQ := xs } ∧
        t.flag KS_STMT_CTL_BUSY (x.src - 3) = false ∧ t.flag KS_STMT_CTL_DONE (x.src - 3) = true ∧
        t.fld KS_STMT_OUT_STATEMENT (x.src - 3) = ofBytes (x.body ++
          if x.signer = 1 then toBytesBE 96 (Config.sign (s.kslot 0).key x.body (Config.freeValue s.freeCtr))
          else toBytesBE 64 (Config.sign (s.kslot 1).key x.body (Config.freeValue s.freeCtr))) % 2 ^ 2624 ∧
        Writes s t [(KS_STMT_OUT_STATEMENT, x.src - 3), (KS_STMT_CTL_BUSY, x.src - 3), (KS_STMT_CTL_DONE, x.src - 3)] ∧
        { t with regs := s.regs, tk := s.tk, bt := s.bt, freeCtr := s.freeCtr } = s)

/-- An advance of the life cycle: PREPARE takes the target, the transition statement is signed, COMMIT starts the fuses, and blown
fuses empty the key store and demand a reset; a wrong key changes only the refusal, as does a mode other than BOOT, or an actor other
than PF0. A lost fuse supply stops the advance and no
fuse is blown back (R253 to R255). -/
def Obligations.LifeCycleAdvance : Prop :=
  ∀ s : State,
    (∀ key target, key < 256 → target < 4 → s.mayWrite .pf0 .LC = true → s.mode = 0 → advanceOk s.lifeCycle target = true →
      s.flag LC_STATE_RESET_REQUIRED 0 = false → s.flag LC_STATE_FUSE_SUPPLY_OK 0 = true →
      (key = 0xC7 → Settles (exec (.lcPrepare .pf0 key target) s) fun t => t.bt = { s.bt with prep := some target } ∧
        t.flag LC_STATE_PREPARED 0 = false ∧ Writes s t [(LC_STATE_PREPARED, 0)] ∧ { t with regs := s.regs, bt := s.bt } = s) ∧
      (key ≠ 0xC7 → Settles (exec (.lcPrepare .pf0 key target) s) fun t => t.fld LC_ADVANCE_STATUS_REASON 0 = 6 ∧
        t.flag LC_ADVANCE_STATUS_REFUSED 0 = true ∧
        Writes s t [(LC_ADVANCE_STATUS_REASON, 0), (LC_ADVANCE_STATUS_REFUSED, 0)] ∧ { t with regs := s.regs, tk := s.tk } = s) ∧
      (key = 0xC7 → s.flag LC_STATE_PREPARED 0 = true → s.bt.prep = some target →
        Settles (exec (.lcCommit .pf0 key target) s) fun t => t.bt = { s.bt with blow := some target } ∧
          t.flag LC_STATE_ADVANCING 0 = true ∧ Writes s t [(LC_STATE_ADVANCING, 0)] ∧
          { t with regs := s.regs, bt := s.bt } = s) ∧
      (s.flag LC_STATE_PREPARED 0 = false → Settles (exec (.lcCommit .pf0 key target) s) fun t =>
        t.fld LC_ADVANCE_STATUS_REASON 0 = 5 ∧ t.bt = s.bt ∧ t.flag LC_STATE_ADVANCING 0 = s.flag LC_STATE_ADVANCING 0)) ∧
    (∀ (a : Actor) (key target : Nat), key < 256 → target < 4 → s.mode ≠ 0 ∨ a ≠ .pf0 →
      ∀ c ∈ [Instr.lcPrepare a key target, .lcCommit a key target], Settles (exec c s) fun u =>
        u.fld LC_ADVANCE_STATUS_REASON 0 = (if s.mode ≠ 0 then 1 else 2) ∧ u.flag LC_ADVANCE_STATUS_REFUSED 0 = true ∧
        u.bt.prep = s.bt.prep ∧ u.bt.blow = s.bt.blow ∧ u.mem = s.mem) ∧
    (∀ target, s.flag LC_STATE_PREPARED 0 = false → s.flag KS_STATUS_ID_READY 0 = true → s.slotValid 0 = true → s.bt.prep = some target →
      Completes (exec .lcPrepared s) fun t => t.flag LC_STATE_PREPARED 0 = true ∧
        Writes s t [(LC_STATE_PREPARED, 0), (LC_TRANSITION_STATEMENT, 0)] ∧
        { t with regs := s.regs, freeCtr := s.freeCtr } = s) ∧
    (∀ target, s.bt.blow = some target → Settles (exec .lcFusesBlown s) fun u => u.flag LC_STATE_ADVANCING 0 = false ∧
      u.flag LC_STATE_RESET_REQUIRED 0 = true ∧ u.flag KS_STATUS_ID_READY 0 = false ∧ u.bt.blow = none ∧ u.bt.signQ = [] ∧
      u.bt.fuse2 = (if target = 2 then 3 else s.bt.fuse2) ∧ u.bt.fuse3 = (if target = 3 then 3 else s.bt.fuse3) ∧
      u.ks = { KsSt.init with tagKey := s.ks.tagKey, cmd := s.ks.cmd } ∧ ∀ k < 256, u.slotState k = 0 ∧ u.kslot k = KeySlot.init) ∧
    (Completes (exec .fuseSupplyLost s) fun t => t.flag LC_STATE_FUSE_SUPPLY_OK 0 = false ∧ t.bt.blow = none ∧
      (s.bt.blow.isSome = true → t.flag LC_STATE_ADVANCING 0 = false) ∧ s.bt.fuse2 ≤ t.bt.fuse2 ∧ s.bt.fuse3 ≤ t.bt.fuse3 ∧
      t.bt.fuse1 = s.bt.fuse1 ∧ Writes s t [(LC_STATE_FUSE_SUPPLY_OK, 0), (LC_STATE_ADVANCING, 0)] ∧
      { t with regs := s.regs, bt := s.bt, freeCtr := s.freeCtr } = s)

/-! ### Serial lanes -/

namespace Sys2Proof.Machine

/-- The state beyond its registers of every other lane of the kind is as it was. -/
def OtherEth (s u : State) (n : Nat) : Prop := ∀ k, k ≠ n → u.ethL k = s.ethL k
def OtherItl (s u : State) (n : Nat) : Prop := ∀ k, k ≠ n → u.itlL k = s.itlL k

/-- The payload of a superword: TX_TIME, the control cell, seven data cells (R263). -/
def payloadOf (tx cell : Nat) (cells : List Nat) : List Nat := toBytesBE 8 (tx * 2 ^ 32 + cell) ++ cells

/-- The transmit delay of a lane that runs has been tracked to `dtx`: the receive delay keeps the ratio at calibration, but for a
rounding that the spec leaves open (R279, log entry 3). -/
def Tracked (s u : State) (tx rx : Fld) (n dtx calTx calRx : Nat) : Prop :=
  u.fld tx n = dtx % 2 ^ 32 ∧
    (∃ q : Int, (q * calTx - (dtx * calRx : Nat)).natAbs < calTx ∧ u.fld rx n = wrapTo 32 q % 2 ^ 32) ∧
    Writes s u [(tx, n), (rx, n)] ∧ { u with regs := s.regs, freeCtr := s.freeCtr } = s

/-- Lane `n` sends the superword of a payload: line bits by R264 to R266, none of a void one's payload. -/
def Sends (s u : State) (n : Nat) (payload : List Nat) : Prop :=
  let w := formSuperword payload (s.itlL n).scr
  u.out = .superword n w.1 (if w.1 = 2 then [] else payload) (flipLine (s.flag SL_ITL_CTL_TX_INV n) 1024 w.2.1) :: s.out ∧
    (u.itlL n).scr = w.2.2

end Sys2Proof.Machine

/-- Ethernet lanes. Enabling starts self-calibration, whose delays are kept and after which the lane trains; a scatter of more than
2 ps fails it; a lane that runs has its delays tracked; auto-negotiation advertises the one port type and FEC configured; the lane
comes up when RX_INV fits its pair, and the link of its MAC with the last of its lanes; 500 ms without a link fail the training; a
lost link trains again (R259 to R261, R279, R299, R300). -/
def Obligations.EthernetLanes : Prop :=
  ∀ (s : State) (n : Nat), n < 16 →
    let ability := if s.ethAn n then [Out.ball (0x500 + n) (s.ethAbility n)] else []
    (s.flag SL_ETH_CTL_EN n = false → s.retired 4 n = false → s.fld SL_GRP_CFG_MODE (n / 4) % 3 ≠ 0 →
      (s.fld SL_ETH_CTL_LOOP n = 0 ∨ s.mode = 0 ∨ s.mode = 2) → Settles (exec (.ethLaneEnable n) s) fun u =>
        u.flag SL_ETH_CTL_EN n = true ∧
        u.ethL n = { s.ethL n with phase := 1, from_ := s.ti.elapsed, loop := s.fld SL_ETH_CTL_LOOP n } ∧
        OtherEth s u n ∧ Writes s u [(SL_ETH_CTL_EN, n)] ∧ { u with regs := s.regs, eth := s.eth } = s) ∧
    (s.flag SL_ETH_CTL_EN n = true → Settles (exec (.ethLaneEnable n) s) fun u => u = s) ∧
    (∀ sum dtx scatter, dtx ≤ sum → sum < 2 ^ 32 → (s.ethL n).phase = 1 → (s.ethL n).from_ + 2 * msU ≤ s.ti.elapsed →
      (scatter ≤ 2000 → Settles (exec (.laneCalComplete false n sum dtx scatter) s) fun u =>
        u.fld SL_ETH_TX_DELAY_DELAY n = dtx ∧ u.fld SL_ETH_RX_DELAY_DELAY n = sum - dtx ∧
        u.flag SL_ETH_STATUS_CAL_DONE n = true ∧ u.flag SL_ETH_STATUS_TRAINING n = s.ethTrains n ∧ (u.ethL n).phase = 2 ∧
        (u.ethL n).calTx = dtx ∧ (u.ethL n).calRx = sum - dtx ∧ u.out = ability ++ s.out ∧
        OtherEth s u n ∧ Writes s u [(SL_ETH_TX_DELAY_DELAY, n), (SL_ETH_RX_DELAY_DELAY, n), (SL_ETH_STATUS_CAL_DONE, n),
          (SL_ETH_STATUS_TRAINING, n)] ∧ { u with regs := s.regs, eth := s.eth, out := s.out } = s) ∧
      (2000 < scatter → Settles (exec (.laneCalComplete false n sum dtx scatter) s) fun u => (u.ethL n).phase = 4 ∧
        u.flag SL_ETH_STATUS_CAL_DONE n = s.flag SL_ETH_STATUS_CAL_DONE n ∧ OtherEth s u n ∧ u.mem = s.mem)) ∧
    (∀ sum dtx scatter, dtx ≤ sum → sum < 2 ^ 32 → (s.ethL n).phase = 2 ∨ (s.ethL n).phase = 3 → 0 < (s.ethL n).calTx →
      Settles (exec (.laneCalComplete false n sum dtx scatter) s) fun u =>
        Tracked s u SL_ETH_TX_DELAY_DELAY SL_ETH_RX_DELAY_DELAY n dtx (s.ethL n).calTx (s.ethL n).calRx) ∧
    (∀ swap, (s.ethL n).phase = 2 → s.flag SL_ETH_CTL_RX_INV n = swap → Settles (exec (.ethLinkUp n swap) s) fun u =>
      u.flag SL_ETH_STATUS_UP n = true ∧
      u.flag SL_ETH_STATUS_TRAINING n = false ∧ (u.ethL n).phase = 3 ∧ OtherEth s u n ∧ u.mem = s.mem ∧
      ((∀ k ∈ s.macLanes (s.laneMac n), k = n ∨ s.flag SL_ETH_STATUS_UP k = true) → s.retired 3 (s.laneMac n) = false →
        s.macExists (s.laneMac n) = true → s.flag MC_CTL_MUTE (s.laneMac n) = false →
        u.flag MC_STATUS_LINK_UP (s.laneMac n) = true)) ∧
    (∀ swap, (s.ethL n).phase ≠ 2 ∨ s.flag SL_ETH_CTL_RX_INV n ≠ swap → Settles (exec (.ethLinkUp n swap) s) fun u => u = s) ∧
    ((s.ethL n).phase = 2 → (s.ethL n).from_ + 500 * msU ≤ s.ti.elapsed → Settles (exec (.ethTrainFail n) s) fun u =>
      (u.ethL n).phase = 5 ∧ u.flag SL_ETH_STATUS_TRAINING n = false ∧ OtherEth s u n ∧ u.mem = s.mem) ∧
    (∀ inFrame, (s.ethL n).phase = 3 → Settles (exec (.ethLinkLoss n inFrame) s) fun u =>
      (u.ethL n).phase = 2 ∧ (u.ethL n).from_ = s.ti.elapsed ∧ u.flag SL_ETH_STATUS_UP n = false ∧ OtherEth s u n ∧
      (s.flag SL_ETH_STATUS_UP n = true → u.flag SL_ETH_STATUS_LINK_LOST n = true))

/-- Irnak lanes. Enabling starts step 1, whose calibration ends with the lane training from the initial coefficients; a lane that
runs has its delays tracked; a request outstanding for 1 ms is owed again; 500 ms fail the training. At each edge of the superword
grid, and at no other tick, a lane that trains or is up sends the payload formed one superword ahead with its TX_TIME: the alignment
run is zeros, an up lane sends its status record slice by slice. A lane that is off, or in a near-end loop, takes nothing from its
ball; the far end's asymmetry commits at a header; a superword that fails its CRC is counted and lost; a TRAIN cell with READY
lengthens the run. A millisecond without a measurement ends TIME_VALID, one with measurements gives OFFSET (R262 to R278). -/
def Obligations.IrnakLanes : Prop :=
  ∀ (s : State) (n : Nat), n < 8 →
    (s.flag SL_ITL_CTL_EN n = false → s.itlMay n = true → s.fld SL_ITL_CTL_LOOP n = 0 →
      Settles (exec (.itlLaneEnable n) s) fun u => u.flag SL_ITL_CTL_EN n = true ∧
        u.itlL n = { ItlSt.init with phase := 1, from_ := s.ti.elapsed } ∧ OtherItl s u n ∧
        Writes s u [(SL_ITL_CTL_EN, n)] ∧ { u with regs := s.regs, itl := s.itl } = s) ∧
    (∀ sum dtx scatter, dtx ≤ sum → sum < 2 ^ 32 → (s.itlL n).phase = 1 → (s.itlL n).from_ + 2 * msU ≤ s.ti.elapsed →
      (scatter ≤ 2000 → Settles (exec (.laneCalComplete true n sum dtx scatter) s) fun u =>
        u.fld SL_ITL_TX_DELAY_DELAY n = dtx ∧ u.fld SL_ITL_RX_DELAY_DELAY n = sum - dtx ∧
        u.flag SL_ITL_STATUS_CAL_DONE n = true ∧ u.flag SL_ITL_STATUS_TRAINING n = true ∧ (u.itlL n).phase = 2 ∧
        (u.itlL n).calTx = dtx ∧ (u.itlL n).calRx = sum - dtx ∧
        (u.itlL n).scr ≠ 0 ∧ u.fld SL_ITL_FFE_COEF n = (s.fld SL_ITL_FFE_INIT_PRE n + s.fld SL_ITL_FFE_INIT_MAIN n * 16 +
          s.fld SL_ITL_FFE_INIT_POST n * 1024) % 2 ^ 15 ∧ OtherItl s u n ∧ u.mem = s.mem) ∧
      (2000 < scatter → Settles (exec (.laneCalComplete true n sum dtx scatter) s) fun u => (u.itlL n).phase = 7 ∧
        OtherItl s u n ∧ u.mem = s.mem)) ∧
    (∀ sum dtx scatter, dtx ≤ sum → sum < 2 ^ 32 → (s.itlL n).phase ∈ [2, 5, 6] → 0 < (s.itlL n).calTx →
      Settles (exec (.laneCalComplete true n sum dtx scatter) s) fun u =>
        Tracked s u SL_ITL_TX_DELAY_DELAY SL_ITL_RX_DELAY_DELAY n dtx (s.itlL n).calTx (s.itlL n).calRx) ∧
    (∀ t, (s.itlL n).reqAt = some t → (s.itlL n).phase = 2 → (t + msU ≤ s.ti.elapsed →
        Settles (exec (.trainRequestRepeat n) s) fun u => u.itlL n = { s.itlL n with reqAt := none } ∧ OtherItl s u n ∧
          { u with itl := s.itl } = s) ∧
      (s.ti.elapsed < t + msU → Settles (exec (.trainRequestRepeat n) s) fun u => u = s)) ∧
    ((s.itlL n).phase = 2 ∨ (s.itlL n).phase = 5 → (s.itlL n).from_ + 500 * msU ≤ s.ti.elapsed →
      Settles (exec (.itlTrainFail n) s) fun u => (u.itlL n).phase = 7 ∧ u.flag SL_ITL_STATUS_TRAINING n = false ∧
        OtherItl s u n) ∧
    (∀ req ready,
      ((s.itlL n).phase ∉ [2, 5, 6] ∨ s.ti.ticks % 8 ≠ 0 ∨ (s.itlL n).edge = some s.ti.ticks →
        Settles (exec (.itlSuperwordTx n req ready) s) fun u => u = s) ∧
      (s.ti.ticks % 8 = 0 → (s.itlL n).edge ≠ some s.ti.ticks → (s.itlL n).loop = 0 →
        (∀ cell cells, (s.itlL n).ahead = some (cell, cells) → cell ≠ 3 * 2 ^ 28 + 2 ^ 14 → (s.itlL n).phase ∈ [2, 5, 6] →
          Settles (exec (.itlSuperwordTx n req ready) s) fun u => (u.itlL n).edge = some s.ti.ticks ∧
            Sends s u n (payloadOf (txTime (s.itlT n)) cell cells) ∧ OtherItl s u n ∧ u.mem = s.mem) ∧
        ((s.itlL n).ahead = none → (s.itlL n).phase = 5 → Settles (exec (.itlSuperwordTx n req ready) s) fun u =>
          Sends s u n (payloadOf 0 (3 * 2 ^ 28 + 2 ^ 14) (List.replicate 112 0)) ∧ OtherItl s u n ∧ u.mem = s.mem) ∧
        ((s.itlL n).ahead = none → (s.itlL n).phase = 6 → 2 ≤ n → (s.itlL n).slice ≠ 0 → (s.itlL n).slice < 11 →
          beAt (s.itlL n).rec_ (3 * (s.itlL n).slice) 3 < 2 ^ 24 → beAt (s.itlL n).rec_ (3 * ((s.itlL n).slice + 1)) 3 < 2 ^ 24 →
          Settles (exec (.itlSuperwordTx n req ready) s) fun u =>
            let p := payloadOf (txTime (s.itlT n))
              (2 ^ 28 + (s.itlL n).slice * 2 ^ 24 + beAt (s.itlL n).rec_ (3 * (s.itlL n).slice) 3) (List.replicate 112 0)
            Sends s u n p ∧ OtherItl s u n ∧ u.mem = s.mem ∧
            ((formSuperword p (s.itlL n).scr).1 ≠ 2 → (u.itlL n).slice = (s.itlL n).slice + 1 ∧
              (u.itlL n).ahead = some (2 ^ 28 + ((s.itlL n).slice + 1) * 2 ^ 24 +
                beAt (s.itlL n).rec_ (3 * ((s.itlL n).slice + 1)) 3, List.replicate 112 0))))) ∧
    (∀ hdr line arr seed,
      ((s.itlL n).loop = 1 ∨ (s.itlL n).loop = 2 ∨ ((s.itlL n).loop = 0 ∧ (s.itlL n).phase ∉ [2, 5, 6]) →
        Settles (exec (.itlSuperwordRx n hdr line arr seed) s) fun u => u = s) ∧
      (∀ k v, (s.itlL n).loop = 0 → (s.itlL n).phase ∈ [2, 5, 6] → hdr < 2 ^ 16 → line < 2 ^ 1008 →
        s.flag SL_ITL_CTL_RX_INV n = false → hdrKind hdr = some k → s.shadow SL_ITL_ASYM_ASYM n = some v →
        Settles (exec (.itlSuperwordRx n hdr line arr seed) s) fun u => u.fld SL_ITL_ASYM_ASYM n = v % 2 ^ 32 ∧
          u.shadow SL_ITL_ASYM_ASYM n = none) ∧
      ∀ k, k ≠ 2 → hdr < 2 ^ 16 → line < 2 ^ 1008 → (s.itlL n).loop = 0 → s.flag SL_ITL_CTL_RX_INV n = false →
        s.flag SL_ITL_STATUS_HDR_LOCK n = true → hdrKind hdr = some k → 2 ≤ n →
        ((s.itlL n).phase = 6 → (readSuperword k line (s.itlL n).desc).2 = false → (s.itlL n).fails.length < 31 →
          Settles (exec (.itlSuperwordRx n hdr line arr seed) s) fun u =>
            u.fld SL_ITL_CRC_ERR_COUNT n = min (2 ^ 32 - 1) (s.fld SL_ITL_CRC_ERR_COUNT n + 1) ∧
            (u.itlL n).sw = (s.itlL n).sw + 1 ∧ (u.itlL n).lost = (s.itlL n).lost + 1 ∧ (u.itlL n).phase = 6 ∧
            OtherItl s u n ∧ u.mem = s.mem) ∧
        (∀ b, (s.itlL n).phase = 2 → (s.itlL n).alRx = 0 → readAlign k line = none → readSuperword k line seed = (b, true) →
          beAt b 4 4 = 3 * 2 ^ 28 + 2 ^ 15 → Settles (exec (.itlSuperwordRx n hdr line arr seed) s) fun u =>
            (u.itlL n).rdyRx = (s.itlL n).rdyRx + 1 ∧ OtherItl s u n ∧ u.mem = s.mem ∧
            (u.itlL n).phase = if 16 ≤ (s.itlL n).rdyTx ∧ 16 ≤ (s.itlL n).rdyRx + 1 then 5 else 2) ∧
        (∀ d, (s.itlL n).phase = 5 → (s.itlL n).alRx = 0 → (s.itlL n).alTx < 64 → readAlign k line = some d →
          Settles (exec (.itlSuperwordRx n hdr line arr seed) s) fun u =>
            (u.itlL n).alRx = 1 ∧ (u.itlL n).desc = d ∧ (u.itlL n).phase = 5 ∧ OtherItl s u n ∧ u.mem = s.mem)) ∧
    ((s.itlL n).phase = 6 → s.laneMs n ≠ (s.itlL n).win → 2 ≤ n →
      ((s.itlL n).cnt = 0 → Settles (exec (.itlWindowEnd n) s) fun u =>
        u.flag SL_ITL_STATUS_TIME_VALID n = false ∧ (u.itlL n).win = s.laneMs n ∧
        (u.itlL n).meanOk = false ∧ OtherItl s u n ∧ Writes s u [(SL_ITL_STATUS_TIME_VALID, n)] ∧
        { u with regs := s.regs, itl := s.itl } = s) ∧
      (0 < (s.itlL n).cnt → Settles (exec (.itlWindowEnd n) s) fun u =>
        (u.itlL n).win = s.laneMs n ∧ (u.itlL n).meanOk = decide (20000 ≤ (s.itlL n).cnt) ∧
        (u.itlL n).meanA = roundHalfUp (s.itlL n).sumA ((s.itlL n).cnt * 2 ^ 49) ∧ (u.itlL n).cnt = 0 ∧
        (∃ o : Int, (o * ((s.itlL n).cnt * 2 ^ 46 : Nat) - (s.itlL n).sumO).natAbs < (s.itlL n).cnt * 2 ^ 46 ∧
          u.fld SL_ITL_OFFSET_OFFSET n = wrapTo 64 o % 2 ^ 64) ∧ OtherItl s u n ∧
        Writes s u [(SL_ITL_OFFSET_OFFSET, n), (SL_ITL_DELAY_DELAY, n)] ∧
        { u with regs := s.regs, itl := s.itl, freeCtr := s.freeCtr } = s)) ∧
    ((s.itlL n).phase = 6 → s.laneMs n = (s.itlL n).win → Settles (exec (.itlWindowEnd n) s) fun u => u = s)

/-! ### MAC instances -/

namespace Sys2Proof.Machine

/-- A counter after `k` more events: it stops at all ones (R13). -/
def State.counted (s : State) (f : Fld) (n k : Nat) : Nat := min (2 ^ f.width - 1) (s.fld f n + k)

/-- Every other MAC instance's state beyond its registers is as it was. -/
def OtherMac (s u : State) (n : Nat) : Prop := ∀ k, k ≠ n → u.mac k = s.mac k

/-- Nothing passes the medium of instance `n` at elapsed time `at_`: no frame of its own, no cleared launch. -/
def MediumFree (s : State) (n at_ : Nat) : Prop :=
  (s.mac n).curEnd ≤ at_ ∧ (s.mac n).cur = none ∧ ∀ r ∈ (s.mac n).gate, r.cleared = false

end Sys2Proof.Machine

/-- Frames of an instance. A frame's reference point is stamped, with the bound of its own instant and 300 ps, when it starts, and room
is reserved; a good frame is stored with that stamp and its sequence and one with a wrong FCS only counted; a hold whose time
has run out ends; XOFF is refreshed; a frame boundary ends the frame in transmission, and with it the wait of holds, then starts a
queued flow-control frame, else the frame that R291 chooses; aged frames are promoted; an unanswered verification is repeated, at
last failed; the pipeline takes the oldest stored frame (R260, R281 to R292, R301, R302). -/
def Obligations.MacFrames : Prop :=
  ∀ (s : State) (n : Nat), n < 16 →
    (∀ bytes fcs back lane corr uncorr, s.rxOpen n = true → s.macLoop n = 0 →
      let head : RxHead :=
        let d := (back + s.fld SL_ETH_RX_DELAY_DELAY (s.macLane n lane)) * 2 ^ 32
        { stamp := (s.stampAt d).time, safe := (s.stampAt d).safe, dist := (s.stampAt d).dist, at_ := s.ti.elapsed - d,
          bound := if s.flag SL_ETH_STATUS_CAL_DONE (s.macLane n lane) then addBound (s.stampAt d).bound 300 else 0xFFFFFFFF,
          room := if 8 * 2 ^ 20 < s.occAll + s.fld MC_MAX_FRAME_OCTETS n then 0 else s.fld MC_MAX_FRAME_OCTETS n }
      (Settles (exec (.macFrameRx n bytes fcs false false false back lane corr uncorr 3) s) fun u =>
        (u.mac n).rx = head :: (s.mac n).rx ∧ (u.mac n).stored = (s.mac n).stored ∧ OtherMac s u n ∧ u.mem = s.mem) ∧
      ∀ h, (s.mac n).rx = [h] ∨ ((s.mac n).rx = [] ∧ h = head) → h.room ≠ 0 → 64 ≤ lineLen bytes →
        lineLen bytes ≤ s.fld MC_MAX_FRAME_OCTETS n → s.macFilter n (beAt bytes 0 6) = true → beAt bytes 12 2 ≠ 0x8808 →
        s.fecOn n = false ∨ uncorr = 0 →
        (fcs = true → Settles (exec (.macFrameRx n bytes fcs false false false back lane corr uncorr 0) s) fun u =>
          (∃ f, (u.mac n).stored = (s.mac n).stored ++ [f] ∧ f.bytes = bytes ∧ f.seq = (s.mac n).seq ∧
            f.stamp = h.stamp ∧ f.bound = h.bound ∧ f.safe = h.safe ∧ f.dist = h.dist) ∧ (u.mac n).rx = [] ∧
          (u.mac n).seq = ((s.mac n).seq + 1) % 2 ^ 32 ∧
          u.fld MC_STAT_COUNT (n * 48 + 1) = s.counted MC_STAT_COUNT (n * 48 + 1) 1 ∧
          u.fld SL_ETH_FEC_CORR_COUNT n = (if s.fecOn n then s.counted SL_ETH_FEC_CORR_COUNT n corr else
            s.fld SL_ETH_FEC_CORR_COUNT n) ∧ OtherMac s u n ∧ u.mem = s.mem) ∧
        (fcs = false → Settles (exec (.macFrameRx n bytes fcs false false false back lane corr uncorr 0) s) fun u =>
          (u.mac n).stored = (s.mac n).stored ∧ (u.mac n).seq = (s.mac n).seq ∧ (u.mac n).rx = [] ∧
          u.fld MC_STAT_COUNT (n * 48 + 13) = s.counted MC_STAT_COUNT (n * 48 + 13) 1 ∧ OtherMac s u n ∧ u.mem = s.mem)) ∧
    (∀ from_ till p, (s.mac n).holds = [(p, from_, till)] → p < 9 →
      (till ≤ s.ti.elapsed → Settles (exec (.pauseHoldExpire n) s) fun u => (u.mac n).holds = [] ∧ OtherMac s u n ∧ u.mem = s.mem) ∧
      (s.ti.elapsed < till → Settles (exec (.pauseHoldExpire n) s) fun u => u = s)) ∧
    (∀ since last mask, (s.mac n).xoff = some (since, last, mask) → last + s.octU n (65535 * 64) / 2 ≤ s.ti.elapsed →
      s.fld MC_FC_WM_LO n * 1024 < s.occupancy n → Settles (exec (.fcRefresh n) s) fun u =>
        u.mac n = { s.mac n with xoff := some (since, s.ti.elapsed, mask), ctl := [(mask, 65535)] } ∧ OtherMac s u n ∧
        { u with mc := s.mc } = s) ∧
    (∀ ph lane, let at_ := s.ti.elapsed + (ph + s.fld SL_ETH_TX_DELAY_DELAY (s.macLane n lane)) * 2 ^ 32
      (at_ < (s.mac n).curEnd → (s.mac n).ctl = [] → Settles (exec (.macFrameBoundary n ph lane) s) fun u => u = s) ∧
      (s.macUp n = true → MediumFree s n at_ → s.flag MC_CTL_MUTE n = false →
        (∀ mask q rest, (s.mac n).ctl = (mask, q) :: rest → s.fits n 64 at_ = true → s.macLoop n = 0 →
          Settles (exec (.macFrameBoundary n ph lane) s) fun u =>
            u.out = .pause n mask q :: s.out ∧ (u.mac n).ctl = rest ∧ (u.mac n).curEnd = at_ + s.octU n 84 ∧
            OtherMac s u n ∧ u.mem = s.mem) ∧
        (∀ f, (s.mac n).ctl = [] → (s.mac n).part = none → s.flag MC_CTL_EN n = true → s.txChoose n = some f →
          s.mayStart n f at_ = true → Settles (exec (.macFrameBoundary n ph lane) s) fun u => (u.mac n).cur = some f ∧
            (u.mac n).pre = (s.mac n).pre.erase f ∧ (u.mac n).curEnd = at_ + s.octU n (8 + txLeft f + 12) ∧
            (f.sent = 0 → (u.mac n).curAt = at_ + s.octU n 8 ∧
              (u.mac n).curCal = s.flag SL_ETH_STATUS_CAL_DONE (s.macLane n lane)) ∧
            OtherMac s u n ∧ { u with mc := s.mc } = s)) ∧
      (∀ f, s.macUp n = true → (s.mac n).curEnd ≤ at_ → (s.mac n).cur = some f → f.host = none → f.frags = 0 →
        (s.mac n).ctl = [] → (s.mac n).part = none → (s.mac n).pre = [] → s.macLoop n = 0 →
        Settles (exec (.macFrameBoundary n ph lane) s) fun u =>
          u.out = .frame n false 0 f.bytes :: s.out ∧ (u.mac n).cur = none ∧
          (u.mac n).holds = (s.mac n).holds.map (fun h => (h.1, some (h.2.1.getD ((s.mac n).curEnd - s.octU n 12)), h.2.2)) ∧
          u.fld MC_STAT_COUNT (n * 48 + 29) = s.counted MC_STAT_COUNT (n * 48 + 29) 1 ∧ OtherMac s u n ∧ u.mem = s.mem)) ∧
    (Settles (exec (.agePromote n) s) fun u =>
      (u.mac n).pre = (s.mac n).pre.map (fun f => if f.aged = false ∧ s.fld MC_AGE_AGE_US n * usU < s.txWaited n f then
        { f with aged := true } else f) ∧ OtherMac s u n ∧
      Writes s u [(MC_STAT_COUNT, n * 48 + 39)] ∧ { u with regs := s.regs, mc := s.mc } = s) ∧
    (s.fld MC_STATUS_VERIFY_STATE n = 2 → (s.mac n).verAt + s.fld MC_PREEMPT_VERIFY_MS n * msU ≤ s.ti.elapsed →
      ((s.mac n).verTry < 3 → Settles (exec (.verifyTimeout n) s) fun u => u.out = .ball (0x100 + n) 1 :: s.out ∧
        (u.mac n).verTry = (s.mac n).verTry + 1 ∧ (u.mac n).verAt = s.ti.elapsed ∧ OtherMac s u n ∧ u.regs = s.regs) ∧
      (3 ≤ (s.mac n).verTry → Settles (exec (.verifyTimeout n) s) fun u => u.fld MC_STATUS_VERIFY_STATE n = 4 ∧
        Writes s u [(MC_STATUS_VERIFY_STATE, n), (MC_STAT_COUNT, n * 48 + 45)] ∧ { u with regs := s.regs } = s)) ∧
    (∀ f fs, (s.mac n).stored = f :: fs → s.bucketWaits (s.classify f) f.stamp n true = false →
      let s1 := s.setMac n { s.mac n with stored := fs }
      (s1.classify f = .badSum → Settles (exec (.pipelineFrame n) s) fun u => (u.mac n).stored = fs ∧
        u.fld TS_CNT_COUNT 15 = s.counted TS_CNT_COUNT 15 1 ∧ u.ts = s.ts ∧ u.mem = s.mem) ∧
      (∀ q, s1.classify f = .svc q → q.tag = 2 ∨ q.tag = 3 → Settles (exec (.pipelineFrame n) s) fun u =>
        (u.mac n).stored = fs ∧ u.ts = { s.ts with queue := s.ts.queue ++ [q] } ∧ u.mem = s.mem)) ∧
    (∀ f fs, (s.mac n).stored = f :: fs → s.bucketWaits (s.classify f) f.stamp n true = true →
      Settles (exec (.pipelineFrame n) s) fun u => u = s) ∧
    ((s.mac n).stored = [] → Settles (exec (.pipelineFrame n) s) fun u => u = s)

/-- Timed launches: sealed in time, a launch waits for its gate; handed over in time and without overlap it takes its place by T3;
it passes its clear instant when the medium will be free, and leaves at T3 unless its bound no longer holds. MUTE drops what is
queued and MUTED takes the link down; the end of mute sends the start signal, or comes of 1 us of signal with WAKE_EN (R149, R294
to R299, R306). -/
def Obligations.LaunchesAndMute : Prop :=
  ∀ s : State,
    (∀ i r, s.ts.sealing[i]? = some r → s.now + 100 * nsU ≤ r.t3 → Settles (exec (.sealComplete i) s) fun u =>
      u.ts = { s.ts with sealing := s.ts.sealing.set i { r with sealed := true } } ∧ { u with ts := s.ts } = s) ∧
    (∀ i r, s.ts.sealing[i]? = some r → r.sealed = true → s.now + 100 * nsU ≤ r.t3 → r.t3 ≤ s.now + 110 * usU →
      (s.mac r.inst).gate.length < 64 →
      (∀ x ∈ (s.mac r.inst).gate, s.overlap r.inst r.t3 (lineLen r.bytes) x.t3 (lineLen x.bytes) = false) →
      Settles (exec (.launchHandover i) s) fun u => u.mac r.inst = { s.mac r.inst with gate := gateIns r (s.mac r.inst).gate } ∧
        u.ts = { s.ts with sealing := s.ts.sealing.eraseIdx i } ∧ OtherMac s u r.inst ∧ { u with ts := s.ts, mc := s.mc } = s) ∧
    (∀ i r, s.ts.sealing[i]? = some r → r.sealed = false → Settles (exec (.launchHandover i) s) fun u => u = s) ∧
    (∀ n, n < 16 →
      (∀ r, (s.mac n).gate.find? (fun r => !r.cleared) = some r →
        ((s.mac n).cur = none → s.heldNow n (s.prioOf n r.bytes) = false → s.flag MC_STATUS_LINK_UP n = true →
          s.flag MC_CTL_MUTE n = false → s.flag MC_STATUS_MUTED n = false → s.flag MC_STATUS_WAKING n = false →
          (s.mac n).curEnd ≤ s.ti.elapsed → s.clearAt n r = s.now → Settles (exec (.launchClearInstant n) s) fun u =>
            u.mac n = { s.mac n with gate := gateIns { r with cleared := true } ((s.mac n).gate.erase r) } ∧ OtherMac s u n ∧
            { u with mc := s.mc } = s) ∧
        (s.now < s.clearAt n r → Settles (exec (.launchClearInstant n) s) fun u => u = s)) ∧
      (∀ r g, (s.mac n).gate = r :: g → r.cleared = true → s.now ≤ r.t3 → r.t3 < s.now + s.applied → s.condemned r = false →
        s.macLoop n = 0 →
        Settles (exec (.launchRelease n) s) fun u => u.out = .frame n true r.t3 (padTo 60 r.bytes) :: s.out ∧ (u.mac n).gate = g ∧
          u.fld MC_STAT_COUNT (n * 48 + 33) = s.counted MC_STAT_COUNT (n * 48 + 33) 1 ∧ OtherMac s u n ∧ u.mem = s.mem) ∧
      (∀ r g, (s.mac n).gate = r :: g → r.cleared = true → s.now ≤ r.t3 → r.t3 < s.now + s.applied → s.condemned r = true →
        r.tries < 2 →
        Settles (exec (.launchRelease n) s) fun u => u.out = s.out ∧ (u.mac n).gate = g ∧
          u.fld TS_CNT_COUNT 12 = s.counted TS_CNT_COUNT 12 1) ∧
      (∀ a : Actor, s.mayWrite a .MC = true → s.macExists n = true →
        (s.flag MC_CTL_MUTE n = false → Settles (exec (.mute a n) s) fun u => u.flag MC_CTL_MUTE n = true ∧
          u.flag MC_STATUS_WAKING n = false ∧ (u.mac n).pre = [] ∧ (u.mac n).gate = [] ∧ OtherMac s u n ∧
          u.fld MC_STAT_COUNT (n * 48 + 42) = s.counted MC_STAT_COUNT (n * 48 + 42) (s.mac n).pre.length) ∧
        (s.flag MC_CTL_MUTE n = true → s.flag MC_STATUS_MUTED n = true → Settles (exec (.unmute a n) s) fun u =>
          u.flag MC_CTL_MUTE n = false ∧ u.flag MC_STATUS_WAKING n = true ∧
          (∃ l, u.out = l ++ .ball (0x200 + n) 1 :: s.out) ∧ u.mc = s.mc ∧ u.mem = s.mem) ∧
        (s.flag MC_CTL_MUTE n = true → s.flag MC_STATUS_MUTED n = false → Settles (exec (.unmute a n) s) fun u =>
          u.flag MC_CTL_MUTE n = false ∧ Writes s u [(MC_CTL_MUTE, n)] ∧ { u with regs := s.regs } = s.debugNote a)) ∧
      (s.flag MC_CTL_MUTE n = true → s.flag MC_STATUS_MUTED n = false → (s.mac n).cur = none → (s.mac n).part = none →
        (s.mac n).rx = [] → (s.mac n).curEnd ≤ s.ti.elapsed → Settles (exec (.muteComplete n) s) fun u => u.flag MC_STATUS_MUTED n = true ∧ u.flag MC_STATUS_LINK_UP n = false ∧
          u.flag MC_STATUS_PREEMPT_ACTIVE n = false ∧ (u.mac n).ctl = [] ∧ (u.mac n).xoff = none ∧
          (∀ k ∈ s.macLanes n, (u.ethL k).phase = 0 ∧ u.flag SL_ETH_STATUS_UP k = false) ∧ OtherMac s u n ∧ u.mem = s.mem) ∧
      (∀ ns, s.flag MC_CTL_MUTE n = true → s.flag MC_STATUS_MUTED n = true →
        (ns < 1000 → Settles (exec (.wakeSignal n ns) s) fun u => u.flag MC_CTL_MUTE n = true ∧
          Writes s u [(MC_STAT_COUNT, n * 48 + 47)] ∧ { u with regs := s.regs } = s) ∧
        (1000 ≤ ns → s.flag MC_CTL_WAKE_EN n = false → Settles (exec (.wakeSignal n ns) s) fun u =>
          u.flag MC_STATUS_WAKE_EVENT n = true ∧ u.flag MC_CTL_MUTE n = true ∧
          Writes s u [(MC_STAT_COUNT, n * 48 + 46), (MC_STATUS_WAKE_EVENT, n)] ∧
          { u with regs := s.regs, tk := s.tk } = s) ∧
        (1000 ≤ ns → s.flag MC_CTL_WAKE_EN n = true → Settles (exec (.wakeSignal n ns) s) fun u =>
          u.flag MC_CTL_MUTE n = false ∧ u.flag MC_STATUS_WAKING n = true ∧
          (∃ l, u.out = l ++ s.out ∧ Out.ball (0x200 + n) 1 ∉ l) ∧ u.mc = s.mc)))

/-! ### The time service -/

namespace Sys2Proof.Machine

/-- One more launch is being sealed (R306): its kind, instance and sequenceId, its T3 no earlier than LATENCY from now; of the
rest only the time service's own state and the free values taken change. -/
def Queued (s u : State) (kind inst seq : Nat) : Prop :=
  ∃ r, u.ts.sealing = s.ts.sealing ++ [r] ∧ r.kind = kind ∧ r.inst = inst ∧ r.seqId = seq ∧ r.sealed = false ∧
    s.now + s.fld TS_LATENCY_NS 0 * nsU ≤ r.t3 ∧ { u with ts := s.ts, freeCtr := s.freeCtr } = s

/-- The oldest waiting request of a tag, for a unit when one is named (R303). -/
def State.waiting (s : State) (tag : Nat) (u : Option Nat) : Option SvcReq :=
  s.ts.queue.find? (fun q => q.tag == tag && (u.isNone || u == some q.unit_))

/-- The state with a request taken. -/
def State.taken (s : State) (q : SvcReq) : State := { s with ts := { s.ts with queue := s.ts.queue.erase q } }

/-- A PTP message that carries no AUTHENTICATION TLV where none is asked for. -/
def Plain (s : State) (b : List Nat) (m : Nat) : Prop := s.ptpAuth b = 0 ∧ s.flag TS_PTP_CTL_NEED_AUTH m = false

/-- Room for one more launch on an instance. -/
def Room (s : State) (n : Nat) : Prop := (s.reserved n).length < 64

end Sys2Proof.Machine

/-- NTP requests, announcements, cookies and attestation: a request that the engine serves is given to sealing, and one on SAFE_OSC
or in a stopped state counted; announcements repeat each millisecond; a mint zeroes the keys it took and writes COUNT cookies, and
waits for a DRAM channel in self-refresh; an attestation request of the right form is captured, any other dropped (R23, R230, R231,
R305, R306, R309 to R311, R317, R329). -/
def Obligations.NtpAndService : Prop :=
  ∀ s : State,
    (∀ q, s.waiting 1 none = some q → s.service = true → s.roleServes = true →
      (s.safe = false → s.stopped = false → s.isNts q.unit_ q.body = false → s.flag TS_SA_CTL_NTP q.unit_ = true → Room (s.taken q) q.inst →
        Settles (exec .ntpRequest s) fun u => Queued (s.taken q) u 0 q.inst 0 ∧ u.ts.queue = s.ts.queue.erase q) ∧
      (s.safe = true → Settles (exec .ntpRequest s) fun u => u.fld TS_CNT_COUNT 9 = s.counted TS_CNT_COUNT 9 1 ∧
        Writes s u [(TS_CNT_COUNT, 9)] ∧ { u with regs := s.regs } = s.taken q) ∧
      (s.safe = false → s.stopped = true → Settles (exec .ntpRequest s) fun u =>
        u.fld TS_CNT_COUNT 8 = s.counted TS_CNT_COUNT 8 1 ∧ Writes s u [(TS_CNT_COUNT, 8)] ∧
        { u with regs := s.regs } = s.taken q)) ∧
    (∀ q, s.waiting 1 none = some q → s.service = false ∨ s.roleServes = false → Settles (exec .ntpRequest s) fun u => u = s.taken q) ∧
    (s.waiting 1 none = none → Settles (exec .ntpRequest s) fun u => u = s) ∧
    (∀ (a : Actor) (rep : Nat), s.mayWrite a .TS = true → rep < 8 → Completes (exec (.announceCmd a rep) s) fun t =>
      t.ts = { s.ts with rounds := max 1 rep, roundAt := s.ti.elapsed } ∧ { t with ts := s.ts } = s.debugNote a) ∧
    (s.ts.rounds ≠ 0 → s.ts.roundAt ≤ s.ti.elapsed → Settles (exec .announceRound s) fun u =>
      u.ts.rounds = s.ts.rounds - 1 ∧ u.ts.roundAt = s.ts.roundAt + msU) ∧
    (s.ti.elapsed < s.ts.roundAt → Settles (exec .announceRound s) fun u => u = s) ∧
    (∀ count, let src := s.fld TS_MINT_SRC_ADDR 0
      s.mayWrite .pf0 .TS = true → s.genLive 1 false = true ∨ s.genLive 1 true = true → 0 < count → count ≤ 8 →
      s.flag TS_MINT_CTL_BUSY 0 = false →
      (0x20000000 ≤ src → src + 64 ≤ 0x20400000 → s.imgBlocked (.ctrl 4) src 64 = false →
        Completes (exec (.cookieMint .pf0 count) s) fun t => t.flag TS_MINT_CTL_BUSY 0 = true ∧
          t.ts = { s.ts with mint := some (count, s.bytesAt src 64) } ∧ Holds t src (List.replicate 64 0) ∧
          (∀ x, x < src ∨ src + 64 ≤ x → memGet t.mem x = memGet s.mem x) ∧ Writes s t [(TS_MINT_CTL_BUSY, 0)]) ∧
      (s.asleep src = true → Completes (exec (.cookieMint .pf0 count) s) fun t => t.flag TS_MINT_CTL_BUSY 0 = true ∧
        t.ts = { s.ts with mint := some (count, []) } ∧ { t with regs := s.regs, ts := s.ts } = s)) ∧
    (∀ (a : Actor) (count : Nat), s.mayWrite a .TS = true → a ≠ .pf0 → Completes (exec (.cookieMint a count) s) fun t =>
      t.flag TS_MINT_CTL_FAILED 0 = true ∧ Writes s t [(TS_MINT_CTL_FAILED, 0)] ∧
      { t with regs := s.regs, tk := s.tk } = s.debugNote a) ∧
    (∀ k keys, let dest := s.fld TS_MINT_DEST_ADDR 0
      s.ts.mint = some (k, keys) →
      (keys ≠ [] → k ≤ 8 → 0x20000000 ≤ dest → dest + 800 ≤ 0x20400000 → s.imgBlocked (.ctrl 4) dest (100 * k) = false →
        Settles (exec .cookieMintDone s) fun u => u.ts = { s.ts with mint := none } ∧
          u.flag TS_MINT_CTL_BUSY 0 = false ∧ u.flag TS_MINT_CTL_DONE 0 = true ∧
          u.fld TS_CNT_COUNT 25 = s.counted TS_CNT_COUNT 25 k ∧ u.freeCtr = s.freeCtr + k ∧
          Holds u dest (s.cookies keys k).1.flatten ∧
          ∀ x, x < dest ∨ dest + 100 * k ≤ x → memGet u.mem x = memGet s.mem x) ∧
      (s.asleep dest = true → Settles (exec .cookieMintDone s) fun u => u = s)) ∧
    (∀ q, s.waiting 3 none = some q → s.bucketWaits (.svc q) q.stamp q.inst false = false →
      s.flag LC_STATE_RESET_REQUIRED 0 = false →
      (attestOk q.body = false → Settles (exec .attestRequest s) fun u =>
        u.fld BT_NET_DROP_COUNT 0 = s.counted BT_NET_DROP_COUNT 0 1 ∧ Writes s u [(BT_NET_DROP_COUNT, 0)] ∧
        { u with regs := s.regs } = s.taken q) ∧
      (attestOk q.body = true → s.netSpent = false → s.netWaiting < 14 →
        ((s.taken q).rateTake q.unit_ q.peer.net q.peer.addr (s.fld BT_NET_CFG_COST 0) false).2.1 = true →
        Settles (exec .attestRequest s) fun u => u.bt.signQ.length = s.bt.signQ.length + 1 ∧ u.bt.quotes = s.bt.quotes + 1 ∧
          u.ts.attest = s.ts.attest ++ [q] ∧ u.ts.queue = s.ts.queue.erase q))

/-- PTP: the multicast Sync and Announce of a port that may send, with their sequenceIds; Delay_Req answered and Pdelay_Req given to
sealing; a message that does not count is counted in PTP_AUTH_FAIL; a grant made takes an entry and one cancelled or expired is
live no more. The time receiver asks at its interval, keeps the times of a Sync and the grants it is given, and asks for those it
lacks (R322 to R329). -/
def Obligations.PtpService : Prop :=
  ∀ s : State,
    (∀ m, m < 16 → s.portReady m = true → s.flag TS_PTP_CTL_MCAST m = true → s.stopped = false → s.safe = false →
      (s.mcastDue (s.ptp m).syncAt (s.fld TS_PTP_LOG_SYNC_LOG m) = true → Room s m →
        Settles (exec (.ptpSyncTimer false m 0) s) fun u => Queued s u 2 m (s.ptp m).syncSeq ∧
          u.ptp m = { s.ptp m with syncSeq := ((s.ptp m).syncSeq + 1) % 65536, syncAt := some s.ti.elapsed }) ∧
      (s.mcastDue (s.ptp m).annAt (s.fld TS_PTP_LOG_ANN_LOG m) = true →
        Settles (exec (.ptpAnnounceTimer false m 0) s) fun u =>
          u.ptp m = { s.ptp m with annSeq := ((s.ptp m).annSeq + 1) % 65536, annAt := some s.ti.elapsed } ∧
          u.fld TS_CNT_COUNT 19 = s.counted TS_CNT_COUNT 19 1 ∧ u.ts.sealing = s.ts.sealing)) ∧
    (∀ m, m < 16 → s.portReady m = false → Settles (exec (.ptpSyncTimer false m 0) s) (fun u => u = s) ∧
      Settles (exec (.ptpAnnounceTimer false m 0) s) fun u => u = s) ∧
    (∀ q, s.waiting 4 none = some q →
      (Plain s q.body q.inst → s.stopped = false → s.flag TS_PTP_CTL_MCAST q.inst = true → Settles (exec .ptpDelayReq s) fun u =>
        u.fld TS_CNT_COUNT 17 = s.counted TS_CNT_COUNT 17 1 ∧ u.ts = (s.taken q).ts) ∧
      (s.ptpAuth q.body = 2 → Settles (exec .ptpDelayReq s) fun u => u.fld TS_CNT_COUNT 22 = s.counted TS_CNT_COUNT 22 1 ∧
        Writes s u [(TS_CNT_COUNT, 22)] ∧ { u with regs := s.regs } = s.taken q)) ∧
    (∀ q, s.waiting 5 none = some q → Plain s q.body q.inst → s.stopped = false → s.flag TS_PTP_CTL_DELAY q.inst = true → s.safe = false →
      Room (s.taken q) q.inst → Settles (exec .ptpPdelayReq s) fun u => Queued (s.taken q) u 3 q.inst (beAt q.body 30 2)) ∧
    (∀ q t ty a, s.waiting 6 none = some q → Plain s q.body q.inst → ptpTlvs q.body = [(4, t)] →
      grantType (t.getD 0 0 / 16) = some ty → s.stopped = false → s.poison = [] →
      s.grantFind q.peer.net q.peer.addr ((q.body.drop 20).take 10) = none →
      s.ctPlace (s.ctSet (clientKey q.peer.net q.peer.addr ++ (q.body.drop 20).take 10)) = some a → 0x400000 ≤ a →
      (s.flag TS_PTP_CTL_UNICAST q.inst = true → s.grantMin q.inst ty ≤ signed 8 (t.getD 1 0) →
        Settles (exec .ptpGrantRequest s) fun u => u.fld TS_CNT_COUNT 20 = s.counted TS_CNT_COUNT 20 1 ∧
          u.fld TS_CT_GRANTS_COUNT 0 = (s.fld TS_CT_GRANTS_COUNT 0 + 1) % 2 ^ TS_CT_GRANTS_COUNT.width ∧
          (memGet u.mem a).toNat = 2 ∧ ∀ x, x < a ∨ a + 64 ≤ x → memGet u.mem x = memGet s.mem x) ∧
      (s.flag TS_PTP_CTL_UNICAST q.inst = false → Settles (exec .ptpGrantRequest s) fun u =>
        u.fld TS_CNT_COUNT 21 = s.counted TS_CNT_COUNT 21 1 ∧ u.mem = s.mem)) ∧
    (∀ q t ty a, s.waiting 7 none = some q → Plain s q.body q.inst → ptpTlvs q.body = [(6, t)] →
      grantType (t.getD 0 0 / 16) = some ty → s.grantFind q.peer.net q.peer.addr ((q.body.drop 20).take 10) = some a →
      0x400000 ≤ a → Settles (exec .ptpGrantCancel s) fun u => u.grantLive (u.ctGet a) ty = false ∧
        ∀ x, x < a ∨ a + 64 ≤ x → memGet u.mem x = memGet s.mem x) ∧
    (∀ m i, m < 2 ^ 22 → i < 8 → m < 2 ^ s.fld TS_CT_CFG_SETS_LOG2 0 → 0x400000 ≤ s.ctAddr m i →
      let a := s.ctAddr m i
      Settles (exec (.grantExpire m i) s) fun u => (∀ x, x < a ∨ a + 64 ≤ x → memGet u.mem x = memGet s.mem x) ∧
        ∀ ty < 3, u.grantLive (u.ctGet a) ty = s.grantLive (s.ctGet a) ty ∧
          ((u.ctGet a).getD 0 0 = 2 → (u.ctGet a).getD (42 + ty) 0x7F ≠ 0x7F → u.grantLive (u.ctGet a) ty = true)) ∧
    (∀ n, n < 2 →
      (s.flag TS_PKT_CTL_EN n = true → s.safe = false → s.mcastDue (s.pkt n).dreqAt (s.fld TS_PKT_LOG_DREQ_LOG n) = true →
        Room s (s.fld TS_PKT_CTL_MAC n) → Settles (exec (.pktDelayReqTimer n) s) fun u =>
          Queued s u (if s.flag TS_PKT_CTL_DELAY n = true then 5 else 4) (s.fld TS_PKT_CTL_MAC n) (s.pkt n).seq ∧
          u.pkt n = { s.pkt n with seq := ((s.pkt n).seq + 1) % 65536, dreqAt := some s.ti.elapsed }) ∧
      (s.flag TS_PKT_CTL_EN n = false → Settles (exec (.pktDelayReqTimer n) s) fun u => u = s) ∧
      (∀ q, s.waiting 8 (some n) = some q → s.ptpAuth q.body = 0 → s.flag RS_REF_CTL_NEED_AUTH (4 + n) = false → ptpType q.body = 0 →
        (bitOf (q.body.getD 6 0) 1 = false → Settles (exec (.pktSyncRx n) s) fun u => u.flag TS_PKT_STATUS_TWO_STEP n = false ∧
          (u.pkt n).sync = some (beAt q.body 30 2, time80At q.body 34 + signed 64 (beAt q.body 8 8), ((q.stamp / 2 ^ 32 : Nat) : Int)) ∧
          (u.pkt n).wait = none ∧ Writes s u [(TS_PKT_STATUS_TWO_STEP, n)] ∧ { u with regs := s.regs, ts := s.ts } = s) ∧
        (bitOf (q.body.getD 6 0) 1 = true → Settles (exec (.pktSyncRx n) s) fun u => u.flag TS_PKT_STATUS_TWO_STEP n = true ∧
          (u.pkt n).wait = some (beAt q.body 30 2, signed 64 (beAt q.body 8 8), ((q.stamp / 2 ^ 32 : Nat) : Int)) ∧
          (u.pkt n).sync = (s.pkt n).sync ∧ Writes s u [(TS_PKT_STATUS_TWO_STEP, n)] ∧ { u with regs := s.regs, ts := s.ts } = s)) ∧
      (∀ q t ty, s.waiting 10 (some n) = some q → s.ptpAuth q.body = 0 → s.flag RS_REF_CTL_NEED_AUTH (4 + n) = false →
        ptpTlvs q.body = [(5, t)] → grantType (t.getD 0 0 / 16) = some ty → beAt t 2 4 ≠ 0 → s.flag TS_PKT_CTL_EN n = false →
        Settles (exec (.pktGrantRenew n) s) fun u =>
          (u.pkt n).grants = (s.pkt n).grants.filter (fun g => g.1 != ty) ++ [(ty, secOf s.now + beAt t 2 4)] ∧
          u.ts.queue = s.ts.queue.erase q ∧ u.mem = s.mem) ∧
      (s.waiting 10 (some n) = none → s.flag TS_PKT_CTL_EN n = true → s.flag TS_PKT_CTL_NEGOTIATE n = true →
        (s.pkt n).grants = [] → Settles (exec (.pktGrantRenew n) s) fun u =>
          (u.pkt n).seq = ((s.pkt n).seq + 1) % 65536 ∧ u.ts.queue = s.ts.queue ∧ u.mem = s.mem))

/-! ### The receipt service -/

namespace Sys2Proof.Machine

/-- One more of counter `k` of RC_CNT. -/
def RcUp (s u : State) (k : Nat) : Prop := u.fld RC_CNT_COUNT k = s.counted RC_CNT_COUNT k 1

end Sys2Proof.Machine

/-- Requests and their placement. A request on SAFE_OSC, of another length or of no submitter is discarded and counted; one in
sequence under its submitter's key moves LAST and waits; a gap in strict policy is not accepted. Placed, it is the next leaf of
the batch, whose OPEN entry comes first; its entry is written, and a solo one is acknowledged with that. What the mirror has not
confirmed in time is discarded. Nothing moves while the journal's channel is in self-refresh (R23, R334 to R341, R345, R350). -/
def Obligations.ReceiptRequests : Prop :=
  ∀ s : State,
    (∀ q, rcFirst s.ts.queue = some q → s.frontier q = true → s.jAsleep = false →
      (q.safe = true → Settles (exec .receiptRequest s) fun u => RcUp s u 14 ∧ Writes s u [(RC_CNT_COUNT, 14)] ∧
        { u with regs := s.regs } = s.taken q) ∧
      (q.safe = false → q.body.length ≠ 60 → Settles (exec .receiptRequest s) fun u => RcUp s u 10 ∧
        Writes s u [(RC_CNT_COUNT, 10)] ∧ { u with regs := s.regs } = s.taken q) ∧
      (q.safe = false → q.body.length = 60 → s.subOf (beAt q.body 0 4) = none → Settles (exec .receiptRequest s) fun u =>
        RcUp s u 9 ∧ Writes s u [(RC_CNT_COUNT, 9)] ∧ { u with regs := s.regs } = s.taken q) ∧
      (∀ x key, q.safe = false → q.body.length = 60 → s.subOf (beAt q.body 0 4) = some x → x.susp = false → x.rate = 0 →
        (s.subKey x).1 = some key →
        (toBytesBE 32 (hmac256 key (ascii "JKRQ" ++ q.body.take 44))).take 16 = q.body.drop 44 →
        s.needsFetch (beAt q.body 0 4) (beAt q.body 4 8) = none → s.role ≠ 1 → s.role ≠ 2 → s.role ≠ 4 →
        (beAt q.body 4 8 = x.last + 1 → s.rcAccepting = true → Settles (exec .receiptRequest s) fun u =>
          (∃ r, u.rc.acc = s.rc.acc ++ [r] ∧ r.rq = q ∧ r.sub = x.id ∧ r.seq = x.last + 1 ∧ r.gap = false ∧ r.prev = x.last ∧
            r.digest = (q.body.drop 12).take 32) ∧
          u.subOf x.id = some { x with last := x.last + 1 } ∧ u.rc.placed = s.rc.placed ∧ u.ts = (s.taken q).ts ∧ u.mem = s.mem) ∧
        (x.last + 1 < beAt q.body 4 8 → x.loose = false → Settles (exec .receiptRequest s) fun u => RcUp s u 3 ∧
          u.rc.acc = s.rc.acc ∧ u.subOf x.id = some x ∧ u.ts = (s.taken q).ts ∧ u.mem = s.mem))) ∧
    (∀ q, rcFirst s.ts.queue = some q → s.frontier q = false → exec .receiptRequest s = .next s) ∧
    (s.jAsleep = true → exec .receiptRequest s = .next s ∧ exec .journalWriteDone s = .next s) ∧
    (rcFirst s.ts.queue = none → exec .receiptRequest s = .next s) ∧
    (∀ r b, s.rc.acc.head? = some r → s.rc.batch = some b → b.takes r.rq.stamp = true → s.jFree ≠ 0 →
      Settles (exec .receiptPlace s) fun u =>
        (∃ r', u.rc.placed = s.rc.placed ++ [r'] ∧ r'.sub = r.sub ∧ r'.seq = r.seq ∧ r'.batch = b.num ∧ r'.idx = b.leaves.length ∧
          r'.slot = s.jWriteIx ∧ r'.written = r.written ∧ r'.solo = s.flag RC_CTL_SOLO 0 ∧
          r'.hash = leafHash (leafContent r.sub r.seq r.digest r.rq.stamp r.rq.bound)) ∧
        u.rc.acc = s.rc.acc.tail ∧ (∃ b', u.rc.batch = some b' ∧ b'.leaves.length = b.leaves.length + 1 ∧ b'.num = b.num) ∧
        u.jWriteIx = (s.jWriteIx + 1) % s.jSize % 2 ^ RC_JRN_WRITE_INDEX.width ∧ Writes s u [(RC_JRN_WRITE_INDEX, 0)] ∧
        { u with regs := s.regs, rc := s.rc } = s) ∧
    (∀ r, s.rc.acc.head? = some r → s.rc.batch = none → 2 ≤ s.jFree → Settles (exec .receiptPlace s) fun u =>
      (∃ b, u.rc.batch = some b ∧ b.num = s.fld RC_BATCH_NEXT_NUMBER 0 ∧ b.start = s.batchStart r.rq.stamp ∧
        b.bound_ = s.boundaryAfter b.start ∧ b.slot = s.jWriteIx ∧ b.leaves.length = 1) ∧ u.rc.acc = s.rc.acc.tail ∧
      u.rc.placed.length = s.rc.placed.length + 1 ∧
      Holds u (canon (s.jAddr s.jWriteIx)) (padTo 64 (openEntry (s.fld RC_BATCH_NEXT_NUMBER 0) (s.batchStart r.rq.stamp)))) ∧
    (s.rc.acc = [] → Settles (exec .receiptPlace s) fun u => u = s) ∧
    (∀ r, s.jAsleep = false → s.rc.placed.find? (fun r => !r.written) = some r →
      let a := canon (s.jAddr r.slot)
      let e := padTo 64 (leafEntry r)
      Settles (exec .journalWriteDone s) fun u => Holds u a e ∧
        (∀ x, x < a ∨ a + e.length ≤ x → memGet u.mem x = memGet s.mem x) ∧
        u.rc.idx = s.rc.idx ++ [{ sub := r.sub, seq := r.seq, slot := r.slot, batch := r.batch, unit_ := Config.unitId }] ∧
        (r.solo = true → u.rc.placed = s.rc.placed.filter (fun x => x.slot != r.slot)) ∧
        (r.solo = false → u.rc.placed = s.rc.placed.map (fun x =>
          if x.slot = r.slot then { x with written := true, at_ := s.ti.elapsed } else x))) ∧
    (s.mirrorLate = true → Settles (exec .mirrorTimeout s) fun u => u.rc.placed = [] ∧ u.rc.acc = [] ∧
      u.flag TW_STATUS_MIRROR 0 = false ∧ RcUp s u 15) ∧
    (s.mirrorLate = false → exec .mirrorTimeout s = .next s)

/-- Batches. At its tally boundary a batch starts to close, or goes on while 64 records await signature; it closes once nothing is
unresolved, with its CLOSE entry and its record; the oldest record is signed and, outside pair mode, released; a released record
that has been streamed leaves; without a buffer the streaming waits. Clearing EN discards what is unresolved; a FETCH without
answer gives the slot up. The records streamed leave ARCHIVED to the staging ring (R29, R342, R345 to R352). -/
def Obligations.ReceiptBatches : Prop :=
  ∀ s : State,
    (∀ b, s.rc.batch = some b → b.close = none →
      (b.bound_ ≤ s.now → s.signCount < 64 → Settles (exec .tallyBoundary s) fun u =>
        u.rc = { s.rc with batch := some { b with close := some (0, b.bound_) } } ∧ { u with rc := s.rc } = s) ∧
      (b.bound_ ≤ s.now → 64 ≤ s.signCount → Settles (exec .tallyBoundary s) fun u =>
        u.rc = { s.rc with batch := some { b with bound_ := b.bound_ + s.tallyU } } ∧ RcUp s u 17 ∧
        Writes s u [(RC_CNT_COUNT, 17)] ∧ { u with regs := s.regs, rc := s.rc } = s) ∧
      (s.now < b.bound_ → Settles (exec .tallyBoundary s) fun u => u = s) ∧
      Settles (exec .batchClose s) fun u => u = s) ∧
    (∀ b c, s.rc.batch = some b → b.close = some c → s.rc.placed = [] → s.jFree ≠ 0 → s.safe = false → s.placedBefore c.2 = true →
      b.leaves ≠ [] → Settles (exec .batchClose s) fun u => u.rc.batch = none ∧
        (∃ r, u.rc.recs = s.rc.recs ++ [r] ∧ r.num = b.num ∧ r.stage = 0 ∧ r.slot = b.slot ∧ r.len = b.leaves.length + 2) ∧
        Holds u (canon (s.jAddr s.jWriteIx))
          (padTo 64 (closeEntry c.1 b.num b.leaves.length (batchRoot (b.leaves.map (·.1))) c.2)) ∧
        u.jWriteIx = (s.jWriteIx + 1) % s.jSize % 2 ^ RC_JRN_WRITE_INDEX.width ∧
        u.fld RC_BATCH_NEXT_NUMBER 0 = (b.num + 1) % 2 ^ RC_BATCH_NEXT_NUMBER.width ∧ RcUp s u 16) ∧
    (∀ r, s.rc.recs.find? (fun r => r.stage == 0) = some r → Settles (exec .batchSigned s) fun u =>
      u.rc.recs = s.rc.recs.map (fun x =>
        if x.num = r.num then { x with bytes := (s.rootSign r).1, stage := if s.pairMode then 1 else 2 } else x) ∧
      (s.pairMode = true → u.tw.out.length = s.tw.out.length + 1) ∧ (s.pairMode = false → u.tw = s.tw) ∧ u.mem = s.mem) ∧
    (s.rc.recs = [] → Settles (exec .archiveStream s) fun u => u = s) ∧
    (s.jAsleep = true → exec .archiveStream s = .next s) ∧
    (∀ r rs, s.jAsleep = false → s.rc.recs = r :: rs → s.role ≠ 2 → r.stage = 2 →
      (s.archBuffer.2 = none → Settles (exec .archiveStream s) fun u => u.flag RC_STATUS_ARCH_WAIT 0 = true ∧ u.rc = s.rc ∧
        u.mem = s.mem) ∧
      (∀ k, s.archBuffer.2 = some k → s.archBuffer.1.ringRoom 50 = true → r.pos = r.len →
        Settles (exec .archiveStream s) fun u => u.rc = { s.rc with recs := rs, arch := s.rc.arch ++ [r] } ∧
          u.flag RC_STATUS_ARCH_WAIT 0 = false ∧ u.fld RC_JRN_ARCHIVED_INDEX 0 = s.fld RC_JRN_ARCHIVED_INDEX 0)) ∧
    (∀ a : Actor, s.mayWrite a .RC = true → (s.flag RC_CTL_EN 0 = true → Settles (exec (.rcDisable a) s) fun u =>
        u.flag RC_CTL_EN 0 = false ∧ u.rc.placed = [] ∧ u.rc.acc = []) ∧
      (s.flag RC_CTL_EN 0 = false → Settles (exec (.rcDisable a) s) fun u => u = s.debugNote a)) ∧
    (∀ k t, s.rc.fetch = some (k, t) →
      (t + s.fld RC_MIRROR_TO_US 0 * usU ≤ s.ti.elapsed → Settles (exec .fetchTimeout s) fun u => u.rc.fetch = none ∧
        u.rc.lost = k :: s.rc.lost ∧ RcUp s u 19 ∧ u.mem = s.mem) ∧
      (s.ti.elapsed < t + s.fld RC_MIRROR_TO_US 0 * usU → exec .fetchTimeout s = .next s))

/-- The submitter commands, from PF0 or a supervisor-mode program: REGISTER of a free entry and UPDATE of a registered one with a
good blob; REMOVE, READ, SUSPEND and RESUME of the entry registered under the ID; each refusal gives its REASON and changes no
entry (R331). -/
def Obligations.Submitters : Prop :=
  ∀ (s : State) (a : Actor), s.mayWrite a .RC = true → s.privileged a = true →
    let id := s.fld RC_SUB_ID_ID 0
    let blob := s.bytesAt (s.fld RC_SUB_BLOB_ADDR 0) 160
    let refused := fun (why : Nat) (u : State) => u.flag RC_SUB_CMD_FAILED 0 = true ∧ u.fld RC_SUB_CMD_REASON 0 = why ∧
      Writes s u [(RC_SUB_CMD_FAILED, 0), (RC_SUB_CMD_REASON, 0)] ∧ { u with regs := s.regs, tk := s.tk } = s
    let done := fun (x : Option Submit) (u : State) => u.subAt id = x ∧ u.flag RC_SUB_CMD_DONE 0 = true ∧
      (∀ k, k % 65536 ≠ id % 65536 → u.subAt k = s.subAt k) ∧ Writes s u [(RC_SUB_CMD_DONE, 0)] ∧
      { u with regs := s.regs, rc := s.rc, tk := s.tk } = s
    (s.fld RC_SUB_BASE_ADDR 0 = 0 → Settles (exec (.subRegister a) s) (refused 7) ∧ Settles (exec (.subUpdate a) s) (refused 7) ∧
      Settles (exec (.subRemove a) s) (refused 7)) ∧
    (s.fld RC_SUB_BASE_ADDR 0 ≠ 0 → (s.subAt id).isSome = true → Settles (exec (.subRegister a) s) (refused 2)) ∧
    (s.fld RC_SUB_BASE_ADDR 0 ≠ 0 → s.subAt id = none → Settles (exec (.subUpdate a) s) (refused 1) ∧
      Settles (exec (.subRemove a) s) (refused 1) ∧ Settles (exec (.subSuspend a) s) (refused 1)) ∧
    (∀ r : KeySlot × Nat × Bool, s.fld RC_SUB_BASE_ADDR 0 ≠ 0 → s.ksGate a = 0 → s.blobOpen blob = .ok r → r.2.1 = 1 →
      bitOf r.1.usage 1 = true → 32 ≤ r.1.key.length → r.1.key.length ≤ 64 →
      (s.subAt id = none → Settles (exec (.subRegister a) s) fun u => ∃ x, done (some x) u ∧ x.id = id ∧
        x.last = s.fld RC_SUB_LAST_LAST 0 ∧ x.rate = s.fld RC_SUB_CFG_RATE_K 0 ∧ x.susp = false ∧ x.blob = blob) ∧
      (∀ y, s.subAt id = some y → y.id = id → Settles (exec (.subUpdate a) s) fun u => ∃ x, done (some x) u ∧ x.id = id ∧
        x.last = (if s.flag RC_SUB_CFG_SET_LAST 0 = true then s.fld RC_SUB_LAST_LAST 0 else y.last) ∧
        x.rate = s.fld RC_SUB_CFG_RATE_K 0 ∧ x.susp = y.susp ∧ x.blob = blob)) ∧
    (∀ x, s.fld RC_SUB_BASE_ADDR 0 ≠ 0 → s.subAt id = some x →
      (x.id = id → Settles (exec (.subRemove a) s) (done none) ∧
        Settles (exec (.subSuspend a) s) (done (some { x with susp := true })) ∧
        Settles (exec (.subResume a) s) (done (some { x with susp := false })) ∧
        Settles (exec (.subRead a) s) fun u => u.fld RC_SUB_LAST_LAST 0 = x.last % 2 ^ RC_SUB_LAST_LAST.width ∧
          u.fld RC_SUB_CFG_RATE_K 0 = x.rate % 2 ^ RC_SUB_CFG_RATE_K.width ∧ u.flag RC_SUB_CFG_SUSPENDED 0 = x.susp ∧
          u.flag RC_SUB_CFG_LOOSE 0 = x.loose ∧ u.flag RC_SUB_CMD_DONE 0 = true ∧ { u with regs := s.regs, tk := s.tk } = s) ∧
      (x.id ≠ id → Settles (exec (.subRemove a) s) (refused 3) ∧ Settles (exec (.subRead a) s) (refused 3)))

/-! ### Twin operation -/

namespace Sys2Proof.Machine

/-- One more of counter `k` of TW_CNT. -/
def TwUp (s u : State) (k : Nat) : Prop := u.fld TW_CNT_COUNT k = s.counted TW_CNT_COUNT k 1

/-- The state with the oldest received message taken. -/
def State.popped (s : State) (ms : List (Nat × List Nat × List Nat)) : State := { s with tw := { s.tw with inbox := ms } }

/-- A CONFIRM waits to be sent (R367). -/
def Confirms (u : State) : Prop := ∃ m ∈ u.tw.out, m.typ = 2 ∧ m.at_ = none

/-- The last message queued is of a type, its header begins with the bytes given. -/
def Says (u : State) (typ : Nat) (hdr : List Nat) : Prop :=
  ∃ m, u.tw.out.getLast? = some m ∧ m.typ = typ ∧ m.hdr.take hdr.length = hdr ∧ m.at_ = none

end Sys2Proof.Machine

/-- Roles and swaps. A standby of a silent partner is promoted by PF0, serving from the next tick; an active engine demoted by PF0,
by three failures of a check or by clearing EN gives up lease, mirror and unresolved requests, and after 150 us stands by or
leaves; the guard stops a mute one. A swap is proposed for a second at least 1 s ahead, and at that second the roles change.
DISAGREE and UNFIT clear in time (R373 to R377, R382, R384 to R386). -/
def Obligations.TwinRoles : Prop :=
  ∀ s : State,
    (s.mayWrite .pf0 .TW = true →
      (s.silent = true → s.role = 2 → s.flag TW_STATUS_SELF_FAIL 0 = false → Settles (exec (.promoteCmd .pf0) s) fun u =>
        u.role = 3 ∧ u.tw.serve = s.ti.ticks + 1 ∧ TwUp s u 8 ∧ u.flag TW_STATUS_MIRROR 0 = false) ∧
      (s.silent = false → exec (.promoteCmd .pf0) s = .next s) ∧
      (s.role = 3 → Settles (exec (.demoteCmd .pf0) s) fun u => u.role = 4 ∧ u.tw.demote = some (s.ti.elapsed, false, false) ∧
        u.flag TW_STATUS_LEASE 0 = false ∧ u.flag TW_STATUS_MIRROR 0 = false ∧ u.rc.placed = [] ∧ u.rc.acc = [] ∧ TwUp s u 9) ∧
      (s.role ≠ 3 → Settles (exec (.demoteCmd .pf0) s) fun u => u = s)) ∧
    (∀ a : Actor, s.mayWrite a .TW = true →
      (a ≠ .pf0 → exec (.promoteCmd a) s = .next (s.debugNote a) ∧ exec (.demoteCmd a) s = .next (s.debugNote a)) ∧
      Completes (exec (.clrUnfit a) s) (fun t => t.flag TW_STATUS_UNFIT 0 = false ∧ Writes s t [(TW_STATUS_UNFIT, 0)] ∧
        { t with regs := s.regs } = s.debugNote a) ∧
      (s.flag TW_CTL_EN 0 = true → s.role = 2 → Settles (exec (.twinDisable a) s) fun u => u.role = 0 ∧
        u.flag TW_CTL_EN 0 = false ∧ u.flag TW_STATUS_MIRROR 0 = false ∧ u.tw.out = []) ∧
      (s.flag TW_CTL_EN 0 = true → s.role = 3 → Settles (exec (.twinDisable a) s) fun u => u.role = 4 ∧
        u.flag TW_CTL_EN 0 = false ∧ u.flag TW_STATUS_BUSY 0 = true) ∧
      (s.flag TW_CTL_EN 0 = false → exec (.twinDisable a) s = .next (s.debugNote a)) ∧
      (s.role = 3 → s.tw.propose = none → s.tw.swapAt = none → Completes (exec (.swapNow a) s) fun t =>
        t.tw.propose = some s.swapSecond ∧ s.now + secU ≤ s.swapSecond * secU ∧ Says t 10 [1] ∧ { t with tw := s.tw } = s.debugNote a) ∧
      (s.role ≠ 3 → exec (.swapNow a) s = .next (s.debugNote a))) ∧
    (s.swapDue = true → s.role = 3 → s.tw.propose = none → s.tw.swapAt = none → Completes (exec .swapPropose s) fun t =>
      t.tw.propose = some s.swapSecond ∧ Says t 10 [1] ∧ { t with tw := s.tw } = s) ∧
    (s.swapDue = false → exec .swapPropose s = .next s) ∧
    (∀ e, s.tw.swapAt = some e →
      (s.now < e * secU → Settles (exec .swapExecute s) fun u => u = s) ∧
      (∀ b, e * secU ≤ s.now → s.role = 3 → s.rc.batch = some b → b.close = none → Settles (exec .swapExecute s) fun u =>
        u.role = 2 ∧ u.tw.oweHand = true ∧ u.rc = { s.rc with batch := some { b with close := some (0, e * secU) } } ∧
        u.tw.epoch = (s.tw.epoch + 1) % 2 ^ 32) ∧
      (e * secU ≤ s.now → s.role = 2 → Settles (exec .swapExecute s) fun u => u.role = 3 ∧ u.tw.waitHand = true ∧
        u.tw.swapAt = none ∧ u.flag TW_STATUS_MIRROR 0 = false ∧ u.mem = s.mem)) ∧
    (∀ t fail unfit, s.tw.demote = some (t, fail, unfit) → s.role = 4 →
      (t + 150 * usU ≤ s.ti.elapsed → Settles (exec .demotionComplete s) fun u => u.tw.demote = none ∧
        u.role = (if s.flag TW_CTL_EN 0 = true then 2 else 0) ∧ (fail = true → u.flag TW_STATUS_SELF_FAIL 0 = true) ∧
        (unfit = true → u.flag TW_STATUS_UNFIT 0 = true) ∧ u.mem = s.mem) ∧
      (s.ti.elapsed < t + 150 * usU → Settles (exec .demotionComplete s) fun u => u = s)) ∧
    (∀ breath copies lease,
      let f := (if breath = true then 0 else s.tw.fails.1 + 1, if copies = true then 0 else s.tw.fails.2.1 + 1,
        if lease = true then 0 else s.tw.fails.2.2 + 1)
      (s.role = 3 → f.1 < 3 → f.2.1 < 3 → f.2.2 < 3 → Settles (exec (.selfCheck breath copies lease) s) fun u =>
        u = { s with tw := { s.tw with fails := f } }) ∧
      (s.role = 3 → 3 ≤ f.1 ∨ 3 ≤ f.2.1 ∨ 3 ≤ f.2.2 → Settles (exec (.selfCheck breath copies lease) s) fun u => u.role = 4 ∧
        u.tw.demote = some (s.ti.elapsed, true, false)) ∧
      (s.role ≠ 3 → Settles (exec (.selfCheck breath copies lease) s) fun u => u = s)) ∧
    (s.role = 3 → s.tw.formed + 900 * usU ≤ s.ti.elapsed → Settles (exec .breathGuard s) fun u =>
      u = { s with tw := { s.tw with guard_ := true } }) ∧
    (s.ti.elapsed < s.tw.formed + 900 * usU → Settles (exec .breathGuard s) fun u => u = s) ∧
    (s.flag TW_STATUS_DISAGREE 0 = true → s.tw.overAt + s.sustainU ≤ s.ti.elapsed → Completes (exec .disagreeClear s) fun t =>
      t.flag TW_STATUS_DISAGREE 0 = false ∧ t.tw = { s.tw with calmAt := s.ti.elapsed, overFrom := none } ∧
      Writes s t [(TW_STATUS_DISAGREE, 0)] ∧ { t with regs := s.regs, tw := s.tw } = s) ∧
    (s.ti.elapsed < s.tw.overAt + s.sustainU → exec .disagreeClear s = .next s) ∧
    (s.flag TW_STATUS_UNFIT 0 = true → s.flag TW_STATUS_DISAGREE 0 = false → s.tw.calmAt + 60 * secU ≤ s.ti.elapsed →
      Completes (exec .unfitClear s) fun t => t.flag TW_STATUS_UNFIT 0 = false ∧ Writes s t [(TW_STATUS_UNFIT, 0)] ∧
        { t with regs := s.regs } = s) ∧
    (s.ti.elapsed < s.tw.calmAt + 60 * secU → exec .unfitClear s = .next s)

/-- The received messages. MIRROR writes the entry and confirms; a fetched one ends the FETCH; CONFIRM releases records and
acknowledges what it covers; RECORD is kept; FETCH is answered; JOIN takes over the journal's state or, differing, waits; SUBLAST
sets LAST; a grant epoch is staged and applied whole; a program cell enters its FIFO; SWAP is accepted or refused; HANDOVER
reverses the mirror; reports and verdicts act (R364 to R372, R383 to R386). -/
def Obligations.TwinMessages : Prop :=
  ∀ (s : State) (hdr body : List Nat) (ms : List (Nat × List Nat × List Nat)),
    let got := fun typ : Nat => s.tw.inbox = (typ, hdr, body) :: ms
    let k := beAt hdr 0 4 % s.jSize
    let a := canon (s.jAddr k)
    (got 1 → ∀ t, bitOf (hdr.getD 8 0) 0 = true → s.rc.fetch = some (k, t) → Settles (exec .mirrorRx s) fun u =>
      u.rc = { s.rc with fetch := none } ∧ Holds u a (padTo 64 body) ∧ RcUp s u 18 ∧ u.tw.inbox = ms) ∧
    (got 1 → bitOf (hdr.getD 8 0) 0 = false → s.grants = false → Settles (exec .mirrorRx s) fun u => u = s.popped ms) ∧
    (got 1 → bitOf (hdr.getD 8 0) 0 = false → bitOf (hdr.getD 8 0) 1 = false → s.grants = true → 2 ≤ s.jSize → k = s.jWriteIx →
      s.tw.ahead = [] → Settles (exec .mirrorRx s) fun u => Holds u a (padTo 64 body) ∧ Confirms u ∧ u.tw.inbox = ms ∧
        u.jWriteIx = (k + 1) % s.jSize % 2 ^ RC_JRN_WRITE_INDEX.width) ∧
    (got 2 → s.role = 3 → s.flag TW_STATUS_LEASE 0 = true → s.tw.oweHand = false → Settles (exec .confirmRx s) fun u =>
      u.rc.recs = s.rc.recs.map (fun x => if x.stage = 1 ∧ x.num ≤ beAt hdr 4 8 then { x with stage := 2 } else x) ∧
      (∀ r, s.rc.placed = [r] → r.written = true → s.jPos r.slot < s.jPos (beAt hdr 0 4) → u.rc.placed = []) ∧
      (s.tw.joining = true → s.tw.out = [] → u.flag TW_STATUS_MIRROR 0 = true ∧ u.tw.joining = false) ∧ u.tw.inbox = ms) ∧
    (got 2 → s.role ≠ 3 → s.tw.oweHand = false → Settles (exec .confirmRx s) fun u => u = s.popped ms) ∧
    (got 3 → s.grants = true → Settles (exec .recordRx s) fun u =>
      u.tw.recs = ((beAt hdr 0 8, body) :: s.tw.recs.filter (fun r => r.1 != beAt hdr 0 8)).take 64 ∧ Confirms u ∧
      u.tw.inbox = ms ∧ { u with tw := s.tw } = s) ∧
    (got 4 → s.jHeld (beAt hdr 0 4) = true → s.jBad (beAt hdr 0 4) = false → Settles (exec .fetchRx s) fun u =>
      (∃ m, u.tw.out = s.tw.out ++ [m] ∧ m.typ = 1 ∧ m.body = padTo 64 (s.jGet (beAt hdr 0 4)) ∧ m.fetched = true) ∧
      u.tw.inbox = ms ∧ { u with tw := s.tw } = s) ∧
    (got 5 → s.grants = true → hdr.getD 8 0 = s.fld RC_JRN_CFG_LOG 0 → beAt body 8 4 = s.fld RC_TALLY_US 0 →
      Settles (exec .joinRx s) fun u => u.jWriteIx = k % 2 ^ RC_JRN_WRITE_INDEX.width ∧
        u.jRel = beAt hdr 4 4 % 2 ^ RC_JRN_RELEASE_INDEX.width ∧
        u.fld RC_BATCH_NEXT_NUMBER 0 = beAt body 0 8 % 2 ^ RC_BATCH_NEXT_NUMBER.width ∧
        u.flag TW_STATUS_HISTORY_PARTIAL 0 = decide (beAt hdr 4 4 ≠ beAt hdr 0 4) ∧ u.rc.acc = [] ∧ u.rc.placed = [] ∧
        u.rc.idx = [] ∧ u.rc.batch = none ∧ Confirms u ∧ u.tw.inbox = ms ∧ u.mem = s.mem) ∧
    (got 5 → s.grants = true → hdr.getD 8 0 ≠ s.fld RC_JRN_CFG_LOG 0 → Settles (exec .joinRx s) fun u =>
      u.flag TW_STATUS_JOIN_WAIT 0 = true ∧ u.tw.misfit = true ∧ u.rc = s.rc ∧ u.tw.inbox = ms) ∧
    (got 6 → s.grants = true → ∀ x, s.subOf (beAt hdr 0 4) = some x → Settles (exec .sublastRx s) fun u =>
      u.subOf (beAt hdr 0 4) = some { x with last := beAt hdr 4 8 } ∧ Confirms u ∧ u.tw.inbox = ms ∧ u.regs = s.regs) ∧
    (got 7 → s.role = 2 → s.tw.ends = [] → Settles (exec .grantRx s) fun u =>
      u.tw = { s.tw with inbox := ms, stage := s.tw.stage ++ [(beAt hdr 0 4, beAt hdr 4 4, body)] } ∧ { u with tw := s.tw } = s) ∧
    (got 8 → s.role = 2 → s.tw.ends = [] → s.tw.stage = [] → beAt hdr 4 4 ≠ 0 → Settles (exec .epochEndRx s) fun u =>
      u.tw = { s.tw with inbox := ms, ends := [(beAt hdr 0 4, beAt hdr 4 4, beAt hdr 8 4, s.ti.elapsed)] } ∧
      { u with tw := s.tw } = s) ∧
    (got 8 → ∀ e, s.role = 2 → s.tw.ends = [] → s.tw.stage = [(beAt hdr 0 4, 0, e)] → beAt hdr 4 4 = 1 →
      crc32c e = beAt hdr 8 4 → Settles (exec .epochEndRx s) fun u => u.tw.stage = [] ∧ u.tw.ends = [] ∧
        u.tw.applied = some s.ti.elapsed ∧ u.tw.resync = false ∧ u.fld TW_EPOCH_STATUS_APPLIED 0 = beAt hdr 0 4 % 2 ^ 32 ∧
        TwUp s u 6) ∧
    (got 9 → hdr.getD 0 0 < 8 → (s.seq (hdr.getD 0 0)).cellFifo.length < 8 → Settles (exec .progRx s) fun u =>
      (u.seq (hdr.getD 0 0)).cellFifo = (s.seq (hdr.getD 0 0)).cellFifo ++ [beAt hdr 4 4 + beAt hdr 8 4 * 2 ^ 32] ∧
      (∀ j, j ≠ hdr.getD 0 0 → u.seq j = s.seq j) ∧ u.tw.inbox = ms ∧
      u.regs = s.regs) ∧
    (got 10 → hdr.getD 0 0 = 1 → s.role = 2 →
      (s.swapRefuse = 0 → Settles (exec .swapProposeRx s) fun u => u.tw.swapAt = some (beAt hdr 6 6) ∧ Says u 10 [2] ∧
        u.tw.inbox = ms ∧ { u with tw := s.tw } = s) ∧
      (s.swapRefuse ≠ 0 → Settles (exec .swapProposeRx s) fun u => u.tw.swapAt = s.tw.swapAt ∧ Says u 10 [3, s.swapRefuse] ∧
        u.tw.inbox = ms ∧ { u with tw := s.tw } = s)) ∧
    (got 10 → hdr.getD 0 0 = 2 → s.role = 3 → s.tw.propose = some (beAt hdr 6 6) → Settles (exec .swapAcceptRx s) fun u =>
      u.tw.swapAt = some (beAt hdr 6 6) ∧ u.tw.propose = none ∧ u.tw.inbox = ms ∧ { u with tw := s.tw } = s) ∧
    (got 10 → hdr.getD 0 0 = 3 → s.tw.propose.isSome = true → Settles (exec .swapRefuseRx s) fun u => u.tw.propose = none ∧
      u.fld TW_SWAP_NEXT_SEC 0 = (secOf s.now + 600) % 2 ^ 48 ∧ u.flag TW_EVENT_SWAP_REFUSED 0 = true ∧ TwUp s u 11 ∧
      u.tw.inbox = ms ∧ u.mem = s.mem) ∧
    (got 11 → s.tw.waitHand = true → Settles (exec .handoverRx s) fun u => u.tw.waitHand = false ∧
      u.flag TW_STATUS_MIRROR 0 = true ∧ u.flag TW_EVENT_SWAP_DONE 0 = true ∧ TwUp s u 10 ∧
      u.jWriteIx = k % 2 ^ RC_JRN_WRITE_INDEX.width ∧
      u.fld RC_BATCH_NEXT_NUMBER 0 = beAt hdr 4 8 % 2 ^ RC_BATCH_NEXT_NUMBER.width ∧ u.role = s.role) ∧
    (got 12 → s.tw.arbMine = none → Settles (exec .arbRx s) fun u =>
      u = { s with tw := { s.tw with inbox := ms, arbPeer := some (hdr, body) } }) ∧
    (got 12 → ∀ m, s.tw.arbMine = some m → s.isSenior = true → s.role = 2 ∨ s.role = 3 → Settles (exec .arbRx s) fun u =>
      u.tw.arbMine = none ∧ u.tw.arbPeer = none ∧ u.flag TW_EVENT_ARB_DONE 0 = true ∧ TwUp s u 14) ∧
    (got 13 → Settles (exec .verdictRx s) fun u => u.fld TW_ARB_RESULT 0 = hdr.getD 4 0 % 4 ∧
      u.fld TW_ARB_VOTES_ACTIVE 0 = hdr.getD 5 0 % 256 ∧ u.fld TW_ARB_VOTES_STANDBY 0 = hdr.getD 6 0 % 256 ∧
      u.flag TW_EVENT_ARB_DONE 0 = true ∧ TwUp s u 14 ∧
      (hdr.getD 4 0 = 1 → s.role = 3 → u.role = 4 ∧ u.tw.demote = some (s.ti.elapsed, false, true)) ∧
      (hdr.getD 4 0 = 2 → s.role = 2 → u.flag TW_STATUS_UNFIT 0 = true ∧ u.role = 2))

/-- Breath, lease and WITNESS. A breath is formed with the next number for each lane in use; a new partner breath is kept, takes an
INIT engine to STANDBY or ACTIVE and promotes the standby of a demoting partner, and a standby's gives the lease; the lease runs out
with the mirror; a pulse of 1 or 2 us is sent by role, and a partner's noted; a failed WITNESS counts no more; silence makes an INIT
engine ACTIVE, promotes a standby, and is told once by an active one. A breath is due on each 10 us, a pulse in its slot (R356 to
R362, R373, R379). Repetition and epochs: a message
unconfirmed for 10 us is sent again, one unanswered for 10 ms is dropped; an active engine cuts its epoch in time; an epoch
incomplete after 1 ms is discarded whole (R365, R371). -/
def Obligations.TwinBreath : Prop :=
  (∀ s : State,
    (s.role ≠ 0 → s.tenUs 0 = true → s.tw.brTick ≠ some s.ti.ticks → Settles (exec .breathTx s) fun u => u.tw.seq = (s.tw.seq + 1) % 64 ∧ u.tw.formed = s.ti.elapsed ∧
      u.tw.brOut = ((List.range 2).filter (fun n => s.twLane n)).map (fun n => (n, s.breathBody)) ∧ TwUp s u 0 ∧
      Writes s u [(TW_CNT_COUNT, 0)] ∧ { u with regs := s.regs, tw := s.tw, evc := s.evc } = s) ∧
    (s.role = 0 ∨ s.tenUs 0 = false ∨ s.tw.brTick = some s.ti.ticks → Settles (exec .breathTx s) fun u => u = s) ∧
    (s.tw.brIn = [] → Settles (exec .breathRx s) fun u => u = s) ∧
    (∀ lane b arr xs, s.tw.brIn = (lane, b, arr) :: xs → s.role ≠ 0 →
      (∀ p, s.tw.peer = some p → bits p.1 22 6 ≠ bits b 22 6) → Settles (exec .breathRx s) fun u =>
        u.tw.brIn = xs ∧ u.tw.peer = some (b, arr) ∧ TwUp s u 1 ∧ u.flag TW_STATUS_LINK_LOST 0 = false ∧
        (s.role = 1 → bits b 14 2 = 2 → u.role = 2) ∧ (s.role = 1 → bits b 14 2 = 0 → s.isSenior = true → u.role = 3) ∧
        (s.role = 2 → bits b 14 2 = 3 → s.flag TW_STATUS_SELF_FAIL 0 = false → u.role = 3) ∧
        (∀ x, s.role = 3 → bits b 14 2 = 1 → bitOf b 13 = true → s.tw.brSent.find? (fun x => x.1 == bits b 16 6) = some x →
          s.ti.elapsed ≤ x.2 + s.leaseU → u.flag TW_STATUS_LEASE 0 = true)) ∧
    (∀ x xs p, s.tw.brIn = x :: xs → s.tw.peer = some p → bits p.1 22 6 = bits x.2.1 22 6 → Settles (exec .breathRx s) fun u =>
      u = { s with tw := { s.tw with brIn := xs } }) ∧
    (∀ t, s.tw.lease = some t → (t ≤ s.ti.elapsed → Settles (exec .leaseExpire s) fun u => u.flag TW_STATUS_LEASE 0 = false ∧
        u.flag TW_STATUS_MIRROR 0 = false ∧ u.tw.lease = none ∧ Writes s u [(TW_STATUS_LEASE, 0), (TW_STATUS_MIRROR, 0)] ∧
        { u with regs := s.regs, tw := s.tw } = s) ∧
      (s.ti.elapsed < t → Settles (exec .leaseExpire s) fun u => u = s)) ∧
    (s.witnessSlot = true → s.role = 1 ∨ s.role = 2 → exec .witnessPulse s = .next (s.emit (.witness 1))) ∧
    (s.witnessSlot = true → s.role = 3 → exec .witnessPulse s = .next (s.emit (.witness 2))) ∧
    (s.witnessSlot = false ∨ s.role = 0 ∨ s.role = 4 → exec .witnessPulse s = .next s) ∧
    (∀ ns, ((ns < 500 ∧ s.tw.witBad = false) ∨ s.role = 0 → Settles (exec (.witnessPartnerPulse ns) s) fun u => u = s) ∧
      (500 ≤ ns → s.role ≠ 0 → s.tw.witBad = false → Settles (exec (.witnessPartnerPulse ns) s) fun u =>
        u.tw.pulse = some (s.ti.elapsed - ns * nsU, decide (1500 ≤ ns)) ∧ (s.role = 1 → 1500 ≤ ns → u.role = 2) ∧
        (ns < 1500 → u.role = s.role ∧ { u with tw := s.tw } = s)) ∧
      (500 ≤ ns → ns ≤ 5000 → s.role ≠ 0 → s.tw.witBad = true → Settles (exec (.witnessPartnerPulse ns) s) fun u =>
        u.tw.witBad = decide (s.tw.witGood + 1 < 16) ∧ u.tw.pulse = s.tw.pulse ∧ { u with tw := s.tw } = s) ∧
      (ns < 500 ∨ 5000 < ns → s.role ≠ 0 → s.tw.witBad = true → Settles (exec (.witnessPartnerPulse ns) s) fun u =>
        u = { s with tw := { s.tw with witGood := 0 } })) ∧
    (s.tw.witBad = false → Settles (exec .witnessFault s) fun u => u.tw = { s.tw with witBad := true, witGood := 0 } ∧
      u.mem = s.mem ∧ u.role = s.role) ∧
    (s.tw.witBad = true → Settles (exec .witnessFault s) fun u => u = { s with tw := { s.tw with witGood := 0 } }) ∧
    (s.silent = true →
      (s.role = 1 → s.tw.initAt + s.silenceU ≤ s.ti.elapsed → Settles (exec .partnerSilent s) fun u => u.role = 3) ∧
      (s.role = 2 → s.flag TW_STATUS_SELF_FAIL 0 = false → Settles (exec .partnerSilent s) fun u => u.role = 3 ∧ TwUp s u 8) ∧
      (s.role = 3 → s.tw.lostTold = false → Settles (exec .partnerSilent s) fun u => u.role = 3 ∧ u.tw.lostTold = true ∧
        u.flag TW_EVENT_PARTNER_LOST 0 = true ∧ u.flag TW_STATUS_MIRROR 0 = false ∧
        (s.flag TW_CTL_SOLO_ON_LOSS 0 = true → u.flag RC_CTL_SOLO 0 = true)) ∧
      (s.role = 3 → s.tw.lostTold = true → Settles (exec .partnerSilent s) fun u => u = s))) ∧
  (∀ s : State,
    (∀ m t, s.tw.out = [m] → m.at_ = some t →
      (m.confirmable = true → t + 10 * usU ≤ s.ti.elapsed → Settles (exec .messageResend s) fun u =>
        u.tw.out = [{ m with at_ := none }] ∧ { u with tw := s.tw } = s) ∧
      (m.confirmable = true → s.ti.elapsed < t + 10 * usU → Settles (exec .messageResend s) fun u => u.tw.out = [m]) ∧
      (m.confirmable = false → m.first + 10 * msU ≤ s.ti.elapsed → Settles (exec .messageResend s) fun u =>
        u.tw.out = [] ∧ u.tw.propose = none ∧ { u with tw := s.tw } = s)) ∧
    (s.role = 3 → s.tw.epochAt + s.fld TW_EPOCH_CFG_EPOCH_MS 0 * msU ≤ s.ti.elapsed → Settles (exec .epochCut s) fun u =>
      u.tw.epoch = (s.tw.epoch + 1) % 2 ^ 32 ∧ u.tw.gather = [] ∧ u.tw.epochAt = s.ti.elapsed ∧ Says u 8 (toBytesBE 4 s.tw.epoch) ∧
      u.fld TW_EPOCH_STATUS_APPLIED 0 = s.tw.epoch % 2 ^ 32 ∧ TwUp s u 5 ∧
      Writes s u [(TW_EPOCH_STATUS_APPLIED, 0), (TW_CNT_COUNT, 5)] ∧ { u with regs := s.regs, tw := s.tw } = s) ∧
    (s.role ≠ 3 → Settles (exec .epochCut s) fun u => u = s) ∧
    (∀ x, s.tw.ends.find? (fun x => x.2.2.2 + msU ≤ s.ti.elapsed) = some x → Settles (exec .epochDiscard s) fun u =>
      u.tw = { s.tw with stage := s.tw.stage.filter (fun m => m.1 != x.1), ends := s.tw.ends.filter (fun m => m.1 != x.1), resync := true } ∧
      u.flag TW_EVENT_EPOCH_DISCARD 0 = true ∧ TwUp s u 7 ∧ u.mem = s.mem) ∧
    (s.tw.ends = [] → Settles (exec .epochDiscard s) fun u => u = s))

/-! ### PCI Express, DRAM and descriptor rings -/

namespace Sys2Proof.Machine

/-- The state differs at most in the registers, in what the fault manager holds, in the messages and the signals sent, in who
keeps which register snapshot. -/
def Logged (s u : State) : Prop :=
  { u with regs := s.regs, fm := s.fm, pe := s.pe, out := s.out, evc := s.evc, seqs := s.seqs, tk := s.tk } = s

end Sys2Proof.Machine

/-- An inbound read through a BAR returns the bytes, a busError where the data is poisoned or the address is served to nobody; an
inbound write stores its bytes there alone, a poisoned one none, and one to an address served to nobody is a decode error in BM_ERR;
Bus Master Enable is as written. An AtomicOp of 4 or 8 aligned
bytes through BAR2 returns the old value and stores the new one. A vector unmasked sends its pending message. A block that does not
answer is recorded with kind 2, and a failed host DMA read stops the ring with REASON 5 (R389, R396, R399, R414 to R417). -/
def Obligations.PcieRequests : Prop :=
  ∀ s : State,
    (s.flag PE_STATUS_LINK_UP 0 = true →
      (∀ fn bar off len bytes ep addr, fn < 2 → bar < 6 → len ≤ 4096 → bytes.length ≤ 512 →
        barMap fn bar off = .matrix addr → blkAt addr = none →
        (s.served (fnActor fn) addr false = true → s.readPoison addr len = false →
          Settles (exec (.pcieInboundRequest fn 0 bar off len bytes ep) s) fun u =>
            u.out = .read (fnActor fn) addr (ofBytes (s.bytesAt addr len)) :: s.out ∧ { u with out := s.out, evc := s.evc } = s) ∧
        (s.served (fnActor fn) addr false = true → s.readPoison addr len = true →
          Settles (exec (.pcieInboundRequest fn 0 bar off len bytes ep) s) fun u =>
            u.out = .busError (fnActor fn) addr :: s.out ∧ u.fld PE_ERR_COUNT 2 = s.counted PE_ERR_COUNT 2 1 ∧
            u.fld BM_ERR_KIND 0 = 3 ∧
            { u with out := s.out, evc := s.evc, regs := s.regs, tk := s.tk } = s) ∧
        (s.served (fnActor fn) addr false = false →
          Settles (exec (.pcieInboundRequest fn 0 bar off len bytes ep) s) fun u =>
            u.out.head? = some (.busError (fnActor fn) addr) ∧ u.fld PE_ERR_COUNT 0 = s.counted PE_ERR_COUNT 0 1 ∧
            u.fld BM_ERR_KIND 0 = 1 ∧ u.flag BM_ERR_VALID 0 = true ∧ Logged s u) ∧
        (fn = 0 → s.writeErr .pf0 addr bytes.length = false → s.imgBlocked .pf0 addr bytes.length = false →
          (addr < 0x60000000 ∨ 0x60100000 ≤ addr ∨ 0x10000 ≤ (addr - 0x60000000) % 0x20000) →
          Settles (exec (.pcieInboundRequest fn 1 bar off len bytes false) s) fun u =>
            (∀ i (h : i < bytes.length), memGet u.mem (addr + i) = BitVec.ofNat 8 bytes[i]) ∧
            (∀ x, x < addr ∨ addr + bytes.length ≤ x → memGet u.mem x = memGet s.mem x) ∧
            { u with mem := s.mem, poison := s.poison, evc := s.evc } = s) ∧
        (s.served (fnActor fn) addr true = false → Settles (exec (.pcieInboundRequest fn 1 bar off len bytes false) s) fun u =>
          u.out.head? = some (.busError (fnActor fn) addr) ∧ u.fld BM_ERR_KIND 0 = 1 ∧ u.flag BM_ERR_VALID 0 = true ∧ Logged s u)) ∧
      (∀ fn bar off len bytes, fn < 2 → bar < 6 → len ≤ 4096 → bytes.length ≤ 512 →
        Settles (exec (.pcieInboundRequest fn 1 bar off len bytes true) s) fun u =>
          u.fld PE_ERR_COUNT 1 = s.counted PE_ERR_COUNT 1 1 ∧ Writes s u [(PE_ERR_COUNT, 1)] ∧
          { u with regs := s.regs, evc := s.evc } = s) ∧
      (∀ bar off bytes ep, bar < 6 → bytes.length ≤ 512 →
        (Settles (exec (.pcieInboundRequest 0 2 bar off 0 bytes ep) s) fun u => u.flag PE_STATUS_BME_PF0 0 = false ∧
          Writes s u [(PE_STATUS_BME_PF0, 0)] ∧ { u with regs := s.regs, evc := s.evc } = s) ∧
        (Settles (exec (.pcieInboundRequest 1 2 bar off 1 bytes ep) s) fun u => u.flag PE_STATUS_BME_PF1 0 = true ∧
          Writes s u [(PE_STATUS_BME_PF1, 0)] ∧ u.mem = s.mem)) ∧
      (∀ off op size val cmp, op < 3 → (size = 4 ∨ size = 8) → off % size = 0 → off < 0x400000 →
        s.imgBlocked .pf0 (0x20000000 + off) size = false → s.poisoned (0x20000000 + off) size = false →
        Settles (exec (.pcieAtomicOp 0 2 off op size val cmp) s) fun u =>
          u.out = .read .pf0 (0x20000000 + off) (ofBytes (s.bytesAt (0x20000000 + off) size)) :: s.out ∧
          memNat u.mem (0x20000000 + off) size =
            atomicNew op size (ofBytes (s.bytesAt (0x20000000 + off) size)) val cmp % 2 ^ (8 * size) ∧
          (∀ x, x < 0x20000000 + off ∨ 0x20000000 + off + size ≤ x → memGet u.mem x = memGet s.mem x) ∧
          { u with mem := s.mem, poison := s.poison, out := s.out, evc := s.evc } = s) ∧
      (∀ fn bar off op size val cmp addr, fn < 2 → bar < 6 → op < 3 → size ≤ 16 → barMap fn bar off = .matrix addr →
        (fn ≠ 0 ∨ bar ≠ 2 ∨ size = 16 ∨ off % size ≠ 0) → Completes (exec (.pcieAtomicOp fn bar off op size val cmp) s) fun t =>
          t.out = .busError (fnActor fn) addr :: s.out ∧ t.mem = s.mem ∧
          t.fld PE_ERR_COUNT 0 = s.counted PE_ERR_COUNT 0 1 ∧ Writes s t [(PE_ERR_COUNT, 0)])) ∧
    (s.flag PE_STATUS_LINK_UP 0 = false → ∀ fn kind bar off len bytes ep, fn < 2 → kind < 3 → bar < 6 → len ≤ 4096 →
      bytes.length ≤ 512 → exec (.pcieInboundRequest fn kind bar off len bytes ep) s = .next s) ∧
    (∀ v < 224, Completes (exec (.msixUnmask 0 v) s) fun t => v ∈ t.pe.unmasked ∧
      (s.flag PE_STATUS_BME_PF0 0 = true → v ∈ s.pe.pend → t.out = .msix 0 v :: s.out ∧ t.pe.pend = s.pe.pend.erase v) ∧
      (v ∉ s.pe.pend ∨ s.flag PE_STATUS_BME_PF0 0 = false → t.out = s.out ∧ t.pe.pend = s.pe.pend) ∧
      { t with pe := s.pe, out := s.out } = s) ∧
    (∀ (a : Actor) addr write b, blkAt addr = some b → Settles (exec (.bridgeTimeout a addr write) s) fun u =>
      u.fld BM_ERR_ADDR 0 = addr % 2 ^ 40 ∧ u.fld BM_ERR_KIND 0 = 2 ∧ u.flag BM_ERR_VALID 0 = true ∧
      (write = false → u.out.head? = some (.busError a addr)) ∧ ((∀ n, a ≠ .seq n) → Logged (s.debugNote a) u)) ∧
    (∀ r, 16 ≤ r → r < 32 →
      (s.ringWaiting r = true → Settles (exec (.hostDmaTimeout r) s) fun u =>
        u.flag RG_STATUS_STOPPED r = true ∧ u.fld RG_STATUS_REASON r = 5 ∧
        u.fld PE_ERR_COUNT 3 = s.counted PE_ERR_COUNT 3 1 ∧
        (s.fld RG_CTL_CONSUMER r ≠ 1 → u.fld RG_CONS_COUNT r = s.fld RG_CONS_COUNT r ∧ u.mem = s.mem ∧ u.hostMem = s.hostMem ∧
          u.rg = s.rg)) ∧
      (s.ringWaiting r = false → Settles (exec (.hostDmaTimeout r) s) fun u => u = s))

/-- DRAM and controllers. INIT from PF0 latches a permitted configuration and trains; training that succeeds shows INIT_DONE and the
capacity; ZERO makes every line of the channel read zero, none poisoned, and nothing else; a corrected error is counted; an
uncorrectable one poisons its line, counts and records it; the patrol finds the same while HOURS is not 0. BM_CTRL_RESET holds the
controllers that it names and that may be reset, each until it has drained, and withdraws their held requests (R23, R398, R400 to
R403). -/
def Obligations.DramChannels : Prop :=
  ∀ s : State,
    (s.mayWrite .pf0 .DR = true → ∀ c < 2,
      (s.flag DR_STATUS_TRAINING c = false → s.drRefused c = false → Completes (exec (.dramInit .pf0 c) s) fun t =>
        t.flag DR_STATUS_TRAINING c = true ∧ t.flag DR_STATUS_INIT_DONE c = false ∧ t.flag DR_STATUS_ZERO_BUSY c = false ∧
        smGet 0 t.brd.drCfg c = s.drCfgNow c ∧ (∀ k, k ≠ c → smGet 0 t.brd.drCfg k = smGet 0 s.brd.drCfg k) ∧
        Writes s t [(DR_STATUS_TRAINING, c), (DR_STATUS_INIT_DONE, c), (DR_STATUS_ZERO_BUSY, c)] ∧
        { t with regs := s.regs, brd := s.brd } = s) ∧
      (s.flag DR_STATUS_TRAINING c = false → s.drRefused c = true →
        exec (.dramInit .pf0 c) s = .next (s.log CFG_RANGE .DR)) ∧
      (∀ a : Actor, s.mayWrite a .DR = true → s.flag DR_STATUS_INIT_DONE c = true → s.flag DR_STATUS_ZERO_BUSY c = false →
        Completes (exec (.dramZero a c) s) fun t => t.flag DR_STATUS_ZERO_BUSY c = true ∧
          (∀ x, chanBase c ≤ x → x < chanBase c + 0x800000000 → memGet t.mem x = 0) ∧
          (∀ x, x < chanBase c ∨ chanBase c + 0x800000000 ≤ x → memGet t.mem x = memGet s.mem x) ∧
          (∀ l, l ∈ t.poison ↔ l ∈ s.poison ∧ ¬(chanBase c ≤ l * 64 ∧ l * 64 < chanBase c + 0x800000000)) ∧
          Writes s t [(DR_STATUS_ZERO_BUSY, c)] ∧ { t with regs := s.regs, mem := s.mem, poison := s.poison } = s.debugNote a)) ∧
    (∀ a : Actor, a ≠ .pf0 → s.mayWrite a .DR = true → s.mayWrite a .BM = true → ∀ c < 2, ∀ mask,
      exec (.dramInit a c) s = .next (s.debugNote a) ∧ exec (.controllerReset a mask) s = .next (s.debugNote a)) ∧
    (∀ c < 2,
      (s.flag DR_STATUS_TRAINING c = true →
        (Settles (exec (.dramInitDone c true) s) fun u => u.flag DR_STATUS_TRAINING c = false ∧
          u.flag DR_STATUS_INIT_DONE c = true ∧ u.fld DR_STATUS_CAPACITY c = drCapacity (smGet 0 s.brd.drCfg c) % 64 ∧
          u.mem = s.mem ∧ { u with regs := s.regs } = s) ∧
        (Settles (exec (.dramInitDone c false) s) fun u => u.flag DR_STATUS_TRAINING c = false ∧
          u.flag DR_STATUS_INIT_DONE c = s.flag DR_STATUS_INIT_DONE c ∧ u.mem = s.mem)) ∧
      (s.flag DR_STATUS_TRAINING c = false → ∀ ok, Settles (exec (.dramInitDone c ok) s) fun u => u = s) ∧
      Completes (exec (.dramZeroDone c) s) (fun t => t.flag DR_STATUS_ZERO_BUSY c = false ∧ Writes s t [(DR_STATUS_ZERO_BUSY, c)] ∧
        { t with regs := s.regs } = s)) ∧
    (∀ addr, inDram addr = true →
      (s.dramOk addr = true → s.poison.contains (addr / 64) = false →
        (Settles (exec (.dramReadError addr false) s) fun u =>
          u.fld DR_CE_COUNT (dramCh addr) = s.counted DR_CE_COUNT (dramCh addr) 1 ∧ Logged s u) ∧
        (let found := fun u : State => u.poison = addr / 64 :: s.poison ∧
            u.fld DR_UE_COUNT (dramCh addr) = s.counted DR_UE_COUNT (dramCh addr) 1 ∧
            u.fld DR_ERR_ADDR_ADDR (dramCh addr) = addr / 64 * 64 ∧ u.fld DR_ERR_ADDR_RANK (dramCh addr) = s.dramRank addr ∧
            u.flag DR_ERR_ADDR_VALID (dramCh addr) = true ∧ u.mem = s.mem
         Settles (exec (.dramReadError addr true) s) found ∧
         (s.flag DR_SCRUB_HOURS (dramCh addr) = true → Settles (exec (.patrolScrub addr 2) s) found))) ∧
      (s.dramOk addr = false ∨ s.poison.contains (addr / 64) = true → ∀ ue, Settles (exec (.dramReadError addr ue) s) fun u => u = s) ∧
      (s.flag DR_SCRUB_HOURS (dramCh addr) = true → Settles (exec (.patrolScrub addr 0) s) fun u => u = s) ∧
      (s.flag DR_SCRUB_HOURS (dramCh addr) = false → ∀ err < 3, exec (.patrolScrub addr err) s = .next s)) ∧
    (s.mayWrite .pf0 .BM = true → ∀ mask, Completes (exec (.controllerReset .pf0 mask) s) fun t =>
      (∀ i < 14, bitOf (t.fld BM_CTRL_STATUS_IN_RESET 0) i =
        (bitOf (s.fld BM_CTRL_STATUS_IN_RESET 0) i || (bitOf mask i && decide (i ≠ 0 ∧ (i < 8 ∨ 11 < i))))) ∧
      (∀ q, q ∈ t.waits ↔ q ∈ s.waits ∧ ∀ i, q.actor = .ctrl i → (bitOf mask i && decide (i < 14 ∧ i ≠ 0 ∧ (i < 8 ∨ 11 < i))) = false) ∧
      Writes s t [(BM_CTRL_STATUS_IN_RESET, 0)] ∧ { t with regs := s.regs, waits := s.waits } = s) ∧
    (∀ c < 14, Completes (exec (.controllerDrainDone c) s) fun t =>
      (∀ i < 14, bitOf (t.fld BM_CTRL_STATUS_IN_RESET 0) i = (bitOf (s.fld BM_CTRL_STATUS_IN_RESET 0) i && decide (i ≠ c))) ∧
      Writes s t [(BM_CTRL_STATUS_IN_RESET, 0)] ∧ { t with regs := s.regs } = s)

/-- Rings. EN starts a well-placed ring at 0 and logs CFG_RANGE for another; the host's PROD or CONS is taken unless it makes the
level negative or above the size; RESTART ends STOPPED; a descriptor that fails a check stops its ring, CONS unmoved; a transmit
frame is fetched and queued; the engine's descriptor is stored whole, then PROD advances, and a ring without room drops it; a due
message is sent once; an empty staging ring, or one whose memory is in self-refresh, forwards nothing, and a full destination holds
it; a poisoned descriptor stops it; ARCHIVED passes a root record when it is forwarded (R23, R350, R402, R404 to R412). -/
def Obligations.RingsAndDescriptors : Prop :=
  ∀ (s : State) (r : Nat), r < 64 →
    (∀ a : Actor, s.mayWrite a .RG = true →
      (s.ringOn r = false → s.ringLocOk r = true → Completes (exec (.ringEnable a r) s) fun t =>
        t.ringOn r = true ∧ t.fld RG_PROD_COUNT r = 0 ∧ t.fld RG_CONS_COUNT r = 0 ∧ t.flag RG_STATUS_STOPPED r = false ∧
        t.ring r = RgSt.init ∧ (∀ k, k ≠ r → t.ring k = s.ring k) ∧
        Writes s t [(RG_CTL_EN, r), (RG_PROD_COUNT, r), (RG_CONS_COUNT, r), (RG_STATUS_STOPPED, r), (RG_STATUS_REASON, r)] ∧
        { t with regs := s.regs, rg := s.rg } = s.debugNote a) ∧
      (s.ringOn r = false → s.ringLocOk r = false → exec (.ringEnable a r) s = .next ((s.debugNote a).log CFG_RANGE .RG)) ∧
      (s.ringOn r = true → exec (.ringEnable a r) s = .next (s.debugNote a)) ∧
      (∀ v < 2 ^ 32, 16 ≤ r → r < 32 →
        ((v + 2 ^ 32 - s.fld RG_CONS_COUNT r) % 2 ^ 32 ≤ s.ringSize r → Completes (exec (.ringProdWrite a r v) s) fun t =>
          t.fld RG_PROD_COUNT r = v ∧ Writes s t [(RG_PROD_COUNT, r)] ∧ { t with regs := s.regs } = s.debugNote a) ∧
        (s.ringSize r < (v + 2 ^ 32 - s.fld RG_CONS_COUNT r) % 2 ^ 32 →
          exec (.ringProdWrite a r v) s = .next ((s.debugNote a).log CFG_RANGE .RG))) ∧
      (∀ v < 2 ^ 32, r < 16 →
        ((s.fld RG_PROD_COUNT r + 2 ^ 32 - v) % 2 ^ 32 ≤ s.ringSize r → Completes (exec (.ringConsWrite a r v) s) fun t =>
          t.fld RG_CONS_COUNT r = v ∧ Writes s t [(RG_CONS_COUNT, r)] ∧ { t with regs := s.regs } = s.debugNote a) ∧
        (s.ringSize r < (s.fld RG_PROD_COUNT r + 2 ^ 32 - v) % 2 ^ 32 →
          exec (.ringConsWrite a r v) s = .next ((s.debugNote a).log CFG_RANGE .RG))) ∧
      (∀ v, (r < 16 ∨ 32 ≤ r → exec (.ringProdWrite a r v) s = .next (s.debugNote a)) ∧
        (16 ≤ r → exec (.ringConsWrite a r v) s = .next (s.debugNote a))) ∧
      Completes (exec (.ringRestart a r) s) (fun t => t.flag RG_STATUS_STOPPED r = false ∧
        Writes s t [(RG_STATUS_STOPPED, r), (RG_STATUS_REASON, r)] ∧ { t with regs := s.regs } = s.debugNote a)) ∧
    (16 ≤ r → r < 32 →
      (s.ringWaiting r = false ∨ s.ringAsleep r = true → Settles (exec (.ringConsume r) s) fun u => u = s) ∧
      (∀ c, s.ringWaiting r = true → s.ringAsleep r = false → s.fld RG_CTL_CONSUMER r = c → 1 ≤ c → c ≤ 4 →
        (∀ why, s.descFails r (s.ring r).fetch (consumerTypes c).1 (consumerTypes c).2 = why → why ≠ 0 →
          Settles (exec (.ringConsume r) s) fun u => u.flag RG_STATUS_STOPPED r = true ∧ u.fld RG_STATUS_REASON r = why ∧
            u.fld RG_CONS_COUNT r = s.fld RG_CONS_COUNT r ∧ u.ring r = s.ring r ∧ Logged s u) ∧
        (∀ n b, s.descFails r (s.ring r).fetch 0x21 0x21 = 0 → c = 1 → s.flag PE_STATUS_BME_PF0 0 = true → n < 16 →
          bits (s.descRead r (s.ring r).fetch) 160 4 = n → s.macExists n = true → s.flag MC_CTL_MUTE n = false →
          s.flag MC_STATUS_MUTED n = false → s.flag MC_STATUS_LINK_UP n = true → s.flag MC_CTL_EN n = true →
          b = memBytes s.hostMem (bits (s.descRead r (s.ring r).fetch) 64 64) (bits (s.descRead r (s.ring r).fetch) 0 16) →
          60 ≤ b.length → lineLen b ≤ s.fld MC_MAX_FRAME_OCTETS n → Settles (exec (.ringConsume r) s) fun u =>
            (u.ring r).fetch = ((s.ring r).fetch + 1) % 2 ^ 32 ∧ OtherMac s u n ∧
            (∃ f, (u.mac n).pre = (s.mac n).pre ++ [f] ∧ f.bytes = b ∧ f.sent = 0) ∧ { u with rg := s.rg, mc := s.mc, evc := s.evc } = s))) ∧
    (r < 16 ∨ 32 ≤ r → r < 52 → ∀ typ flags len w2 w3 w4 w5 w6 w7,
      (s.ringRoom r = true → Completes (exec (.ringProduce r typ flags len w2 w3 w4 w5 w6 w7) s) fun t =>
        t.fld RG_PROD_COUNT r = (s.fld RG_PROD_COUNT r + 1) % 2 ^ 32 ∧ Writes s t [(RG_PROD_COUNT, r)] ∧
        memNat (if s.fld RG_CTL_LOC r = 2 then t.hostMem else t.mem) (s.descAddr r (s.fld RG_PROD_COUNT r)) 32 =
          mkDesc typ flags len ((s.fld RG_SEQ_START r + s.fld RG_PROD_COUNT r) % 2 ^ 32) w2 w3 w4 w5 w6 w7 ∧
        (∀ x, x < s.descAddr r (s.fld RG_PROD_COUNT r) ∨ s.descAddr r (s.fld RG_PROD_COUNT r) + 32 ≤ x →
          memGet t.mem x = memGet s.mem x ∧ memGet t.hostMem x = memGet s.hostMem x) ∧
        (r < 16 → (t.ring r).since = (s.ring r).since + 1) ∧
        { t with regs := s.regs, mem := s.mem, hostMem := s.hostMem, rg := s.rg, evc := s.evc } = s) ∧
      (s.ringRoom r = false → Completes (exec (.ringProduce r typ flags len w2 w3 w4 w5 w6 w7) s) fun t =>
        t.fld RG_DROP_COUNT r = s.counted RG_DROP_COUNT r 1 ∧
        (s.ringOn r = true → s.ringFull r = true → t.flag RG_STATUS_FULL r = true) ∧
        Writes s t [(RG_DROP_COUNT, r), (RG_STATUS_FULL, r)] ∧ { t with regs := s.regs, tk := s.tk } = s)) ∧
    (r < 32 →
      (s.ringIrqDue r = true → s.flag PE_STATUS_BME_PF0 0 = true → s.fld RG_IRQ_VECTOR r ∈ s.pe.unmasked →
        Completes (exec (.ringIrq r) s) fun t => t.out = .msix 0 (s.fld RG_IRQ_VECTOR r) :: s.out ∧
          (t.ring r).since = (if s.fld RG_IRQ_TIME_US r = 0 then (s.ring r).since - 1 else 0) ∧
          (∀ k, k ≠ r → t.ring k = s.ring k) ∧ { t with out := s.out, rg := s.rg } = s) ∧
      (s.ringIrqDue r = false → exec (.ringIrq r) s = .next s)) ∧
    (48 ≤ r → r < 52 →
      (s.ringWaiting r = false ∨ s.ringAsleep r = true → Settles (exec (.stagingForward r) s) fun u => u = s) ∧
      (s.ringWaiting r = true → s.ringAsleep r = false →
        (s.poisoned (s.descAddr r (s.ring r).fetch) 32 = true → Settles (exec (.stagingForward r) s) fun u =>
          u.flag RG_STATUS_STOPPED r = true ∧ u.fld RG_STATUS_REASON r = 4 ∧ u.ring r = s.ring r ∧ Logged s u) ∧
        (s.poisoned (s.descAddr r (s.ring r).fetch) 32 = false → 50 ≤ r →
          ∀ d, d = (if r = 50 then s.fld RC_CTL_ARCH_RING 0
            else s.fld TM_CH_CTL_RING (bits (s.descRead r (s.ring r).fetch) 160 16)) → d < 16 →
          (s.ringRoom d = true → Settles (exec (.stagingForward r) s) fun u =>
            u.fld RG_PROD_COUNT d = (s.fld RG_PROD_COUNT d + 1) % 2 ^ 32 ∧ (u.ring r).fetch = ((s.ring r).fetch + 1) % 2 ^ 32 ∧
            (∀ x xs, s.rc.arch = x :: xs → r = 50 → bits (s.descRead r (s.ring r).fetch) 24 7 = 0x10 → u.rc.arch = xs ∧
              u.fld RC_JRN_ARCHIVED_INDEX 0 = (x.slot + x.len) % s.jSize % 2 ^ RC_JRN_ARCHIVED_INDEX.width)) ∧
          (s.ringRoom d = false → Settles (exec (.stagingForward r) s) fun u => (u.ring r).fetch = (s.ring r).fetch ∧
            { u with regs := s.regs, tk := s.tk } = s))))

/-! ### Board interfaces -/

/-- UARTs. An enabled UART on the root stores each received byte with its mark and with WNC48 and bound of its start bit; a full FIFO loses it, and
counts that; one not enabled, or on SAFE_OSC, stores nothing. A byte written is sent at once by an idle transmitter, waits behind
another, and is discarded by a full FIFO; when a byte has been sent the next follows (R418 to R420). -/
def Obligations.Uarts : Prop :=
  ∀ (s : State) (n : Nat), n < 2 →
    (∀ byte framing back cut, byte < 256 →
      (s.flag GP_UART_CTL_EN n = true → s.safe = false → (s.uartOf n).rx.length < 64 →
        Completes (exec (.uartRxByte n byte framing back cut) s) fun t =>
          (∃ e, (t.uartOf n) = { s.uartOf n with rx := (s.uartOf n).rx ++ [e], lost := false } ∧ bits e 0 8 = byte ∧
            bitOf e 8 = framing ∧ bitOf e 9 = (s.uartOf n).lost ∧ bitOf e 31 = true ∧
            e / 2 ^ 96 = (if cut then 0xFFFFFFFF else (s.stampAt (back * 2 ^ 32)).bound) ∧
            bits e 32 32 * 2 ^ 16 + bits e 80 16 = (s.stampAt (back * 2 ^ 32)).time / 2 ^ 32 % 2 ^ 48) ∧
          (framing = true → t.flag GP_UART_STATUS_FRAMING n = true) ∧ (∀ k, k ≠ n → t.uartOf k = s.uartOf k) ∧
          Writes s t (if framing then [(GP_UART_STATUS_FRAMING, n)] else []) ∧
          { t with regs := s.regs, uart := s.uart, tk := s.tk } = s) ∧
      (s.flag GP_UART_CTL_EN n = true → s.safe = false → 64 ≤ (s.uartOf n).rx.length →
        Completes (exec (.uartRxByte n byte framing back cut) s) fun t =>
          t.uartOf n = { s.uartOf n with lost := true } ∧ t.flag GP_UART_STATUS_RX_LOST n = true ∧
          t.fld GP_UART_RX_LOST_COUNT n = s.counted GP_UART_RX_LOST_COUNT n 1 ∧ (∀ k, k ≠ n → t.uartOf k = s.uartOf k) ∧
          Writes s t [(GP_UART_STATUS_RX_LOST, n), (GP_UART_RX_LOST_COUNT, n)] ∧
          { t with regs := s.regs, uart := s.uart, tk := s.tk } = s) ∧
      (s.flag GP_UART_CTL_EN n = false ∨ s.safe = true → exec (.uartRxByte n byte framing back cut) s = .next s)) ∧
    (∀ (a : Actor) byte, byte < 256 → s.mayWrite a .GP = true →
      (s.flag GP_UART_CTL_EN n = true → s.safe = false → s.flag GP_UART_STATUS_TX_ACTIVE n = false → (s.uartOf n).tx = [] →
        Completes (exec (.uartTxWrite a n byte) s) fun t => t.out = .uart n byte :: s.out ∧ t.uartOf n = s.uartOf n ∧
          t.flag GP_UART_STATUS_TX_ACTIVE n = true ∧ Writes s t [(GP_UART_STATUS_TX_ACTIVE, n)] ∧
          { t with regs := s.regs, uart := s.uart, out := s.out } = s.debugNote a) ∧
      (s.flag GP_UART_STATUS_TX_ACTIVE n = true ∨ s.flag GP_UART_CTL_EN n = false ∨ s.safe = true →
        (s.uartOf n).tx.length < 64 → Completes (exec (.uartTxWrite a n byte) s) fun t =>
          t.uartOf n = { s.uartOf n with tx := (s.uartOf n).tx ++ [byte] } ∧ (∀ k, k ≠ n → t.uartOf k = s.uartOf k) ∧
          { t with uart := s.uart } = s.debugNote a) ∧
      (64 ≤ (s.uartOf n).tx.length → Completes (exec (.uartTxWrite a n byte) s) fun t =>
        t.flag GP_UART_STATUS_TX_OVF n = true ∧ Writes s t [(GP_UART_STATUS_TX_OVF, n)] ∧ { t with regs := s.regs, tk := s.tk } = s.debugNote a)) ∧
    (s.flag GP_UART_STATUS_TX_ACTIVE n = true →
      (∀ b bs, (s.uartOf n).tx = b :: bs → s.flag GP_UART_CTL_EN n = true → s.safe = false →
        Completes (exec (.uartTxByteDone n) s) fun t => t.out = .uart n b :: s.out ∧
          t.uartOf n = { s.uartOf n with tx := bs } ∧ t.flag GP_UART_STATUS_TX_ACTIVE n = true ∧
          t.flag GP_UART_STATUS_BUSY n = false ∧ (∀ k, k ≠ n → t.uartOf k = s.uartOf k) ∧
          { t with regs := s.regs, uart := s.uart, out := s.out } = s) ∧
      ((s.uartOf n).tx = [] ∨ s.flag GP_UART_CTL_EN n = false → Completes (exec (.uartTxByteDone n) s) fun t =>
        t.flag GP_UART_STATUS_TX_ACTIVE n = false ∧ t.flag GP_UART_STATUS_BUSY n = false ∧
        Writes s t [(GP_UART_STATUS_TX_ACTIVE, n), (GP_UART_STATUS_BUSY, n)] ∧ { t with regs := s.regs } = s))

/-- I2C, SPI and GPIO. GO on a busy controller only sets COLLIDE, with a length out of range logs CFG_RANGE, else sets BUSY and sends
the write data; the end clears BUSY, sets DONE and puts the received bytes in the lowest bytes of the receive register; SPI holds
its chip select when asked and releases it when EN is cleared. GPIO_SET and GPIO_CLR change the bits of OUT named; IN follows the
balls, and OUT where the engine drives; EDGE notes each change (R421 to R423). -/
def Obligations.BoardBuses : Prop :=
  ∀ s : State,
    (∀ a : Actor, s.mayWrite a .GP = true →
      (∀ addr wlen rlen, addr < 128 → wlen < 16 → rlen < 16 →
        (s.flag GP_I2C_CMD_BUSY 0 = true → Completes (exec (.i2cTransaction a addr wlen rlen) s) fun t =>
          t.flag GP_I2C_CMD_COLLIDE 0 = true ∧ Writes s t [(GP_I2C_CMD_COLLIDE, 0)] ∧
          { t with regs := s.regs, tk := s.tk } = s.debugNote a) ∧
        (s.flag GP_I2C_CMD_BUSY 0 = false → 8 < wlen ∨ 8 < rlen →
          exec (.i2cTransaction a addr wlen rlen) s = .next ((s.debugNote a).log CFG_RANGE .GP)) ∧
        (s.flag GP_I2C_CMD_BUSY 0 = false → wlen ≤ 8 → rlen ≤ 8 → s.flag GP_I2C_CTL_EN 0 = true →
          Completes (exec (.i2cTransaction a addr wlen rlen) s) fun t => t.flag GP_I2C_CMD_BUSY 0 = true ∧
            t.brd.i2c = some (addr, wlen, rlen) ∧ t.out = .bus 0 addr (toBytes wlen (s.fld GP_I2C_WDATA_DATA 0)) :: s.out ∧
            Writes s t [(GP_I2C_CMD_BUSY, 0)] ∧ { t with regs := s.regs, brd := s.brd, out := s.out } = s.debugNote a)) ∧
      (∀ len keep, len < 64 →
        (s.flag GP_SPI_CMD_BUSY 0 = true → Completes (exec (.spiTransfer a len keep) s) fun t =>
          t.flag GP_SPI_CMD_COLLIDE 0 = true ∧ Writes s t [(GP_SPI_CMD_COLLIDE, 0)] ∧
          { t with regs := s.regs, tk := s.tk } = s.debugNote a) ∧
        (s.flag GP_SPI_CMD_BUSY 0 = false → len = 0 ∨ 32 < len →
          exec (.spiTransfer a len keep) s = .next ((s.debugNote a).log CFG_RANGE .GP)) ∧
        (s.flag GP_SPI_CMD_BUSY 0 = false → 0 < len → len ≤ 32 → s.flag GP_SPI_CFG_EN 0 = true →
          Completes (exec (.spiTransfer a len keep) s) fun t => t.flag GP_SPI_CMD_BUSY 0 = true ∧ t.brd.spi = some (len, keep) ∧
            t.out = .bus 1 (s.fld GP_SPI_CFG_CS 0) (toBytes len (s.fld GP_SPI_TX_DATA 0)) :: s.out ∧
            Writes s t [(GP_SPI_CMD_BUSY, 0)] ∧ { t with regs := s.regs, brd := s.brd, out := s.out } = s.debugNote a)) ∧
      (Completes (exec (.spiDisable a) s) fun t => t.flag GP_SPI_CFG_EN 0 = false ∧ t.flag GP_SPI_CMD_HELD 0 = false ∧
        t.out = (if s.flag GP_SPI_CMD_HELD 0 then [.ball (0x300 + s.fld GP_SPI_CFG_CS 0) 1] else []) ++ s.out ∧
        Writes s t [(GP_SPI_CFG_EN, 0), (GP_SPI_CMD_HELD, 0)] ∧ { t with regs := s.regs, out := s.out } = s.debugNote a) ∧
      (∀ mask < 65536, ∀ on, Completes (exec (if on then .gpioSet a mask else .gpioClr a mask) s) fun t =>
        (∀ i < 16, bitOf (t.fld GP_GPIO_OUT_OUT 0) i = (if bitOf mask i then on else bitOf (s.fld GP_GPIO_OUT_OUT 0) i) ∧
          bitOf (t.fld GP_GPIO_IN_IN 0) i = bitOf (t.fld (if bitOf (s.fld GP_GPIO_DIR_DIR 0) i then GP_GPIO_OUT_OUT else GP_GPIO_IN_IN) 0) i ∧
          (bitOf (s.fld GP_GPIO_DIR_DIR 0) i = false → bitOf (t.fld GP_GPIO_IN_IN 0) i = bitOf (s.fld GP_GPIO_IN_IN 0) i) ∧
          bitOf (t.fld GP_GPIO_EDGE_EDGE 0) i = (bitOf (s.fld GP_GPIO_EDGE_EDGE 0) i ||
            (bitOf (t.fld GP_GPIO_IN_IN 0) i != bitOf (s.fld GP_GPIO_IN_IN 0) i))) ∧
        Writes s t [(GP_GPIO_OUT_OUT, 0), (GP_GPIO_IN_IN, 0), (GP_GPIO_EDGE_EDGE, 0)] ∧
        { t with regs := s.regs, tk := s.tk } = s.debugNote a)) ∧
    (∀ levels < 65536, Completes (exec (.gpioInputChange levels) s) fun t =>
      (∀ i < 16, bitOf (t.fld GP_GPIO_IN_IN 0) i =
          (if bitOf (s.fld GP_GPIO_DIR_DIR 0) i then bitOf (s.fld GP_GPIO_OUT_OUT 0) i else bitOf levels i) ∧
        bitOf (t.fld GP_GPIO_EDGE_EDGE 0) i = (bitOf (s.fld GP_GPIO_EDGE_EDGE 0) i ||
          (bitOf (t.fld GP_GPIO_IN_IN 0) i != bitOf (s.fld GP_GPIO_IN_IN 0) i))) ∧
      Writes s t [(GP_GPIO_IN_IN, 0), (GP_GPIO_EDGE_EDGE, 0)] ∧ { t with regs := s.regs, tk := s.tk } = s) ∧
    (∀ addr wlen rlen nack timeout data, s.brd.i2c = some (addr, wlen, rlen) → rlen ≤ 8 → data.length = rlen →
      (∀ b ∈ data, b < 256) → s.flag GP_I2C_CTL_IRQ_EN 0 = false → Completes (exec (.i2cDone nack timeout data) s) fun t =>
        t.flag GP_I2C_CMD_BUSY 0 = false ∧ t.flag GP_I2C_CMD_DONE 0 = true ∧ t.brd.i2c = none ∧
        (nack = true → t.flag GP_I2C_CMD_NACK 0 = true) ∧ (timeout = true → t.flag GP_I2C_CMD_TIMEOUT 0 = true) ∧
        t.fld GP_I2C_RDATA_DATA 0 % 2 ^ (8 * rlen) = ofBytes data ∧
        t.fld GP_I2C_RDATA_DATA 0 / 2 ^ (8 * rlen) = s.fld GP_I2C_RDATA_DATA 0 % 2 ^ 64 / 2 ^ (8 * rlen) ∧
        Writes s t [(GP_I2C_CMD_BUSY, 0), (GP_I2C_CMD_DONE, 0), (GP_I2C_CMD_NACK, 0), (GP_I2C_CMD_TIMEOUT, 0), (GP_I2C_RDATA_DATA, 0)] ∧
        { t with regs := s.regs, brd := s.brd, tk := s.tk } = s) ∧
    (s.brd.i2c = none → ∀ nack timeout data, exec (.i2cDone nack timeout data) s = .next s) ∧
    (∀ len keep data, s.brd.spi = some (len, keep) → len ≤ 32 → data.length = len → (∀ b ∈ data, b < 256) →
      s.flag GP_SPI_CFG_IRQ_EN 0 = false → Completes (exec (.spiDone data) s) fun t =>
        t.flag GP_SPI_CMD_BUSY 0 = false ∧ t.flag GP_SPI_CMD_DONE 0 = true ∧ t.brd.spi = none ∧
        t.flag GP_SPI_CMD_HELD 0 = (keep && s.flag GP_SPI_CFG_EN 0) ∧
        (t.flag GP_SPI_CMD_HELD 0 = false → t.out = .ball (0x300 + s.fld GP_SPI_CFG_CS 0) 1 :: s.out) ∧
        t.fld GP_SPI_RX_DATA 0 % 2 ^ (8 * len) = ofBytes data ∧
        t.fld GP_SPI_RX_DATA 0 / 2 ^ (8 * len) = s.fld GP_SPI_RX_DATA 0 % 2 ^ 256 / 2 ^ (8 * len) ∧
        Writes s t [(GP_SPI_CMD_BUSY, 0), (GP_SPI_CMD_DONE, 0), (GP_SPI_CMD_HELD, 0), (GP_SPI_RX_DATA, 0)] ∧
        { t with regs := s.regs, brd := s.brd, out := s.out, tk := s.tk } = s) ∧
    (s.brd.spi = none → ∀ data, exec (.spiDone data) s = .next s)

/-! ### The fault manager, counters, the test access port -/

namespace Sys2Proof.Machine

/-- A fault is entered in the queue: with room, and no record of its channel there, as one record at its end (R429, R431). -/
def Records (s u : State) (code ch detail : Nat) : Prop :=
  s.fm.queue.length < 64 → (∀ q ∈ s.fm.queue, q.chan ≠ ch) →
    ∃ r, u.fm.queue = s.fm.queue ++ [r] ∧ r.code = code ∧ r.chan = ch ∧ r.detail = detail ∧ r.count = 1 ∧
      r.sec = secOf s.now ∧ r.ns = nsOf s.now

/-- The FATAL class action (R433, R435): latched, retries cancelled, the policy due when it was not latched before. -/
def FatalTaken (s u : State) : Prop :=
  u.flag FM_STATUS_FATAL 0 = true ∧ u.fm.retry = [] ∧ (s.flag FM_STATUS_FATAL 0 = false → u.fm.fatalDue = true)

end Sys2Proof.Machine

/-- Faults. An injected fault of a code from 0xF000 is recorded, and its class acts: TRANSIENT schedules a retry, PERMANENT retires a
channel, FATAL latches; a full queue loses it; another code is CFG_RANGE. A due retry is granted, and REENABLE ends a retirement.
A failed known-answer test takes a pipeline out, a good one puts it back. SRAM, parity and temperature faults are recorded. Under policy
WARM the engine resets when its time has come (R427 to R436, R439). -/
def Obligations.FaultsAndRetries : Prop :=
  ∀ s : State,
    (∀ (a : Actor) code cls ch detail, s.mayWrite a .FM = true → code < 65536 → ch < 65536 → detail < 65536 →
      (0xF000 ≤ code → chanOk ch = true →
        (∀ cls < 4, Settles (exec (.faultInject a code cls ch detail) s) fun u => Records s u code ch detail ∧
          (cls ≠ 3 → 64 ≤ s.fm.queue.length → (∀ q ∈ s.fm.queue, q.chan ≠ ch) → u.fm.queue = s.fm.queue ∧
            u.fld FM_DROPPED_COUNT 0 = s.counted FM_DROPPED_COUNT 0 1 ∧ u.flag FM_STATUS_OVERFLOW 0 = true) ∧
          u.mem = s.mem ∧ u.ti = s.ti) ∧
        (Settles (exec (.faultInject a code 0 ch detail) s) fun u => u.fm.retry = s.fm.retry ∧ u.fm.todo = s.fm.todo ∧
          u.flag FM_STATUS_FATAL 0 = s.flag FM_STATUS_FATAL 0) ∧
        (chanRetirable ch = false → s.flag FM_STATUS_FATAL 0 = false →
          Settles (exec (.faultInject a code 1 ch detail) s) fun u => u.fm.todo = s.fm.todo ∧
            smGet none u.fm.retry ch = some (s.ti.elapsed + s.backoffMs (s.transients ch).length * msU)) ∧
        (chanRetirable ch = true → s.flag FM_STATUS_FATAL 0 = false → s.flag FM_CHAN_RETIRED (chanUnit ch) = false →
          Settles (exec (.faultInject a code 2 ch detail) s) fun u => u.flag FM_CHAN_RETIRED (chanUnit ch) = true ∧
            u.fm.todo = s.fm.todo ++ [ch] ∧ u.flag FM_STATUS_PERM_SEEN 0 = true ∧ smGet none u.fm.retry ch = none) ∧
        (Settles (exec (.faultInject a code 3 ch detail) s) fun u => FatalTaken s u ∧ u.fm.todo = s.fm.todo)) ∧
      (code < 0xF000 ∨ chanOk ch = false → cls < 4 →
        Settles (exec (.faultInject a code cls ch detail) s) fun u => u = s.log CFG_RANGE .FM)) ∧
    ((∀ t, s.fm.warmAt = some t → s.ti.elapsed < t) → exec .fatalWarmReset s = .next s) ∧
    (∀ t, s.fm.warmAt = some t → t ≤ s.ti.elapsed → Completes (exec .fatalWarmReset s) fun t => PoweredUp s.freeCtr t ∧ Outside s t ∧
      t.ti.now = 0 ∧ t.flag BT_RESET_CAUSE_FATAL 0 = true ∧ t.flag BT_RESET_CAUSE_COLD 0 = false) ∧
    (∀ ch, chanOk ch = true →
      ((∀ t, smGet none s.fm.retry ch = some t → s.ti.elapsed < t) → Settles (exec (.retryGrant ch) s) fun u => u = s) ∧
      (∀ t, smGet none s.fm.retry ch = some t → t ≤ s.ti.elapsed →
        (ch / 256 = 2 → Settles (exec (.retryGrant ch) s) fun u => smGet none u.fm.retry ch = none ∧
          u.flag FM_CHAN_RETRY_PENDING (chanUnit ch) = false ∧ (u.ref (ch % 256)).granted = true) ∧
        (ch / 256 = 10 → Settles (exec (.retryGrant ch) s) fun u => smGet none u.fm.retry ch = none ∧
          u.flag FM_CHAN_RETRY_PENDING (chanUnit ch) = false ∧ u.brd.kat = s.brd.kat.erase (ch % 256) ∧
          { u with regs := s.regs, fm := s.fm, brd := s.brd } = s) ∧
        (ch / 256 = 0 ∨ ch / 256 = 3 ∨ 6 ≤ ch / 256 ∧ ch / 256 ≤ 9 ∨ 11 ≤ ch / 256 → Settles (exec (.retryGrant ch) s) fun u =>
          smGet none u.fm.retry ch = none ∧ { u with regs := s.regs, fm := s.fm } = s))) ∧
    (∀ (a : Actor) ch, s.mayWrite a .FM = true → chanOk ch = true → chanRetirable ch = true →
      (ch / 256 = 2 ∨ ch / 256 = 6 ∨ ch / 256 = 7 ∨ 10 ≤ ch / 256 → Completes (exec (.channelReenable a ch) s) fun t =>
        t.flag FM_CHAN_RETIRED (chanUnit ch) = false ∧ t.fld FM_CHAN_TRANSIENTS (chanUnit ch) = 0 ∧
        smGet none t.fm.retry ch = none ∧ (ch / 256 = 2 → (t.ref (ch % 256)).reenab = true) ∧
        Writes s t [(FM_CHAN_RETIRED, chanUnit ch), (FM_CHAN_TRANSIENTS, chanUnit ch), (FM_CHAN_RETRY_PENDING, chanUnit ch)] ∧
        { t with regs := s.regs, fm := s.fm, refs := s.refs } = s)) ∧
    (∀ p < 8,
      (s.retired 10 p = true → ∀ ok, Settles (exec (.cryptoKat p ok) s) fun u => u = s) ∧
      (s.retired 10 p = false → (Settles (exec (.cryptoKat p true) s) fun u => u = { s with brd := { s.brd with kat := s.brd.kat.erase p } }) ∧
        Settles (exec (.cryptoKat p false) s) fun u => u.brd.kat = p :: s.brd.kat.erase p ∧ Records s u 0x0901 (0xA00 + p) 0 ∧
          u.mem = s.mem)) ∧
    (∀ k < 4,
      (105 * 256 ≤ s.dieTemp k → k ∉ s.brd.warned → Completes (exec (.thermalWarn k) s) fun t => t.brd.warned = k :: s.brd.warned ∧
        Records s t 0x0F01 0 0 ∧ t.mem = s.mem) ∧
      (s.dieTemp k < 105 * 256 ∨ k ∈ s.brd.warned → exec (.thermalWarn k) s = .next s)) ∧
    (∀ t0, s.brd.hot = some t0 →
      (t0 + msU ≤ s.ti.elapsed → Completes (exec .thermalTrip s) fun t => Records s t 0x0F02 0 0 ∧ FatalTaken s t) ∧
      (s.ti.elapsed < t0 + msU → exec .thermalTrip s = .next s)) ∧
    Completes (exec .timeCoreParity s) (fun t => Records s t 0x0106 0x100 0 ∧ FatalTaken s t) ∧
    (∀ k ∈ [2, 3, 10],
      Completes (exec (.sramError k true) s) (fun t => Records s t 0x0C04 0x111 k ∧ FatalTaken s t) ∧
      Completes (exec (.sramError k false) s) (fun t => Records s t 0x0C03 0x111 k ∧ t.mem = s.mem ∧
        t.flag FM_STATUS_FATAL 0 = s.flag FM_STATUS_FATAL 0))

/-- Counters, link and test access port. A counter at all ones wraps to 0 and sets its overflow bit, and carries only into a chained
counter in SERVICE. Link training shows speed and width. The die readings are taken and added to the holdover mean. A debug access acts
only with DEBUG in the test access port in a life cycle before PRODUCTION, and disturbs the measured state (R413, R427, R442, R444, R464). -/
def Obligations.CountersLinkAndDebug : Prop :=
  ∀ s : State,
    (s.tk.cnts = [] → ∀ n < 8,
      (∀ k < 8, s.pcOn n k = true → s.fld PC_CNT_COUNT (n * 8 + k) = 2 ^ 48 - 1 →
        (k = 7 ∨ s.service = false ∨ s.flag PC_CFG_CHAIN (n * 8 + k + 1) = false) →
        Completes (exec (.counterOverflow n k) s) fun t => t.fld PC_CNT_COUNT (n * 8 + k) = 0 ∧
          bitOf (t.fld PC_OVF_OVF n) k = true ∧ Writes s t [(PC_CNT_COUNT, n * 8 + k), (PC_OVF_OVF, n)] ∧
          { t with regs := s.regs, tk := s.tk } = s) ∧
      (∀ k < 7, s.pcOn n k = true → s.fld PC_CNT_COUNT (n * 8 + k) = 2 ^ 48 - 1 → s.service = true →
        s.flag PC_CFG_CHAIN (n * 8 + k + 1) = true → s.fld PC_CNT_COUNT (n * 8 + k + 1) < 2 ^ 48 - 1 →
        Completes (exec (.counterOverflow n k) s) fun t => t.fld PC_CNT_COUNT (n * 8 + k) = 0 ∧
          t.fld PC_CNT_COUNT (n * 8 + k + 1) = s.fld PC_CNT_COUNT (n * 8 + k + 1) + 1 ∧ bitOf (t.fld PC_OVF_OVF n) k = true ∧
          { t with regs := s.regs, tk := s.tk } = s) ∧
      (∀ k < 8, s.pcOn n k = false ∨ s.fld PC_CNT_COUNT (n * 8 + k) ≠ 2 ^ 48 - 1 → exec (.counterOverflow n k) s = .next s) ∧
      (s.flag SQ_CTL_EN n = true → s.fld PC_CYCLE_COUNT n = 2 ^ 64 - 1 → Completes (exec (.counterOverflow n 8) s) fun t =>
        t.fld PC_CYCLE_COUNT n = 0 ∧ t.flag PC_OVF_CYC_OVF n = true ∧ Writes s t [(PC_CYCLE_COUNT, n), (PC_OVF_CYC_OVF, n)] ∧
        { t with regs := s.regs, tk := s.tk } = s)) ∧
    (∀ e < 240, s.fld PC_FB_COUNT e = 2 ^ 32 - 1 → Completes (exec (.counterOverflow 8 e) s) fun t => t.fld PC_FB_COUNT e = 0 ∧
      bitOf (t.fld PC_FB_OVF_OVF (e / 32)) (e % 32) = true ∧ Writes s t [(PC_FB_COUNT, e), (PC_FB_OVF_OVF, e / 32)] ∧
      { t with regs := s.regs, tk := s.tk } = s) ∧
    (∀ speed ∈ [1, 2, 3, 4], ∀ width ∈ [1, 2, 4, 8],
      (s.bt.held = false → Completes (exec (.pcieLinkUp speed width) s) fun t => t.flag PE_STATUS_LINK_UP 0 = true ∧
        t.fld PE_STATUS_SPEED 0 = speed ∧ t.fld PE_STATUS_WIDTH 0 = width ∧
        Writes s t [(PE_STATUS_LINK_UP, 0), (PE_STATUS_SPEED, 0), (PE_STATUS_WIDTH, 0)] ∧ { t with regs := s.regs } = s) ∧
      (s.bt.held = true → exec (.pcieLinkUp speed width) s = .next s)) ∧
    (∀ t0 t1 t2 t3, t0 < 65536 → t1 < 65536 → t2 < 65536 → t3 < 65536 → Completes (exec (.dieTempRefresh t0 t1 t2 t3) s) fun t =>
      t.fld HO_TEMP_DIE_TEMP 0 = t0 ∧ t.fld HO_TEMP_DIE_TEMP 1 = t1 ∧ t.fld HO_TEMP_DIE_TEMP 2 = t2 ∧ t.fld HO_TEMP_DIE_TEMP 3 = t3 ∧
      t.ho.dieCnt = s.ho.dieCnt + 1 ∧ t.ho.dieSum = s.ho.dieSum + (signed 16 t0 + signed 16 t1 + signed 16 t2 + signed 16 t3) ∧
      (∀ k, k ∈ t.brd.warned ↔ k ∈ s.brd.warned ∧ 105 * 256 ≤ t.dieTemp k) ∧
      (s.brd.hot = none → (t.brd.hot = some s.ti.elapsed ↔ ∃ k < 4, 115 * 256 ≤ t.dieTemp k)) ∧
      { t with regs := s.regs, ho := s.ho, brd := s.brd } = s) ∧
    (∀ write addr len value, s.tapActs ≠ 0x20 ∨ 1 < s.lifeCycle → exec (.debugAccess write addr len value) s = .next s) ∧
    (∀ addr len value, s.tapActs = 0x20 → s.lifeCycle ≤ 1 → 0x20000000 ≤ addr → addr < 0x20400000 → addr + len ≤ 0x20400000 →
      (s.readPoison addr len = false → Settles (exec (.debugAccess false addr len value) s) fun u => u.bt = { s.bt with debug := true } ∧
        u.out = .read (.ctrl 13) addr (ofBytes (s.bytesAt addr len)) :: s.out ∧ { u with bt := s.bt, out := s.out } = s) ∧
      (s.recovery = false → s.imgBlocked (.ctrl 13) addr len = false → Settles (exec (.debugAccess true addr len value) s) fun u =>
        u.bt = { s.bt with debug := true } ∧ memNat u.mem addr len = value % 2 ^ (8 * len) ∧
        (∀ x, x < addr ∨ addr + len ≤ x → memGet u.mem x = memGet s.mem x) ∧
        { u with bt := s.bt, mem := s.mem, poison := s.poison } = s)) ∧
    (s.tapActs = 0x20 → s.lifeCycle ≤ 1 → s.recovery = true → ∀ addr len value, 0x20000000 ≤ addr → addr < 0x20400000 →
      Settles (exec (.debugAccess true addr len value) s) fun u => u.mem = s.mem ∧ u.bt = { s.bt with debug := true }) ∧
    (∀ code < 256, exec (.tapInstruction code) s = .next
      { s with brd := { s.brd with tap := code }, out := (if code = 1 then [Out.ball 0x400 0x1883054F] else []) ++ s.out })
end

