-- ==== Sys2Proof/Laws/Memory.lean ====
section
/-! SUPPORT. Association lists and memory: what a read after a write gives, and that every memory operation keeps the
canonical form. -/

namespace Sys2Proof.Machine

/-! ### Reading after writing -/

theorem smGet_smDel_same {V : Type} (d : V) (m : List (Nat × V)) (i : Nat) : smGet d (smDel m i) i = d := by
  induction m with
  | nil => rfl
  | cons p m ih => obtain ⟨k, v⟩ := p; by_cases h : k = i <;> simp [smDel, smGet, h, ih]

theorem smGet_smDel_ne {V : Type} (d : V) (m : List (Nat × V)) {i j : Nat} (h : i ≠ j) :
    smGet d (smDel m i) j = smGet d m j := by
  induction m with
  | nil => rfl
  | cons p m ih =>
    obtain ⟨k, v⟩ := p
    by_cases hk : k = i
    · subst hk; simp [smDel, smGet, h, ih]
    · simp [smDel, smGet, hk, ih]

theorem smGet_smIns_same {V : Type} (d : V) (m : List (Nat × V)) (i : Nat) (v : V) : smGet d (smIns m i v) i = v := by
  induction m with
  | nil => simp [smIns, smGet]
  | cons p m ih =>
    obtain ⟨k, w⟩ := p
    by_cases h : k < i
    · simp [smIns, smGet, h, ih, Nat.ne_of_lt h]
    · simp [smIns, smGet, h]

theorem smGet_smIns_ne {V : Type} (d : V) (m : List (Nat × V)) {i j : Nat} (v : V) (h : i ≠ j) :
    smGet d (smIns m i v) j = smGet d m j := by
  induction m with
  | nil => simp [smIns, smGet, h]
  | cons p m ih =>
    obtain ⟨k, w⟩ := p
    by_cases hk : k < i
    · simp [smIns, smGet, hk, ih]
    · simp [smIns, smGet, hk, h]

/-- Reading the key just written gives the value written. -/
@[simp] theorem smGet_smSet_same {V : Type} [DecidableEq V] (d : V) (m : List (Nat × V)) (i : Nat) (v : V) :
    smGet d (smSet d m i v) i = v := by
  unfold smSet
  split
  · next h => rw [smGet_smDel_same, h]
  · exact smGet_smIns_same ..

/-- Writing one key leaves every other as it was, whatever default it is read with. -/
theorem smGet_smSet_ne {V : Type} [DecidableEq V] (d d' : V) (m : List (Nat × V)) {i j : Nat} (v : V) (h : i ≠ j) :
    smGet d' (smSet d m i v) j = smGet d' m j := by
  unfold smSet
  split
  · exact smGet_smDel_ne d' m h
  · rw [smGet_smIns_ne _ _ _ h, smGet_smDel_ne _ _ h]

@[simp] theorem memGet_memSet_same (m : List Host.Cell) (a : Nat) (b : BitVec 8) : memGet (memSet m a b) a = b :=
  smGet_smSet_same ..

theorem memGet_memSet_ne (m : List Host.Cell) {a c : Nat} (b : BitVec 8) (h : a ≠ c) :
    memGet (memSet m a b) c = memGet m c := smGet_smSet_ne _ _ _ _ h

/-- A store changes no byte outside its own. -/
theorem memGet_memPut_out (k : Nat) : ∀ (m : List Host.Cell) (a v c : Nat), c < a ∨ a + k ≤ c →
    memGet (memPut m a k v) c = memGet m c := by
  induction k with
  | zero => intros; rfl
  | succ k ih =>
    intro m a v c h
    rw [memPut, ih _ _ _ _ (by omega), memGet_memSet_ne _ _ (by omega)]

/-- The number of the bytes just stored is the number stored, in as many bytes. -/
theorem memNat_memPut (k : Nat) : ∀ (m : List Host.Cell) (a v : Nat), memNat (memPut m a k v) a k = v % 256 ^ k := by
  have frame : ∀ (j : Nat) (m m' : List Host.Cell) (a : Nat), (∀ c, a ≤ c → memGet m c = memGet m' c) →
      memNat m a j = memNat m' a j := by
    intro j
    induction j with
    | zero => intros; rfl
    | succ j ih =>
      intro m m' a h
      simp only [memNat]
      rw [h a (Nat.le_refl a), ih m m' (a + 1) (fun c hc => h c (by omega))]
  induction k with
  | zero => intro m a v; simp [memNat, Nat.mod_one]
  | succ k ih =>
    intro m a v
    simp only [memNat, memPut]
    rw [ih, memGet_memPut_out k _ _ _ _ (Or.inl (Nat.lt_succ_self a)), memGet_memSet_same]
    simp only [BitVec.toNat_ofNat]
    rw [show (256 : Nat) ^ (k + 1) = 256 * 256 ^ k from Nat.pow_succ', Nat.mod_mul]

/-! ### The canonical form -/

/-- Every key of the list is at least `b`. -/
theorem keysRise_cons {V : Type} {a : Nat} {v : V} {m : List (Nat × V)} :
    keysRise ((a, v) :: m) = true ↔ (∀ p ∈ m, a < p.1) ∧ keysRise m = true := by
  induction m generalizing a v with
  | nil => simp [keysRise]
  | cons p m ih =>
    obtain ⟨b, w⟩ := p
    simp only [keysRise, Bool.and_eq_true, decide_eq_true_eq, List.mem_cons, forall_eq_or_imp]
    constructor
    · rintro ⟨h, hr⟩
      exact ⟨⟨h, fun q hq => Nat.lt_trans h ((ih.1 hr).1 q hq)⟩, hr⟩
    · rintro ⟨⟨h, _⟩, hr⟩
      exact ⟨h, hr⟩

theorem keysRise_filter {V : Type} (f : Nat × V → Bool) {m : List (Nat × V)} (h : keysRise m = true) :
    keysRise (m.filter f) = true := by
  induction m with
  | nil => rfl
  | cons p m ih =>
    obtain ⟨a, v⟩ := p
    rw [keysRise_cons] at h
    rw [List.filter_cons]
    split
    · exact keysRise_cons.2 ⟨fun q hq => h.1 q (List.mem_filter.1 hq).1, ih h.2⟩
    · exact ih h.2

theorem smDel_eq_filter {V : Type} (m : List (Nat × V)) (i : Nat) : smDel m i = m.filter (fun p => p.1 != i) := by
  induction m with
  | nil => rfl
  | cons p m ih =>
    obtain ⟨k, v⟩ := p
    by_cases h : k = i <;> simp [smDel, h, ih]

theorem mem_smIns {V : Type} {m : List (Nat × V)} {i : Nat} {v : V} {p : Nat × V} :
    p ∈ smIns m i v ↔ p = (i, v) ∨ p ∈ m := by
  induction m with
  | nil => simp [smIns]
  | cons q m ih =>
    obtain ⟨k, w⟩ := q
    by_cases h : k < i
    · simp only [smIns, h, if_true, List.mem_cons, ih]; tauto
    · simp [smIns, h]

theorem keysRise_smIns {V : Type} {m : List (Nat × V)} {i : Nat} {v : V} (h : keysRise m = true)
    (hn : ∀ p ∈ m, p.1 ≠ i) : keysRise (smIns m i v) = true := by
  induction m with
  | nil => rfl
  | cons p m ih =>
    obtain ⟨k, w⟩ := p
    have hk := keysRise_cons.1 h
    by_cases hlt : k < i
    · simp only [smIns, hlt, if_true]
      refine keysRise_cons.2 ⟨fun q hq => ?_, ih hk.2 (fun q hq => hn q (List.mem_cons_of_mem _ hq))⟩
      rcases mem_smIns.1 hq with rfl | hq
      · exact hlt
      · exact hk.1 q hq
    · simp only [smIns, hlt, if_false]
      have : k ≠ i := hn (k, w) List.mem_cons_self
      refine keysRise_cons.2 ⟨fun q hq => ?_, h⟩
      rcases List.mem_cons.1 hq with rfl | hq
      · show i < k; omega
      · have := hk.1 q hq; omega

theorem memSet_wf {m : List Host.Cell} {a : Nat} {b : BitVec 8} (h : Memory.wf m = true) :
    Memory.wf (memSet m a b) = true := by
  simp only [Memory.wf, Bool.and_eq_true, List.all_eq_true] at h ⊢
  unfold memSet smSet
  split
  · rw [smDel_eq_filter]
    exact ⟨keysRise_filter _ h.1, fun p hp => h.2 p (List.mem_filter.1 hp).1⟩
  · next hb =>
    constructor
    · refine keysRise_smIns ?_ ?_
      · rw [smDel_eq_filter]; exact keysRise_filter _ h.1
      · intro p hp; rw [smDel_eq_filter] at hp; simpa using (List.mem_filter.1 hp).2
    · intro p hp
      rcases mem_smIns.1 hp with rfl | hp
      · simpa using hb
      · rw [smDel_eq_filter] at hp; exact h.2 p (List.mem_filter.1 hp).1

theorem memPut_wf {m : List Host.Cell} {a k v : Nat} (h : Memory.wf m = true) : Memory.wf (memPut m a k v) = true := by
  induction k generalizing m a v with
  | zero => exact h
  | succ k ih => exact ih (memSet_wf h)

theorem memPutBytes_wf {m : List Host.Cell} {a : Nat} {bs : List Nat} (h : Memory.wf m = true) :
    Memory.wf (memPutBytes m a bs) = true := by
  induction bs generalizing m a with
  | nil => exact h
  | cons b bs ih => exact ih (memSet_wf h)

theorem filter_wf {m : List Host.Cell} (f : Host.Cell → Bool) (h : Memory.wf m = true) :
    Memory.wf (m.filter f) = true := by
  simp only [Memory.wf, Bool.and_eq_true, List.all_eq_true] at h ⊢
  exact ⟨keysRise_filter _ h.1, fun p hp => h.2 p (List.mem_filter.1 hp).1⟩

theorem memClear_wf {m : List Host.Cell} {lo len : Nat} (h : Memory.wf m = true) : Memory.wf (memClear m lo len) = true :=
  filter_wf _ h

theorem warmMem_wf {m : List Host.Cell} (h : Memory.wf m = true) : Memory.wf (warmMem m) = true := filter_wf _ h

/-- State.reset's memories have the canonical form. -/
theorem reset_mem_wf : Memory.wf State.reset.mem = true ∧ Memory.wf State.reset.hostMem = true := ⟨rfl, rfl⟩

end Sys2Proof.Machine
end

