-- ==== Sys2Proof/Laws/Kept.lean ====
section
/-! SUPPORT. What every operation keeps, said once: Kept s t holds from a state to a later one. Laws/Kept*.lean say it of every
operation of the model, one lemma each, so that a proof about a command cites its operations and unfolds none. -/

namespace Sys2Proof.Machine

/-- The queue of commands is as it was, free values and outputs only go forward, and each part of the invariant stays. -/
structure Kept (s t : State) : Prop where
  pending : t.pending = s.pending
  free    : s.freeCtr ≤ t.freeCtr
  out     : s.out <:+ t.out
  mem     : Memory.wf s.mem = true → Memory.wf t.mem = true
  hostMem : Memory.wf s.hostMem = true → Memory.wf t.hostMem = true
  queue   : QueueOk s.fm.queue → QueueOk t.fm.queue

/-- The same of an outcome's next state, and of what one instruction does. -/
def KeptO (s : State) : Host.Outcome State Fault Refusal → Prop
  | .next t => Kept s t
  | .fault _ => True
  | .refused _ => True

def KeptR (s : State) : Res → Prop
  | .done t => Kept s t
  | .jump t _ => Kept s t
  | .park t => Kept s t
  | .exc _ _ => True
  | .excAt _ _ => True
  | .stall _ => True

theorem Kept.refl (s : State) : Kept s s := ⟨rfl, Nat.le_refl _, List.suffix_rfl, id, id, id⟩

theorem Kept.trans {s t u : State} (h : Kept s t) (g : Kept t u) : Kept s u :=
  ⟨g.pending.trans h.pending, Nat.le_trans h.free g.free, h.out.trans g.out, g.mem ∘ h.mem, g.hostMem ∘ h.hostMem,
    g.queue ∘ h.queue⟩

theorem Kept.inv {s t : State} (h : Kept s t) (i : s.Inv) : t.Inv := ⟨h.mem i.mem, h.hostMem i.hostMem, h.queue i.queue⟩

theorem Kept.later {s t : State} (h : Kept s t) : s.Later t := ⟨h.free, h.out⟩

variable {s t u : State}

/-- A change of what Kept does not speak about. -/
theorem Kept.same (h : Kept s t)
    {regs shadows due held snaps ti po tm tmb sy opll cko seqs semRef uart ho rs refs bt ks eth itl mc ts rc tw brd fm
     pe rg poison waits evc tk}
    (hq : fm.queue = t.fm.queue) :
    Kept s (State.mk regs shadows due held snaps ti po tm tmb sy opll cko seqs semRef uart ho rs refs bt ks eth itl mc
      ts rc tw brd fm pe rg t.mem t.hostMem poison waits evc t.freeCtr tk t.out t.pending) := by
  exact ⟨h.pending, h.free, h.out, h.mem, h.hostMem, fun q => hq ▸ h.queue q⟩

/-- A change of memory that keeps the canonical form. -/
theorem Kept.memTo (h : Kept s t)
    {regs shadows due held snaps ti po tm tmb sy opll cko seqs semRef uart ho rs refs bt ks eth itl mc ts rc tw brd fm
     pe rg mem poison waits evc tk}
    (hm : Memory.wf t.mem = true → Memory.wf mem = true)
    (hq : fm.queue = t.fm.queue := by rfl) :
    Kept s (State.mk regs shadows due held snaps ti po tm tmb sy opll cko seqs semRef uart ho rs refs bt ks eth itl mc
      ts rc tw brd fm pe rg mem t.hostMem poison waits evc t.freeCtr tk t.out t.pending) := by
  exact ⟨h.pending, h.free, h.out, hm ∘ h.mem, h.hostMem, fun q => hq ▸ h.queue q⟩

/-- A change of host memory that keeps the canonical form. -/
theorem Kept.hostMemTo (h : Kept s t)
    {regs shadows due held snaps ti po tm tmb sy opll cko seqs semRef uart ho rs refs bt ks eth itl mc ts rc tw brd fm
     pe rg hostMem poison waits evc tk}
    (hm : Memory.wf t.hostMem = true → Memory.wf hostMem = true)
    (hq : fm.queue = t.fm.queue := by rfl) :
    Kept s (State.mk regs shadows due held snaps ti po tm tmb sy opll cko seqs semRef uart ho rs refs bt ks eth itl mc
      ts rc tw brd fm pe rg t.mem hostMem poison waits evc t.freeCtr tk t.out t.pending) := by
  exact ⟨h.pending, h.free, h.out, h.mem, hm ∘ h.hostMem, fun q => hq ▸ h.queue q⟩

/-- A change of the fault queue that keeps it well formed. -/
theorem Kept.queueTo (h : Kept s t)
    {regs shadows due held snaps ti po tm tmb sy opll cko seqs semRef uart ho rs refs bt ks eth itl mc ts rc tw brd fm
     pe rg poison waits evc tk}
    (hq : QueueOk t.fm.queue → QueueOk fm.queue) :
    Kept s (State.mk regs shadows due held snaps ti po tm tmb sy opll cko seqs semRef uart ho rs refs bt ks eth itl mc
      ts rc tw brd fm pe rg t.mem t.hostMem poison waits evc t.freeCtr tk t.out t.pending) := by
  exact ⟨h.pending, h.free, h.out, h.mem, h.hostMem, fun q => hq (h.queue q)⟩

/-! ### Choices -/

section
variable {c : Prop} [Decidable c] {α : Type}

theorem kept_ite (h : Kept s t) (g : Kept s u) : Kept s (if c then t else u) := by split <;> assumption

theorem kept_ite_fst {p q : State × α} (h : Kept s p.1) (g : Kept s q.1) : Kept s (if c then p else q).1 := by
  split <;> assumption

theorem kept_ite_snd {p q : α × State} (h : Kept s p.2) (g : Kept s q.2) : Kept s (if c then p else q).2 := by
  split <;> assumption

theorem kept_ite_R {p q : Res} (h : KeptR s p) (g : KeptR s q) : KeptR s (if c then p else q) := by split <;> assumption

theorem kept_ite_O {p q : Host.Outcome State Fault Refusal} (h : KeptO s p) (g : KeptO s q) :
    KeptO s (if c then p else q) := by split <;> assumption

theorem kept_ite_some {p q : Option α} {f : α → State} (h : ∀ r, p = some r → Kept s (f r))
    (g : ∀ r, q = some r → Kept s (f r)) : ∀ r, (if c then p else q) = some r → Kept s (f r) := by split <;> assumption

end

/-! ### Pairs -/

theorem kept_fst {α : Type} {a : α} (h : Kept s t) : Kept s (t, a).1 := h

theorem kept_snd {α : Type} {a : α} (h : Kept s t) : Kept s (a, t).2 := h

/-! ### Repetition -/

theorem kept_foldl {α : Type} {g : State → α → State} (h : Kept s t) (hg : ∀ y, Kept s y → ∀ x, Kept s (g y x))
    {l : List α} : Kept s (l.foldl g t) := by
  induction l generalizing t with
  | nil => exact h
  | cons x l ih => exact ih (hg _ h x)

theorem kept_foldl_fst {α β : Type} {g : State × β → α → State × β} {p : State × β} (h : Kept s p.1)
    (hg : ∀ y, Kept s y.1 → ∀ x, Kept s (g y x).1) {l : List α} : Kept s (l.foldl g p).1 := by
  induction l generalizing p with
  | nil => exact h
  | cons x l ih => exact ih (hg _ h x)

theorem kept_foldl_snd {α β : Type} {g : β × State → α → β × State} {p : β × State} (h : Kept s p.2)
    (hg : ∀ y, Kept s y.2 → ∀ x, Kept s (g y x).2) {l : List α} : Kept s (l.foldl g p).2 := by
  induction l generalizing p with
  | nil => exact h
  | cons x l ih => exact ih (hg _ h x)

/-! ### The operations that Kept speaks about -/

theorem State.free_kept (h : Kept s t) : Kept s t.free.2 :=
  ⟨h.pending, Nat.le_succ_of_le h.free, h.out, h.mem, h.hostMem, h.queue⟩

theorem State.emit_kept (h : Kept s t) {o : Out} : Kept s (t.emit o) :=
  ⟨h.pending, h.free, h.out.trans (List.suffix_cons o t.out), h.mem, h.hostMem, h.queue⟩

theorem State.setQueue_kept (h : Kept s t) {q : List FaultRec} (hq : QueueOk t.fm.queue → QueueOk q) :
    Kept s (t.setQueue q) := Kept.queueTo h hq

theorem State.resetBase_kept (h : Kept s t) : Kept s t.resetBase :=
  ⟨h.pending, h.free, h.out, fun _ => rfl, h.hostMem, fun _ => ⟨Nat.zero_le _, List.nodup_nil⟩⟩

/-- A merge keeps the record's channel. -/
theorem FaultRec.merge_chan {old new : FaultRec} (h : old.chan = new.chan) : (old.merge new).chan = old.chan := by
  unfold FaultRec.merge; split
  · exact h.symm
  · rfl

theorem mergeIn_chan (r : FaultRec) (q : List FaultRec) : (mergeIn r q).map FaultRec.chan = q.map FaultRec.chan := by
  induction q with
  | nil => rfl
  | cons x q ih =>
    by_cases h : x.chan = r.chan
    · simp [mergeIn, h, FaultRec.merge_chan h]
    · simp [mergeIn, h, ih]

theorem dropCorrected_sublist (q : List FaultRec) : List.Sublist (dropCorrected q) q := by
  induction q with
  | nil => exact List.Sublist.refl _
  | cons x q ih =>
    unfold dropCorrected; split
    · exact List.sublist_cons_self ..
    · exact ih.cons_cons _

theorem dropCorrected_length {q : List FaultRec} (h : q.any (fun r => r.cls == 0) = true) :
    (dropCorrected q).length + 1 = q.length := by
  induction q with
  | nil => cases h
  | cons x q ih =>
    unfold dropCorrected; split
    · rfl
    · next hx =>
      simp only [List.any_cons, Bool.or_eq_true, beq_iff_eq, hx, false_or] at h
      simpa using ih h

theorem placeIn_perm (l : List Nat) (r : FaultRec) (q : List FaultRec) : (placeIn l r q).Perm (r :: q) := by
  induction q with
  | nil => exact List.Perm.refl _
  | cons x q ih =>
    unfold placeIn; split
    · exact List.Perm.refl _
    · exact (ih.cons x).trans (List.Perm.swap ..)

/-- A record of a channel that has none enters a queue with room. -/
theorem queueOk_placeIn {l : List Nat} {q : List FaultRec} {r : FaultRec} (hl : q.length < 64)
    (hn : ¬ (q.any (fun x => x.chan == r.chan)) = true) (h : QueueOk q) : QueueOk (placeIn l r q) := by
  have hp := placeIn_perm l r q
  refine ⟨by rw [hp.length_eq]; simpa using hl, (hp.map FaultRec.chan).nodup_iff.2 (List.nodup_cons.2 ⟨?_, h.2⟩)⟩
  intro ha
  obtain ⟨x, hx, he⟩ := List.mem_map.1 ha
  exact hn (List.any_eq_true.2 ⟨x, hx, by simpa using he⟩)

theorem queueOk_append {q p : List FaultRec} {r : FaultRec} (hs : List.Sublist p q) (hl : p.length < 64)
    (hn : ¬ (q.any (fun x => x.chan == r.chan)) = true) (h : QueueOk q) : QueueOk (p ++ [r]) := by
  refine ⟨by simpa using hl, ?_⟩
  rw [List.map_append, List.nodup_append]
  refine ⟨h.2.sublist (hs.map _), List.nodup_singleton _, ?_⟩
  intro a ha b hb hab
  subst hab
  simp only [List.map_cons, List.map_nil, List.mem_singleton] at hb
  obtain ⟨x, hx, rfl⟩ := List.mem_map.1 ha
  exact hn (List.any_eq_true.2 ⟨x, hs.subset hx, by simpa using hb⟩)

end Sys2Proof.Machine
end

