-- ==== Sys2Proof/Laws/KeptOps.lean ====
section
/-! SUPPORT. What the operations of Machine/Ops.lean keep, one lemma each (Laws/Kept.lean). -/

namespace Sys2Proof.Machine

variable {s : State}

theorem State.setFld_kept {x1 : State} (hx1 : Kept s x1) {x2 x3 x4} : Kept s (State.setFld x1 x2 x3 x4) := by
  unfold State.setFld
  exact (by exact Kept.same hx1 rfl)

theorem State.clearBits_kept {x1 : State} (hx1 : Kept s x1) {x2 x3 x4} : Kept s (State.clearBits x1 x2 x3 x4) := by
  unfold State.clearBits
  exact (by exact Kept.same hx1 rfl)

theorem State.set1_kept {x1 : State} (hx1 : Kept s x1) {x2 x3} : Kept s (State.set1 x1 x2 x3) := by
  unfold State.set1
  exact (State.setFld_kept hx1)

theorem State.clr_kept {x1 : State} (hx1 : Kept s x1) {x2 x3} : Kept s (State.clr x1 x2 x3) := by
  unfold State.clr
  exact (State.setFld_kept hx1)

theorem State.rcAdd_kept {x1 : State} (hx1 : Kept s x1) {x2 x3 x4} : Kept s (State.rcAdd x1 x2 x3 x4) := by
  unfold State.rcAdd
  exact (State.setFld_kept hx1)

theorem State.when_kept {x1 : State} (hx1 : Kept s x1) {x2} {x3 : State → State} (hx3 : ∀ y1, Kept s y1 → Kept s (x3 y1)) : Kept s (State.when x1 x2 x3) := by
  unfold State.when
  exact (kept_ite (hx3 _ hx1) hx1)

theorem State.resetFlds_kept {x1 : State} (hx1 : Kept s x1) {x2 x3} : Kept s (State.resetFlds x1 x2 x3) := by
  unfold State.resetFlds
  exact (kept_foldl hx1 (fun _ h2 _ => by exact (State.setFld_kept h2)))

theorem State.quot_kept {x1 : State} (hx1 : Kept s x1) {x2 x3} : Kept s ((State.quot x1 x2 x3)).2 := by
  unfold State.quot
  exact (kept_ite_snd (kept_snd hx1) (kept_ite_snd (kept_snd hx1) (kept_snd (State.free_kept hx1))))

theorem State.occur_kept {x1 : State} (hx1 : Kept s x1) {x2} : Kept s (State.occur x1 x2) := by
  unfold State.occur
  exact (by exact Kept.same hx1 rfl)

theorem State.engEv_kept {x1 : State} (hx1 : Kept s x1) {x2} : Kept s (State.engEv x1 x2) := by
  unfold State.engEv
  exact (State.occur_kept hx1)

theorem State.seqEv_kept {x1 : State} (hx1 : Kept s x1) {x2 x3} : Kept s (State.seqEv x1 x2 x3) := by
  unfold State.seqEv
  exact (State.occur_kept hx1)

theorem State.seqEvBack_kept {x1 : State} (hx1 : Kept s x1) {x2 x3} : Kept s (State.seqEvBack x1 x2 x3) := by
  unfold State.seqEvBack
  exact (by exact Kept.same hx1 rfl)

end Sys2Proof.Machine
end

