-- ==== Sys2Proof/Laws/KeptFault.lean ====
section
/-! SUPPORT. What the operations of Machine/Fault.lean keep, one lemma each (Laws/Kept.lean). -/

namespace Sys2Proof.Machine

variable {s : State}

theorem State.msix_kept {x1 : State} (hx1 : Kept s x1) {x2 x3} : Kept s (State.msix x1 x2 x3) := by
  unfold State.msix
  exact (kept_ite (kept_ite hx1 (State.emit_kept hx1)) (kept_ite hx1 (by exact Kept.same hx1 rfl)))

theorem State.queueLost_kept {x1 : State} (hx1 : Kept s x1) : Kept s (State.queueLost x1) := by
  unfold State.queueLost
  exact (State.set1_kept (State.rcAdd_kept hx1))

theorem State.enqueue_kept {t : State} (h : Kept s t) {r} : Kept s (State.enqueue t r) := by
  unfold State.enqueue
  split
  · refine State.setQueue_kept h fun hq => ⟨?_, ?_⟩
    · rw [← List.length_map (f := FaultRec.chan), mergeIn_chan, List.length_map]; exact hq.1
    · rw [mergeIn_chan]; exact hq.2
  · next ha =>
    split
    · next hl => exact Kept.queueTo h (queueOk_placeIn hl ha)
    · split
      · next hc =>
        refine State.queueLost_kept (State.setQueue_kept h fun hq => ?_)
        have := dropCorrected_length hc.2
        exact queueOk_append (dropCorrected_sublist _) (by have := hq.1; omega) ha hq
      · exact State.queueLost_kept h

theorem State.queueIrq_kept {x1 : State} (hx1 : Kept s x1) {x2 x3} : Kept s (State.queueIrq x1 x2 x3) := by
  unfold State.queueIrq
  exact (kept_ite (State.msix_kept hx1) hx1)

theorem State.cancelRetry_kept {x1 : State} (hx1 : Kept s x1) {x2} : Kept s (State.cancelRetry x1 x2) := by
  unfold State.cancelRetry
  exact (State.when_kept (by exact Kept.same hx1 rfl) (fun _ h2 => by exact (State.clr_kept h2)))

theorem State.retireChan_kept {x1 : State} (hx1 : Kept s x1) {x2} : Kept s (State.retireChan x1 x2) := by
  unfold State.retireChan
  exact (by exact Kept.same (State.set1_kept (State.cancelRetry_kept hx1)) rfl)

theorem State.scheduleRetry_kept {x1 : State} (hx1 : Kept s x1) {x2 x3} : Kept s (State.scheduleRetry x1 x2 x3) := by
  unfold State.scheduleRetry
  exact (State.when_kept (by exact Kept.same hx1 rfl) (fun _ h2 => by exact (State.set1_kept h2)))

theorem State.retryFor_kept {x1 : State} (hx1 : Kept s x1) {x2 x3} : Kept s (State.retryFor x1 x2 x3) := by
  unfold State.retryFor
  exact (kept_ite hx1 (State.scheduleRetry_kept hx1))

theorem State.permNote_kept {x1 : State} (hx1 : Kept s x1) {x2} : Kept s (State.permNote x1 x2) := by
  unfold State.permNote
  exact (by exact Kept.same hx1 rfl)

theorem State.cancelAllRetries_kept {x1 : State} (hx1 : Kept s x1) : Kept s (State.cancelAllRetries x1) := by
  unfold State.cancelAllRetries
  exact (by exact Kept.same (kept_foldl hx1 (fun _ h2 _ => by exact (State.when_kept h2 (fun _ h3 => by exact (State.clr_kept h3))))) rfl)

theorem State.logFault_kept {x1 : State} (hx1 : Kept s x1) {x2 x3 x4} : Kept s (State.logFault x1 x2 x3 x4) := by
  unfold State.logFault
  exact (kept_ite (State.queueIrq_kept (State.enqueue_kept (State.engEv_kept hx1))) (kept_ite (kept_ite (State.queueIrq_kept (State.enqueue_kept (State.engEv_kept hx1))) (kept_ite (State.queueIrq_kept (State.enqueue_kept (State.set1_kept (State.retireChan_kept (State.when_kept (by exact Kept.same (State.engEv_kept hx1) rfl) (fun _ h3 => by exact (State.setFld_kept h3))))))) (State.queueIrq_kept (State.enqueue_kept (State.retryFor_kept (State.when_kept (by exact Kept.same (State.engEv_kept hx1) rfl) (fun _ h3 => by exact (State.setFld_kept h3)))))))) (kept_ite (kept_ite (State.queueIrq_kept (State.enqueue_kept (State.permNote_kept (State.set1_kept (State.engEv_kept hx1))))) (kept_ite (State.queueIrq_kept (State.enqueue_kept (State.retireChan_kept (State.permNote_kept (State.set1_kept (State.engEv_kept hx1)))))) (State.queueIrq_kept (State.enqueue_kept (State.cancelRetry_kept (State.permNote_kept (State.set1_kept (State.engEv_kept hx1)))))))) (State.queueIrq_kept (by exact Kept.same (State.setFld_kept (State.enqueue_kept (State.set1_kept (State.cancelAllRetries_kept (State.engEv_kept hx1))))) rfl)))))

theorem State.log_kept {x1 : State} (hx1 : Kept s x1) {x2 x3} : Kept s (State.log x1 x2 x3) := by
  unfold State.log
  exact (State.logFault_kept hx1)

end Sys2Proof.Machine
end

