-- ==== Sys2Proof/Laws/KeptDesc.lean ====
section
/-! SUPPORT. What the operations of Machine/Desc.lean keep, one lemma each (Laws/Kept.lean). -/

namespace Sys2Proof.Machine

variable {s : State}

theorem State.setSeq_kept {x1 : State} (hx1 : Kept s x1) {x2 x3} : Kept s (State.setSeq x1 x2 x3) := by
  unfold State.setSeq
  exact (by exact Kept.same hx1 rfl)

theorem State.latchAt_kept {x1 : State} (hx1 : Kept s x1) {x2 x3} : Kept s (State.latchAt x1 x2 x3) := by
  unfold State.latchAt
  exact (State.setSeq_kept hx1)

theorem State.latch_kept {x1 : State} (hx1 : Kept s x1) {x2} : Kept s (State.latch x1 x2) := by
  unfold State.latch
  exact (kept_foldl hx1 (fun _ h2 _ => by exact (State.latchAt_kept h2)))

theorem State.statusEvent_kept {x1 : State} (hx1 : Kept s x1) {x2 x3 x4} : Kept s (State.statusEvent x1 x2 x3 x4) := by
  unfold State.statusEvent
  exact (State.when_kept (State.set1_kept hx1) (fun _ h2 => by exact (State.latch_kept h2)))

theorem State.descWrite_kept {x1 : State} (hx1 : Kept s x1) {x2 x3 x4} : Kept s (State.descWrite x1 x2 x3 x4) := by
  unfold State.descWrite
  exact (kept_ite (by exact Kept.hostMemTo hx1 memPut_wf) (by exact Kept.memTo hx1 memPut_wf))

theorem State.setRing_kept {x1 : State} (hx1 : Kept s x1) {x2 x3} : Kept s (State.setRing x1 x2 x3) := by
  unfold State.setRing
  exact (by exact Kept.same hx1 rfl)

theorem State.ringCount_kept {x1 : State} (hx1 : Kept s x1) {x2} : Kept s (State.ringCount x1 x2) := by
  unfold State.ringCount
  exact (State.setRing_kept hx1)

theorem State.ringProduce_kept {x1 : State} (hx1 : Kept s x1) {x2 x3} : Kept s (State.ringProduce x1 x2 x3) := by
  unfold State.ringProduce
  exact (State.when_kept (State.engEv_kept (State.setFld_kept (State.descWrite_kept hx1))) (fun _ h3 => by exact (State.ringCount_kept h3)))

theorem State.ringOffer_kept {x1 : State} (hx1 : Kept s x1) {x2 x3 x4 x5 x6 x7 x8 x9 x10 x11} : Kept s ((State.ringOffer x1 x2 x3 x4 x5 x6 x7 x8 x9 x10 x11)).1 := by
  unfold State.ringOffer
  exact (kept_ite_fst (kept_fst (State.ringProduce_kept hx1)) (kept_fst (State.when_kept hx1 (fun _ h2 => by exact (State.set1_kept h2)))))

end Sys2Proof.Machine
end

