-- ==== Sys2Proof/Laws/KeptAccess.lean ====
section
/-! SUPPORT. What the operations of Machine/Access.lean keep, one lemma each (Laws/Kept.lean). -/

namespace Sys2Proof.Machine

variable {s : State}

theorem State.dropHeld_kept {x1 : State} (hx1 : Kept s x1) {x2} : Kept s (State.dropHeld x1 x2) := by
  unfold State.dropHeld
  exact (by exact Kept.same hx1 rfl)

theorem State.debugNote_kept {x1 : State} (hx1 : Kept s x1) {x2} : Kept s (State.debugNote x1 x2) := by
  unfold State.debugNote
  exact (kept_ite (by exact Kept.same hx1 rfl) hx1)

theorem State.gateLog_kept {x1 : State} (hx1 : Kept s x1) {x2} : Kept s (State.gateLog x1 x2) := by
  unfold State.gateLog
  exact (kept_ite (State.log_kept hx1) hx1)

theorem State.gate_kept {x1 : State} (hx1 : Kept s x1) {x2 x3} {x4 : State → State} (hx4 : ∀ y1, Kept s y1 → Kept s (x4 y1)) : Kept s (State.gate x1 x2 x3 x4) := by
  unfold State.gate
  exact (kept_ite (hx4 _ (State.debugNote_kept hx1)) (State.gateLog_kept (State.debugNote_kept hx1)))

theorem State.setShadow_kept {x1 : State} (hx1 : Kept s x1) {x2 x3 x4} : Kept s (State.setShadow x1 x2 x3 x4) := by
  unfold State.setShadow
  exact (by exact Kept.same hx1 rfl)

theorem State.slideWrite_kept {x1 : State} (hx1 : Kept s x1) {x2} : Kept s (State.slideWrite x1 x2) := by
  unfold State.slideWrite
  exact (by exact Kept.same (State.setShadow_kept hx1) rfl)

theorem State.dropShadow_kept {x1 : State} (hx1 : Kept s x1) {x2 x3} : Kept s (State.dropShadow x1 x2 x3) := by
  unfold State.dropShadow
  exact (by exact Kept.same hx1 rfl)

theorem State.commit_kept {x1 : State} (hx1 : Kept s x1) {x2 x3} : Kept s (State.commit x1 x2 x3) := by
  unfold State.commit
  exact (by
 try dsimp only
 split
 · exact (State.dropShadow_kept (State.setFld_kept hx1))
 · exact hx1)

theorem State.latchSecond_kept {x1 : State} (hx1 : Kept s x1) : Kept s (State.latchSecond x1) := by
  unfold State.latchSecond
  exact (by exact Kept.same hx1 rfl)

theorem State.commitDue_kept {x1 : State} (hx1 : Kept s x1) {x2 x3} : Kept s (State.commitDue x1 x2 x3) := by
  unfold State.commitDue
  exact (by
 try dsimp only
 split
 · exact (by exact Kept.same (State.setFld_kept hx1) rfl)
 · exact hx1)

end Sys2Proof.Machine
end

