-- ==== Sys2Proof/Laws/KeptTimeCore.lean ====
section
/-! SUPPORT. What the operations of Machine/TimeCore.lean keep, one lemma each (Laws/Kept.lean). -/

namespace Sys2Proof.Machine

variable {s : State}

theorem State.setIncrement_kept {x1 : State} (hx1 : Kept s x1) {x2} : Kept s (State.setIncrement x1 x2) := by
  unfold State.setIncrement
  exact (State.setFld_kept (State.setFld_kept hx1))

theorem State.setSlide_kept {x1 : State} (hx1 : Kept s x1) {x2} : Kept s (State.setSlide x1 x2) := by
  unfold State.setSlide
  exact (State.setFld_kept (by exact Kept.same hx1 rfl))

theorem State.slideStart_kept {x1 : State} (hx1 : Kept s x1) {x2} : Kept s (State.slideStart x1 x2) := by
  unfold State.slideStart
  exact (State.setSlide_kept hx1)

theorem State.boundRaise_kept {x1 : State} (hx1 : Kept s x1) : Kept s (State.boundRaise x1) := by
  unfold State.boundRaise
  exact (kept_ite (by exact Kept.same (State.when_kept (State.setFld_kept hx1) (fun _ h2 => by exact (State.engEv_kept h2))) rfl) hx1)

theorem State.widenAdd_kept {x1 : State} (hx1 : Kept s x1) {x2} : Kept s (State.widenAdd x1 x2) := by
  unfold State.widenAdd
  exact (State.boundRaise_kept (State.setFld_kept (by exact Kept.same hx1 rfl)))

theorem State.coefCommit_kept {x1 : State} (hx1 : Kept s x1) {x2 x3 x4 x5 x6} : Kept s (State.coefCommit x1 x2 x3 x4 x5 x6) := by
  unfold State.coefCommit
  exact (State.boundRaise_kept (State.when_kept (State.when_kept (State.setFld_kept hx1) (fun _ h3 => by exact (State.setFld_kept (by exact Kept.same h3 rfl)))) (fun _ h4 => by exact (State.setFld_kept (by exact Kept.same h4 rfl)))))

theorem State.coefShadowCommit_kept {x1 : State} (hx1 : Kept s x1) : Kept s (State.coefShadowCommit x1) := by
  unfold State.coefShadowCommit
  exact (kept_ite (State.coefCommit_kept (State.commit_kept (State.commit_kept (State.commit_kept (State.commit_kept (State.commit_kept hx1)))))) hx1)

theorem State.boundPublish_kept {x1 : State} (hx1 : Kept s x1) : Kept s (State.boundPublish x1) := by
  unfold State.boundPublish
  exact (by exact Kept.same (State.setFld_kept (State.when_kept hx1 (fun _ h2 => by exact (State.engEv_kept h2)))) rfl)

theorem State.advance_kept {x1 : State} (hx1 : Kept s x1) {x2} : Kept s (State.advance x1 x2) := by
  unfold State.advance
  exact (State.when_kept (by exact Kept.same hx1 rfl) (fun _ h3 => by exact (State.latchSecond_kept h3)))

theorem State.mark_kept {x1 : State} (hx1 : Kept s x1) {x2} : Kept s (State.mark x1 x2) := by
  unfold State.mark
  exact (by exact Kept.same hx1 rfl)

theorem State.tcTick_kept {x1 : State} (hx1 : Kept s x1) : Kept s (State.tcTick x1) := by
  unfold State.tcTick
  exact (State.boundRaise_kept (State.setFld_kept (State.setFld_kept (State.setSlide_kept (by exact Kept.same (State.advance_kept (State.mark_kept hx1)) rfl)))))

theorem State.timeSetWrite_kept {x1 : State} (hx1 : Kept s x1) {x2} : Kept s (State.timeSetWrite x1 x2) := by
  unfold State.timeSetWrite
  exact (kept_ite (State.log_kept hx1) (kept_ite (by exact Kept.same hx1 rfl) (State.log_kept hx1)))

theorem State.stepWrite_kept {x1 : State} (hx1 : Kept s x1) {x2} : Kept s (State.stepWrite x1 x2) := by
  unfold State.stepWrite
  exact (kept_ite (State.set1_kept (by exact Kept.same (State.setFld_kept (State.setFld_kept hx1)) rfl)) (State.clr_kept (by exact Kept.same (State.setFld_kept (State.setFld_kept hx1)) rfl)))

theorem State.stepAccept_kept {x1 : State} (hx1 : Kept s x1) {x2 x3 x4} : Kept s (State.stepAccept x1 x2 x3 x4) := by
  unfold State.stepAccept
  exact (by
 try dsimp only
 split
 · exact (kept_ite (by exact Kept.same hx1 rfl) (State.log_kept hx1))
 · exact (State.log_kept hx1))

theorem State.stepBarred_kept {x1 : State} (hx1 : Kept s x1) : Kept s (State.stepBarred x1) := by
  unfold State.stepBarred
  exact (State.log_kept hx1)

theorem State.tcStepTo_kept {x1 : State} (hx1 : Kept s x1) {x2} : Kept s (State.tcStepTo x1 x2) := by
  unfold State.tcStepTo
  exact (State.setFld_kept (State.statusEvent_kept (State.setSlide_kept (by exact Kept.same hx1 rfl))))

theorem State.leapNow_kept {x1 : State} (hx1 : Kept s x1) : Kept s (State.leapNow x1) := by
  unfold State.leapNow
  exact (by exact Kept.same (State.statusEvent_kept (State.clr_kept (State.clr_kept (State.when_kept hx1 (fun _ h2 => by exact (State.setFld_kept h2)))))) rfl)

theorem State.smearStart_kept {x1 : State} (hx1 : Kept s x1) : Kept s (State.smearStart x1) := by
  unfold State.smearStart
  exact (State.set1_kept hx1)

theorem State.smearEnd_kept {x1 : State} (hx1 : Kept s x1) : Kept s (State.smearEnd x1) := by
  unfold State.smearEnd
  exact (State.clr_kept hx1)

theorem State.leapArm_kept {x1 : State} (hx1 : Kept s x1) : Kept s (State.leapArm x1) := by
  unfold State.leapArm
  exact (kept_ite (State.log_kept (State.setFld_kept hx1)) (kept_ite (State.log_kept (State.smearStart_kept (State.set1_kept (by exact Kept.same hx1 rfl)))) (State.set1_kept (by exact Kept.same hx1 rfl))))

theorem State.leapDisarm_kept {x1 : State} (hx1 : Kept s x1) : Kept s (State.leapDisarm x1) := by
  unfold State.leapDisarm
  exact (kept_ite (State.log_kept (State.setFld_kept hx1)) (State.clr_kept (by exact Kept.same hx1 rfl)))

theorem State.tcCommitSecond_kept {x1 : State} (hx1 : Kept s x1) : Kept s (State.tcCommitSecond x1) := by
  unfold State.tcCommitSecond
  exact (kept_ite (kept_ite (State.leapArm_kept (by exact Kept.same (State.commitDue_kept (State.commitDue_kept (State.commitDue_kept (State.commitDue_kept (State.commitDue_kept hx1))))) rfl)) (State.leapDisarm_kept (by exact Kept.same (State.commitDue_kept (State.commitDue_kept (State.commitDue_kept (State.commitDue_kept (State.commitDue_kept hx1))))) rfl))) (by exact Kept.same (State.commitDue_kept (State.commitDue_kept (State.commitDue_kept (State.commitDue_kept (State.commitDue_kept hx1))))) rfl))

theorem State.epochPost_kept {x1 : State} (hx1 : Kept s x1) : Kept s (State.epochPost x1) := by
  unfold State.epochPost
  exact (kept_ite (by exact Kept.same (State.engEv_kept (State.setFld_kept (State.ringProduce_kept hx1))) rfl) (by exact Kept.same (kept_ite (State.log_kept (State.set1_kept (State.rcAdd_kept (State.setFld_kept hx1)))) (State.setFld_kept hx1)) rfl))

theorem State.tcSecond_kept {x1 : State} (hx1 : Kept s x1) : Kept s (State.tcSecond x1) := by
  unfold State.tcSecond
  exact (State.epochPost_kept (State.engEv_kept (State.latch_kept (by exact Kept.same (State.when_kept (State.when_kept (State.when_kept (kept_ite (by exact Kept.same (State.clr_kept (State.tcCommitSecond_kept hx1)) rfl) (State.tcCommitSecond_kept hx1)) (fun _ h4 => by exact (State.leapNow_kept h4))) (fun _ h5 => by exact (State.smearStart_kept h5))) (fun _ h6 => by exact (State.smearEnd_kept h6))) rfl))))

end Sys2Proof.Machine
end

