-- ==== Sys2Proof/Laws/KeptPulse.lean ====
section
/-! SUPPORT. What the operations of Machine/Pulse.lean keep, one lemma each (Laws/Kept.lean). -/

namespace Sys2Proof.Machine

variable {s : State}

theorem State.setPout_kept {x1 : State} (hx1 : Kept s x1) {x2 x3} : Kept s (State.setPout x1 x2 x3) := by
  unfold State.setPout
  exact (by exact Kept.same hx1 rfl)

theorem State.poEdge_kept {x1 : State} (hx1 : Kept s x1) {x2 x3 x4} : Kept s (State.poEdge x1 x2 x3 x4) := by
  unfold State.poEdge
  exact (State.emit_kept hx1)

theorem State.poStatus_kept {x1 : State} (hx1 : Kept s x1) {x2 x3} : Kept s (State.poStatus x1 x2 x3) := by
  unfold State.poStatus
  exact (State.statusEvent_kept hx1)

theorem State.poStop_kept {x1 : State} (hx1 : Kept s x1) {x2} : Kept s (State.poStop x1 x2) := by
  unfold State.poStop
  exact (State.setPout_kept (State.setFld_kept (State.clr_kept hx1)))

theorem State.poSetNext_kept {x1 : State} (hx1 : Kept s x1) {x2 x3} : Kept s (State.poSetNext x1 x2 x3) := by
  unfold State.poSetNext
  exact (State.setFld_kept (State.setPout_kept hx1))

theorem State.poArm_kept {x1 : State} (hx1 : Kept s x1) {x2} : Kept s (State.poArm x1 x2) := by
  unfold State.poArm
  exact (kept_ite (State.when_kept (State.poSetNext_kept (State.setPout_kept (State.set1_kept hx1))) (fun _ h3 => by exact (State.poStatus_kept h3))) (kept_ite (State.poStop_kept (State.poStatus_kept (State.setPout_kept (State.set1_kept hx1)))) (State.poSetNext_kept (State.setPout_kept (State.set1_kept hx1)))))

theorem State.poDisable_kept {x1 : State} (hx1 : Kept s x1) {x2} : Kept s (State.poDisable x1 x2) := by
  unfold State.poDisable
  exact (State.poStop_kept hx1)

theorem State.poLead_kept {x1 : State} (hx1 : Kept s x1) {x2 x3} : Kept s (State.poLead x1 x2 x3) := by
  unfold State.poLead
  exact (kept_ite (State.poStop_kept (State.setPout_kept (kept_ite hx1 (kept_ite (State.when_kept (State.poStatus_kept hx1) (fun _ h2 => by exact (State.poStatus_kept h2))) (State.poEdge_kept (State.rcAdd_kept (State.setPout_kept hx1))))))) (State.poSetNext_kept (State.setPout_kept (kept_ite hx1 (kept_ite (State.when_kept (State.poStatus_kept hx1) (fun _ h2 => by exact (State.poStatus_kept h2))) (State.poEdge_kept (State.rcAdd_kept (State.setPout_kept hx1))))))))

theorem State.poEnd_kept {x1 : State} (hx1 : Kept s x1) {x2 x3} : Kept s (State.poEnd x1 x2 x3) := by
  unfold State.poEnd
  exact (State.poEdge_kept (State.clr_kept (State.setPout_kept hx1)))

theorem State.poTrail_kept {x1 : State} (hx1 : Kept s x1) {x2 x3} : Kept s (State.poTrail x1 x2 x3) := by
  unfold State.poTrail
  exact (State.poEnd_kept hx1)

theorem State.poCut_kept {x1 : State} (hx1 : Kept s x1) {x2} : Kept s (State.poCut x1 x2) := by
  unfold State.poCut
  exact (kept_ite (State.poEnd_kept hx1) hx1)

theorem State.poHoldBegin_kept {x1 : State} (hx1 : Kept s x1) : Kept s (State.poHoldBegin x1) := by
  unfold State.poHoldBegin
  exact (kept_foldl hx1 (fun _ h2 _ => by exact (State.poCut_kept h2)))

theorem State.poStep1_kept {x1 : State} (hx1 : Kept s x1) {x2} : Kept s (State.poStep1 x1 x2) := by
  unfold State.poStep1
  exact (by
 try dsimp only
 split
 · exact (State.poCut_kept hx1)
 · exact (kept_ite (State.when_kept (State.poSetNext_kept (State.poCut_kept hx1)) (fun _ h3 => by exact (State.poStatus_kept h3))) (kept_ite (State.poStop_kept (State.poStatus_kept (State.poCut_kept hx1))) (State.poCut_kept hx1))))

theorem State.poStepped_kept {x1 : State} (hx1 : Kept s x1) : Kept s (State.poStepped x1) := by
  unfold State.poStepped
  exact (kept_foldl hx1 (fun _ h2 _ => by exact (State.poStep1_kept h2)))

theorem State.poRetime_kept {x1 : State} (hx1 : Kept s x1) {x2} : Kept s (State.poRetime x1 x2) := by
  unfold State.poRetime
  exact (by
 try dsimp only
 split
 · exact (State.when_kept (State.commitDue_kept (State.commitDue_kept (State.when_kept hx1 (fun _ h2 => by exact (State.setPout_kept h2))))) (fun _ h4 => by exact (State.log_kept h4)))
 · exact (kept_ite (State.when_kept (State.poSetNext_kept (State.when_kept (State.commitDue_kept (State.commitDue_kept (State.when_kept hx1 (fun _ h2 => by exact (State.setPout_kept h2))))) (fun _ h4 => by exact (State.log_kept h4)))) (fun _ h5 => by exact (State.poStatus_kept h5))) (State.when_kept (State.commitDue_kept (State.commitDue_kept (State.when_kept hx1 (fun _ h2 => by exact (State.setPout_kept h2))))) (fun _ h4 => by exact (State.log_kept h4)))))

theorem State.poSecond_kept {x1 : State} (hx1 : Kept s x1) : Kept s (State.poSecond x1) := by
  unfold State.poSecond
  exact (kept_foldl hx1 (fun _ h2 _ => by exact (State.poRetime_kept h2)))

theorem execPulseArm_kept {x1} {x2 : State} (hx2 : Kept s x2) : KeptO s (execPulseArm x1 x2) := by
  unfold execPulseArm
  exact (kept_ite_O (kept_ite hx2 (State.poArm_kept hx2)) trivial)

theorem execPulseLeadingEdge_kept {x1} {x2 : State} (hx2 : Kept s x2) : KeptO s (execPulseLeadingEdge x1 x2) := by
  unfold execPulseLeadingEdge
  exact (kept_ite_O (by
 try dsimp only
 split
 · exact (kept_ite (State.poLead_kept hx2) hx2)
 · exact hx2) trivial)

theorem execPulseTrailingEdge_kept {x1} {x2 : State} (hx2 : Kept s x2) : KeptO s (execPulseTrailingEdge x1 x2) := by
  unfold execPulseTrailingEdge
  exact (kept_ite_O (by
 try dsimp only
 split
 · exact (kept_ite (State.poTrail_kept hx2) hx2)
 · exact hx2) trivial)

theorem execPulseDisable_kept {x1} {x2 : State} (hx2 : Kept s x2) : KeptO s (execPulseDisable x1 x2) := by
  unfold execPulseDisable
  exact (kept_ite_O (kept_ite (State.poDisable_kept hx2) hx2) trivial)

end Sys2Proof.Machine
end

