-- ==== Sys2Proof/Laws/KeptEdgeMeas.lean ====
section
/-! SUPPORT. What the operations of Machine/EdgeMeas.lean keep, one lemma each (Laws/Kept.lean). -/

namespace Sys2Proof.Machine

variable {s : State}

theorem State.setTdc_kept {x1 : State} (hx1 : Kept s x1) {x2 x3} : Kept s (State.setTdc x1 x2 x3) := by
  unfold State.setTdc
  exact (by exact Kept.same hx1 rfl)

theorem State.tmForm_kept {x1 : State} (hx1 : Kept s x1) {x2 x3} : Kept s (State.tmForm x1 x2 x3) := by
  unfold State.tmForm
  exact (kept_ite (State.setTdc_kept (kept_ite (by exact Kept.same (State.engEv_kept hx1) rfl) (State.engEv_kept hx1))) (State.rcAdd_kept (State.setTdc_kept (kept_ite (by exact Kept.same (State.engEv_kept hx1) rfl) (State.engEv_kept hx1)))))

theorem State.warmEdge_kept {x1 : State} (hx1 : Kept s x1) {x2 x3} : Kept s (State.warmEdge x1 x2 x3) := by
  unfold State.warmEdge
  exact (by
 try dsimp only
 split
 · exact (kept_ite (by exact Kept.same hx1 rfl) hx1)
 · exact hx1)

theorem State.tmEdgeRec_kept {x1 : State} (hx1 : Kept s x1) {x2 x3 x4} : Kept s (State.tmEdgeRec x1 x2 x3 x4) := by
  unfold State.tmEdgeRec
  exact (State.tmForm_kept (State.setTdc_kept (State.warmEdge_kept hx1)))

theorem State.tmStart_kept {x1 : State} (hx1 : Kept s x1) {x2 x3 x4} : Kept s (State.tmStart x1 x2 x3 x4) := by
  unfold State.tmStart
  exact (kept_ite (State.tmForm_kept (State.set1_kept (State.setTdc_kept hx1))) (State.rcAdd_kept (State.setTdc_kept hx1)))

theorem State.tmClose_kept {x1 : State} (hx1 : Kept s x1) {x2 x3 x4 x5 x6 x7} : Kept s (State.tmClose x1 x2 x3 x4 x5 x6 x7) := by
  unfold State.tmClose
  exact (by
 try dsimp only
 split
 · exact (State.tmForm_kept (State.clr_kept (State.setTdc_kept hx1)))
 · exact hx1)

theorem State.tmExpire_kept {x1 : State} (hx1 : Kept s x1) {x2 x3} : Kept s (State.tmExpire x1 x2 x3) := by
  unfold State.tmExpire
  exact (by
 try dsimp only
 split
 · exact (kept_ite (State.tmClose_kept hx1) hx1)
 · exact hx1)

theorem State.tmDrop_kept {x1 : State} (hx1 : Kept s x1) {x2} : Kept s (State.tmDrop x1 x2) := by
  unfold State.tmDrop
  exact (by
 try dsimp only
 split
 · exact (State.clr_kept (State.setTdc_kept hx1))
 · exact hx1)

theorem State.tmStop_kept {x1 : State} (hx1 : Kept s x1) {x2 x3 x4} : Kept s (State.tmStop x1 x2 x3 x4) := by
  unfold State.tmStop
  exact (State.tmClose_kept (State.tmExpire_kept hx1))

theorem State.tmLoseDead_kept {x1 : State} (hx1 : Kept s x1) {x2} : Kept s (State.tmLoseDead x1 x2) := by
  unfold State.tmLoseDead
  exact (State.rcAdd_kept (State.setTdc_kept hx1))

theorem State.tmTake_kept {x1 : State} (hx1 : Kept s x1) {x2 x3} : Kept s (State.tmTake x1 x2 x3) := by
  unfold State.tmTake
  exact (State.setTdc_kept hx1)

theorem State.tmPick_kept {x1 : State} (hx1 : Kept s x1) {x2} : Kept s ((State.tmPick x1 x2)).1 := by
  unfold State.tmPick
  exact (kept_fst (State.setTdc_kept hx1))

theorem State.tmEdge_kept {x1 : State} (hx1 : Kept s x1) {x2 x3 x4 x5} : Kept s (State.tmEdge x1 x2 x3 x4 x5) := by
  unfold State.tmEdge
  exact (kept_ite hx1 (by
 try dsimp only
 split
 · exact (kept_ite (State.tmExpire_kept hx1) (kept_ite (State.tmLoseDead_kept (State.tmExpire_kept hx1)) (kept_ite (State.tmEdgeRec_kept (State.tmPick_kept (State.tmTake_kept (State.tmExpire_kept hx1)))) (State.tmPick_kept (State.tmTake_kept (State.tmExpire_kept hx1))))))
 · exact (by
 try dsimp only
 split
 · exact (kept_ite (State.tmLoseDead_kept (State.tmExpire_kept hx1)) (kept_ite (State.tmStop_kept (State.tmTake_kept (State.tmExpire_kept hx1))) (kept_ite (State.rcAdd_kept (State.tmExpire_kept hx1)) (State.tmExpire_kept hx1))))
 · exact (kept_ite (State.tmExpire_kept hx1) (kept_ite (State.tmLoseDead_kept (State.tmExpire_kept hx1)) (kept_ite (State.tmStart_kept (State.tmPick_kept (State.tmTake_kept (State.tmExpire_kept hx1)))) (State.tmPick_kept (State.tmTake_kept (State.tmExpire_kept hx1)))))))
 · exact (kept_ite (State.tmExpire_kept hx1) (kept_ite (State.tmLoseDead_kept (State.tmExpire_kept hx1)) (kept_foldl (State.tmTake_kept (State.tmExpire_kept hx1)) (fun _ h5 _ => by exact (kept_ite (State.tmStop_kept h5) h5)))))))

theorem State.tmEnable_kept {x1 : State} (hx1 : Kept s x1) {x2} : Kept s (State.tmEnable x1 x2) := by
  unfold State.tmEnable
  exact (State.setTdc_kept (State.set1_kept (State.set1_kept hx1)))

theorem State.tmDisable_kept {x1 : State} (hx1 : Kept s x1) {x2} : Kept s (State.tmDisable x1 x2) := by
  unfold State.tmDisable
  exact (State.setFld_kept (State.setTdc_kept (State.clr_kept (State.clr_kept (State.tmClose_kept hx1)))))

theorem State.tmHit_kept {x1 : State} (hx1 : Kept s x1) {x2 x3} : Kept s (State.tmHit x1 x2 x3) := by
  unfold State.tmHit
  exact (State.setTdc_kept hx1)

theorem State.tmDropBuild_kept {x1 : State} (hx1 : Kept s x1) {x2} : Kept s (State.tmDropBuild x1 x2) := by
  unfold State.tmDropBuild
  exact (State.setTdc_kept hx1)

theorem State.tmSwap_kept {x1 : State} (hx1 : Kept s x1) {x2} : Kept s (State.tmSwap x1 x2) := by
  unfold State.tmSwap
  exact (State.setTdc_kept hx1)

theorem State.tmStaleShow_kept {x1 : State} (hx1 : Kept s x1) {x2} : Kept s (State.tmStaleShow x1 x2) := by
  unfold State.tmStaleShow
  exact (State.setFld_kept hx1)

theorem State.tmSwap1_kept {x1 : State} (hx1 : Kept s x1) {x2} : Kept s (State.tmSwap1 x1 x2) := by
  unfold State.tmSwap1
  exact (by
 try dsimp only
 split
 · exact (State.tmStaleShow_kept (State.setTdc_kept hx1))
 · exact hx1)

theorem State.tmSwaps_kept {x1 : State} (hx1 : Kept s x1) : Kept s (State.tmSwaps x1) := by
  unfold State.tmSwaps
  exact (kept_foldl hx1 (fun _ h2 _ => by exact (State.tmSwap1_kept h2)))

theorem State.tmHitsCommit_kept {x1 : State} (hx1 : Kept s x1) : Kept s (State.tmHitsCommit x1) := by
  unfold State.tmHitsCommit
  exact (kept_ite (State.commit_kept hx1) (kept_foldl (State.commit_kept hx1) (fun _ h3 _ => by exact (State.tmDropBuild_kept h3))))

theorem State.tmSafeBegin_kept {x1 : State} (hx1 : Kept s x1) : Kept s (State.tmSafeBegin x1) := by
  unfold State.tmSafeBegin
  exact (kept_foldl hx1 (fun _ h2 _ => by exact (State.set1_kept (State.setTdc_kept h2))))

theorem State.tmRootReturn_kept {x1 : State} (hx1 : Kept s x1) : Kept s (State.tmRootReturn x1) := by
  unfold State.tmRootReturn
  exact (kept_foldl hx1 (fun _ h2 _ => by exact (kept_ite (State.setTdc_kept h2) h2)))

theorem State.tmPop_kept {x1 : State} (hx1 : Kept s x1) {x2} : Kept s (State.tmPop x1 x2) := by
  unfold State.tmPop
  exact (State.setTdc_kept hx1)

theorem execIntervalTimeout_kept {x1} {x2 : State} (hx2 : Kept s x2) : KeptO s (execIntervalTimeout x1 x2) := by
  unfold execIntervalTimeout
  exact (kept_ite_O (State.tmExpire_kept hx2) trivial)

theorem execTmChannelEnable_kept {x1} {x2 : State} (hx2 : Kept s x2) : KeptO s (execTmChannelEnable x1 x2) := by
  unfold execTmChannelEnable
  exact (kept_ite_O (kept_ite hx2 (State.tmEnable_kept hx2)) trivial)

theorem execTmChannelDisable_kept {x1} {x2 : State} (hx2 : Kept s x2) : KeptO s (execTmChannelDisable x1 x2) := by
  unfold execTmChannelDisable
  exact (kept_ite_O (kept_ite (State.tmDisable_kept hx2) hx2) trivial)

theorem execOffsetCalDone_kept {x1 x2} {x3 : State} (hx3 : Kept s x3) : KeptO s (execOffsetCalDone x1 x2 x3) := by
  unfold execOffsetCalDone
  exact (kept_ite_O (by
 try dsimp only
 split
 · exact (kept_ite (State.setTdc_kept (State.clr_kept (State.setFld_kept hx3))) hx3)
 · exact hx3) trivial)

theorem execCalHit_kept {x1 x2 x3 x4 x5 x6} {x7 : State} (hx7 : Kept s x7) : KeptO s (execCalHit x1 x2 x3 x4 x5 x6 x7) := by
  unfold execCalHit
  exact (kept_ite_O (kept_ite hx7 (State.tmHit_kept hx7)) trivial)

theorem execCalStale_kept {x1} {x2 : State} (hx2 : Kept s x2) : KeptO s (execCalStale x1 x2) := by
  unfold execCalStale
  exact (kept_ite_O (State.tmStaleShow_kept hx2) trivial)

theorem execEventDmaPost_kept {x1} {x2 : State} (hx2 : Kept s x2) : KeptO s (execEventDmaPost x1 x2) := by
  unfold execEventDmaPost
  exact (kept_ite_O (by
 try dsimp only
 split
 · exact (kept_ite (State.tmPop_kept (State.ringProduce_kept hx2)) (State.when_kept hx2 (fun _ h2 => by exact (State.set1_kept h2))))
 · exact hx2) trivial)

theorem State.loopEdge_kept {x1 : State} (hx1 : Kept s x1) {x2 x3} : Kept s (State.loopEdge x1 x2 x3) := by
  unfold State.loopEdge
  exact (by
 try dsimp only
 split
 · exact (kept_ite (State.tmEdge_kept (State.emit_kept (by exact Kept.same hx1 rfl))) hx1)
 · exact hx1)

theorem execLoopEdge_kept {x1 x2 x3 x4 x5} {x6 : State} (hx6 : Kept s x6) : KeptO s (execLoopEdge x1 x2 x3 x4 x5 x6) := by
  unfold execLoopEdge
  exact (kept_ite_O (State.loopEdge_kept hx6) trivial)

theorem State.warmTake_kept {x1 : State} (hx1 : Kept s x1) {x2} : Kept s (State.warmTake x1 x2) := by
  unfold State.warmTake
  exact (by
 try dsimp only
 split
 · exact (by exact Kept.same (State.setFld_kept hx1) rfl)
 · exact (by exact Kept.same (State.setFld_kept (State.setFld_kept hx1)) rfl))

theorem State.warmEnd_kept {x1 : State} (hx1 : Kept s x1) : Kept s (State.warmEnd x1) := by
  unfold State.warmEnd
  exact (by
 try dsimp only
 split
 · exact (kept_ite (by
 try dsimp only
 split
 · exact (State.warmTake_kept (State.quot_kept (by exact Kept.same hx1 rfl)))
 · exact (by exact Kept.same hx1 rfl)) hx1)
 · exact hx1)

theorem execWarmWindowEnd_kept {x1 : State} (hx1 : Kept s x1) : KeptO s (execWarmWindowEnd x1) := by
  unfold execWarmWindowEnd
  exact (State.warmEnd_kept hx1)

theorem State.warmTick_kept {x1 : State} (hx1 : Kept s x1) : Kept s (State.warmTick x1) := by
  unfold State.warmTick
  exact (kept_ite (by exact Kept.same hx1 rfl) hx1)

theorem State.warmLost_kept {x1 : State} (hx1 : Kept s x1) : Kept s (State.warmLost x1) := by
  unfold State.warmLost
  exact (by exact Kept.same hx1 rfl)

end Sys2Proof.Machine
end

