-- ==== Sys2Proof/Laws/KeptOperands.lean ====
section
/-! SUPPORT. What the operations of Machine/Operands.lean keep, one lemma each (Laws/Kept.lean). -/

namespace Sys2Proof.Machine

variable {s : State}

theorem State.setPc_kept {x1 : State} (hx1 : Kept s x1) {x2 x3} : Kept s (State.setPc x1 x2 x3) := by
  unfold State.setPc
  exact (State.setFld_kept hx1)

end Sys2Proof.Machine
end

