-- ==== Sys2Proof/Laws/KeptSeq.lean ====
section
/-! SUPPORT. What the operations of Machine/Seq.lean keep, one lemma each (Laws/Kept.lean). -/

namespace Sys2Proof.Machine

variable {s : State}

theorem State.putV_kept {x1 : State} (hx1 : Kept s x1) {x2 x3 x4} : Kept s (State.putV x1 x2 x3 x4) := by
  unfold State.putV
  exact (State.setSeq_kept hx1)

theorem State.semAnswer_kept {x1 x2} {x3 : State} (hx3 : Kept s x3) {x4} : Kept s (State.semAnswer x1 x2 x3 x4) := by
  unfold State.semAnswer
  exact (by
 try dsimp only
 split
 · exact (kept_ite hx3 (kept_ite (kept_ite (State.seqEv_kept (State.setSeq_kept hx3)) (State.setSeq_kept hx3)) (kept_ite (State.setSeq_kept hx3) (State.seqEvBack_kept (State.setSeq_kept hx3)))))
 · exact hx3)

theorem State.semSet_kept {x1 : State} (hx1 : Kept s x1) {x2 x3 x4} : Kept s (State.semSet x1 x2 x3 x4) := by
  unfold State.semSet
  exact (kept_foldl (by exact Kept.same (by
 try dsimp only
 split
 · exact (State.setFld_kept (State.set1_kept (by exact Kept.same hx1 rfl)))
 · exact (State.setFld_kept (State.clr_kept (by exact Kept.same hx1 rfl)))) rfl) (fun _ h5 _ => by exact (State.semAnswer_kept h5)))

theorem State.semEvent_kept {x1 : State} (hx1 : Kept s x1) {x2} : Kept s (State.semEvent x1 x2) := by
  unfold State.semEvent
  exact (by
 try dsimp only
 split
 · exact (kept_ite (State.latchAt_kept hx1) hx1)
 · exact hx1)

theorem State.semFree_kept {x1 : State} (hx1 : Kept s x1) {x2} : Kept s (State.semFree x1 x2) := by
  unfold State.semFree
  exact (by
 try dsimp only
 split
 · exact (State.semSet_kept (State.semEvent_kept hx1))
 · exact (State.semSet_kept (State.semEvent_kept hx1)))

theorem State.semTake_kept {x1 : State} (hx1 : Kept s x1) {x2 x3 x4} : Kept s (State.semTake x1 x2 x3 x4) := by
  unfold State.semTake
  exact (State.semSet_kept hx1)

theorem State.semWrite_kept {x1 : State} (hx1 : Kept s x1) {x2 x3} : Kept s (State.semWrite x1 x2 x3) := by
  unfold State.semWrite
  exact (kept_ite (State.semFree_kept hx1) (State.setSeq_kept hx1))

theorem State.semDropAll_kept {x1 : State} (hx1 : Kept s x1) {x2} : Kept s (State.semDropAll x1 x2) := by
  unfold State.semDropAll
  exact (kept_foldl hx1 (fun _ h2 _ => by exact (kept_ite (State.semFree_kept h2) h2)))

theorem State.mailDrop_kept {x1 : State} (hx1 : Kept s x1) {x2 x3} : Kept s (State.mailDrop x1 x2 x3) := by
  unfold State.mailDrop
  exact (kept_ite (State.set1_kept hx1) (State.setSeq_kept hx1))

theorem State.mboxPush_kept {x1 : State} (hx1 : Kept s x1) {x2 x3 x4} : Kept s (State.mboxPush x1 x2 x3 x4) := by
  unfold State.mboxPush
  exact (kept_ite (State.seqEv_kept (State.setSeq_kept (by exact Kept.same hx1 rfl))) (State.mailDrop_kept (State.setSeq_kept hx1)))

theorem State.mboxPop_kept {x1 : State} (hx1 : Kept s x1) {x2} : Kept s ((State.mboxPop x1 x2)).1 := by
  unfold State.mboxPop
  exact (by
 try dsimp only
 split
 · exact (kept_fst (State.setSeq_kept hx1))
 · exact (kept_fst hx1))

theorem State.setUart_kept {x1 : State} (hx1 : Kept s x1) {x2 x3} : Kept s (State.setUart x1 x2 x3) := by
  unfold State.setUart
  exact (by exact Kept.same hx1 rfl)

theorem State.evClear_kept {x1 : State} (hx1 : Kept s x1) {x2 x3} : Kept s (State.evClear x1 x2 x3) := by
  unfold State.evClear
  exact (State.setSeq_kept hx1)

theorem State.endWait_kept {x1 : State} (hx1 : Kept s x1) {x2} : Kept s (State.endWait x1 x2) := by
  unfold State.endWait
  exact (State.setSeq_kept (State.clr_kept hx1))

theorem State.txnsDrop_kept {x1 : State} (hx1 : Kept s x1) {x2} : Kept s (State.txnsDrop x1 x2) := by
  unfold State.txnsDrop
  exact (State.setSeq_kept hx1)

theorem State.seqHalt_kept {x1 : State} (hx1 : Kept s x1) {x2} : Kept s (State.seqHalt x1 x2) := by
  unfold State.seqHalt
  exact (State.semDropAll_kept (State.clr_kept (State.clr_kept (State.set1_kept (State.clr_kept (State.endWait_kept (State.txnsDrop_kept hx1)))))))

theorem State.seqRetire_kept {x1 : State} (hx1 : Kept s x1) {x2} : Kept s (State.seqRetire x1 x2) := by
  unfold State.seqRetire
  exact (State.set1_kept (State.seqHalt_kept hx1))

theorem State.excEnter_kept {x1 : State} (hx1 : Kept s x1) {x2 x3 x4 x5 x6 x7} : Kept s (State.excEnter x1 x2 x3 x4 x5 x6 x7) := by
  unfold State.excEnter
  exact (State.set1_kept (State.setFld_kept (State.setFld_kept (State.setFld_kept (State.setFld_kept (State.setPc_kept (State.setFld_kept (State.set1_kept (State.clr_kept (State.setSeq_kept (State.endWait_kept hx1)))))))))))

theorem State.doubleFault_kept {t : State} (h : Kept s t) {n cause} : Kept s (State.doubleFault t n cause) := by
  unfold State.doubleFault
  have g := State.logFault_kept (x2 := SEQ_DOUBLE_FAULT) (x3 := chanId 11 n) (x4 := cause)
    (State.seqHalt_kept (x2 := n) (State.setFld_kept h (x2 := SQ_STATUS_LAST_CAUSE) (x3 := n) (x4 := cause)))
  generalize ((t.setFld SQ_STATUS_LAST_CAUSE n cause).seqHalt n).logFault SEQ_DOUBLE_FAULT (chanId 11 n) cause = u at g ⊢
  have g2 := State.seqRetire_kept g (x2 := n)
  dsimp only
  generalize u.seqRetire n = w at g2 ⊢
  exact kept_ite (Kept.same g2 rfl) g

theorem State.wdogRestart_kept {x1 : State} (hx1 : Kept s x1) {x2} : Kept s (State.wdogRestart x1 x2) := by
  unfold State.wdogRestart
  exact (kept_ite (State.setSeq_kept hx1) hx1)

theorem State.takeExc_kept {x1 : State} (hx1 : Kept s x1) {x2 x3 x4 x5 x6 x7} : Kept s (State.takeExc x1 x2 x3 x4 x5 x6 x7) := by
  unfold State.takeExc
  exact (kept_ite (State.doubleFault_kept (State.seqEv_kept (State.wdogRestart_kept hx1))) (kept_ite (State.excEnter_kept (State.seqEv_kept (State.wdogRestart_kept hx1))) (State.logFault_kept (State.excEnter_kept (State.seqEv_kept (State.wdogRestart_kept hx1))))))

theorem State.raise_kept {x1 : State} (hx1 : Kept s x1) {x2 x3 x4 x5 x6} : Kept s (State.raise x1 x2 x3 x4 x5 x6) := by
  unfold State.raise
  exact (kept_ite (State.setSeq_kept hx1) (State.takeExc_kept hx1))

theorem State.lateTake_kept {x1 : State} (hx1 : Kept s x1) {x2} : Kept s (State.lateTake x1 x2) := by
  unfold State.lateTake
  exact (kept_foldl (State.setSeq_kept hx1) (fun _ h2 _ => by exact (State.takeExc_kept h2)))

theorem State.excReturn_kept {x1 : State} (hx1 : Kept s x1) {x2} : Kept s (State.excReturn x1 x2) := by
  unfold State.excReturn
  exact (State.setPc_kept (State.setFld_kept (State.clr_kept hx1)))

theorem State.seqResetCore_kept {x1 : State} (hx1 : Kept s x1) {x2} : Kept s (State.seqResetCore x1 x2) := by
  unfold State.seqResetCore
  exact (State.dropHeld_kept (State.setPc_kept (State.setFld_kept (State.clr_kept (State.clr_kept (State.clr_kept (State.setSeq_kept (State.semDropAll_kept hx1))))))))

theorem State.seqDrain_kept {x1 : State} (hx1 : Kept s x1) {x2} : Kept s (State.seqDrain x1 x2) := by
  unfold State.seqDrain
  exact (kept_ite (State.clr_kept hx1) hx1)

theorem State.seqEnable_kept {x1 : State} (hx1 : Kept s x1) {x2} : Kept s (State.seqEnable x1 x2) := by
  unfold State.seqEnable
  exact (kept_ite hx1 (State.set1_kept (State.set1_kept hx1)))

theorem State.seqDisable_kept {x1 : State} (hx1 : Kept s x1) {x2} : Kept s (State.seqDisable x1 x2) := by
  unfold State.seqDisable
  exact (kept_ite (by
 try dsimp only
 split
 · exact (State.endWait_kept (State.clr_kept (State.clr_kept hx1)))
 · exact (State.endWait_kept (State.clr_kept (State.clr_kept hx1)))
 · exact (State.seqDrain_kept (State.set1_kept (State.clr_kept (State.clr_kept hx1))))) hx1)

theorem State.issue_kept {t : State} (h : Kept s t) {n m} {body : Ins → State → Res}
    (hb : ∀ i, ∀ u, Kept s u → KeptR s (body i u)) : KeptO s (State.issue t n m body) := by
  unfold State.issue
  refine kept_ite_O (kept_ite ?_ h) trivial
  split
  · exact State.takeExc_kept (State.seqEv_kept h)
  · refine kept_ite h (kept_ite (State.seqEv_kept h) ?_)
    have hr := hb ‹Ins› t h
    split
    · next he => rw [he] at hr; exact State.seqEv_kept (State.setPc_kept hr)
    · next he => rw [he] at hr; exact State.seqEv_kept (State.setPc_kept hr)
    · next he => rw [he] at hr; exact State.seqEv_kept (State.setPc_kept hr)
    · exact State.takeExc_kept (State.seqEv_kept h)
    · exact State.takeExc_kept (State.seqEv_kept h)
    · exact State.seqEv_kept h

theorem State.issueReg_kept {x1 : State} (hx1 : Kept s x1) {x2 x3 x4} : KeptO s (State.issueReg x1 x2 x3 x4) := by
  unfold State.issueReg
  exact (State.issue_kept hx1 (fun _ _ h2 => by exact (State.setSeq_kept h2)))

end Sys2Proof.Machine
end

