-- ==== Sys2Proof/Laws/KeptBoard.lean ====
section
/-! SUPPORT. What the operations of Machine/Board.lean keep, one lemma each (Laws/Kept.lean). -/

namespace Sys2Proof.Machine

variable {s : State}

theorem State.uartNext_kept {x1 : State} (hx1 : Kept s x1) {x2} : Kept s (State.uartNext x1 x2) := by
  unfold State.uartNext
  exact (by
 try dsimp only
 split
 · exact (kept_ite (State.emit_kept (State.set1_kept (State.setUart_kept hx1))) hx1)
 · exact hx1)

theorem State.uartTx_kept {x1 : State} (hx1 : Kept s x1) {x2 x3} : Kept s (State.uartTx x1 x2 x3) := by
  unfold State.uartTx
  exact (kept_ite (State.uartNext_kept (State.setUart_kept hx1)) (State.set1_kept hx1))

theorem State.uartSent_kept {x1 : State} (hx1 : Kept s x1) {x2} : Kept s (State.uartSent x1 x2) := by
  unfold State.uartSent
  exact (kept_ite (State.uartNext_kept (State.clr_kept (State.clr_kept hx1))) hx1)

theorem State.uartEnable_kept {x1 : State} (hx1 : Kept s x1) {x2} : Kept s (State.uartEnable x1 x2) := by
  unfold State.uartEnable
  exact (State.uartNext_kept (State.set1_kept hx1))

theorem State.uartDisable_kept {x1 : State} (hx1 : Kept s x1) {x2} : Kept s (State.uartDisable x1 x2) := by
  unfold State.uartDisable
  exact (kept_ite (State.setFld_kept (State.clr_kept hx1)) hx1)

theorem State.uartRx_kept {x1 : State} (hx1 : Kept s x1) {x2 x3 x4 x5 x6} : Kept s (State.uartRx x1 x2 x3 x4 x5 x6) := by
  unfold State.uartRx
  exact (kept_ite hx1 (kept_ite (State.when_kept (State.setUart_kept hx1) (fun _ h2 => by exact (State.set1_kept h2))) (State.set1_kept (State.rcAdd_kept (State.setUart_kept hx1)))))

theorem State.uartThaw_kept {x1 : State} (hx1 : Kept s x1) : Kept s (State.uartThaw x1) := by
  unfold State.uartThaw
  exact (kept_foldl hx1 (fun _ h2 _ => by exact (State.uartNext_kept (State.setUart_kept h2))))

theorem State.uartLevels_kept {x1 : State} (hx1 : Kept s x1) {x2} : Kept s (State.uartLevels x1 x2) := by
  unfold State.uartLevels
  exact (State.setFld_kept (State.setFld_kept hx1))

theorem State.i2cGo_kept {x1 : State} (hx1 : Kept s x1) {x2 x3 x4} : Kept s (State.i2cGo x1 x2 x3 x4) := by
  unfold State.i2cGo
  exact (kept_ite (State.set1_kept hx1) (kept_ite (State.log_kept hx1) (kept_ite (State.emit_kept (by exact Kept.same (State.set1_kept hx1) rfl)) hx1)))

theorem State.i2cEnd_kept {x1 : State} (hx1 : Kept s x1) {x2 x3 x4} : Kept s (State.i2cEnd x1 x2 x3 x4) := by
  unfold State.i2cEnd
  exact (by
 try dsimp only
 split
 · exact (State.when_kept (by exact Kept.same (State.set1_kept (State.clr_kept (State.when_kept (State.when_kept (State.setFld_kept hx1) (fun _ h3 => by exact (State.set1_kept h3))) (fun _ h4 => by exact (State.set1_kept h4))))) rfl) (fun _ h5 => by exact (State.msix_kept h5)))
 · exact hx1)

theorem State.spiGo_kept {x1 : State} (hx1 : Kept s x1) {x2 x3} : Kept s (State.spiGo x1 x2 x3) := by
  unfold State.spiGo
  exact (kept_ite (State.set1_kept hx1) (kept_ite (State.log_kept hx1) (kept_ite (State.emit_kept (by exact Kept.same (State.set1_kept hx1) rfl)) hx1)))

theorem State.spiEnd_kept {x1 : State} (hx1 : Kept s x1) {x2} : Kept s (State.spiEnd x1 x2) := by
  unfold State.spiEnd
  exact (by
 try dsimp only
 split
 · exact (State.when_kept (by exact Kept.same (State.when_kept (State.setFld_kept (State.set1_kept (State.clr_kept (State.setFld_kept hx1)))) (fun _ h4 => by exact (State.emit_kept h4))) rfl) (fun _ h5 => by exact (State.msix_kept h5)))
 · exact hx1)

theorem State.spiOff_kept {x1 : State} (hx1 : Kept s x1) : Kept s (State.spiOff x1) := by
  unfold State.spiOff
  exact (State.when_kept (State.clr_kept (State.clr_kept hx1)) (fun _ h2 => by exact (State.emit_kept h2)))

theorem State.gpioLevels_kept {x1 : State} (hx1 : Kept s x1) {x2} : Kept s (State.gpioLevels x1 x2) := by
  unfold State.gpioLevels
  exact (State.setFld_kept (State.setFld_kept hx1))

theorem State.gpioSync_kept {x1 : State} (hx1 : Kept s x1) : Kept s (State.gpioSync x1) := by
  unfold State.gpioSync
  exact (State.gpioLevels_kept hx1)

theorem State.gpioSet_kept {x1 : State} (hx1 : Kept s x1) {x2} : Kept s (State.gpioSet x1 x2) := by
  unfold State.gpioSet
  exact (State.gpioSync_kept (State.setFld_kept hx1))

theorem State.gpioClr_kept {x1 : State} (hx1 : Kept s x1) {x2} : Kept s (State.gpioClr x1 x2) := by
  unfold State.gpioClr
  exact (State.gpioSync_kept (State.setFld_kept hx1))

end Sys2Proof.Machine
end

