-- ==== Sys2Proof/Laws/KeptMatrix.lean ====
section
/-! SUPPORT. What the operations of Machine/Matrix.lean keep, one lemma each (Laws/Kept.lean). -/

namespace Sys2Proof.Machine

variable {s : State}

theorem State.txnTake_kept {x1 : State} (hx1 : Kept s x1) {x2 x3} : Kept s (State.txnTake x1 x2 x3) := by
  unfold State.txnTake
  exact (State.setSeq_kept hx1)

theorem State.txnFill_kept {x1 : State} (hx1 : Kept s x1) {x2 x3 x4} : Kept s (State.txnFill x1 x2 x3 x4) := by
  unfold State.txnFill
  exact (kept_ite hx1 (kept_ite (State.setSeq_kept hx1) (State.putV_kept hx1)))

theorem State.bmErr_kept {x1 : State} (hx1 : Kept s x1) {x2 x3 x4} : Kept s (State.bmErr x1 x2 x3 x4) := by
  unfold State.bmErr
  exact (State.set1_kept (State.setFld_kept (State.setFld_kept (State.setFld_kept (State.setFld_kept hx1)))))

theorem State.decodeErr_kept {x1 : State} (hx1 : Kept s x1) {x2 x3} : Kept s (State.decodeErr x1 x2 x3) := by
  unfold State.decodeErr
  exact (State.logFault_kept (State.bmErr_kept hx1))

theorem State.extend_kept {x1 : State} (hx1 : Kept s x1) {x2 x3} : Kept s (State.extend x1 x2 x3) := by
  unfold State.extend
  exact (by exact Kept.same hx1 rfl)

theorem State.extCommit_kept {x1 : State} (hx1 : Kept s x1) {x2} : Kept s (State.extCommit x1 x2) := by
  unfold State.extCommit
  exact (by
 try dsimp only
 split
 · exact (kept_ite (State.clr_kept (by exact Kept.same (State.setFld_kept hx1) rfl)) (by exact Kept.same (State.setFld_kept hx1) rfl))
 · exact hx1)

theorem State.store_kept {x1 : State} (hx1 : Kept s x1) {x2 x3} : Kept s (State.store x1 x2 x3) := by
  unfold State.store
  exact (by exact Kept.memTo hx1 memPutBytes_wf)

theorem State.storeAround_kept {x1 : State} (hx1 : Kept s x1) {x2 x3 x4} : Kept s (State.storeAround x1 x2 x3 x4) := by
  unfold State.storeAround
  exact (kept_ite (State.logFault_kept (State.store_kept hx1)) (State.store_kept hx1))

theorem State.iramPut_kept {x1 : State} (hx1 : Kept s x1) {x2 x3 x4} : Kept s (State.iramPut x1 x2 x3 x4) := by
  unfold State.iramPut
  exact (State.extend_kept (by exact Kept.memTo hx1 memPut_wf))

theorem State.iramWrite_kept {x1 : State} (hx1 : Kept s x1) {x2 x3 x4 x5 x6} : Kept s (State.iramWrite x1 x2 x3 x4 x5 x6) := by
  unfold State.iramWrite
  exact (kept_ite (State.decodeErr_kept (State.logFault_kept (State.when_kept hx1 (fun _ h2 => by exact (State.log_kept h2))))) (kept_ite (State.iramPut_kept (State.when_kept hx1 (fun _ h2 => by exact (State.log_kept h2)))) (State.decodeErr_kept (State.when_kept hx1 (fun _ h2 => by exact (State.log_kept h2))))))

theorem State.iramWords_kept {a n} : ∀ {l : List Nat} {off} {t : State}, Kept s t → Kept s (State.iramWords t a n off l)
  | _ :: _ :: _ :: _ :: _, _, _, h => by rw [State.iramWords]; exact iramWords_kept (State.iramWrite_kept h)
  | [], _, _, h => h
  | [_], _, _, h => State.iramWrite_kept h
  | [_, _], _, _, h => State.iramWrite_kept h
  | [_, _, _], _, _, h => State.iramWrite_kept h

theorem State.settingEvent_kept {x1 : State} (hx1 : Kept s x1) {x2 x3 x4} : Kept s (State.settingEvent x1 x2 x3 x4) := by
  unfold State.settingEvent
  exact (State.extend_kept hx1)

theorem State.memWrite_kept {x1 : State} (hx1 : Kept s x1) {x2 x3 x4} : Kept s (State.memWrite x1 x2 x3 x4) := by
  unfold State.memWrite
  exact (kept_ite (State.decodeErr_kept hx1) (kept_ite (State.iramWords_kept hx1) (kept_ite hx1 (State.storeAround_kept hx1))))

end Sys2Proof.Machine
end

