-- ==== Sys2Proof/Laws/KeptDram.lean ====
section
/-! SUPPORT. What the operations of Machine/Dram.lean keep, one lemma each (Laws/Kept.lean). -/

namespace Sys2Proof.Machine

variable {s : State}

theorem State.drInit_kept {x1 : State} (hx1 : Kept s x1) {x2} : Kept s (State.drInit x1 x2) := by
  unfold State.drInit
  exact (kept_ite hx1 (kept_ite (State.log_kept hx1) (State.clr_kept (State.clr_kept (State.set1_kept (by exact Kept.same hx1 rfl))))))

theorem State.drInitDone_kept {x1 : State} (hx1 : Kept s x1) {x2 x3} : Kept s (State.drInitDone x1 x2 x3) := by
  unfold State.drInitDone
  exact (kept_ite (kept_ite (State.setFld_kept (State.setFld_kept (State.set1_kept (State.clr_kept hx1)))) (State.logFault_kept (State.clr_kept hx1))) hx1)

theorem State.drZero_kept {x1 : State} (hx1 : Kept s x1) {x2} : Kept s (State.drZero x1 x2) := by
  unfold State.drZero
  exact (kept_ite hx1 (by exact Kept.memTo (State.set1_kept hx1) memClear_wf))

theorem State.drError_kept {x1 : State} (hx1 : Kept s x1) {x2 x3} : Kept s (State.drError x1 x2 x3) := by
  unfold State.drError
  exact (kept_ite hx1 (kept_ite (State.logFault_kept (State.engEv_kept (State.rcAdd_kept hx1))) (kept_ite (State.logFault_kept (State.set1_kept (State.setFld_kept (State.setFld_kept (State.rcAdd_kept (by exact Kept.same hx1 rfl)))))) hx1)))

theorem State.ctrlReset_kept {x1 : State} (hx1 : Kept s x1) {x2} : Kept s (State.ctrlReset x1 x2) := by
  unfold State.ctrlReset
  exact (by exact Kept.same (State.setFld_kept hx1) rfl)

theorem State.ctrlDrained_kept {x1 : State} (hx1 : Kept s x1) {x2} : Kept s (State.ctrlDrained x1 x2) := by
  unfold State.ctrlDrained
  exact (State.setFld_kept hx1)

end Sys2Proof.Machine
end

