-- ==== Sys2Proof/Laws/KeptKeys.lean ====
section
/-! SUPPORT. What the operations of Machine/Keys.lean keep, one lemma each (Laws/Kept.lean). -/

namespace Sys2Proof.Machine

variable {s : State}

theorem State.setStatus_kept {x1 : State} (hx1 : Kept s x1) {x2 x3 x4 x5 x6 x7 x8} : Kept s (State.setStatus x1 x2 x3 x4 x5 x6 x7 x8) := by
  unfold State.setStatus
  exact (State.setFld_kept (State.setFld_kept (State.setFld_kept (State.setFld_kept (State.setFld_kept (State.setFld_kept hx1))))))

theorem State.setSlot_kept {x1 : State} (hx1 : Kept s x1) {x2 x3} : Kept s (State.setSlot x1 x2 x3) := by
  unfold State.setSlot
  exact (by exact Kept.same hx1 rfl)

theorem State.putSlot_kept {x1 : State} (hx1 : Kept s x1) {x2 x3} : Kept s (State.putSlot x1 x2 x3) := by
  unfold State.putSlot
  exact (State.setSlot_kept hx1)

theorem State.putAsym_kept {x1 : State} (hx1 : Kept s x1) {x2 x3 x4 x5} : Kept s (State.putAsym x1 x2 x3 x4 x5) := by
  unfold State.putAsym
  exact (State.putSlot_kept (State.setStatus_kept hx1))

theorem State.putSym_kept {x1 : State} (hx1 : Kept s x1) {x2 x3 x4 x5 x6} : Kept s (State.putSym x1 x2 x3 x4 x5 x6) := by
  unfold State.putSym
  exact (State.putSlot_kept (State.setStatus_kept hx1))

theorem State.deriveIds_kept {x1 : State} (hx1 : Kept s x1) : Kept s (State.deriveIds x1) := by
  unfold State.deriveIds
  exact (State.putAsym_kept (State.putAsym_kept hx1))

theorem State.deriveSlot_kept {x1 : State} (hx1 : Kept s x1) {x2 x3 x4} : Kept s (State.deriveSlot x1 x2 x3 x4) := by
  unfold State.deriveSlot
  exact (by
 try dsimp only
 split
 · exact (State.putSym_kept hx1)
 · exact (State.putSym_kept hx1)
 · exact (State.putAsym_kept hx1))

theorem State.emptySlot_kept {x1 : State} (hx1 : Kept s x1) {x2} : Kept s (State.emptySlot x1 x2) := by
  unfold State.emptySlot
  exact (State.setSlot_kept (State.setStatus_kept hx1))

theorem State.killSlot_kept {x1 : State} (hx1 : Kept s x1) {x2} : Kept s (State.killSlot x1 x2) := by
  unfold State.killSlot
  exact (State.setFld_kept hx1)

theorem State.killChildren_kept {x1 : State} (hx1 : Kept s x1) {x2} : Kept s (State.killChildren x1 x2) := by
  unfold State.killChildren
  exact (kept_foldl hx1 (fun _ h2 _ => by exact (kept_ite (State.killSlot_kept h2) h2)))

theorem State.kekDead_kept {x1 : State} (hx1 : Kept s x1) {x2} : Kept s (State.kekDead x1 x2) := by
  unfold State.kekDead
  exact (kept_foldl hx1 (fun _ h2 _ => by exact (kept_ite h2 (State.killChildren_kept h2))))

theorem State.famApply_kept {x1 : State} (hx1 : Kept s x1) {x2 x3} : Kept s (State.famApply x1 x2 x3) := by
  unfold State.famApply
  exact (kept_ite hx1 (kept_ite (State.deriveSlot_kept (kept_ite (State.deriveSlot_kept (by exact Kept.same hx1 rfl)) (State.emptySlot_kept (by exact Kept.same hx1 rfl)))) (State.emptySlot_kept (kept_ite (State.deriveSlot_kept (by exact Kept.same hx1 rfl)) (State.emptySlot_kept (by exact Kept.same hx1 rfl))))))

theorem State.genApply_kept {x1 : State} (hx1 : Kept s x1) {x2} : Kept s (State.genApply x1 x2) := by
  unfold State.genApply
  exact (State.setFld_kept (kept_foldl hx1 (fun _ h2 _ => by exact (State.famApply_kept h2))))

theorem State.ksRefuse_kept {x1 : State} (hx1 : Kept s x1) {x2 x3 x4} : Kept s (State.ksRefuse x1 x2 x3 x4) := by
  unfold State.ksRefuse
  exact (State.logFault_kept (State.set1_kept (State.setFld_kept (State.setFld_kept (State.setFld_kept hx1)))))

theorem State.ksRefuseBy_kept {x1 : State} (hx1 : Kept s x1) {x2 x3 x4} : Kept s (State.ksRefuseBy x1 x2 x3 x4) := by
  unfold State.ksRefuseBy
  exact (kept_ite (State.ksRefuse_kept (State.free_kept hx1)) (State.ksRefuse_kept hx1))

theorem State.ksOp_kept {x1 : State} (hx1 : Kept s x1) {x2 x3} {x4 : State → State × Bool} (hx4 : ∀ y1, Kept s y1 → Kept s ((x4 y1)).1) : Kept s ((State.ksOp x1 x2 x3 x4)).1 := by
  unfold State.ksOp
  exact (kept_ite_fst (kept_fst (State.ksRefuseBy_kept hx1)) (hx4 _ hx1))

theorem State.keyGate_kept {x1 : State} (hx1 : Kept s x1) {x2 x3} {x4 : State → State} (hx4 : ∀ y1, Kept s y1 → Kept s (x4 y1)) : Kept s (State.keyGate x1 x2 x3 x4) := by
  unfold State.keyGate
  exact (kept_ite (hx4 _ (State.debugNote_kept hx1)) (kept_ite (State.ksRefuseBy_kept (State.gateLog_kept (State.debugNote_kept hx1))) (State.gateLog_kept (State.debugNote_kept hx1))))

theorem State.stageShow_kept {x1 : State} (hx1 : Kept s x1) {x2} : Kept s (State.stageShow x1 x2) := by
  unfold State.stageShow
  exact (State.setFld_kept (State.setFld_kept hx1))

theorem State.stageAdd_kept {x1 : State} (hx1 : Kept s x1) {x2} : Kept s (State.stageAdd x1 x2) := by
  unfold State.stageAdd
  exact (State.stageShow_kept (by exact Kept.same hx1 rfl))

theorem State.ksStage_kept {x1 : State} (hx1 : Kept s x1) {x2 x3 x4} : Kept s ((State.ksStage x1 x2 x3 x4)).1 := by
  unfold State.ksStage
  exact (State.ksOp_kept hx1 (fun _ h2 => by exact (kept_ite_fst (kept_fst (State.ksRefuse_kept h2)) (kept_ite_fst (kept_fst (State.ksRefuse_kept h2)) (kept_ite_fst (kept_fst (State.ksRefuse_kept h2)) (kept_fst (State.stageAdd_kept (kept_ite (State.free_kept h2) h2))))))))

theorem State.ksDiscard_kept {x1 : State} (hx1 : Kept s x1) {x2} : Kept s (State.ksDiscard x1 x2) := by
  unfold State.ksDiscard
  exact (kept_foldl (by exact Kept.same hx1 rfl) (fun _ h3 _ => by exact (State.stageShow_kept h3)))

theorem State.ksImport_kept {x1 : State} (hx1 : Kept s x1) {x2} : Kept s (State.ksImport x1 x2) := by
  unfold State.ksImport
  exact (State.putSlot_kept (State.setStatus_kept hx1))

theorem State.ksApply_kept {x1 : State} (hx1 : Kept s x1) {x2} : Kept s (State.ksApply x1 x2) := by
  unfold State.ksApply
  exact (kept_foldl (kept_foldl (State.ksDiscard_kept hx1) (fun _ h2 _ => by exact (State.ksImport_kept h2))) (fun _ h3 _ => by exact (by
 try dsimp only
 split
 · exact (State.extend_kept h3)
 · exact h3)))

theorem State.ksCommit_kept {x1 : State} (hx1 : Kept s x1) : Kept s (State.ksCommit x1) := by
  unfold State.ksCommit
  exact (kept_ite (by exact Kept.same hx1 rfl) (kept_ite (State.ksRefuse_kept hx1) (kept_ite hx1 (kept_ite (State.ksRefuse_kept hx1) (kept_ite (State.ksApply_kept hx1) (kept_ite (State.ksRefuse_kept hx1) (by exact Kept.same (State.set1_kept hx1) rfl)))))))

theorem State.ksDerived_kept {x1 : State} (hx1 : Kept s x1) : Kept s (State.ksDerived x1) := by
  unfold State.ksDerived
  exact (by
 try dsimp only
 split
 · exact (kept_ite (State.ksCommit_kept (State.kekDead_kept (State.genApply_kept (State.ksApply_kept (State.clr_kept (by exact Kept.same hx1 rfl)))))) (State.kekDead_kept (State.genApply_kept (State.ksApply_kept (State.clr_kept (by exact Kept.same hx1 rfl))))))
 · exact hx1)

theorem State.ksCommitSeq_kept {t : State} (h : Kept s t) {n} : Kept s (State.ksCommitSeq t n).1 := by
  unfold State.ksCommitSeq
  exact State.ksOp_kept h fun _ g => by dsimp only; exact State.ksApply_kept g

theorem State.ksInval_kept {x1 : State} (hx1 : Kept s x1) {x2 x3} : Kept s ((State.ksInval x1 x2 x3)).1 := by
  unfold State.ksInval
  exact (State.ksOp_kept hx1 (fun _ h2 => by exact (kept_ite_fst (kept_fst (State.ksRefuse_kept h2)) (kept_fst (State.kekDead_kept (State.killSlot_kept h2))))))

theorem State.tagFail_kept {x1 : State} (hx1 : Kept s x1) {x2} : Kept s (State.tagFail x1 x2) := by
  unfold State.tagFail
  exact (kept_ite hx1 (State.logFault_kept (State.set1_kept (State.setFld_kept hx1))))

theorem State.deriveAgain_kept {x1 : State} (hx1 : Kept s x1) {x2} : Kept s (State.deriveAgain x1 x2) := by
  unfold State.deriveAgain
  exact (kept_ite (kept_ite (State.putAsym_kept hx1) (kept_ite (State.putAsym_kept hx1) (kept_ite (State.deriveSlot_kept hx1) hx1))) hx1)

theorem State.ksZero_kept {x1 : State} (hx1 : Kept s x1) : Kept s (State.ksZero x1) := by
  unfold State.ksZero
  exact (by exact Kept.same (State.setFld_kept (State.setFld_kept (State.setFld_kept (State.clr_kept (State.clr_kept (kept_foldl hx1 (fun _ h2 _ => by exact (State.clr_kept (State.emptySlot_kept h2))))))))) rfl)

theorem State.cmdBad_kept {x1 : State} (hx1 : Kept s x1) {x2 x3 x4} : Kept s (State.cmdBad x1 x2 x3 x4) := by
  unfold State.cmdBad
  exact (State.set1_kept (State.ksRefuseBy_kept hx1))

theorem State.cmdStart_kept {x1 : State} (hx1 : Kept s x1) {x2 x3 x4} : Kept s (State.cmdStart x1 x2 x3 x4) := by
  unfold State.cmdStart
  exact (kept_ite (State.cmdBad_kept hx1) (kept_ite (State.cmdBad_kept hx1) (by exact Kept.same (State.set1_kept hx1) rfl)))

theorem State.cmdRun_kept {t : State} (h : Kept s t) {c u} (e : State.cmdRun t c = .ok u) : Kept s u := by
  unfold State.cmdRun at e
  repeat' split at e
  all_goals first | cases e | skip
  · exact State.memWrite_kept h
  · exact State.stageAdd_kept h
  · exact State.memWrite_kept h

theorem State.cmdDone_kept {t : State} (h : Kept s t) : Kept s (State.cmdDone t) := by
  unfold State.cmdDone
  split
  · split
    · exact h
    · dsimp only
      split
      · next he => exact State.set1_kept (State.cmdRun_kept (Kept.same (State.clr_kept h) rfl) he)
      · exact State.set1_kept (State.ksRefuse_kept (Kept.same (State.clr_kept h) rfl))
  · exact h

theorem State.signBy_kept {x1 : State} (hx1 : Kept s x1) {x2 x3} : Kept s ((State.signBy x1 x2 x3)).2 := by
  unfold State.signBy
  exact (kept_ite_snd (kept_snd (State.free_kept hx1)) (kept_snd (State.free_kept hx1)))

theorem State.stmtRequest_kept {x1 : State} (hx1 : Kept s x1) {x2 x3} : Kept s (State.stmtRequest x1 x2 x3) := by
  unfold State.stmtRequest
  exact (kept_ite (State.setFld_kept hx1) (kept_ite (State.ksRefuseBy_kept (State.setFld_kept hx1)) (kept_ite (State.ksRefuseBy_kept (State.setFld_kept hx1)) (kept_ite (State.ksRefuseBy_kept (State.setFld_kept hx1)) (by exact Kept.same (State.set1_kept (State.setFld_kept hx1)) rfl)))))

theorem State.lcAdvance_kept {x1 : State} (hx1 : Kept s x1) {x2 x3 x4 x5 x6} : Kept s (State.lcAdvance x1 x2 x3 x4 x5 x6) := by
  unfold State.lcAdvance
  exact (kept_ite hx1 (kept_ite (State.set1_kept (State.setFld_kept hx1)) (kept_ite (by exact Kept.same (State.set1_kept hx1) rfl) (by exact Kept.same (State.clr_kept hx1) rfl))))

theorem State.lcGate_kept {x1 : State} (hx1 : Kept s x1) {x2 x3 x4 x5 x6} : Kept s (State.lcGate x1 x2 x3 x4 x5 x6) := by
  unfold State.lcGate
  exact (State.lcAdvance_kept (kept_ite (State.debugNote_kept hx1) (State.gateLog_kept (State.debugNote_kept hx1))))

theorem State.cmdGate_kept {x1 : State} (hx1 : Kept s x1) {x2 x3 x4} : Kept s (State.cmdGate x1 x2 x3 x4) := by
  unfold State.cmdGate
  exact (kept_ite (State.set1_kept (State.keyGate_kept hx1 (fun _ h2 => by exact (State.cmdStart_kept h2)))) (State.keyGate_kept hx1 (fun _ h2 => by exact (State.cmdStart_kept h2))))

theorem State.lcPrepared_kept {x1 : State} (hx1 : Kept s x1) : Kept s (State.lcPrepared x1) := by
  unfold State.lcPrepared
  exact (by
 try dsimp only
 split
 · exact (State.set1_kept (State.setFld_kept (State.signBy_kept hx1)))
 · exact hx1)

theorem State.lcBlown_kept {x1 : State} (hx1 : Kept s x1) : Kept s (State.lcBlown x1) := by
  unfold State.lcBlown
  exact (by
 try dsimp only
 split
 · exact (by exact Kept.same (State.set1_kept (State.clr_kept (State.ksZero_kept hx1))) rfl)
 · exact hx1)

theorem State.seqReset_kept {x1 : State} (hx1 : Kept s x1) {x2} : Kept s (State.seqReset x1 x2) := by
  unfold State.seqReset
  exact (State.ksDiscard_kept (State.seqResetCore_kept hx1))

theorem State.seqResetWrite_kept {x1 : State} (hx1 : Kept s x1) {x2} : Kept s (State.seqResetWrite x1 x2) := by
  unfold State.seqResetWrite
  exact (kept_ite (State.log_kept hx1) (State.seqReset_kept hx1))

end Sys2Proof.Machine
end

