-- ==== Sys2Proof/Laws/KeptSynth.lean ====
section
/-! SUPPORT. What the operations of Machine/Synth.lean keep, one lemma each (Laws/Kept.lean). -/

namespace Sys2Proof.Machine

variable {s : State}

theorem State.bandSelect_kept {x1 : State} (hx1 : Kept s x1) : Kept s (State.bandSelect x1) := by
  unfold State.bandSelect
  exact (by
 try dsimp only
 split
 · exact (State.setFld_kept hx1)
 · exact (State.log_kept (State.setFld_kept (State.free_kept hx1))))

theorem State.rootLatch_kept {x1 : State} (hx1 : Kept s x1) : Kept s (State.rootLatch x1) := by
  unfold State.rootLatch
  exact (by exact Kept.same (State.bandSelect_kept (State.setFld_kept (State.when_kept hx1 (fun _ h2 => by exact (State.log_kept h2))))) rfl)

theorem State.rootStep5_kept {x1 : State} (hx1 : Kept s x1) : Kept s (State.rootStep5 x1) := by
  unfold State.rootStep5
  exact (kept_ite (State.rootLatch_kept (by exact Kept.same (State.clr_kept hx1) rfl)) (by exact Kept.same (State.clr_kept hx1) rfl))

theorem State.setPll_kept {x1 : State} (hx1 : Kept s x1) {x2 x3} : Kept s (State.setPll x1 x2 x3) := by
  unfold State.setPll
  exact (by exact Kept.same hx1 rfl)

theorem State.setCk_kept {x1 : State} (hx1 : Kept s x1) {x2 x3} : Kept s (State.setCk x1 x2 x3) := by
  unfold State.setCk
  exact (by exact Kept.same hx1 rfl)

theorem State.ckoRun_kept {x1 : State} (hx1 : Kept s x1) {x2} : Kept s (State.ckoRun x1 x2) := by
  unfold State.ckoRun
  exact (State.emit_kept hx1)

theorem State.ckoRest_kept {x1 : State} (hx1 : Kept s x1) {x2} : Kept s (State.ckoRest x1 x2) := by
  unfold State.ckoRest
  exact (State.emit_kept hx1)

theorem State.ckoHold1_kept {x1 : State} (hx1 : Kept s x1) {x2} : Kept s (State.ckoHold1 x1 x2) := by
  unfold State.ckoHold1
  exact (State.setCk_kept (State.clr_kept (State.clr_kept (State.set1_kept (State.when_kept hx1 (fun _ h2 => by exact (State.ckoRest_kept h2)))))))

theorem State.ckoHoldOf_kept {x1 : State} (hx1 : Kept s x1) {x2} : Kept s (State.ckoHoldOf x1 x2) := by
  unfold State.ckoHoldOf
  exact (kept_foldl (State.setPll_kept hx1) (fun _ h2 _ => by exact (kept_ite (State.ckoHold1_kept h2) h2)))

theorem State.ckoHoldAll_kept {x1 : State} (hx1 : Kept s x1) : Kept s (State.ckoHoldAll x1) := by
  unfold State.ckoHoldAll
  exact (kept_foldl hx1 (fun _ h2 _ => by exact (State.ckoHoldOf_kept h2)))

theorem State.ckoSrc_kept {x1 : State} (hx1 : Kept s x1) {x2} : Kept s (State.ckoSrc x1 x2) := by
  unfold State.ckoSrc
  exact (State.setFld_kept hx1)

theorem State.toSafe_kept {x1 : State} (hx1 : Kept s x1) : Kept s (State.toSafe x1) := by
  unfold State.toSafe
  exact (kept_ite hx1 (State.widenAdd_kept (State.poHoldBegin_kept (State.tmSafeBegin_kept (by exact Kept.same (State.set1_kept (State.set1_kept hx1)) rfl)))))

theorem State.dramSleep_kept {x1 : State} (hx1 : Kept s x1) : Kept s (State.dramSleep x1) := by
  unfold State.dramSleep
  exact (State.set1_kept (State.set1_kept hx1))

theorem State.relockStart_kept {x1 : State} (hx1 : Kept s x1) : Kept s (State.relockStart x1) := by
  unfold State.relockStart
  exact (State.engEv_kept (State.rootStep5_kept (State.dramSleep_kept (State.toSafe_kept (by exact Kept.same (State.ckoHoldAll_kept (State.set1_kept hx1)) rfl)))))

theorem State.relockCmd_kept {x1 : State} (hx1 : Kept s x1) {x2} : Kept s (State.relockCmd x1 x2) := by
  unfold State.relockCmd
  exact (kept_ite (by exact Kept.same hx1 rfl) (kept_ite (State.relockStart_kept (State.when_kept hx1 (fun _ h2 => by exact (State.set1_kept h2)))) (State.rootStep5_kept (State.when_kept hx1 (fun _ h2 => by exact (State.set1_kept h2))))))

theorem State.sweepBarred_kept {x1 : State} (hx1 : Kept s x1) : Kept s (State.sweepBarred x1) := by
  unfold State.sweepBarred
  exact (State.when_kept hx1 (fun _ h2 => by exact (State.log_kept h2)))

theorem State.rootCmd_kept {x1 : State} (hx1 : Kept s x1) {x2 x3} : Kept s (State.rootCmd x1 x2 x3) := by
  unfold State.rootCmd
  exact (kept_ite (kept_ite (State.log_kept hx1) (kept_ite (State.log_kept hx1) (State.relockCmd_kept hx1))) (kept_ite (kept_ite hx1 (State.relockCmd_kept hx1)) hx1))

theorem State.lockLoss_kept {x1 : State} (hx1 : Kept s x1) : Kept s (State.lockLoss x1) := by
  unfold State.lockLoss
  exact (kept_ite (kept_ite (State.rootStep5_kept (State.log_kept (State.warmLost_kept (State.clr_kept (State.set1_kept hx1))))) (State.relockStart_kept (State.log_kept (State.warmLost_kept (State.clr_kept (State.set1_kept hx1)))))) hx1)

theorem State.switchback_kept {x1 : State} (hx1 : Kept s x1) : Kept s (State.switchback x1) := by
  unfold State.switchback
  exact (State.widenAdd_kept (State.tmRootReturn_kept (by exact Kept.same (State.clr_kept hx1) rfl)))

theorem State.opllStart_kept {x1 : State} (hx1 : Kept s x1) {x2} : Kept s (State.opllStart x1 x2) := by
  unfold State.opllStart
  exact (State.ckoHoldOf_kept (State.setPll_kept (State.set1_kept (State.clr_kept hx1))))

theorem State.meffUpdate_kept {x1 : State} (hx1 : Kept s x1) {x2} : Kept s (State.meffUpdate x1 x2) := by
  unfold State.meffUpdate
  exact (kept_ite hx1 (kept_ite (State.opllStart_kept (State.setFld_kept hx1)) (State.setFld_kept hx1)))

theorem State.multWrite_kept {x1 : State} (hx1 : Kept s x1) {x2 x3} : Kept s (State.multWrite x1 x2 x3) := by
  unfold State.multWrite
  exact (kept_ite (State.meffUpdate_kept (State.setFld_kept (State.setFld_kept hx1))) (State.log_kept hx1))

theorem State.opllTick_kept {x1 : State} (hx1 : Kept s x1) : Kept s (State.opllTick x1) := by
  unfold State.opllTick
  exact (kept_foldl hx1 (fun _ h2 _ => by exact (State.meffUpdate_kept h2)))

theorem State.opllEnable_kept {x1 : State} (hx1 : Kept s x1) {x2} : Kept s (State.opllEnable x1 x2) := by
  unfold State.opllEnable
  exact (State.opllStart_kept (State.set1_kept hx1))

theorem State.opllDisable_kept {x1 : State} (hx1 : Kept s x1) {x2} : Kept s (State.opllDisable x1 x2) := by
  unfold State.opllDisable
  exact (State.setFld_kept (State.clr_kept (State.clr_kept (State.clr_kept hx1))))

theorem State.ckoRelease1_kept {x1 : State} (hx1 : Kept s x1) {x2} : Kept s (State.ckoRelease1 x1 x2) := by
  unfold State.ckoRelease1
  exact (State.when_kept (State.setCk_kept (State.clr_kept hx1)) (fun _ h3 => by exact (State.ckoRun_kept h3)))

theorem State.ckoRelease_kept {x1 : State} (hx1 : Kept s x1) {x2} : Kept s (State.ckoRelease x1 x2) := by
  unfold State.ckoRelease
  exact (kept_foldl (State.setPll_kept hx1) (fun _ h2 _ => by exact (kept_ite (State.ckoRelease1_kept h2) h2)))

theorem State.ckoEnable_kept {x1 : State} (hx1 : Kept s x1) {x2} : Kept s (State.ckoEnable x1 x2) := by
  unfold State.ckoEnable
  exact (kept_ite (State.setCk_kept (State.when_kept (State.when_kept (State.clr_kept (State.set1_kept hx1)) (fun _ h3 => by exact (State.log_kept h3))) (fun _ h4 => by exact (State.log_kept h4)))) (State.when_kept (State.setCk_kept (State.when_kept (State.when_kept (State.clr_kept (State.set1_kept hx1)) (fun _ h3 => by exact (State.log_kept h3))) (fun _ h4 => by exact (State.log_kept h4)))) (fun _ h6 => by exact (State.ckoRun_kept h6))))

theorem State.ckoDisable_kept {x1 : State} (hx1 : Kept s x1) {x2} : Kept s (State.ckoDisable x1 x2) := by
  unfold State.ckoDisable
  exact (State.when_kept (State.when_kept (State.setCk_kept (State.setFld_kept (State.clr_kept (State.clr_kept (State.clr_kept hx1))))) (fun _ h3 => by exact (State.ckoRest_kept h3))) (fun _ h4 => by exact (State.set1_kept h4)))

theorem State.ckoRetire_kept {x1 : State} (hx1 : Kept s x1) {x2} : Kept s (State.ckoRetire x1 x2) := by
  unfold State.ckoRetire
  exact (State.when_kept (State.setCk_kept (State.clr_kept (State.clr_kept (State.clr_kept hx1)))) (fun _ h2 => by exact (State.ckoRest_kept h2)))

theorem State.ckoBack_kept {x1 : State} (hx1 : Kept s x1) {x2} : Kept s (State.ckoBack x1 x2) := by
  unfold State.ckoBack
  exact (kept_ite (State.ckoEnable_kept hx1) hx1)

theorem State.ckoOf_kept {x1 : State} (hx1 : Kept s x1) {x2} {x3 : State → ℕ → State} (hx3 : ∀ y1, Kept s y1 → ∀ y2, Kept s (x3 y1 y2)) : Kept s (State.ckoOf x1 x2 x3) := by
  unfold State.ckoOf
  exact (kept_foldl hx1 (fun _ h3 _ => by exact (kept_ite (hx3 _ h3 _) h3)))

theorem execBandSweepComplete_kept {x1 x2} {x3 : State} (hx3 : Kept s x3) : KeptO s (execBandSweepComplete x1 x2 x3) := by
  unfold execBandSweepComplete
  exact (kept_ite_O (kept_ite (State.rootLatch_kept (State.clr_kept (kept_foldl hx3 (fun _ h2 _ => by exact (State.set1_kept (State.setFld_kept (State.setFld_kept h2))))))) hx3) trivial)

theorem execRootLockDeclared_kept {x1 : State} (hx1 : Kept s x1) : KeptO s (execRootLockDeclared x1) := by
  unfold execRootLockDeclared
  exact (kept_ite (by exact Kept.same (State.set1_kept hx1) rfl) hx1)

theorem execSafeMeasWindow_kept {x1} {x2 : State} (hx2 : Kept s x2) : KeptO s (execSafeMeasWindow x1 x2) := by
  unfold execSafeMeasWindow
  exact (kept_ite (by exact Kept.same (State.when_kept (State.setFld_kept hx2) (fun _ h3 => by exact (State.setFld_kept h3))) rfl) hx2)

theorem execOpllEnable_kept {x1} {x2 : State} (hx2 : Kept s x2) : KeptO s (execOpllEnable x1 x2) := by
  unfold execOpllEnable
  exact (kept_ite_O (kept_ite hx2 (State.opllEnable_kept hx2)) trivial)

theorem execOpllMultWrite_kept {x1 x2 x3} {x4 : State} (hx4 : Kept s x4) : KeptO s (execOpllMultWrite x1 x2 x3 x4) := by
  unfold execOpllMultWrite
  exact (kept_ite_O (State.gate_kept hx4 (fun _ h2 => by exact (State.multWrite_kept h2))) trivial)

theorem execOpllLocked_kept {x1 x2} {x3 : State} (hx3 : Kept s x3) : KeptO s (execOpllLocked x1 x2 x3) := by
  unfold execOpllLocked
  exact (kept_ite_O (kept_ite (State.setPll_kept (State.setFld_kept hx3)) hx3) trivial)

theorem execOpllSettled_kept {x1} {x2 : State} (hx2 : Kept s x2) : KeptO s (execOpllSettled x1 x2) := by
  unfold execOpllSettled
  exact (kept_ite_O (by
 try dsimp only
 split
 · exact (kept_ite (State.ckoRelease_kept (State.clr_kept (State.set1_kept hx2))) hx2)
 · exact hx2) trivial)

theorem execCkoEnable_kept {x1} {x2 : State} (hx2 : Kept s x2) : KeptO s (execCkoEnable x1 x2) := by
  unfold execCkoEnable
  exact (kept_ite_O (kept_ite hx2 (State.ckoEnable_kept hx2)) trivial)

theorem execCkoDisable_kept {x1} {x2 : State} (hx2 : Kept s x2) : KeptO s (execCkoDisable x1 x2) := by
  unfold execCkoDisable
  exact (kept_ite_O (kept_ite (State.ckoDisable_kept hx2) hx2) trivial)

theorem State.ckoGuard_kept {x1 : State} (hx1 : Kept s x1) {x2 x3 x4} : Kept s (State.ckoGuard x1 x2 x3 x4) := by
  unfold State.ckoGuard
  exact (kept_ite (kept_ite (State.emit_kept hx1) hx1) (kept_ite (kept_ite (State.engEv_kept (State.rcAdd_kept hx1)) (State.engEv_kept (State.logFault_kept (State.set1_kept (State.rcAdd_kept hx1))))) (kept_ite (kept_ite (kept_ite (State.engEv_kept (State.rcAdd_kept (State.free_kept hx1))) (State.engEv_kept (State.logFault_kept (State.set1_kept (State.rcAdd_kept (State.free_kept hx1)))))) (State.free_kept hx1)) hx1)))

theorem execCkoGuardSuppress_kept {x1 x2 x3} {x4 : State} (hx4 : Kept s x4) : KeptO s (execCkoGuardSuppress x1 x2 x3 x4) := by
  unfold execCkoGuardSuppress
  exact (kept_ite_O (kept_ite (State.ckoGuard_kept hx4) hx4) trivial)

theorem State.ckoAlign_kept {x1 : State} (hx1 : Kept s x1) {x2} : Kept s (State.ckoAlign x1 x2) := by
  unfold State.ckoAlign
  exact (State.ckoRun_kept (State.emit_kept (State.setCk_kept (State.set1_kept hx1))))

theorem execCkoAlignStart_kept {x1} {x2 : State} (hx2 : Kept s x2) : KeptO s (execCkoAlignStart x1 x2) := by
  unfold execCkoAlignStart
  exact (kept_ite_O (by
 try dsimp only
 split
 · exact (kept_ite (State.ckoAlign_kept hx2) hx2)
 · exact hx2) trivial)

theorem execCkoAligned_kept {x1} {x2 : State} (hx2 : Kept s x2) : KeptO s (execCkoAligned x1 x2) := by
  unfold execCkoAligned
  exact (kept_ite_O (kept_ite (State.set1_kept (State.clr_kept hx2)) hx2) trivial)

end Sys2Proof.Machine
end

