-- ==== Sys2Proof/Laws/KeptBoot.lean ====
section
/-! SUPPORT. What the operations of Machine/Boot.lean keep, one lemma each (Laws/Kept.lean). -/

namespace Sys2Proof.Machine

variable {s : State}

theorem State.coldReset_kept {x1 : State} (hx1 : Kept s x1) : Kept s (State.coldReset x1) := by
  unfold State.coldReset
  exact (State.resetBase_kept hx1)

theorem State.keepRegs_kept {x1 : State} (hx1 : Kept s x1) {x2 : State} (hx2 : Kept s x2) {x3} : Kept s (State.keepRegs x1 x2 x3) := by
  unfold State.keepRegs
  exact (kept_foldl hx1 (fun _ h3 _ => by exact (kept_foldl h3 (fun _ h4 _ => by exact (State.setFld_kept h4)))))

theorem State.warmBase_kept {t : State} (h : Kept s t) : Kept s (State.warmBase t) := by
  have g := State.keepRegs_kept (x3 := warmKept) (State.resetBase_kept h) h
  unfold State.warmBase
  generalize t.resetBase.keepRegs t warmKept = w at g ⊢
  exact ⟨g.pending, g.free, g.out, fun m => warmMem_wf (h.mem m), g.hostMem, g.queue⟩

theorem State.cause_kept {x1 : State} (hx1 : Kept s x1) {x2} : Kept s (State.cause x1 x2) := by
  unfold State.cause
  exact (State.setFld_kept (State.setFld_kept (State.setFld_kept (State.clr_kept hx1))))

theorem State.powerUp_kept {x1 : State} (hx1 : Kept s x1) : Kept s (State.powerUp x1) := by
  unfold State.powerUp
  exact (State.set1_kept (State.set1_kept (State.setPc_kept (State.clr_kept (State.seqResetCore_kept (State.extend_kept (State.setFld_kept (by exact Kept.same (State.free_kept hx1) rfl))))))))

theorem State.warmReset_kept {x1 : State} (hx1 : Kept s x1) {x2} : Kept s (State.warmReset x1 x2) := by
  unfold State.warmReset
  exact (State.rootCmd_kept (State.powerUp_kept (State.cause_kept (State.warmBase_kept hx1))))

theorem State.peReset_kept {x1 : State} (hx1 : Kept s x1) : Kept s (State.peReset x1) := by
  unfold State.peReset
  exact (by exact Kept.same (State.ksDiscard_kept (State.dropHeld_kept (State.dropHeld_kept (State.setFld_kept (kept_foldl (State.resetFlds_kept hx1) (fun _ h3 _ => by exact (State.setFld_kept h3))))))) rfl)

theorem State.checkImage_kept {x1 : State} (hx1 : Kept s x1) {x2 x3} : Kept s (((State.checkImage x1 x2 x3)).2).2 := by
  unfold State.checkImage
  exact (by
 split
 · exact (kept_snd hx1)
 · exact (by
 try dsimp only
 split
 · exact (kept_snd hx1)
 · exact (kept_snd hx1)
 · exact (kept_snd (State.free_kept hx1))))

theorem State.setting_kept {x1 : State} (hx1 : Kept s x1) {x2 x3 x4} : Kept s (State.setting x1 x2 x3 x4) := by
  unfold State.setting
  exact (kept_ite hx1 (State.settingEvent_kept (by
 try dsimp only
 split
 · exact (State.setFld_kept hx1)
 · exact (State.setFld_kept hx1)
 · exact (State.setFld_kept hx1)
 · exact (State.setFld_kept (State.setFld_kept hx1))
 · exact (State.setFld_kept hx1))))

theorem State.settingLoad_kept {x1 : State} (hx1 : Kept s x1) {x2 x3 x4} : Kept s (State.settingLoad x1 x2 x3 x4) := by
  unfold State.settingLoad
  exact (kept_ite (State.setting_kept hx1) (State.when_kept hx1 (fun _ h2 => by exact (State.log_kept h2))))

theorem State.copySect_kept {x1 : State} (hx1 : Kept s x1) {x2 x3} : Kept s (State.copySect x1 x2 x3) := by
  unfold State.copySect
  exact (by
 try dsimp only
 split
 · exact (State.iramWords_kept hx1)
 · exact (by exact Kept.memTo hx1 memPutBytes_wf)
 · exact (State.store_kept hx1)
 · exact (kept_foldl hx1 (fun _ h2 _ => by exact (State.settingLoad_kept h2))))

theorem State.iramLock_kept {x1 : State} (hx1 : Kept s x1) {x2} : Kept s (State.iramLock x1 x2) := by
  unfold State.iramLock
  exact (kept_ite hx1 (State.extend_kept (State.setFld_kept hx1)))

theorem State.loadEnd_kept {x1 : State} (hx1 : Kept s x1) {x2 x3} : Kept s (State.loadEnd x1 x2 x3) := by
  unfold State.loadEnd
  exact (by exact Kept.same (State.clr_kept (State.setFld_kept (State.setFld_kept hx1))) rfl)

theorem State.loadRun_kept {x1 : State} (hx1 : Kept s x1) : Kept s (State.loadRun x1) := by
  unfold State.loadRun
  exact (kept_ite (State.loadEnd_kept (State.setFld_kept (State.setFld_kept (State.set1_kept hx1)))) (kept_ite (State.logFault_kept (State.loadEnd_kept (State.extend_kept (State.checkImage_kept (State.setFld_kept (State.setFld_kept (State.set1_kept hx1))))))) (by exact Kept.same (State.extend_kept (kept_ite (kept_foldl (kept_foldl (State.extend_kept (State.checkImage_kept (State.setFld_kept (State.setFld_kept (State.set1_kept hx1))))) (fun _ h5 _ => by exact (State.copySect_kept h5))) (fun _ h6 _ => by exact (kept_ite (State.iramLock_kept h6) h6))) (kept_foldl (State.extend_kept (State.checkImage_kept (State.setFld_kept (State.setFld_kept (State.set1_kept hx1))))) (fun _ h5 _ => by exact (State.copySect_kept h5))))) rfl)))

theorem State.loadGo_kept {x1 : State} (hx1 : Kept s x1) : Kept s (State.loadGo x1) := by
  unfold State.loadGo
  exact (kept_ite hx1 (kept_ite (by exact Kept.same hx1 rfl) (State.loadRun_kept hx1)))

theorem State.romReady_kept {t : State} (h : Kept s t) : Kept s (State.romReady t) := by
  have w := State.resetFlds_kept (x2 := [GP_GPIO_DIR_DIR, GP_GPIO_OUT_OUT, GP_GPIO_PULL_PULL]) (x3 := 0) h
  unfold State.romReady
  generalize t.resetFlds [GP_GPIO_DIR_DIR, GP_GPIO_OUT_OUT, GP_GPIO_PULL_PULL] 0 = v at w ⊢
  exact kept_ite (State.loadGo_kept (by exact Kept.memTo (State.set1_kept w) (fun m => memClear_wf (memClear_wf m))))
    (by exact Kept.memTo (State.set1_kept w) (fun m => memClear_wf (memClear_wf m)))

theorem State.romTxn_kept {x1 : State} (hx1 : Kept s x1) {x2 x3} : Kept s (State.romTxn x1 x2 x3) := by
  unfold State.romTxn
  exact (kept_ite (State.raise_kept (State.decodeErr_kept hx1)) (State.txnFill_kept hx1))

theorem State.romDrain_kept {x1 : State} (hx1 : Kept s x1) : Kept s (State.romDrain x1) := by
  unfold State.romDrain
  exact (kept_foldl hx1 (fun _ h2 _ => by exact (kept_foldl (State.setSeq_kept h2) (fun _ h3 _ => by exact (State.romTxn_kept h3)))))

theorem State.launch_kept {x1 : State} (hx1 : Kept s x1) {x2} : Kept s (State.launch x1 x2) := by
  unfold State.launch
  exact (kept_ite (State.loadEnd_kept (kept_foldl (State.set1_kept (State.set1_kept (State.romDrain_kept (State.clr_kept (State.clr_kept hx1))))) (fun _ h4 _ => by exact (kept_ite (State.seqEnable_kept (State.seqReset_kept h4)) h4)))) (kept_foldl (State.set1_kept (State.set1_kept (State.romDrain_kept (State.clr_kept (State.clr_kept hx1))))) (fun _ h4 _ => by exact (kept_ite (State.seqEnable_kept (State.seqReset_kept h4)) h4))))

theorem State.hostExtend_kept {x1 : State} (hx1 : Kept s x1) {x2} : Kept s (State.hostExtend x1 x2) := by
  unfold State.hostExtend
  exact (kept_ite hx1 (State.set1_kept (State.extend_kept hx1)))

theorem State.modeAsk_kept {x1 : State} (hx1 : Kept s x1) {x2} : Kept s (State.modeAsk x1 x2) := by
  unfold State.modeAsk
  exact (by exact Kept.same hx1 rfl)

theorem State.modeJudge_kept {x1 : State} (hx1 : Kept s x1) : Kept s (State.modeJudge x1) := by
  unfold State.modeJudge
  exact (by
 try dsimp only
 split
 · exact (kept_ite (by exact Kept.same (by exact Kept.same hx1 rfl) rfl) (State.logFault_kept (State.set1_kept (State.setFld_kept (by exact Kept.same hx1 rfl)))))
 · exact hx1)

theorem State.modeTake_kept {x1 : State} (hx1 : Kept s x1) {x2} : Kept s (State.modeTake x1 x2) := by
  unfold State.modeTake
  exact (kept_ite (State.poHoldBegin_kept (by exact Kept.same (State.setFld_kept hx1) rfl)) (by exact Kept.same (State.setFld_kept hx1) rfl))

theorem State.modeGo_kept {x1 : State} (hx1 : Kept s x1) : Kept s (State.modeGo x1) := by
  unfold State.modeGo
  exact (by
 try dsimp only
 split
 · exact (State.modeTake_kept hx1)
 · exact hx1)

theorem State.modeTick_kept {x1 : State} (hx1 : Kept s x1) : Kept s (State.modeTick x1) := by
  unfold State.modeTick
  exact (State.modeGo_kept (State.modeJudge_kept hx1))

theorem State.quoteCapture_kept {x1 : State} (hx1 : Kept s x1) {x2 x3 x4 x5 x6} : Kept s (State.quoteCapture x1 x2 x3 x4 x5 x6) := by
  unfold State.quoteCapture
  exact (by exact Kept.same (by exact Kept.same hx1 rfl) rfl)

theorem State.quoteGo_kept {x1 : State} (hx1 : Kept s x1) {x2} : Kept s (State.quoteGo x1 x2) := by
  unfold State.quoteGo
  exact (kept_ite hx1 (kept_ite (State.ksRefuseBy_kept hx1) (State.quoteCapture_kept (State.set1_kept hx1))))

theorem State.quoteDone_kept {x1 : State} (hx1 : Kept s x1) {x2 x3} : Kept s (State.quoteDone x1 x2 x3) := by
  unfold State.quoteDone
  exact (State.when_kept (State.set1_kept (State.clr_kept (State.setFld_kept hx1))) (fun _ h3 => by exact (State.msix_kept h3)))

theorem State.stmtDone_kept {x1 : State} (hx1 : Kept s x1) {x2 x3} : Kept s (State.stmtDone x1 x2 x3) := by
  unfold State.stmtDone
  exact (State.set1_kept (State.clr_kept (State.setFld_kept hx1)))

theorem State.netSpend_kept {x1 : State} (hx1 : Kept s x1) : Kept s (State.netSpend x1) := by
  unfold State.netSpend
  exact (by exact Kept.same hx1 rfl)

end Sys2Proof.Machine
end

