-- ==== Sys2Proof/Laws/KeptHoldover.lean ====
section
/-! SUPPORT. What the operations of Machine/Holdover.lean keep, one lemma each (Laws/Kept.lean). -/

namespace Sys2Proof.Machine

variable {s : State}

theorem State.setHo_kept {x1 : State} (hx1 : Kept s x1) {x2} : Kept s (State.setHo x1 x2) := by
  unfold State.setHo
  exact (by exact Kept.same hx1 rfl)

theorem State.hoEvent_kept {x1 : State} (hx1 : Kept s x1) {x2} : Kept s (State.hoEvent x1 x2) := by
  unfold State.hoEvent
  exact (State.statusEvent_kept hx1)

theorem State.boardWrite_kept {x1 : State} (hx1 : Kept s x1) {x2} : Kept s (State.boardWrite x1 x2) := by
  unfold State.boardWrite
  exact (State.setHo_kept (State.clr_kept (State.setFld_kept hx1)))

theorem State.hoTick_kept {x1 : State} (hx1 : Kept s x1) : Kept s (State.hoTick x1) := by
  unfold State.hoTick
  exact (State.setHo_kept hx1)

theorem State.meanOf_kept {x1 : State} (hx1 : Kept s x1) {x2 x3} : Kept s ((State.meanOf x1 x2 x3)).2 := by
  unfold State.meanOf
  exact (State.quot_kept hx1)

theorem State.avgPublish_kept {x1 : State} (hx1 : Kept s x1) : Kept s (State.avgPublish x1) := by
  unfold State.avgPublish
  exact (State.setFld_kept (State.setFld_kept (State.setFld_kept (State.meanOf_kept (State.meanOf_kept hx1)))))

theorem State.avgStep_kept {x1 : State} (hx1 : Kept s x1) {x2} : Kept s (State.avgStep x1 x2) := by
  unfold State.avgStep
  exact (State.avgPublish_kept (State.setHo_kept hx1))

theorem State.hoHistory_kept {x1 : State} (hx1 : Kept s x1) : Kept s (State.hoHistory x1) := by
  unfold State.hoHistory
  exact (State.setHo_kept (kept_ite (kept_ite (by exact Kept.memTo (kept_ite_snd (State.quot_kept hx1) (State.quot_kept hx1)) memPut_wf) (State.avgStep_kept (by exact Kept.memTo (kept_ite_snd (State.quot_kept hx1) (State.quot_kept hx1)) memPut_wf))) hx1))

theorem State.hoEnable_kept {x1 : State} (hx1 : Kept s x1) : Kept s (State.hoEnable x1) := by
  unfold State.hoEnable
  exact (State.set1_kept (State.set1_kept hx1))

theorem State.hoDisable_kept {x1 : State} (hx1 : Kept s x1) : Kept s (State.hoDisable x1) := by
  unfold State.hoDisable
  exact (State.avgPublish_kept (State.setHo_kept (State.clr_kept (State.clr_kept hx1))))

theorem State.hoSummed_kept {x1 : State} (hx1 : Kept s x1) : Kept s (State.hoSummed x1) := by
  unfold State.hoSummed
  exact (State.avgPublish_kept (State.setHo_kept (State.clr_kept hx1)))

theorem State.hoWrite_kept {x1 : State} (hx1 : Kept s x1) : Kept s (State.hoWrite x1) := by
  unfold State.hoWrite
  exact (State.setShadow_kept (State.setShadow_kept (State.when_kept hx1 (fun _ h2 => by exact (State.log_kept h2)))))

theorem State.hoKick_kept {x1 : State} (hx1 : Kept s x1) : Kept s (State.hoKick x1) := by
  unfold State.hoKick
  exact (kept_ite (kept_ite hx1 (State.hoWrite_kept (State.set1_kept hx1))) (State.clr_kept hx1))

theorem State.hoSecondWrite_kept {x1 : State} (hx1 : Kept s x1) : Kept s (State.hoSecondWrite x1) := by
  unfold State.hoSecondWrite
  exact (kept_ite (State.hoWrite_kept (State.set1_kept hx1)) (State.clr_kept hx1))

theorem State.hoLatch_kept {x1 : State} (hx1 : Kept s x1) {x2 x3 x4} : Kept s (State.hoLatch x1 x2 x3 x4) := by
  unfold State.hoLatch
  exact (State.when_kept (State.setHo_kept (State.set1_kept (State.setFld_kept (State.setFld_kept (State.setFld_kept hx1))))) (fun _ h3 => by exact (State.logFault_kept h3)))

theorem State.hoMeans_kept {x1 : State} (hx1 : Kept s x1) {x2 x3} : Kept s (State.hoMeans x1 x2 x3) := by
  unfold State.hoMeans
  exact (State.hoLatch_kept (State.meanOf_kept (State.meanOf_kept hx1)))

theorem State.hoChoose_kept {x1 : State} (hx1 : Kept s x1) : Kept s (State.hoChoose x1) := by
  unfold State.hoChoose
  exact (kept_ite (State.hoMeans_kept hx1) (kept_ite (State.hoMeans_kept hx1) (State.hoLatch_kept (State.free_kept hx1))))

theorem State.hoWindow_kept {x1 : State} (hx1 : Kept s x1) : Kept s (State.hoWindow x1) := by
  unfold State.hoWindow
  exact (State.hoLatch_kept hx1)

theorem State.hoLoss_kept {x1 : State} (hx1 : Kept s x1) : Kept s (State.hoLoss x1) := by
  unfold State.hoLoss
  exact (kept_ite (State.hoEvent_kept (State.setShadow_kept (State.setShadow_kept (State.setShadow_kept (State.setShadow_kept (State.setShadow_kept (State.when_kept (State.hoEvent_kept (State.setHo_kept (State.setFld_kept (State.clr_kept (State.setFld_kept hx1))))) (fun _ h4 => by exact (State.hoWindow_kept h4))))))))) (State.when_kept (State.hoEvent_kept (State.setHo_kept (State.setFld_kept (State.clr_kept (State.setFld_kept hx1))))) (fun _ h4 => by exact (State.hoWindow_kept h4))))

theorem State.exemptSet_kept {x1 : State} (hx1 : Kept s x1) {x2} : Kept s (State.exemptSet x1 x2) := by
  unfold State.exemptSet
  exact (State.hoEvent_kept (State.setFld_kept hx1))

theorem State.exemptClr_kept {x1 : State} (hx1 : Kept s x1) {x2} : Kept s (State.exemptClr x1 x2) := by
  unfold State.exemptClr
  exact (kept_ite (State.setFld_kept hx1) hx1)

theorem State.exemptWiden_kept {x1 : State} (hx1 : Kept s x1) {x2 x3} : Kept s (State.exemptWiden x1 x2 x3) := by
  unfold State.exemptWiden
  exact (kept_ite (State.widenAdd_kept hx1) hx1)

theorem execHoSummingDone_kept {x1 : State} (hx1 : Kept s x1) : KeptO s (execHoSummingDone x1) := by
  unfold execHoSummingDone
  exact (kept_ite (State.hoSummed_kept hx1) hx1)

theorem execHoldReady_kept {x1 : State} (hx1 : Kept s x1) : KeptO s (execHoldReady x1) := by
  unfold execHoldReady
  exact (kept_ite (State.hoKick_kept (State.hoChoose_kept hx1)) hx1)

theorem execHoEnable_kept {x1} {x2 : State} (hx2 : Kept s x2) : KeptO s (execHoEnable x1 x2) := by
  unfold execHoEnable
  exact (State.gate_kept hx2 (fun _ h2 => by exact (kept_ite h2 (State.hoEnable_kept h2))))

theorem execHoTempBoardWrite_kept {x1 x2} {x3 : State} (hx3 : Kept s x3) : KeptO s (execHoTempBoardWrite x1 x2 x3) := by
  unfold execHoTempBoardWrite
  exact (State.gate_kept hx3 (fun _ h2 => by exact (State.boardWrite_kept h2)))

theorem execTempStale_kept {x1 : State} (hx1 : Kept s x1) : KeptO s (execTempStale x1) := by
  unfold execTempStale
  exact (kept_ite (State.log_kept (State.set1_kept hx1)) hx1)

end Sys2Proof.Machine
end

