-- ==== Sys2Proof/Laws/KeptRefSel.lean ====
section
/-! SUPPORT. What the operations of Machine/RefSel.lean keep, one lemma each (Laws/Kept.lean). -/

namespace Sys2Proof.Machine

variable {s : State}

theorem State.setRef_kept {x1 : State} (hx1 : Kept s x1) {x2 x3} : Kept s (State.setRef x1 x2 x3) := by
  unfold State.setRef
  exact (by exact Kept.same hx1 rfl)

theorem State.rsEvent_kept {x1 : State} (hx1 : Kept s x1) {x2} : Kept s (State.rsEvent x1 x2) := by
  unfold State.rsEvent
  exact (State.statusEvent_kept hx1)

theorem State.disputeSet_kept {x1 : State} (hx1 : Kept s x1) {x2 x3} : Kept s (State.disputeSet x1 x2 x3) := by
  unfold State.disputeSet
  exact (State.set1_kept (State.rsEvent_kept (State.setRef_kept (State.set1_kept hx1))))

theorem State.disputeClr_kept {x1 : State} (hx1 : Kept s x1) {x2} : Kept s (State.disputeClr x1 x2) := by
  unfold State.disputeClr
  exact (State.setFld_kept (State.setRef_kept (kept_ite (State.rsEvent_kept (State.clr_kept hx1)) hx1)))

theorem State.disputeSweep_kept {x1 : State} (hx1 : Kept s x1) : Kept s (State.disputeSweep x1) := by
  unfold State.disputeSweep
  exact (kept_foldl hx1 (fun _ h2 _ => by exact (kept_ite (State.disputeClr_kept h2) h2)))

theorem State.rsGo_kept {x1 : State} (hx1 : Kept s x1) {x2 x3} : Kept s (State.rsGo x1 x2 x3) := by
  unfold State.rsGo
  exact (kept_ite hx1 (State.disputeSweep_kept (kept_ite (State.rsEvent_kept (State.setFld_kept hx1)) (State.exemptClr_kept (State.rsEvent_kept (State.setFld_kept hx1))))))

theorem State.qualRestart_kept {x1 : State} (hx1 : Kept s x1) {x2} : Kept s (State.qualRestart x1 x2) := by
  unfold State.qualRestart
  exact (State.setRef_kept hx1)

theorem State.rsQualifying_kept {x1 : State} (hx1 : Kept s x1) {x2} : Kept s (State.rsQualifying x1 x2) := by
  unfold State.rsQualifying
  exact (State.rsGo_kept (State.setRef_kept (State.setFld_kept hx1)))

theorem State.rsDisqualify_kept {x1 : State} (hx1 : Kept s x1) {x2 x3} : Kept s (State.rsDisqualify x1 x2 x3) := by
  unfold State.rsDisqualify
  exact (State.logFault_kept (State.rsGo_kept (State.setRef_kept (State.setFld_kept hx1))))

theorem State.rsFail_kept {x1 : State} (hx1 : Kept s x1) {x2 x3} : Kept s (State.rsFail x1 x2 x3) := by
  unfold State.rsFail
  exact (kept_ite (State.rsDisqualify_kept hx1) (kept_ite (State.qualRestart_kept hx1) hx1))

theorem State.rsLoss_kept {x1 : State} (hx1 : Kept s x1) {x2} : Kept s (State.rsLoss x1 x2) := by
  unfold State.rsLoss
  exact (State.rsFail_kept (State.setRef_kept hx1))

theorem State.rsIdle_kept {x1 : State} (hx1 : Kept s x1) {x2} : Kept s (State.rsIdle x1 x2) := by
  unfold State.rsIdle
  exact (State.disputeClr_kept (State.setRef_kept (State.clr_kept (State.clr_kept hx1))))

theorem State.rsDisable_kept {x1 : State} (hx1 : Kept s x1) {x2} : Kept s (State.rsDisable x1 x2) := by
  unfold State.rsDisable
  exact (kept_ite (State.clr_kept hx1) (State.rsGo_kept (State.setFld_kept (State.setRef_kept (State.rsIdle_kept (State.clr_kept hx1))))))

theorem State.rsEnable_kept {x1 : State} (hx1 : Kept s x1) {x2} : Kept s (State.rsEnable x1 x2) := by
  unfold State.rsEnable
  exact (kept_ite (State.rsQualifying_kept (State.set1_kept hx1)) (State.set1_kept hx1))

theorem State.rsRetire_kept {x1 : State} (hx1 : Kept s x1) {x2} : Kept s (State.rsRetire x1 x2) := by
  unfold State.rsRetire
  exact (State.rsGo_kept (State.setRef_kept (State.rsIdle_kept hx1)))

theorem State.engGo_kept {x1 : State} (hx1 : Kept s x1) {x2} : Kept s (State.engGo x1 x2) := by
  unfold State.engGo
  exact (kept_ite hx1 (State.hoKick_kept (by exact Kept.same (kept_ite (kept_foldl (State.set1_kept (State.rsEvent_kept (State.setFld_kept (kept_ite (State.hoLoss_kept hx1) hx1)))) (fun _ h4 _ => by exact (State.exemptClr_kept h4))) (State.rsEvent_kept (State.setFld_kept (kept_ite (State.hoLoss_kept hx1) hx1)))) rfl)))

theorem State.rsTrack_kept {x1 : State} (hx1 : Kept s x1) : Kept s (State.rsTrack x1) := by
  unfold State.rsTrack
  exact (by exact Kept.same hx1 rfl)

theorem State.rsJudge_kept {x1 : State} (hx1 : Kept s x1) : Kept s (State.rsJudge x1) := by
  unfold State.rsJudge
  exact (State.rsTrack_kept (by exact Kept.same hx1 rfl))

theorem State.offsetTo_kept {x1 : State} (hx1 : Kept s x1) {x2} : Kept s ((State.offsetTo x1 x2)).2 := by
  unfold State.offsetTo
  exact (State.quot_kept hx1)

theorem State.rsSlide_kept {x1 : State} (hx1 : Kept s x1) {x2} : Kept s (State.rsSlide x1 x2) := by
  unfold State.rsSlide
  exact (kept_ite hx1 (by exact Kept.same (State.setShadow_kept hx1) rfl))

theorem State.selectRef_kept {x1 : State} (hx1 : Kept s x1) {x2} : Kept s (State.selectRef x1 x2) := by
  unfold State.selectRef
  exact (kept_ite (kept_ite (State.engGo_kept (by exact Kept.same (State.setFld_kept (State.set1_kept (State.setFld_kept (State.rsSlide_kept (State.exemptWiden_kept (State.offsetTo_kept hx1)))))) rfl)) (by exact Kept.same (State.setFld_kept (State.set1_kept (State.setFld_kept (State.rsSlide_kept (State.exemptWiden_kept (State.offsetTo_kept hx1)))))) rfl)) (State.engGo_kept (by exact Kept.same (State.setFld_kept (State.set1_kept (State.setFld_kept (State.rsSlide_kept (State.exemptWiden_kept (State.offsetTo_kept hx1)))))) rfl)))

theorem State.selectNone_kept {x1 : State} (hx1 : Kept s x1) : Kept s (State.selectNone x1) := by
  unfold State.selectNone
  exact (kept_ite (State.engGo_kept (by exact Kept.same (State.clr_kept (State.rsSlide_kept hx1)) rfl)) (kept_ite (State.engGo_kept (by exact Kept.same (State.clr_kept (State.rsSlide_kept hx1)) rfl)) (by exact Kept.same (State.clr_kept (State.rsSlide_kept hx1)) rfl)))

theorem State.rsEval_kept {x1 : State} (hx1 : Kept s x1) : Kept s (State.rsEval x1) := by
  unfold State.rsEval
  exact (State.rsTrack_kept (kept_ite (State.setFld_kept (kept_ite (State.clr_kept hx1) hx1)) (State.rsEvent_kept (by
 try dsimp only
 split
 · exact (State.selectRef_kept (State.setFld_kept (kept_ite (State.clr_kept hx1) hx1)))
 · exact (State.selectNone_kept (State.setFld_kept (kept_ite (State.clr_kept hx1) hx1)))))))

theorem State.forceWrite_kept {x1 : State} (hx1 : Kept s x1) {x2 x3} : Kept s (State.forceWrite x1 x2 x3) := by
  unfold State.forceWrite
  exact (kept_ite (State.log_kept hx1) (State.rsEval_kept (State.setFld_kept (State.setFld_kept hx1))))

theorem State.rsRecord_kept {x1 : State} (hx1 : Kept s x1) {x2 x3 x4 x5 x6} : Kept s (State.rsRecord x1 x2 x3 x4 x5 x6) := by
  unfold State.rsRecord
  exact (State.setRef_kept (State.engEv_kept (State.setFld_kept (State.setFld_kept (State.setFld_kept (State.setFld_kept hx1))))))

theorem State.rsPresent_kept {x1 : State} (hx1 : Kept s x1) {x2 x3} : Kept s (State.rsPresent x1 x2 x3) := by
  unfold State.rsPresent
  exact (State.setRef_kept (kept_ite (State.rsLoss_kept hx1) hx1))

theorem State.rsMeasure_kept {x1 : State} (hx1 : Kept s x1) {x2 x3 x4 x5 x6 x7} : Kept s (State.rsMeasure x1 x2 x3 x4 x5 x6 x7) := by
  unfold State.rsMeasure
  exact (kept_ite (State.rsJudge_kept (kept_ite (kept_ite (State.rsFail_kept (kept_ite (State.hoEvent_kept (State.rsFail_kept (State.rsRecord_kept (State.rsPresent_kept hx1)))) (State.rsRecord_kept (State.rsPresent_kept hx1)))) (kept_ite (State.hoEvent_kept (State.rsFail_kept (State.rsRecord_kept (State.rsPresent_kept hx1)))) (State.rsRecord_kept (State.rsPresent_kept hx1)))) (State.rsFail_kept (kept_ite (State.rsFail_kept (kept_ite (State.hoEvent_kept (State.rsFail_kept (State.rsRecord_kept (State.rsPresent_kept hx1)))) (State.rsRecord_kept (State.rsPresent_kept hx1)))) (kept_ite (State.hoEvent_kept (State.rsFail_kept (State.rsRecord_kept (State.rsPresent_kept hx1)))) (State.rsRecord_kept (State.rsPresent_kept hx1))))))) (kept_ite (kept_ite (State.rsFail_kept (kept_ite (State.hoEvent_kept (State.rsFail_kept (State.rsRecord_kept (State.rsPresent_kept hx1)))) (State.rsRecord_kept (State.rsPresent_kept hx1)))) (kept_ite (State.hoEvent_kept (State.rsFail_kept (State.rsRecord_kept (State.rsPresent_kept hx1)))) (State.rsRecord_kept (State.rsPresent_kept hx1)))) (State.rsFail_kept (kept_ite (State.rsFail_kept (kept_ite (State.hoEvent_kept (State.rsFail_kept (State.rsRecord_kept (State.rsPresent_kept hx1)))) (State.rsRecord_kept (State.rsPresent_kept hx1)))) (kept_ite (State.hoEvent_kept (State.rsFail_kept (State.rsRecord_kept (State.rsPresent_kept hx1)))) (State.rsRecord_kept (State.rsPresent_kept hx1)))))))

theorem State.ppsMeasure_kept {x1 : State} (hx1 : Kept s x1) {x2 x3 x4} : Kept s (State.ppsMeasure x1 x2 x3 x4) := by
  unfold State.ppsMeasure
  exact (State.rsMeasure_kept hx1)

theorem State.todMeasure_kept {x1 : State} (hx1 : Kept s x1) {x2 x3 x4} : Kept s (State.todMeasure x1 x2 x3 x4) := by
  unfold State.todMeasure
  exact (kept_ite (State.setRef_kept (State.ppsMeasure_kept (State.rsFail_kept hx1))) (State.ppsMeasure_kept hx1))

theorem State.ppsRecord_kept {x1 : State} (hx1 : Kept s x1) {x2 x3} : Kept s (State.ppsRecord x1 x2 x3) := by
  unfold State.ppsRecord
  exact (kept_ite hx1 (kept_ite (by
 try dsimp only
 split
 · exact (State.todMeasure_kept (State.setRef_kept hx1))
 · exact (State.setRef_kept hx1)) (State.ppsMeasure_kept hx1)))

theorem State.todWrite_kept {x1 : State} (hx1 : Kept s x1) {x2 x3 x4} : Kept s (State.todWrite x1 x2 x3 x4) := by
  unfold State.todWrite
  exact (kept_ite hx1 (by
 try dsimp only
 split
 · exact (State.todMeasure_kept (State.setRef_kept hx1))
 · exact (State.setRef_kept hx1)))

theorem State.labelExpire_kept {x1 : State} (hx1 : Kept s x1) {x2} : Kept s (State.labelExpire x1 x2) := by
  unfold State.labelExpire
  exact (by
 try dsimp only
 split
 · exact (kept_ite (State.rcAdd_kept (State.setRef_kept hx1)) hx1)
 · exact hx1)

theorem State.recExpire_kept {x1 : State} (hx1 : Kept s x1) {x2} : Kept s (State.recExpire x1 x2) := by
  unfold State.recExpire
  exact (by
 try dsimp only
 split
 · exact (kept_ite (State.rsFail_kept (State.setRef_kept hx1)) hx1)
 · exact hx1)

theorem State.pktCount_kept {x1 : State} (hx1 : Kept s x1) {x2 x3} : Kept s (State.pktCount x1 x2 x3) := by
  unfold State.pktCount
  exact (State.rsMeasure_kept hx1)

theorem State.rerouteDecide_kept {x1 : State} (hx1 : Kept s x1) {x2} : Kept s (State.rerouteDecide x1 x2) := by
  unfold State.rerouteDecide
  exact (kept_ite (kept_ite (State.clr_kept (State.setFld_kept (State.setFld_kept (State.quot_kept (State.rsEvent_kept (State.logFault_kept (State.widenAdd_kept (State.setRef_kept hx1)))))))) (State.when_kept (State.clr_kept (State.rsEvent_kept (State.logFault_kept (State.widenAdd_kept (State.setRef_kept hx1))))) (fun _ h5 => by exact (State.rsDisqualify_kept h5)))) (kept_foldl (State.clr_kept (State.setRef_kept hx1)) (fun _ h6 _ => by exact (State.pktCount_kept h6))))

theorem State.pktHold_kept {x1 : State} (hx1 : Kept s x1) {x2 x3} : Kept s (State.pktHold x1 x2 x3) := by
  unfold State.pktHold
  exact (kept_ite (State.rerouteDecide_kept (State.setRef_kept (State.setFld_kept (State.rsPresent_kept (State.set1_kept hx1))))) (State.setRef_kept (State.setFld_kept (State.rsPresent_kept (State.set1_kept hx1)))))

theorem State.pktExchange_kept {x1 : State} (hx1 : Kept s x1) {x2 x3} : Kept s (State.pktExchange x1 x2 x3) := by
  unfold State.pktExchange
  exact (kept_ite (State.pktHold_kept hx1) (kept_ite (State.pktHold_kept hx1) (State.pktCount_kept (State.setRef_kept hx1))))

theorem State.itlMeasure_kept {x1 : State} (hx1 : Kept s x1) {x2} : Kept s (State.itlMeasure x1 x2) := by
  unfold State.itlMeasure
  exact (kept_ite hx1 (State.rsEval_kept (kept_ite (State.when_kept (kept_ite (State.setFld_kept (State.setRef_kept hx1)) (State.setRef_kept hx1)) (fun _ h4 => by exact (State.rsFail_kept h4))) (State.rsMeasure_kept (kept_ite (State.setFld_kept (State.setRef_kept hx1)) (State.setRef_kept hx1))))))

theorem State.itlOffset_kept {x1 : State} (hx1 : Kept s x1) {x2 x3 x4} : Kept s (State.itlOffset x1 x2 x3 x4) := by
  unfold State.itlOffset
  exact (kept_ite hx1 (State.setRef_kept (kept_ite hx1 (State.itlMeasure_kept hx1))))

theorem State.freqOne_kept {x1 : State} (hx1 : Kept s x1) {x2 x3} : Kept s (State.freqOne x1 x2 x3) := by
  unfold State.freqOne
  exact (kept_ite hx1 (by
 try dsimp only
 split
 · exact (State.clr_kept hx1)
 · exact (kept_ite (State.rsFail_kept (State.set1_kept (State.setFld_kept (State.quot_kept hx1)))) (State.set1_kept (State.setFld_kept (State.quot_kept hx1))))))

theorem State.outvote_kept {x1 : State} (hx1 : Kept s x1) {x2 x3} : Kept s (State.outvote x1 x2 x3) := by
  unfold State.outvote
  exact (State.rsFail_kept (State.setRef_kept (State.disputeClr_kept hx1)))

theorem State.dispute_kept {x1 : State} (hx1 : Kept s x1) {x2 x3} : Kept s (State.dispute x1 x2 x3) := by
  unfold State.dispute
  exact (kept_ite (State.outvote_kept hx1) (kept_ite (State.outvote_kept hx1) (kept_ite (State.logFault_kept (State.disputeSet_kept hx1)) (kept_ite (State.logFault_kept (State.disputeSet_kept hx1)) (State.logFault_kept (State.logFault_kept (State.disputeSet_kept (State.disputeSet_kept hx1))))))))

theorem State.disputeSettle_kept {x1 : State} (hx1 : Kept s x1) : Kept s (State.disputeSettle x1) := by
  unfold State.disputeSettle
  exact (kept_foldl hx1 (fun _ h2 _ => by exact (kept_ite (State.disputeClr_kept h2) h2)))

theorem State.windowEnd_kept {x1 : State} (hx1 : Kept s x1) {x2} : Kept s (State.windowEnd x1 x2) := by
  unfold State.windowEnd
  exact (by exact Kept.same (kept_foldl (State.disputeSettle_kept (kept_foldl (kept_foldl hx1 (fun _ h2 _ => by exact (State.freqOne_kept h2))) (fun _ h3 _ => by exact (kept_ite (State.dispute_kept h3) h3)))) (fun _ h5 _ => by exact (kept_ite (State.rsQualifying_kept h5) h5))) rfl)

theorem State.runsSecond_kept {x1 : State} (hx1 : Kept s x1) : Kept s (State.runsSecond x1) := by
  unfold State.runsSecond
  exact (kept_foldl (State.setHo_kept hx1) (fun _ h2 _ => by exact (State.setRef_kept h2)))

theorem State.agreeDone_kept {x1 : State} (hx1 : Kept s x1) {x2 x3} : Kept s (State.agreeDone x1 x2 x3) := by
  unfold State.agreeDone
  exact (State.setHo_kept (kept_ite (State.exemptSet_kept (State.rsQualifying_kept (kept_ite (State.exemptSet_kept (State.rsQualifying_kept hx1)) (kept_ite (State.qualRestart_kept hx1) hx1)))) (kept_ite (State.qualRestart_kept (kept_ite (State.exemptSet_kept (State.rsQualifying_kept hx1)) (kept_ite (State.qualRestart_kept hx1) hx1))) (kept_ite (State.exemptSet_kept (State.rsQualifying_kept hx1)) (kept_ite (State.qualRestart_kept hx1) hx1)))))

theorem State.rsTick_kept {x1 : State} (hx1 : Kept s x1) : Kept s (State.rsTick x1) := by
  unfold State.rsTick
  exact (State.rsTrack_kept (kept_ite (by exact Kept.same hx1 rfl) hx1))

theorem State.windowSkip_kept {x1 : State} (hx1 : Kept s x1) : Kept s (State.windowSkip x1) := by
  unfold State.windowSkip
  exact (kept_ite hx1 (by exact Kept.same (kept_foldl hx1 (fun _ h2 _ => by exact (State.clr_kept h2))) rfl))

theorem State.rsStepped_kept {x1 : State} (hx1 : Kept s x1) : Kept s (State.rsStepped x1) := by
  unfold State.rsStepped
  exact (State.rsTrack_kept (State.windowSkip_kept (State.setHo_kept (by exact Kept.same hx1 rfl))))

theorem State.goLost_kept {x1 : State} (hx1 : Kept s x1) : Kept s (State.goLost x1) := by
  unfold State.goLost
  exact (State.log_kept (State.hoEvent_kept (State.engGo_kept hx1)))

end Sys2Proof.Machine
end

