-- ==== Sys2Proof/Laws/KeptRings.lean ====
section
/-! SUPPORT. What the operations of Machine/Rings.lean keep, one lemma each (Laws/Kept.lean). -/

namespace Sys2Proof.Machine

variable {s : State}

theorem State.ringEnable_kept {x1 : State} (hx1 : Kept s x1) {x2} : Kept s (State.ringEnable x1 x2) := by
  unfold State.ringEnable
  exact (kept_ite hx1 (kept_ite (State.setRing_kept (State.setFld_kept (State.clr_kept (State.setFld_kept (State.setFld_kept (State.set1_kept hx1)))))) (State.log_kept hx1)))

theorem State.ringDisable_kept {x1 : State} (hx1 : Kept s x1) {x2} : Kept s (State.ringDisable x1 x2) := by
  unfold State.ringDisable
  exact (kept_ite (State.set1_kept (State.clr_kept hx1)) hx1)

theorem State.ringProdWrite_kept {x1 : State} (hx1 : Kept s x1) {x2 x3} : Kept s (State.ringProdWrite x1 x2 x3) := by
  unfold State.ringProdWrite
  exact (kept_ite (kept_ite (State.setFld_kept hx1) (State.log_kept hx1)) hx1)

theorem State.ringConsWrite_kept {x1 : State} (hx1 : Kept s x1) {x2 x3} : Kept s (State.ringConsWrite x1 x2 x3) := by
  unfold State.ringConsWrite
  exact (kept_ite (kept_ite (State.setFld_kept hx1) (State.log_kept hx1)) hx1)

theorem State.ringStop_kept {x1 : State} (hx1 : Kept s x1) {x2 x3} : Kept s (State.ringStop x1 x2 x3) := by
  unfold State.ringStop
  exact (State.logFault_kept (State.setFld_kept (State.set1_kept hx1)))

theorem State.ringRestart_kept {x1 : State} (hx1 : Kept s x1) {x2} : Kept s (State.ringRestart x1 x2) := by
  unfold State.ringRestart
  exact (kept_ite (State.setFld_kept (State.clr_kept hx1)) hx1)

theorem State.ringDrain_kept {r} : ∀ {k} {t : State}, Kept s t → Kept s (State.ringDrain t r k)
  | 0, _, h => h
  | _ + 1, _, h => by
    unfold State.ringDrain
    exact kept_ite (ringDrain_kept (State.ringCount_kept (State.engEv_kept (State.setFld_kept (State.setRing_kept h))))) h

theorem State.descBack_kept {x1 : State} (hx1 : Kept s x1) {x2 x3 x4} : Kept s (State.descBack x1 x2 x3 x4) := by
  unfold State.descBack
  exact (State.ringDrain_kept (State.setRing_kept (State.descWrite_kept hx1)))

theorem State.descDone_kept {x1 : State} (hx1 : Kept s x1) {x2 x3 x4} : Kept s (State.descDone x1 x2 x3 x4) := by
  unfold State.descDone
  exact (kept_ite (State.setRing_kept hx1) (State.descBack_kept hx1))

theorem State.descRelease_kept {x1 : State} (hx1 : Kept s x1) : Kept s (State.descRelease x1) := by
  unfold State.descRelease
  exact (kept_foldl hx1 (fun _ h2 _ => by exact (kept_foldl (State.setRing_kept h2) (fun _ h3 _ => by exact (State.descBack_kept h3)))))

theorem State.ringTake_kept {x1 : State} (hx1 : Kept s x1) {x2} : Kept s (State.ringTake x1 x2) := by
  unfold State.ringTake
  exact (State.setRing_kept hx1)

theorem State.ringIrq_kept {x1 : State} (hx1 : Kept s x1) {x2} : Kept s (State.ringIrq x1 x2) := by
  unfold State.ringIrq
  exact (kept_ite (State.msix_kept (State.setRing_kept hx1)) hx1)

theorem State.rxBuffer_kept {x1 : State} (hx1 : Kept s x1) {x2 x3} : Kept s ((State.rxBuffer x1 x2 x3)).1 := by
  unfold State.rxBuffer
  exact (kept_ite_fst (kept_fst hx1) (kept_ite_fst (kept_fst (State.ringStop_kept hx1)) (kept_ite_fst (kept_fst hx1) (kept_fst hx1))))

theorem execRingEnable_kept {x1 x2} {x3 : State} (hx3 : Kept s x3) : KeptO s (execRingEnable x1 x2 x3) := by
  unfold execRingEnable
  exact (kept_ite_O (State.gate_kept hx3 (fun _ h2 => by exact (State.ringEnable_kept h2))) trivial)

theorem execRingProdWrite_kept {x1 x2 x3} {x4 : State} (hx4 : Kept s x4) : KeptO s (execRingProdWrite x1 x2 x3 x4) := by
  unfold execRingProdWrite
  exact (kept_ite_O (State.gate_kept hx4 (fun _ h2 => by exact (State.ringProdWrite_kept h2))) trivial)

theorem execRingConsWrite_kept {x1 x2 x3} {x4 : State} (hx4 : Kept s x4) : KeptO s (execRingConsWrite x1 x2 x3 x4) := by
  unfold execRingConsWrite
  exact (kept_ite_O (State.gate_kept hx4 (fun _ h2 => by exact (State.ringConsWrite_kept h2))) trivial)

theorem execRingRestart_kept {x1 x2} {x3 : State} (hx3 : Kept s x3) : KeptO s (execRingRestart x1 x2 x3) := by
  unfold execRingRestart
  exact (kept_ite_O (State.gate_kept hx3 (fun _ h2 => by exact (State.ringRestart_kept h2))) trivial)

theorem execRingProduce_kept {x1 x2 x3 x4 x5 x6 x7 x8 x9 x10} {x11 : State} (hx11 : Kept s x11) : KeptO s (execRingProduce x1 x2 x3 x4 x5 x6 x7 x8 x9 x10 x11) := by
  unfold execRingProduce
  exact (kept_ite_O (kept_ite (State.ringOffer_kept hx11) (State.rcAdd_kept (State.ringOffer_kept hx11))) trivial)

theorem execRingIrq_kept {x1} {x2 : State} (hx2 : Kept s x2) : KeptO s (execRingIrq x1 x2) := by
  unfold execRingIrq
  exact (kept_ite_O (State.ringIrq_kept hx2) trivial)

end Sys2Proof.Machine
end

