-- ==== Sys2Proof/Laws/KeptMac.lean ====
section
/-! SUPPORT. What the operations of Machine/Mac.lean keep, one lemma each (Laws/Kept.lean). -/

namespace Sys2Proof.Machine

variable {s : State}

theorem State.setMac_kept {x1 : State} (hx1 : Kept s x1) {x2 x3} : Kept s (State.setMac x1 x2 x3) := by
  unfold State.setMac
  exact (by exact Kept.same hx1 rfl)

theorem State.setEth_kept {x1 : State} (hx1 : Kept s x1) {x2 x3} : Kept s (State.setEth x1 x2 x3) := by
  unfold State.setEth
  exact (by exact Kept.same hx1 rfl)

theorem State.stat_kept {x1 : State} (hx1 : Kept s x1) {x2 x3 x4} : Kept s (State.stat x1 x2 x3 x4) := by
  unfold State.stat
  exact (State.rcAdd_kept hx1)

theorem State.fcQueue_kept {x1 : State} (hx1 : Kept s x1) {x2 x3 x4} : Kept s (State.fcQueue x1 x2 x3 x4) := by
  unfold State.fcQueue
  exact (State.setMac_kept hx1)

theorem State.xoffCount_kept {x1 : State} (hx1 : Kept s x1) {x2} : Kept s (State.xoffCount x1 x2) := by
  unfold State.xoffCount
  exact (by
 try dsimp only
 split
 · exact (State.stat_kept (State.setMac_kept hx1))
 · exact hx1)

theorem State.fcLeave_kept {x1 : State} (hx1 : Kept s x1) {x2} : Kept s (State.fcLeave x1 x2) := by
  unfold State.fcLeave
  exact (by
 try dsimp only
 split
 · exact (State.clr_kept (State.setMac_kept (State.xoffCount_kept hx1)))
 · exact hx1)

theorem State.fcEval_kept {x1 : State} (hx1 : Kept s x1) {x2} : Kept s (State.fcEval x1 x2) := by
  unfold State.fcEval
  exact (by
 try dsimp only
 split
 · exact (kept_ite (State.set1_kept (State.setMac_kept hx1)) hx1)
 · exact (kept_ite (State.fcLeave_kept hx1) hx1))

theorem State.fcAll_kept {x1 : State} (hx1 : Kept s x1) : Kept s (State.fcAll x1) := by
  unfold State.fcAll
  exact (kept_foldl hx1 (fun _ h2 _ => by exact (State.fcEval_kept h2)))

theorem State.fcRefresh_kept {x1 : State} (hx1 : Kept s x1) {x2} : Kept s (State.fcRefresh x1 x2) := by
  unfold State.fcRefresh
  exact (by
 try dsimp only
 split
 · exact (kept_ite (State.fcQueue_kept (State.setMac_kept hx1)) hx1)
 · exact hx1)

theorem State.holdEnd_kept {x1 : State} (hx1 : Kept s x1) {x2 x3} : Kept s (State.holdEnd x1 x2 x3) := by
  unfold State.holdEnd
  exact (by
 try dsimp only
 split
 · exact (State.stat_kept (State.setMac_kept hx1))
 · exact hx1)

theorem State.heldCount_kept {x1 : State} (hx1 : Kept s x1) {x2} : Kept s (State.heldCount x1 x2) := by
  unfold State.heldCount
  exact (State.stat_kept (State.setMac_kept hx1))

theorem State.holdSet_kept {x1 : State} (hx1 : Kept s x1) {x2 x3 x4 x5} : Kept s (State.holdSet x1 x2 x3 x4 x5) := by
  unfold State.holdSet
  exact (kept_ite (State.holdEnd_kept hx1) (State.setMac_kept hx1))

theorem State.holdBegin_kept {x1 : State} (hx1 : Kept s x1) {x2 x3} : Kept s (State.holdBegin x1 x2 x3) := by
  unfold State.holdBegin
  exact (State.setMac_kept hx1)

theorem State.holdExpire_kept {x1 : State} (hx1 : Kept s x1) {x2} : Kept s (State.holdExpire x1 x2) := by
  unfold State.holdExpire
  exact (kept_foldl hx1 (fun _ h2 _ => by exact (kept_ite (State.holdEnd_kept h2) h2)))

theorem State.macControl_kept {x1 : State} (hx1 : Kept s x1) {x2 x3 x4} : Kept s (State.macControl x1 x2 x3 x4) := by
  unfold State.macControl
  exact (kept_ite (State.when_kept (State.stat_kept hx1) (fun _ h2 => by exact (State.holdSet_kept (State.holdExpire_kept h2)))) (kept_ite (State.when_kept (State.stat_kept hx1) (fun _ h3 => by exact (kept_foldl (State.holdExpire_kept h3) (fun _ h4 _ => by exact (kept_ite (State.holdSet_kept h4) h4))))) (State.stat_kept hx1)))

theorem State.macCount_kept {x1 : State} (hx1 : Kept s x1) {x2 x3} : Kept s (State.macCount x1 x2 x3) := by
  unfold State.macCount
  exact (State.engEv_kept (State.stat_kept (kept_ite (State.stat_kept (kept_ite (State.stat_kept (State.stat_kept (State.stat_kept hx1))) (kept_ite (State.stat_kept (State.stat_kept (State.stat_kept hx1))) (kept_ite (State.stat_kept (State.stat_kept (State.stat_kept hx1))) (State.stat_kept (State.stat_kept hx1)))))) (kept_ite (State.stat_kept (State.stat_kept (State.stat_kept hx1))) (kept_ite (State.stat_kept (State.stat_kept (State.stat_kept hx1))) (kept_ite (State.stat_kept (State.stat_kept (State.stat_kept hx1))) (State.stat_kept (State.stat_kept hx1))))))))

theorem State.rxStart_kept {x1 : State} (hx1 : Kept s x1) {x2 x3 x4} : Kept s (State.rxStart x1 x2 x3 x4) := by
  unfold State.rxStart
  exact (kept_ite (State.fcEval_kept (State.setMac_kept hx1)) hx1)

theorem State.macRx_kept {x1 : State} (hx1 : Kept s x1) {x2 x3 x4 x5 x6 x7 x8} : Kept s (State.macRx x1 x2 x3 x4 x5 x6 x7 x8) := by
  unfold State.macRx
  exact (kept_ite (State.stat_kept (State.stat_kept hx1)) (kept_ite (State.stat_kept (State.stat_kept hx1)) (kept_ite (State.stat_kept (State.stat_kept hx1)) (kept_ite (State.stat_kept (State.stat_kept hx1)) (kept_ite (State.stat_kept (State.stat_kept hx1)) (kept_ite (State.stat_kept (State.stat_kept hx1)) (kept_ite (State.stat_kept (State.stat_kept hx1)) (kept_ite (State.macControl_kept (State.when_kept (State.macCount_kept (State.stat_kept hx1)) (fun _ h3 => by exact (State.stat_kept h3)))) (State.setMac_kept (State.when_kept (State.macCount_kept (State.stat_kept hx1)) (fun _ h3 => by exact (State.stat_kept h3))))))))))))

theorem State.frameOut_kept {x1 : State} (hx1 : Kept s x1) {x2 x3 x4 x5} : Kept s (State.frameOut x1 x2 x3 x4 x5) := by
  unfold State.frameOut
  exact (by
 try dsimp only
 split
 · exact (State.emit_kept hx1)
 · exact hx1
 · exact (kept_ite (State.fcEval_kept (State.macRx_kept hx1)) hx1))

theorem State.verifySend_kept {x1 : State} (hx1 : Kept s x1) {x2} : Kept s (State.verifySend x1 x2) := by
  unfold State.verifySend
  exact (State.emit_kept (State.setMac_kept hx1))

theorem State.verifyStart_kept {x1 : State} (hx1 : Kept s x1) {x2} : Kept s (State.verifyStart x1 x2) := by
  unfold State.verifyStart
  exact (kept_ite (State.setFld_kept hx1) (kept_ite (State.set1_kept (State.setFld_kept hx1)) (State.verifySend_kept (State.setMac_kept (State.setFld_kept hx1)))))

theorem State.verifyTimeout_kept {x1 : State} (hx1 : Kept s x1) {x2} : Kept s (State.verifyTimeout x1 x2) := by
  unfold State.verifyTimeout
  exact (kept_ite (kept_ite (State.verifySend_kept hx1) (State.stat_kept (State.setFld_kept hx1))) hx1)

theorem State.verifyRx_kept {x1 : State} (hx1 : Kept s x1) {x2 x3} : Kept s (State.verifyRx x1 x2 x3) := by
  unfold State.verifyRx
  exact (kept_ite (State.when_kept hx1 (fun _ h2 => by exact (State.emit_kept h2))) (kept_ite (State.set1_kept (State.setFld_kept hx1)) hx1))

theorem State.hostTxDone_kept {x1 : State} (hx1 : Kept s x1) {x2 x3 x4 x5} : Kept s (State.hostTxDone x1 x2 x3 x4 x5) := by
  unfold State.hostTxDone
  exact (kept_ite (kept_ite (State.descDone_kept hx1) (State.descDone_kept hx1)) (State.descDone_kept hx1))

theorem State.txDrop_kept {x1 : State} (hx1 : Kept s x1) {x2 x3} : Kept s (State.txDrop x1 x2 x3) := by
  unfold State.txDrop
  exact (by
 try dsimp only
 split
 · exact (State.hostTxDone_kept hx1)
 · exact hx1)

theorem State.macQueue_kept {x1 : State} (hx1 : Kept s x1) {x2 x3 x4} : Kept s (State.macQueue x1 x2 x3 x4) := by
  unfold State.macQueue
  exact (State.setMac_kept hx1)

theorem State.macSubmit_kept {x1 : State} (hx1 : Kept s x1) {x2 x3 x4} : Kept s (State.macSubmit x1 x2 x3 x4) := by
  unfold State.macSubmit
  exact (kept_ite (by
 try dsimp only
 split
 · exact (State.hostTxDone_kept hx1)
 · exact hx1) (kept_ite (by
 try dsimp only
 split
 · exact (State.hostTxDone_kept (State.stat_kept hx1))
 · exact (State.stat_kept hx1)) (kept_ite (by
 try dsimp only
 split
 · exact (State.hostTxDone_kept (State.stat_kept hx1))
 · exact (State.stat_kept hx1)) (kept_ite (by
 try dsimp only
 split
 · exact (State.hostTxDone_kept (State.stat_kept hx1))
 · exact (State.stat_kept hx1)) (kept_ite (State.macQueue_kept (State.when_kept hx1 (fun _ h2 => by exact (State.stat_kept h2)))) (State.macQueue_kept hx1))))))

theorem State.macSend_kept {x1 : State} (hx1 : Kept s x1) {x2 x3} : Kept s (State.macSend x1 x2 x3) := by
  unfold State.macSend
  exact (State.macSubmit_kept hx1)

theorem State.txFinish_kept {x1 : State} (hx1 : Kept s x1) {x2} : Kept s (State.txFinish x1 x2) := by
  unfold State.txFinish
  exact (by
 try dsimp only
 split
 · exact (by
 try dsimp only
 split
 · exact (State.hostTxDone_kept (State.frameOut_kept (State.when_kept (State.engEv_kept (State.stat_kept (State.stat_kept (State.holdBegin_kept (State.setMac_kept hx1))))) (fun _ h3 => by exact (State.stat_kept (State.stat_kept h3))))))
 · exact (State.frameOut_kept (State.when_kept (State.engEv_kept (State.stat_kept (State.stat_kept (State.holdBegin_kept (State.setMac_kept hx1))))) (fun _ h3 => by exact (State.stat_kept (State.stat_kept h3))))))
 · exact hx1)

theorem State.txStart_kept {x1 : State} (hx1 : Kept s x1) {x2 x3 x4 x5} : Kept s (State.txStart x1 x2 x3 x4 x5) := by
  unfold State.txStart
  exact (State.setMac_kept hx1)

theorem State.ctlStart_kept {x1 : State} (hx1 : Kept s x1) {x2 x3 x4 x5} : Kept s (State.ctlStart x1 x2 x3 x4 x5) := by
  unfold State.ctlStart
  exact (State.frameOut_kept (State.stat_kept (State.engEv_kept (State.stat_kept (State.stat_kept (State.stat_kept (State.setMac_kept hx1)))))))

theorem State.preempt_kept {x1 : State} (hx1 : Kept s x1) {x2 x3} : Kept s (State.preempt x1 x2 x3) := by
  unfold State.preempt
  exact (by
 try dsimp only
 split
 · exact (kept_ite (State.stat_kept (State.setMac_kept hx1)) hx1)
 · exact hx1)

theorem State.macBoundary_kept {x1 : State} (hx1 : Kept s x1) {x2 x3 x4} : Kept s (State.macBoundary x1 x2 x3 x4) := by
  unfold State.macBoundary
  exact (kept_ite hx1 (kept_ite (State.when_kept hx1 (fun _ h2 => by exact (State.preempt_kept h2))) (kept_ite (State.txFinish_kept (State.when_kept hx1 (fun _ h2 => by exact (State.preempt_kept h2)))) (by
 try dsimp only
 split
 · exact (kept_ite (State.ctlStart_kept (State.txFinish_kept (State.when_kept hx1 (fun _ h2 => by exact (State.preempt_kept h2))))) (State.txFinish_kept (State.when_kept hx1 (fun _ h2 => by exact (State.preempt_kept h2)))))
 · exact (by
 try dsimp only
 split
 · exact (kept_ite (State.txStart_kept (State.setMac_kept (State.txFinish_kept (State.when_kept hx1 (fun _ h2 => by exact (State.preempt_kept h2)))))) (State.txFinish_kept (State.when_kept hx1 (fun _ h2 => by exact (State.preempt_kept h2)))))
 · exact (kept_ite (State.txFinish_kept (State.when_kept hx1 (fun _ h2 => by exact (State.preempt_kept h2)))) (by
 try dsimp only
 split
 · exact (kept_ite (State.txStart_kept (State.setMac_kept (State.txFinish_kept (State.when_kept hx1 (fun _ h2 => by exact (State.preempt_kept h2)))))) (State.txFinish_kept (State.when_kept hx1 (fun _ h2 => by exact (State.preempt_kept h2)))))
 · exact (State.txFinish_kept (State.when_kept hx1 (fun _ h2 => by exact (State.preempt_kept h2)))))))))))

theorem State.agePromote_kept {x1 : State} (hx1 : Kept s x1) {x2} : Kept s (State.agePromote x1 x2) := by
  unfold State.agePromote
  exact (State.stat_kept (State.setMac_kept hx1))

theorem State.dropQueued_kept {x1 : State} (hx1 : Kept s x1) {x2 x3 x4} : Kept s (State.dropQueued x1 x2 x3 x4) := by
  unfold State.dropQueued
  exact (kept_foldl (State.stat_kept (State.setMac_kept hx1)) (fun _ h3 _ => by exact (State.txDrop_kept h3)))

theorem State.macLinkDown_kept {x1 : State} (hx1 : Kept s x1) {x2 x3} : Kept s (State.macLinkDown x1 x2 x3) := by
  unfold State.macLinkDown
  exact (kept_ite (State.setFld_kept (State.clr_kept (State.clr_kept (State.setMac_kept (State.xoffCount_kept (kept_foldl (State.stat_kept (State.dropQueued_kept (State.setMac_kept (by
 try dsimp only
 split
 · exact (State.txDrop_kept (by
 try dsimp only
 split
 · exact (State.txDrop_kept (State.stat_kept (State.clr_kept hx1)))
 · exact (State.stat_kept (State.clr_kept hx1))))
 · exact (by
 try dsimp only
 split
 · exact (State.txDrop_kept (State.stat_kept (State.clr_kept hx1)))
 · exact (State.stat_kept (State.clr_kept hx1))))))) (fun _ h7 _ => by exact (State.holdEnd_kept h7)))))))) hx1)

theorem State.macLinkUp_kept {x1 : State} (hx1 : Kept s x1) {x2} : Kept s (State.macLinkUp x1 x2) := by
  unfold State.macLinkUp
  exact (kept_ite (State.verifyStart_kept (State.clr_kept (State.clr_kept (State.set1_kept hx1)))) hx1)

theorem State.macMute_kept {x1 : State} (hx1 : Kept s x1) {x2} : Kept s (State.macMute x1 x2) := by
  unfold State.macMute
  exact (State.dropQueued_kept (State.clr_kept (State.set1_kept hx1)))

end Sys2Proof.Machine
end

