-- ==== Sys2Proof/Laws/KeptPackets.lean ====
section
/-! SUPPORT. What the operations of Machine/Packets.lean keep, one lemma each (Laws/Kept.lean). -/

namespace Sys2Proof.Machine

variable {s : State}

theorem State.tsCnt_kept {x1 : State} (hx1 : Kept s x1) {x2 x3} : Kept s (State.tsCnt x1 x2 x3) := by
  unfold State.tsCnt
  exact (State.rcAdd_kept hx1)

end Sys2Proof.Machine
end

