-- ==== Sys2Proof/Laws/KeptTimeService.lean ====
section
/-! SUPPORT. What the operations of Machine/TimeService.lean keep, one lemma each (Laws/Kept.lean). -/

namespace Sys2Proof.Machine

variable {s : State}

theorem State.setTs_kept {x1 : State} (hx1 : Kept s x1) {x2} : Kept s (State.setTs x1 x2) := by
  unfold State.setTs
  exact (by exact Kept.same hx1 rfl)

theorem State.ctPut_kept {x1 : State} (hx1 : Kept s x1) {x2 x3} : Kept s (State.ctPut x1 x2 x3) := by
  unfold State.ctPut
  exact (State.store_kept hx1)

theorem State.ctClean_kept {x1 : State} (hx1 : Kept s x1) {x2} : Kept s (State.ctClean x1 x2) := by
  unfold State.ctClean
  exact (kept_foldl hx1 (fun _ h2 _ => by exact (kept_ite (State.when_kept (State.tsCnt_kept (State.ctPut_kept h2)) (fun _ h3 => by exact (State.setFld_kept h3))) h2)))

theorem State.bucketNow_kept {x1 : State} (hx1 : Kept s x1) {x2} : Kept s ((State.bucketNow x1 x2)).2 := by
  unfold State.bucketNow
  exact (kept_snd (State.quot_kept hx1))

theorem State.ovfNow_kept {x1 : State} (hx1 : Kept s x1) : Kept s (((State.ovfNow x1)).2).2 := by
  unfold State.ovfNow
  exact (kept_snd (State.quot_kept (State.quot_kept hx1)))

theorem State.rateTake_kept {x1 : State} (hx1 : Kept s x1) {x2 x3 x4 x5 x6} : Kept s ((State.rateTake x1 x2 x3 x4 x5 x6)).1 := by
  unfold State.rateTake
  exact (by
 try dsimp only
 split
 · exact (kept_ite_fst (kept_fst (State.ctPut_kept (State.bucketNow_kept (State.ctClean_kept hx1)))) (kept_fst (State.ctPut_kept (State.bucketNow_kept (State.ctClean_kept hx1)))))
 · exact (by
 try dsimp only
 split
 · exact (kept_ite_fst (kept_fst (State.ctPut_kept (State.ctClean_kept hx1))) (kept_fst (State.ctPut_kept (State.ctClean_kept hx1))))
 · exact (kept_ite_fst (kept_fst (State.setTs_kept (State.setTs_kept (State.ovfNow_kept (State.ctClean_kept hx1))))) (kept_fst (State.setTs_kept (State.setTs_kept (State.ovfNow_kept (State.ctClean_kept hx1))))))))

theorem State.pickT3_kept {n len} : ∀ {k c} {t : State}, Kept s t → Kept s (State.pickT3 t n len k c).2
  | 0, _, _, h => h
  | _ + 1, _, _, h => by
    unfold State.pickT3
    dsimp only
    split
    · exact pickT3_kept (State.free_kept h)
    · exact State.free_kept h

theorem State.launchTime_kept {x1 : State} (hx1 : Kept s x1) {x2 x3} : Kept s ((State.launchTime x1 x2 x3)).2 := by
  unfold State.launchTime
  exact (State.pickT3_kept hx1)

theorem State.cookieSeal_kept {x1 : State} (hx1 : Kept s x1) {x2} : Kept s ((State.cookieSeal x1 x2)).2 := by
  unfold State.cookieSeal
  exact (kept_snd (State.free_kept hx1))

theorem State.cookies_kept {l} : ∀ {k} {t : State}, Kept s t → Kept s (State.cookies t l k).2
  | 0, _, h => h
  | _ + 1, _, h => by
    unfold State.cookies
    exact cookies_kept (State.cookieSeal_kept h)

theorem State.ntpBody_kept {x1 : State} (hx1 : Kept s x1) {x2 x3 x4} : Kept s ((State.ntpBody x1 x2 x3 x4)).2 := by
  unfold State.ntpBody
  exact (kept_ite_snd (kept_snd hx1) (kept_snd (State.free_kept hx1)))

theorem State.ntpKiss_kept {x1 : State} (hx1 : Kept s x1) {x2 x3 x4} : Kept s ((State.ntpKiss x1 x2 x3 x4)).2 := by
  unfold State.ntpKiss
  exact (kept_snd (State.free_kept (State.free_kept (State.free_kept hx1))))

theorem State.answer_kept {x1 : State} (hx1 : Kept s x1) {x2 x3} : Kept s (State.answer x1 x2 x3) := by
  unfold State.answer
  exact (State.macSend_kept hx1)

theorem State.launchFrame_kept {x1 : State} (hx1 : Kept s x1) {x2 x3 x4 x5} : Kept s ((State.launchFrame x1 x2 x3 x4 x5)).2 := by
  unfold State.launchFrame
  exact (kept_ite_snd (kept_snd (State.ntpBody_kept hx1)) (kept_snd hx1))

theorem State.decide__kept {x1 : State} (hx1 : Kept s x1) {x2 x3} : Kept s (State.decide_ x1 x2 x3) := by
  unfold State.decide_
  exact (kept_ite (State.tsCnt_kept hx1) (kept_ite (State.set1_kept (State.tsCnt_kept hx1)) (State.setTs_kept (State.launchFrame_kept (State.launchTime_kept (State.launchFrame_kept hx1))))))

theorem State.missed_kept {x1 : State} (hx1 : Kept s x1) {x2 x3} : Kept s (State.missed x1 x2 x3) := by
  unfold State.missed
  exact (kept_ite (State.engEv_kept (State.tsCnt_kept (State.engEv_kept hx1))) (State.decide__kept (State.tsCnt_kept (State.engEv_kept hx1))))

theorem State.missedBound_kept {x1 : State} (hx1 : Kept s x1) {x2 x3} : Kept s (State.missedBound x1 x2 x3) := by
  unfold State.missedBound
  exact (State.missed_kept (State.when_kept hx1 (fun _ h2 => by exact (State.tsCnt_kept h2))))

theorem State.safeDrop_kept {x1 : State} (hx1 : Kept s x1) : Kept s (State.safeDrop x1) := by
  unfold State.safeDrop
  exact (kept_foldl (State.tsCnt_kept (State.setTs_kept hx1)) (fun _ h3 _ => by exact (State.setMac_kept h3)))

theorem State.gateDrop_kept {x1 : State} (hx1 : Kept s x1) : Kept s (State.gateDrop x1) := by
  unfold State.gateDrop
  exact (kept_foldl hx1 (fun _ h2 _ => by exact (State.setMac_kept h2)))

end Sys2Proof.Machine
end

