-- ==== Sys2Proof/Laws/KeptTwinLink.lean ====
section
/-! SUPPORT. What the operations of Machine/TwinLink.lean keep, one lemma each (Laws/Kept.lean). -/

namespace Sys2Proof.Machine

variable {s : State}

theorem State.setTw_kept {x1 : State} (hx1 : Kept s x1) {x2} : Kept s (State.setTw x1 x2) := by
  unfold State.setTw
  exact (by exact Kept.same hx1 rfl)

theorem State.twCnt_kept {x1 : State} (hx1 : Kept s x1) {x2 x3} : Kept s (State.twCnt x1 x2 x3) := by
  unfold State.twCnt
  exact (State.rcAdd_kept hx1)

theorem State.twSend_kept {x1 : State} (hx1 : Kept s x1) {x2 x3 x4} : Kept s (State.twSend x1 x2 x3 x4) := by
  unfold State.twSend
  exact (State.setTw_kept hx1)

theorem State.twDrop_kept {x1 : State} (hx1 : Kept s x1) {x2} : Kept s (State.twDrop x1 x2) := by
  unfold State.twDrop
  exact (State.setTw_kept hx1)

theorem State.twCount_kept {x1 : State} (hx1 : Kept s x1) {x2} : Kept s (State.twCount x1 x2) := by
  unfold State.twCount
  exact (kept_ite (State.twCnt_kept hx1) (kept_ite (State.twCnt_kept hx1) hx1))

theorem State.setRest_kept {x1 : State} (hx1 : Kept s x1) {x2 x3} : Kept s (State.setRest x1 x2 x3) := by
  unfold State.setRest
  exact (State.setTw_kept hx1)

theorem State.twCell_kept {t : State} (h : Kept s t) {n} : Kept s (State.twCell t n).2 := by
  unfold State.twCell
  refine kept_ite_snd (State.setRest_kept h) ?_
  have hp : ∀ r, (match t.progNext with
      | some k => some (twHead 9 0 ([k, 0, 0, 0] ++ toBytesBE 4 ((t.seq k).cellQueued.getD 0 % 2 ^ 32) ++
          toBytesBE 4 ((t.seq k).cellQueued.getD 0 / 2 ^ 32)),
          (t.setSeq k { t.seq k with cellQueued := none }).twCnt 15 1)
      | none => none) = some r → Kept s r.2 := by
    split
    · intro r hr; cases hr; exact State.twCnt_kept (State.setSeq_kept h)
    · intro r hr; cases hr
  dsimp only
  split
  · split
    · next hr =>
      split at hr
      · cases hr
      · exact hp _ hr
    · exact State.setRest_kept (State.setTw_kept (State.twCount_kept h))
  · cases hg : t.progNext with
    | none => exact h
    | some k => exact State.twCnt_kept (State.setSeq_kept h)

theorem State.twCells_kept {n} : ∀ {k} {t : State}, Kept s t → Kept s (State.twCells t n k).2
  | 0, _, h => h
  | _ + 1, _, h => by
    unfold State.twCells
    exact kept_ite_snd (twCells_kept (State.twCell_kept h)) h

theorem State.setIn_kept {x1 : State} (hx1 : Kept s x1) {x2 x3} : Kept s (State.setIn x1 x2 x3) := by
  unfold State.setIn
  exact (State.setTw_kept hx1)

theorem State.twDeliver_kept {x1 : State} (hx1 : Kept s x1) {x2} : Kept s (State.twDeliver x1 x2) := by
  unfold State.twDeliver
  exact (kept_ite (State.setTw_kept hx1) hx1)

theorem State.twRx_kept {x1 : State} (hx1 : Kept s x1) {x2 x3} : Kept s (State.twRx x1 x2 x3) := by
  unfold State.twRx
  exact (kept_ite (kept_ite hx1 (kept_ite (State.twDeliver_kept hx1) (State.setIn_kept hx1))) (kept_ite (State.twDeliver_kept (State.setIn_kept hx1)) (State.setIn_kept hx1)))

theorem State.twTake_kept {x1 : State} (hx1 : Kept s x1) {x2 x3} : Kept s (State.twTake x1 x2 x3) := by
  unfold State.twTake
  exact (kept_ite (kept_foldl hx1 (fun _ h2 _ => by exact (State.twRx_kept h2))) hx1)

theorem State.twLose_kept {x1 : State} (hx1 : Kept s x1) {x2} : Kept s (State.twLose x1 x2) := by
  unfold State.twLose
  exact (State.setIn_kept hx1)

theorem State.twNext_kept {x1 : State} (hx1 : Kept s x1) {x2} : ∀ r, (State.twNext x1 x2) = some r → Kept s ((r).2).2 := by
  unfold State.twNext
  exact (by
 try dsimp only
 split
 · exact (kept_ite_some (fun _ hr => Option.some.inj hr ▸ (kept_snd (State.setTw_kept hx1))) (fun _ hr => nomatch hr))
 · exact (fun _ hr => nomatch hr))

end Sys2Proof.Machine
end

