-- ==== Sys2Proof/Laws/KeptPtp.lean ====
section
/-! SUPPORT. What the operations of Machine/Ptp.lean keep, one lemma each (Laws/Kept.lean). -/

namespace Sys2Proof.Machine

variable {s : State}

theorem State.setPtp_kept {x1 : State} (hx1 : Kept s x1) {x2 x3} : Kept s (State.setPtp x1 x2 x3) := by
  unfold State.setPtp
  exact (State.setTs_kept hx1)

theorem State.setPkt_kept {x1 : State} (hx1 : Kept s x1) {x2 x3} : Kept s (State.setPkt x1 x2 x3) := by
  unfold State.setPkt
  exact (State.setTs_kept hx1)

theorem State.ptpAccept_kept {x1 : State} (hx1 : Kept s x1) {x2 x3} : Kept s ((State.ptpAccept x1 x2 x3)).1 := by
  unfold State.ptpAccept
  exact (kept_ite_fst (kept_fst hx1) (kept_fst (State.tsCnt_kept hx1)))

theorem State.announceMsg_kept {x1 : State} (hx1 : Kept s x1) {x2 x3 x4} : Kept s ((State.announceMsg x1 x2 x3 x4)).2 := by
  unfold State.announceMsg
  exact (kept_snd (State.free_kept hx1))

theorem State.dueSet_kept {x1 : State} (hx1 : Kept s x1) {x2 x3 x4} : Kept s (State.dueSet x1 x2 x3 x4) := by
  unfold State.dueSet
  exact (State.setTs_kept hx1)

theorem State.grantNote_kept {x1 : State} (hx1 : Kept s x1) {x2} : Kept s (State.grantNote x1 x2) := by
  unfold State.grantNote
  exact (kept_ite (State.setTw_kept (State.twSend_kept hx1)) hx1)

theorem State.grantOne_kept {x1 : State} (hx1 : Kept s x1) {x2 x3 x4} : Kept s ((State.grantOne x1 x2 x3 x4)).1 := by
  unfold State.grantOne
  exact (by
 try dsimp only
 split
 · exact (kept_fst (State.tsCnt_kept hx1))
 · exact (kept_ite_fst (kept_fst (State.tsCnt_kept hx1)) (by
 try dsimp only
 split
 · exact (kept_fst (State.set1_kept (State.tsCnt_kept (State.ctClean_kept hx1))))
 · exact (kept_fst (kept_ite (State.tsCnt_kept (State.grantNote_kept (State.ctPut_kept (kept_ite (State.ctClean_kept hx1) (State.setFld_kept (State.ctClean_kept hx1)))))) (State.dueSet_kept (State.tsCnt_kept (State.grantNote_kept (State.ctPut_kept (kept_ite (State.ctClean_kept hx1) (State.setFld_kept (State.ctClean_kept hx1))))))))))))

theorem State.grantStop_kept {x1 : State} (hx1 : Kept s x1) {x2 x3} : Kept s (State.grantStop x1 x2 x3) := by
  unfold State.grantStop
  exact (kept_ite (State.setFld_kept (State.grantNote_kept (State.ctPut_kept (kept_ite hx1 (State.dueSet_kept hx1))))) (State.grantNote_kept (State.ctPut_kept (kept_ite hx1 (State.dueSet_kept hx1)))))

theorem State.svcTake_kept {x1 : State} (hx1 : Kept s x1) {x2 x3} : ∀ r, (State.svcTake x1 x2 x3) = some r → Kept s (r).2 := by
  unfold State.svcTake
  exact (by
 try dsimp only
 split
 · exact (fun _ hr => Option.some.inj hr ▸ (kept_snd (State.setTs_kept hx1)))
 · exact (fun _ hr => nomatch hr))

theorem State.delayReq_kept {x1 : State} (hx1 : Kept s x1) {x2} : Kept s (State.delayReq x1 x2) := by
  unfold State.delayReq
  exact (kept_ite (State.ptpAccept_kept hx1) (kept_ite (State.tsCnt_kept (State.ptpAccept_kept hx1)) (kept_ite (State.tsCnt_kept (State.macSend_kept (State.ptpAccept_kept hx1))) (State.ptpAccept_kept hx1))))

theorem State.pdelayReq_kept {x1 : State} (hx1 : Kept s x1) {x2} : Kept s (State.pdelayReq x1 x2) := by
  unfold State.pdelayReq
  exact (kept_ite (State.ptpAccept_kept hx1) (kept_ite (State.tsCnt_kept (State.ptpAccept_kept hx1)) (State.decide__kept (State.ptpAccept_kept hx1))))

theorem State.grantAll_kept {q auth} : ∀ {l} {t : State}, Kept s t → Kept s (State.grantAll t q auth l).1
  | [], _, h => h
  | _ :: _, _, h => by
    unfold State.grantAll
    exact kept_ite_fst (grantAll_kept (State.grantOne_kept h)) (grantAll_kept h)

theorem State.grantRequest_kept {x1 : State} (hx1 : Kept s x1) {x2} : Kept s (State.grantRequest x1 x2) := by
  unfold State.grantRequest
  exact (kept_ite (State.ptpAccept_kept hx1) (State.macSend_kept (State.grantAll_kept (State.ptpAccept_kept hx1))))

theorem State.grantCancel_kept {x1 : State} (hx1 : Kept s x1) {x2} : Kept s (State.grantCancel x1 x2) := by
  unfold State.grantCancel
  exact (kept_ite (State.ptpAccept_kept hx1) (State.macSend_kept (kept_foldl (State.ptpAccept_kept hx1) (fun _ h3 _ => by exact (by
 try dsimp only
 split
 · exact (State.grantStop_kept h3)
 · exact h3)))))

theorem State.syncSend_kept {x1 : State} (hx1 : Kept s x1) {x2 x3 x4 x5} : Kept s (State.syncSend x1 x2 x3 x4 x5) := by
  unfold State.syncSend
  exact (State.decide__kept hx1)

theorem State.syncMcast_kept {x1 : State} (hx1 : Kept s x1) {x2} : Kept s (State.syncMcast x1 x2) := by
  unfold State.syncMcast
  exact (kept_ite (State.syncSend_kept (State.setPtp_kept hx1)) hx1)

theorem State.annSend_kept {x1 : State} (hx1 : Kept s x1) {x2 x3 x4 x5} : Kept s (State.annSend x1 x2 x3 x4 x5) := by
  unfold State.annSend
  exact (State.tsCnt_kept (State.macSend_kept (State.announceMsg_kept hx1)))

theorem State.annMcast_kept {x1 : State} (hx1 : Kept s x1) {x2} : Kept s (State.annMcast x1 x2) := by
  unfold State.annMcast
  exact (State.annSend_kept (State.setPtp_kept hx1))

theorem State.grantSend_kept {x1 : State} (hx1 : Kept s x1) {x2 x3} : Kept s (State.grantSend x1 x2 x3) := by
  unfold State.grantSend
  exact (kept_ite (State.syncSend_kept (State.ctPut_kept hx1)) (State.annSend_kept (State.ctPut_kept hx1)))

theorem State.grantTimer_kept {x1 : State} (hx1 : Kept s x1) {x2 x3} : Kept s (State.grantTimer x1 x2 x3) := by
  unfold State.grantTimer
  exact (by
 try dsimp only
 split
 · exact (kept_ite (kept_ite (State.dueSet_kept hx1) (State.grantSend_kept (State.dueSet_kept hx1))) hx1)
 · exact hx1)

theorem State.pktPeer_kept {x1 : State} (hx1 : Kept s x1) {x2 x3} : Kept s ((State.pktPeer x1 x2 x3)).2 := by
  unfold State.pktPeer
  exact (kept_ite_snd (kept_snd hx1) (by
 try dsimp only
 split
 · exact (kept_snd hx1)
 · exact (kept_snd (State.free_kept hx1))))

theorem State.pktAccept_kept {x1 : State} (hx1 : Kept s x1) {x2 x3} : Kept s ((State.pktAccept x1 x2 x3)).1 := by
  unfold State.pktAccept
  exact (kept_ite_fst (kept_fst (State.setPkt_kept (State.ptpAccept_kept hx1))) (kept_fst (State.when_kept (State.ptpAccept_kept hx1) (fun _ h3 => by exact (State.rsEval_kept (State.rsFail_kept h3))))))

theorem State.pktSync_kept {x1 : State} (hx1 : Kept s x1) {x2 x3} : Kept s (State.pktSync x1 x2 x3) := by
  unfold State.pktSync
  exact (kept_ite (State.pktAccept_kept hx1) (kept_ite (State.setPkt_kept (State.pktAccept_kept hx1)) (kept_ite (kept_ite (State.set1_kept (State.setPkt_kept (State.pktAccept_kept hx1))) (State.clr_kept (State.setPkt_kept (State.pktAccept_kept hx1)))) (by
 try dsimp only
 split
 · exact (kept_ite (State.setPkt_kept (State.pktAccept_kept hx1)) (State.pktAccept_kept hx1))
 · exact (State.pktAccept_kept hx1)))))

theorem State.pktSent_kept {x1 : State} (hx1 : Kept s x1) {x2 x3 x4 x5} : Kept s (State.pktSent x1 x2 x3 x4 x5) := by
  unfold State.pktSent
  exact (State.setPkt_kept hx1)

theorem State.pktExchangeOf_kept {x1 : State} (hx1 : Kept s x1) {x2 x3} : Kept s (State.pktExchangeOf x1 x2 x3) := by
  unfold State.pktExchangeOf
  exact (by
 try dsimp only
 split
 · exact (kept_ite (State.pktAccept_kept hx1) (kept_ite (State.setFld_kept (State.setPkt_kept (State.pktAccept_kept hx1))) (kept_ite (State.when_kept (State.setFld_kept (State.setPkt_kept (State.pktAccept_kept hx1))) (fun _ h5 => by exact (State.rsFail_kept h5))) (State.pktExchange_kept (State.setFld_kept (State.setPkt_kept (State.pktAccept_kept hx1)))))))
 · exact (State.pktAccept_kept hx1))

theorem State.pktGranted_kept {x1 : State} (hx1 : Kept s x1) {x2 x3} : Kept s (State.pktGranted x1 x2 x3) := by
  unfold State.pktGranted
  exact (kept_ite (State.pktAccept_kept hx1) (kept_foldl (State.pktAccept_kept hx1) (fun _ h3 _ => by exact (by
 try dsimp only
 split
 · exact (kept_ite h3 (kept_ite (State.clr_kept (State.setPkt_kept h3)) (State.set1_kept (State.setPkt_kept h3))))
 · exact h3))))

theorem State.pktExpire_kept {x1 : State} (hx1 : Kept s x1) {x2} : Kept s (State.pktExpire x1 x2) := by
  unfold State.pktExpire
  exact (State.setFld_kept (State.setFld_kept (State.setFld_kept (State.setPkt_kept hx1))))

theorem State.pktRenew_kept {x1 : State} (hx1 : Kept s x1) {x2} : Kept s (State.pktRenew x1 x2) := by
  unfold State.pktRenew
  exact (kept_ite hx1 (State.macSend_kept (State.setPkt_kept (State.pktPeer_kept hx1))))

theorem State.pktRequest_kept {x1 : State} (hx1 : Kept s x1) {x2} : Kept s (State.pktRequest x1 x2) := by
  unfold State.pktRequest
  exact (kept_ite (State.decide__kept (State.setPkt_kept (State.pktPeer_kept hx1))) hx1)

end Sys2Proof.Machine
end

