-- ==== Sys2Proof/Laws/KeptReceipt.lean ====
section
/-! SUPPORT. What the operations of Machine/Receipt.lean keep, one lemma each (Laws/Kept.lean). -/

namespace Sys2Proof.Machine

variable {s : State}

theorem State.setRc_kept {x1 : State} (hx1 : Kept s x1) {x2} : Kept s (State.setRc x1 x2) := by
  unfold State.setRc
  exact (by exact Kept.same hx1 rfl)

theorem State.rcCnt_kept {x1 : State} (hx1 : Kept s x1) {x2 x3} : Kept s (State.rcCnt x1 x2 x3) := by
  unfold State.rcCnt
  exact (State.rcAdd_kept hx1)

theorem State.jPut_kept {x1 : State} (hx1 : Kept s x1) {x2 x3} : Kept s (State.jPut x1 x2 x3) := by
  unfold State.jPut
  exact (State.store_kept hx1)

theorem State.jSetWrite_kept {x1 : State} (hx1 : Kept s x1) {x2} : Kept s (State.jSetWrite x1 x2) := by
  unfold State.jSetWrite
  exact (State.setFld_kept hx1)

theorem State.mirrorSend_kept {x1 : State} (hx1 : Kept s x1) {x2 x3 x4} : Kept s (State.mirrorSend x1 x2 x3 x4) := by
  unfold State.mirrorSend
  exact (State.twSend_kept hx1)

theorem State.setSub_kept {x1 : State} (hx1 : Kept s x1) {x2 x3} : Kept s (State.setSub x1 x2 x3) := by
  unfold State.setSub
  exact (State.setRc_kept hx1)

theorem State.setLast_kept {x1 : State} (hx1 : Kept s x1) {x2 x3} : Kept s (State.setLast x1 x2 x3) := by
  unfold State.setLast
  exact (by
 try dsimp only
 split
 · exact (State.setSub_kept hx1)
 · exact hx1)

theorem State.uncache_kept {x1 : State} (hx1 : Kept s x1) {x2} : Kept s (State.uncache x1 x2) := by
  unfold State.uncache
  exact (State.setRc_kept hx1)

theorem State.cacheSweep_kept {x1 : State} (hx1 : Kept s x1) : Kept s (State.cacheSweep x1) := by
  unfold State.cacheSweep
  exact (State.setRc_kept hx1)

theorem State.subKey_kept {x1 : State} (hx1 : Kept s x1) {x2} : Kept s ((State.subKey x1 x2)).2 := by
  unfold State.subKey
  exact (by
 try dsimp only
 split
 · exact (kept_snd hx1)
 · exact (by
 try dsimp only
 split
 · exact (kept_ite_snd (kept_snd (State.setRc_kept (State.engEv_kept hx1))) (kept_snd (State.engEv_kept hx1)))
 · exact (kept_snd (State.engEv_kept hx1))))

theorem State.subFail_kept {x1 : State} (hx1 : Kept s x1) {x2} : Kept s (State.subFail x1 x2) := by
  unfold State.subFail
  exact (State.setFld_kept (State.set1_kept hx1))

theorem State.subDone_kept {x1 : State} (hx1 : Kept s x1) : Kept s (State.subDone x1) := by
  unfold State.subDone
  exact (State.set1_kept hx1)

theorem State.subWrite_kept {x1 : State} (hx1 : Kept s x1) {x2 x3} : Kept s (State.subWrite x1 x2 x3) := by
  unfold State.subWrite
  exact (kept_ite (State.subFail_kept hx1) (kept_ite (State.subFail_kept hx1) (kept_ite (State.subFail_kept hx1) (kept_ite (State.subFail_kept hx1) (kept_ite (State.subFail_kept (State.ksRefuse_kept hx1)) (by
 try dsimp only
 split
 · exact (State.subFail_kept (State.ksRefuse_kept hx1))
 · exact (kept_ite (State.subFail_kept hx1) (by
 try dsimp only
 split
 · exact (State.subDone_kept (State.setSub_kept (State.uncache_kept hx1)))
 · exact (State.subDone_kept (State.setSub_kept (State.uncache_kept hx1)))))))))))

theorem State.subOn_kept {x1 : State} (hx1 : Kept s x1) {x2 : State → Submit → State} (hx2 : ∀ y1, Kept s y1 → ∀ y2, Kept s (x2 y1 y2)) : Kept s (State.subOn x1 x2) := by
  unfold State.subOn
  exact (kept_ite (State.subFail_kept hx1) (by
 try dsimp only
 split
 · exact (State.subFail_kept hx1)
 · exact (kept_ite (State.subDone_kept (hx2 _ hx1 _)) (State.subFail_kept hx1))))

theorem State.subRemove_kept {x1 : State} (hx1 : Kept s x1) : Kept s (State.subRemove x1) := by
  unfold State.subRemove
  exact (State.subOn_kept hx1 (fun _ h2 _ => by exact (State.setSub_kept (State.uncache_kept h2))))

theorem State.subRead_kept {x1 : State} (hx1 : Kept s x1) : Kept s (State.subRead x1) := by
  unfold State.subRead
  exact (State.subOn_kept hx1 (fun _ h2 _ => by exact (State.setFld_kept (State.setFld_kept (State.setFld_kept (State.setFld_kept (State.setFld_kept h2)))))))

theorem State.subSuspend_kept {x1 : State} (hx1 : Kept s x1) {x2} : Kept s (State.subSuspend x1 x2) := by
  unfold State.subSuspend
  exact (State.subOn_kept hx1 (fun _ h2 _ => by exact (State.setSub_kept h2)))

theorem State.ackBare_kept {x1 : State} (hx1 : Kept s x1) {x2 x3 x4 x5 x6} : Kept s (State.ackBare x1 x2 x3 x4 x5 x6) := by
  unfold State.ackBare
  exact (kept_ite (State.rcCnt_kept (State.answer_kept hx1)) (kept_ite (State.rcCnt_kept (State.answer_kept hx1)) (kept_ite (State.engEv_kept (State.rcCnt_kept (State.answer_kept hx1))) (State.rcCnt_kept (State.answer_kept hx1)))))

theorem State.ackLeaf_kept {x1 : State} (hx1 : Kept s x1) {x2} : Kept s (State.ackLeaf x1 x2) := by
  unfold State.ackLeaf
  exact (kept_foldl (State.when_kept (State.engEv_kept (State.rcCnt_kept (State.answer_kept hx1))) (fun _ h3 => by exact (State.rcCnt_kept h3))) (fun _ h4 _ => by exact (State.rcCnt_kept (State.answer_kept h4))))

theorem State.ackBusy_kept {x1 : State} (hx1 : Kept s x1) {x2} : Kept s (State.ackBusy x1 x2) := by
  unfold State.ackBusy
  exact (kept_foldl hx1 (fun _ h2 _ => by exact (State.ackBare_kept h2)))

theorem State.ackRepeat_kept {x1 : State} (hx1 : Kept s x1) {x2 x3 x4} : Kept s (State.ackRepeat x1 x2 x3 x4) := by
  unfold State.ackRepeat
  exact (State.rcCnt_kept (State.answer_kept hx1))

theorem State.rcptWait_kept {x1 : State} (hx1 : Kept s x1) {x2 x3} : Kept s (State.rcptWait x1 x2 x3) := by
  unfold State.rcptWait
  exact (State.setRc_kept hx1)

theorem State.fetchStart_kept {x1 : State} (hx1 : Kept s x1) {x2} : Kept s (State.fetchStart x1 x2) := by
  unfold State.fetchStart
  exact (kept_ite hx1 (State.twSend_kept (State.setRc_kept hx1)))

theorem State.slotLost_kept {x1 : State} (hx1 : Kept s x1) {x2} : Kept s (State.slotLost x1 x2) := by
  unfold State.slotLost
  exact (State.log_kept (State.rcCnt_kept (State.setRc_kept hx1)))

theorem State.rcAccept_kept {x1 : State} (hx1 : Kept s x1) {x2 x3 x4 x5 x6} : Kept s (State.rcAccept x1 x2 x3 x4 x5 x6) := by
  unfold State.rcAccept
  exact (State.setRc_kept (State.when_kept (State.setLast_kept hx1) (fun _ h2 => by exact (State.rcCnt_kept h2))))

theorem State.rcPolicy_kept {x1 : State} (hx1 : Kept s x1) {x2 x3 x4} : Kept s (State.rcPolicy x1 x2 x3 x4) := by
  unfold State.rcPolicy
  exact (kept_ite (State.ackBare_kept hx1) (kept_ite (kept_ite (State.ackBare_kept hx1) (kept_ite (State.rcAccept_kept hx1) (State.ackBare_kept (State.when_kept hx1 (fun _ h2 => by exact (State.set1_kept h2)))))) (by
 try dsimp only
 split
 · exact (kept_ite (State.rcptWait_kept hx1) (State.ackBare_kept hx1))
 · exact (by
 try dsimp only
 split
 · exact (kept_ite (State.ackRepeat_kept hx1) (State.ackBare_kept hx1))
 · exact (State.ackBare_kept hx1)))))

theorem State.rcRequest_kept {x1 : State} (hx1 : Kept s x1) {x2} : Kept s (State.rcRequest x1 x2) := by
  unfold State.rcRequest
  exact (kept_ite (State.rcCnt_kept (State.setTs_kept hx1)) (kept_ite (State.rcCnt_kept (State.setTs_kept hx1)) (by
 try dsimp only
 split
 · exact (State.rcCnt_kept (State.setTs_kept hx1))
 · exact (kept_ite (State.rcCnt_kept (State.setTs_kept hx1)) (by
 try dsimp only
 split
 · exact (State.rcCnt_kept (kept_ite_fst (kept_fst (State.subKey_kept (State.setTs_kept hx1))) (kept_fst (State.setSub_kept (State.subKey_kept (State.setTs_kept hx1))))))
 · exact (kept_ite (State.rcCnt_kept (State.subKey_kept (State.setTs_kept hx1))) (by
 try dsimp only
 split
 · exact (kept_ite (State.fetchStart_kept hx1) (State.slotLost_kept hx1))
 · exact (State.rcPolicy_kept (kept_ite_fst (kept_fst (State.subKey_kept (State.setTs_kept hx1))) (kept_fst (State.setSub_kept (State.subKey_kept (State.setTs_kept hx1)))))))))))))

theorem State.batchOpenAt_kept {x1 : State} (hx1 : Kept s x1) {x2} : Kept s (State.batchOpenAt x1 x2) := by
  unfold State.batchOpenAt
  exact (State.setRc_kept (State.when_kept (State.jSetWrite_kept (State.jPut_kept hx1)) (fun _ h2 => by exact (State.mirrorSend_kept h2))))

theorem State.leafPlace_kept {x1 : State} (hx1 : Kept s x1) {x2 x3} : Kept s (State.leafPlace x1 x2 x3) := by
  unfold State.leafPlace
  exact (State.setRc_kept (State.jSetWrite_kept hx1))

theorem State.rcPlace_kept {x1 : State} (hx1 : Kept s x1) : Kept s (State.rcPlace x1) := by
  unfold State.rcPlace
  exact (by
 try dsimp only
 split
 · exact hx1
 · exact (by
 try dsimp only
 split
 · exact (kept_ite hx1 (State.leafPlace_kept hx1))
 · exact (kept_ite hx1 (by
 try dsimp only
 split
 · exact (State.leafPlace_kept (State.batchOpenAt_kept hx1))
 · exact hx1))))

theorem State.journalDone_kept {x1 : State} (hx1 : Kept s x1) : Kept s (State.journalDone x1) := by
  unfold State.journalDone
  exact (by
 try dsimp only
 split
 · exact hx1
 · exact (kept_ite (State.ackLeaf_kept (State.setRc_kept (State.setRc_kept (State.when_kept (State.jPut_kept hx1) (fun _ h2 => by exact (State.mirrorSend_kept h2)))))) (State.setRc_kept (State.setRc_kept (State.when_kept (State.jPut_kept hx1) (fun _ h2 => by exact (State.mirrorSend_kept h2)))))))

theorem State.rcIdle_kept {x1 : State} (hx1 : Kept s x1) : Kept s (State.rcIdle x1) := by
  unfold State.rcIdle
  exact (kept_ite (State.clr_kept hx1) hx1)

theorem State.setPrevRoot_kept {x1 : State} (hx1 : Kept s x1) {x2} : Kept s (State.setPrevRoot x1 x2) := by
  unfold State.setPrevRoot
  exact (State.setFld_kept hx1)

theorem State.batchClose_kept {x1 : State} (hx1 : Kept s x1) {x2 x3 x4} : Kept s (State.batchClose x1 x2 x3 x4) := by
  unfold State.batchClose
  exact (kept_ite (State.setRc_kept (State.jSetWrite_kept hx1)) (State.when_kept (State.engEv_kept (State.rcCnt_kept (State.setRc_kept (State.setPrevRoot_kept (State.setFld_kept (State.when_kept (State.jSetWrite_kept (State.jPut_kept hx1)) (fun _ h2 => by exact (State.mirrorSend_kept h2)))))))) (fun _ h4 => by exact (State.rcCnt_kept h4))))

theorem State.batchEarly_kept {x1 : State} (hx1 : Kept s x1) {x2} : Kept s (State.batchEarly x1 x2) := by
  unfold State.batchEarly
  exact (by
 try dsimp only
 split
 · exact (kept_ite (State.batchClose_kept hx1) (State.setRc_kept hx1))
 · exact hx1)

theorem State.tallyBoundary_kept {x1 : State} (hx1 : Kept s x1) : Kept s (State.tallyBoundary x1) := by
  unfold State.tallyBoundary
  exact (by
 try dsimp only
 split
 · exact (kept_ite hx1 (kept_ite (State.rcCnt_kept (State.setRc_kept hx1)) (State.setRc_kept hx1)))
 · exact hx1)

theorem State.batchFinish_kept {x1 : State} (hx1 : Kept s x1) : Kept s (State.batchFinish x1) := by
  unfold State.batchFinish
  exact (by
 try dsimp only
 split
 · exact (by
 try dsimp only
 split
 · exact (kept_ite hx1 (State.batchClose_kept hx1))
 · exact hx1)
 · exact hx1)

theorem State.rcDiscard_kept {x1 : State} (hx1 : Kept s x1) : Kept s (State.rcDiscard x1) := by
  unfold State.rcDiscard
  exact (kept_foldl (kept_foldl (State.twDrop_kept (State.setRc_kept (by
 try dsimp only
 split
 · exact (State.jSetWrite_kept hx1)
 · exact hx1))) (fun _ h5 _ => by exact (State.setLast_kept h5))) (fun _ h6 _ => by exact (State.ackBusy_kept h6)))

theorem State.mirrorDown_kept {x1 : State} (hx1 : Kept s x1) : Kept s (State.mirrorDown x1) := by
  unfold State.mirrorDown
  exact (State.setTw_kept (State.twDrop_kept (State.clr_kept hx1)))

theorem State.mirrorTimeout_kept {x1 : State} (hx1 : Kept s x1) : Kept s (State.mirrorTimeout x1) := by
  unfold State.mirrorTimeout
  exact (State.log_kept (State.rcCnt_kept (State.batchEarly_kept (State.mirrorDown_kept (State.rcDiscard_kept hx1)))))

theorem State.rcStop_kept {x1 : State} (hx1 : Kept s x1) {x2} : Kept s (State.rcStop x1 x2) := by
  unfold State.rcStop
  exact (State.rcIdle_kept (State.set1_kept (State.batchEarly_kept (State.rcDiscard_kept hx1))))

theorem State.rcEnable_kept {x1 : State} (hx1 : Kept s x1) : Kept s (State.rcEnable x1) := by
  unfold State.rcEnable
  exact (State.setRc_kept (State.set1_kept hx1))

theorem State.rcKeyEdge_kept {x1 : State} (hx1 : Kept s x1) : Kept s (State.rcKeyEdge x1) := by
  unfold State.rcKeyEdge
  exact (kept_ite (State.batchEarly_kept hx1) hx1)

theorem State.rootSign_kept {x1 : State} (hx1 : Kept s x1) {x2} : Kept s ((State.rootSign x1 x2)).2 := by
  unfold State.rootSign
  exact (by
 try dsimp only
 split
 · exact (kept_snd hx1)
 · exact (kept_snd (State.free_kept hx1)))

theorem State.batchSigned_kept {x1 : State} (hx1 : Kept s x1) : Kept s (State.batchSigned x1) := by
  unfold State.batchSigned
  exact (by
 try dsimp only
 split
 · exact hx1
 · exact (State.rcIdle_kept (State.when_kept (State.engEv_kept (State.setRc_kept (State.rootSign_kept hx1))) (fun _ h4 => by exact (State.twSend_kept h4)))))

theorem State.rcConfirm_kept {x1 : State} (hx1 : Kept s x1) {x2 x3} : Kept s (State.rcConfirm x1 x2 x3) := by
  unfold State.rcConfirm
  exact (State.rcIdle_kept (kept_foldl (kept_foldl (State.twDrop_kept (State.setRc_kept hx1)) (fun _ h4 _ => by exact (State.engEv_kept (State.twCnt_kept h4)))) (fun _ h5 _ => by exact (State.ackLeaf_kept h5))))

theorem State.archBuffer_kept {x1 : State} (hx1 : Kept s x1) : Kept s ((State.archBuffer x1)).1 := by
  unfold State.archBuffer
  exact (kept_ite_fst (kept_fst hx1) (kept_ite_fst (kept_fst (State.ringStop_kept hx1)) (kept_ite_fst (kept_fst hx1) (kept_fst hx1))))

theorem State.archWrite_kept {x1 : State} (hx1 : Kept s x1) {x2 x3 x4 x5 x6 x7 x8} : Kept s (State.archWrite x1 x2 x3 x4 x5 x6 x7 x8) := by
  unfold State.archWrite
  exact (State.ringOffer_kept (State.engEv_kept (State.descDone_kept (State.ringTake_kept (by exact Kept.hostMemTo hx1 memPutBytes_wf)))))

theorem State.archive_kept {x1 : State} (hx1 : Kept s x1) : Kept s (State.archive x1) := by
  unfold State.archive
  exact (by
 try dsimp only
 split
 · exact hx1
 · exact (kept_ite hx1 (by
 try dsimp only
 split
 · exact (State.set1_kept (State.archBuffer_kept hx1))
 · exact (kept_ite (State.set1_kept (State.archBuffer_kept hx1)) (kept_ite (State.rcIdle_kept (State.setRc_kept (State.archWrite_kept (State.clr_kept (State.archBuffer_kept hx1))))) (by
 try dsimp only
 split
 · exact (kept_ite (State.fetchStart_kept (State.clr_kept (State.archBuffer_kept hx1))) (State.slotLost_kept (State.clr_kept (State.archBuffer_kept hx1))))
 · exact (State.setRc_kept (State.archWrite_kept (State.clr_kept (State.archBuffer_kept hx1))))))))))

theorem State.rcRelease_kept {x1 : State} (hx1 : Kept s x1) {x2} : Kept s (State.rcRelease x1 x2) := by
  unfold State.rcRelease
  exact (kept_ite (State.setRc_kept (State.setFld_kept hx1)) (State.log_kept hx1))

theorem State.walk_kept : ∀ {n w k} {t : State}, Kept s t → Kept s (State.walk t w k n).1
  | 0, _, _, _, h => h
  | _ + 1, _, _, _, h => by
    unfold State.walk
    dsimp only
    split
    · exact walk_kept h
    · split
      · exact walk_kept h
      · split
        · exact walk_kept h
        · exact walk_kept (State.setRc_kept h)

theorem State.rcTakeover_kept {x1 : State} (hx1 : Kept s x1) : Kept s (State.rcTakeover x1) := by
  unfold State.rcTakeover
  exact (by
 try dsimp only
 split
 · exact (State.walk_kept (State.setRc_kept hx1))
 · exact (State.batchEarly_kept (State.setRc_kept (State.walk_kept (State.setRc_kept hx1)))))

end Sys2Proof.Machine
end

