-- ==== Sys2Proof/Laws/KeptTwin.lean ====
section
/-! SUPPORT. What the operations of Machine/Twin.lean keep, one lemma each (Laws/Kept.lean). -/

namespace Sys2Proof.Machine

variable {s : State}

theorem State.seniorShow_kept {x1 : State} (hx1 : Kept s x1) : Kept s (State.seniorShow x1) := by
  unfold State.seniorShow
  exact (State.setFld_kept hx1)

theorem State.setRole_kept {x1 : State} (hx1 : Kept s x1) {x2} : Kept s (State.setRole x1 x2) := by
  unfold State.setRole
  exact (kept_ite hx1 (State.setTw_kept (State.set1_kept (State.setFld_kept hx1))))

theorem State.leaseDrop_kept {x1 : State} (hx1 : Kept s x1) : Kept s (State.leaseDrop x1) := by
  unfold State.leaseDrop
  exact (State.setTw_kept (State.clr_kept hx1))

theorem State.twInit_kept {x1 : State} (hx1 : Kept s x1) : Kept s (State.twInit x1) := by
  unfold State.twInit
  exact (State.setTw_kept (State.leaseDrop_kept (State.mirrorDown_kept (State.setRole_kept hx1))))

theorem State.twNone_kept {x1 : State} (hx1 : Kept s x1) : Kept s (State.twNone x1) := by
  unfold State.twNone
  exact (State.setTw_kept (State.clr_kept (State.leaseDrop_kept (State.mirrorDown_kept (State.setRole_kept hx1)))))

theorem State.epochBegin_kept {x1 : State} (hx1 : Kept s x1) : Kept s (State.epochBegin x1) := by
  unfold State.epochBegin
  exact (State.setTw_kept hx1)

theorem State.twStandby_kept {x1 : State} (hx1 : Kept s x1) : Kept s (State.twStandby x1) := by
  unfold State.twStandby
  exact (State.leaseDrop_kept (State.mirrorDown_kept (State.setRole_kept hx1)))

theorem State.twActive_kept {x1 : State} (hx1 : Kept s x1) {x2} : Kept s (State.twActive x1 x2) := by
  unfold State.twActive
  exact (State.setTw_kept (State.epochBegin_kept (State.leaseDrop_kept (State.setRole_kept hx1))))

theorem State.swapNext_kept {x1 : State} (hx1 : Kept s x1) : Kept s (State.swapNext x1) := by
  unfold State.swapNext
  exact (State.setFld_kept hx1)

theorem State.announceGo_kept {x1 : State} (hx1 : Kept s x1) {x2} : Kept s (State.announceGo x1 x2) := by
  unfold State.announceGo
  exact (State.setTs_kept hx1)

theorem State.dueStart_kept {x1 : State} (hx1 : Kept s x1) {x2} : Kept s (State.dueStart x1 x2) := by
  unfold State.dueStart
  exact (kept_foldl hx1 (fun _ h2 _ => by exact (kept_ite (State.dueSet_kept h2) h2)))

theorem State.seqJump_kept {x1 : State} (hx1 : Kept s x1) {x2} : Kept s (State.seqJump x1 x2) := by
  unfold State.seqJump
  exact (State.dueStart_kept (State.ctPut_kept hx1))

theorem State.grantApply_kept {x1 : State} (hx1 : Kept s x1) {x2} : Kept s (State.grantApply x1 x2) := by
  unfold State.grantApply
  exact (by
 try dsimp only
 split
 · exact (kept_ite (State.setFld_kept (State.ctPut_kept hx1)) (State.ctPut_kept hx1))
 · exact (kept_ite hx1 (by
 try dsimp only
 split
 · exact (State.setFld_kept (State.ctPut_kept hx1))
 · exact (State.set1_kept hx1))))

theorem State.promote_kept {x1 : State} (hx1 : Kept s x1) : Kept s (State.promote x1) := by
  unfold State.promote
  exact (kept_ite hx1 (State.twCnt_kept (State.when_kept (State.swapNext_kept (State.rcTakeover_kept (State.announceGo_kept (kept_foldl (State.mirrorDown_kept (State.twActive_kept hx1)) (fun _ h3 _ => by exact (State.seqJump_kept h3)))))) (fun _ h5 => by exact (State.set1_kept h5)))))

theorem State.demoteStart_kept {x1 : State} (hx1 : Kept s x1) {x2 x3} : Kept s (State.demoteStart x1 x2 x3) := by
  unfold State.demoteStart
  exact (kept_ite hx1 (State.twCnt_kept (State.setTw_kept (State.mirrorDown_kept (State.rcDiscard_kept (State.leaseDrop_kept (State.setRole_kept hx1)))))))

theorem State.demoteEnd_kept {x1 : State} (hx1 : Kept s x1) : Kept s (State.demoteEnd x1) := by
  unfold State.demoteEnd
  exact (by
 try dsimp only
 split
 · exact (kept_ite hx1 (State.when_kept (State.when_kept (kept_ite (State.twStandby_kept (kept_ite (State.setTw_kept hx1) (State.setRc_kept (State.setTw_kept hx1)))) (State.twNone_kept (kept_ite (State.setTw_kept hx1) (State.setRc_kept (State.setTw_kept hx1))))) (fun _ h5 => by exact (State.log_kept (State.set1_kept h5)))) (fun _ h6 => by exact (State.set1_kept h6))))
 · exact hx1)

theorem State.dualActive_kept {x1 : State} (hx1 : Kept s x1) : Kept s (State.dualActive x1) := by
  unfold State.dualActive
  exact (kept_ite hx1 (kept_ite (State.setTw_kept (State.twCnt_kept (State.log_kept (State.set1_kept hx1)))) (State.set1_kept (State.batchEarly_kept (State.demoteStart_kept (State.setTw_kept (State.twCnt_kept (State.log_kept (State.set1_kept hx1)))))))))

theorem State.joinWaitEnd_kept {x1 : State} (hx1 : Kept s x1) : Kept s (State.joinWaitEnd x1) := by
  unfold State.joinWaitEnd
  exact (kept_ite (State.clr_kept hx1) hx1)

theorem State.seeActive_kept {x1 : State} (hx1 : Kept s x1) : Kept s (State.seeActive x1) := by
  unfold State.seeActive
  exact (kept_ite (State.twStandby_kept hx1) (kept_ite (State.dualActive_kept hx1) hx1))

theorem State.breathTx_kept {x1 : State} (hx1 : Kept s x1) : Kept s (State.breathTx x1) := by
  unfold State.breathTx
  exact (kept_ite hx1 (State.engEv_kept (State.twCnt_kept (State.setTw_kept hx1))))

theorem State.breathSent_kept {x1 : State} (hx1 : Kept s x1) {x2 x3 x4} : Kept s (State.breathSent x1 x2 x3 x4) := by
  unfold State.breathSent
  exact (State.setTw_kept hx1)

theorem State.leaseTake_kept {x1 : State} (hx1 : Kept s x1) {x2} : Kept s (State.leaseTake x1 x2) := by
  unfold State.leaseTake
  exact (by
 try dsimp only
 split
 · exact (kept_ite (State.setTw_kept (State.set1_kept hx1)) hx1)
 · exact hx1)

theorem State.leaseExpire_kept {x1 : State} (hx1 : Kept s x1) : Kept s (State.leaseExpire x1) := by
  unfold State.leaseExpire
  exact (by
 try dsimp only
 split
 · exact (kept_ite (State.when_kept (State.leaseDrop_kept hx1) (fun _ h2 => by exact (State.mirrorDown_kept h2))) hx1)
 · exact hx1)

theorem State.joinStart_kept {x1 : State} (hx1 : Kept s x1) : Kept s (State.joinStart x1) := by
  unfold State.joinStart
  exact (State.setTw_kept (kept_foldl (kept_foldl (State.twSend_kept hx1) (fun _ h3 _ => by exact (by
 try dsimp only
 split
 · exact (State.twSend_kept h3)
 · exact h3))) (fun _ h4 _ => by exact (State.twSend_kept h4))))

theorem State.joinCheck_kept {x1 : State} (hx1 : Kept s x1) {x2} : Kept s (State.joinCheck x1 x2) := by
  unfold State.joinCheck
  exact (kept_ite (State.mirrorDown_kept hx1) (kept_ite (State.joinStart_kept (State.mirrorDown_kept hx1)) hx1))

theorem State.resyncAnswer_kept {x1 : State} (hx1 : Kept s x1) {x2} : Kept s (State.resyncAnswer x1 x2) := by
  unfold State.resyncAnswer
  exact (kept_ite (State.setTw_kept hx1) (kept_ite hx1 (State.setTw_kept (kept_foldl hx1 (fun _ h2 _ => by exact (State.grantNote_kept h2))))))

theorem State.breathRx_kept {x1 : State} (hx1 : Kept s x1) : Kept s (State.breathRx x1) := by
  unfold State.breathRx
  exact (by
 try dsimp only
 split
 · exact hx1
 · exact (kept_ite (State.setTw_kept hx1) (kept_ite (kept_ite (State.clr_kept (State.seeActive_kept (State.setTw_kept (State.clr_kept (State.engEv_kept (State.twCnt_kept (State.setTw_kept hx1))))))) (kept_ite (State.set1_kept (State.seeActive_kept (State.setTw_kept (State.clr_kept (State.engEv_kept (State.twCnt_kept (State.setTw_kept hx1))))))) (State.seeActive_kept (State.setTw_kept (State.clr_kept (State.engEv_kept (State.twCnt_kept (State.setTw_kept hx1)))))))) (kept_ite (kept_ite (State.promote_kept (State.setTw_kept (State.clr_kept (State.engEv_kept (State.twCnt_kept (State.setTw_kept hx1)))))) (State.setTw_kept (State.clr_kept (State.engEv_kept (State.twCnt_kept (State.setTw_kept hx1)))))) (kept_ite (kept_ite (State.twActive_kept (State.setTw_kept (State.clr_kept (State.engEv_kept (State.twCnt_kept (State.setTw_kept hx1)))))) (State.setTw_kept (State.clr_kept (State.engEv_kept (State.twCnt_kept (State.setTw_kept hx1)))))) (kept_ite (State.resyncAnswer_kept (State.joinCheck_kept (State.leaseTake_kept (State.setTw_kept (State.clr_kept (State.engEv_kept (State.twCnt_kept (State.setTw_kept hx1)))))))) (State.setTw_kept (State.clr_kept (State.engEv_kept (State.twCnt_kept (State.setTw_kept hx1)))))))))))

theorem State.witnessPulse_kept {x1 : State} (hx1 : Kept s x1) : Kept s (State.witnessPulse x1) := by
  unfold State.witnessPulse
  exact (kept_ite hx1 (kept_ite (State.emit_kept hx1) (kept_ite (State.emit_kept hx1) hx1)))

theorem State.witnessSeen_kept {x1 : State} (hx1 : Kept s x1) {x2} : Kept s (State.witnessSeen x1 x2) := by
  unfold State.witnessSeen
  exact (kept_ite hx1 (kept_ite (State.setTw_kept hx1) (kept_ite hx1 (kept_ite (State.seeActive_kept (State.setTw_kept hx1)) (State.setTw_kept hx1)))))

theorem State.witnessBad_kept {x1 : State} (hx1 : Kept s x1) : Kept s (State.witnessBad x1) := by
  unfold State.witnessBad
  exact (kept_ite (State.setTw_kept hx1) (State.log_kept (State.setTw_kept hx1)))

theorem State.linkCheck_kept {x1 : State} (hx1 : Kept s x1) : Kept s (State.linkCheck x1) := by
  unfold State.linkCheck
  exact (kept_ite (State.setTw_kept (State.mirrorDown_kept (State.log_kept (State.set1_kept hx1)))) hx1)

theorem State.partnerSilent_kept {x1 : State} (hx1 : Kept s x1) : Kept s (State.partnerSilent x1) := by
  unfold State.partnerSilent
  exact (kept_ite (State.linkCheck_kept hx1) (kept_ite (kept_ite (State.twActive_kept hx1) hx1) (kept_ite (State.promote_kept hx1) (kept_ite (State.when_kept (State.setTw_kept (State.mirrorDown_kept (State.log_kept (State.set1_kept hx1)))) (fun _ h3 => by exact (State.set1_kept h3))) hx1))))

theorem State.confirmSend_kept {x1 : State} (hx1 : Kept s x1) : Kept s (State.confirmSend x1) := by
  unfold State.confirmSend
  exact (by
 try dsimp only
 split
 · exact (State.twSend_kept (State.twDrop_kept hx1))
 · exact (State.twSend_kept (State.free_kept (State.twDrop_kept hx1))))

theorem State.mirrorNote_kept {x1 : State} (hx1 : Kept s x1) {x2 x3} : Kept s (State.mirrorNote x1 x2 x3) := by
  unfold State.mirrorNote
  exact (kept_ite (by
 try dsimp only
 split
 · exact (kept_ite (State.setLast_kept (State.setRc_kept hx1)) (State.setRc_kept hx1))
 · exact (State.setRc_kept hx1)) (kept_ite (State.setTw_kept hx1) (kept_ite (State.setPrevRoot_kept (State.setFld_kept hx1)) hx1)))

theorem State.confirmRun_kept : ∀ {n} {t : State}, Kept s t → Kept s (State.confirmRun t n)
  | 0, _, h => h
  | _ + 1, _, h => by
    unfold State.confirmRun
    exact kept_ite (confirmRun_kept (State.jSetWrite_kept (State.mirrorNote_kept (State.setTw_kept h)))) h

theorem State.mirrorLive_kept {x1 : State} (hx1 : Kept s x1) {x2 x3 x4} : Kept s (State.mirrorLive x1 x2 x3 x4) := by
  unfold State.mirrorLive
  exact (kept_ite (State.confirmSend_kept (State.setFld_kept (State.setFld_kept hx1))) (State.confirmSend_kept (State.confirmRun_kept (State.setTw_kept (State.jPut_kept (State.setFld_kept (State.setFld_kept hx1)))))))

theorem State.mirrorHist_kept {x1 : State} (hx1 : Kept s x1) {x2 x3} : Kept s (State.mirrorHist x1 x2 x3) := by
  unfold State.mirrorHist
  exact (by
 try dsimp only
 split
 · exact (kept_ite (kept_ite (State.clr_kept (State.setTw_kept (State.mirrorNote_kept (State.jPut_kept hx1)))) (State.setTw_kept (State.mirrorNote_kept (State.jPut_kept hx1)))) (State.mirrorNote_kept (State.jPut_kept hx1)))
 · exact hx1)

theorem State.mirrorFetched_kept {x1 : State} (hx1 : Kept s x1) {x2 x3} : Kept s (State.mirrorFetched x1 x2 x3) := by
  unfold State.mirrorFetched
  exact (by
 try dsimp only
 split
 · exact (kept_ite (State.rcCnt_kept (State.twDrop_kept (State.setRc_kept (State.jPut_kept hx1)))) hx1)
 · exact hx1)

theorem State.mirrorRx_kept {x1 : State} (hx1 : Kept s x1) : Kept s (State.mirrorRx x1) := by
  unfold State.mirrorRx
  exact (by
 try dsimp only
 split
 · next e1 => exact (kept_ite (State.mirrorFetched_kept ((State.twNext_kept hx1) _ e1)) (kept_ite ((State.twNext_kept hx1) _ e1) (kept_ite (State.mirrorHist_kept ((State.twNext_kept hx1) _ e1)) (State.mirrorLive_kept ((State.twNext_kept hx1) _ e1)))))
 · exact hx1)

theorem State.recordRx_kept {x1 : State} (hx1 : Kept s x1) : Kept s (State.recordRx x1) := by
  unfold State.recordRx
  exact (by
 try dsimp only
 split
 · next e1 => exact (kept_ite ((State.twNext_kept hx1) _ e1) (State.confirmSend_kept (State.setTw_kept ((State.twNext_kept hx1) _ e1))))
 · exact hx1)

theorem State.fetchRx_kept {x1 : State} (hx1 : Kept s x1) : Kept s (State.fetchRx x1) := by
  unfold State.fetchRx
  exact (by
 try dsimp only
 split
 · next e1 => exact (kept_ite (State.mirrorSend_kept ((State.twNext_kept hx1) _ e1)) ((State.twNext_kept hx1) _ e1))
 · exact hx1)

theorem State.joinRx_kept {x1 : State} (hx1 : Kept s x1) : Kept s (State.joinRx x1) := by
  unfold State.joinRx
  exact (by
 try dsimp only
 split
 · next e1 => exact (kept_ite ((State.twNext_kept hx1) _ e1) (kept_ite (State.setTw_kept (State.log_kept (State.set1_kept ((State.twNext_kept hx1) _ e1)))) (State.confirmSend_kept (State.setFld_kept (State.setTw_kept (State.setRc_kept (State.setFld_kept (State.setFld_kept (State.setFld_kept (State.setFld_kept (State.jSetWrite_kept ((State.twNext_kept hx1) _ e1))))))))))))
 · exact hx1)

theorem State.sublastRx_kept {x1 : State} (hx1 : Kept s x1) : Kept s (State.sublastRx x1) := by
  unfold State.sublastRx
  exact (by
 try dsimp only
 split
 · next e1 => exact (kept_ite (State.confirmSend_kept (State.setLast_kept ((State.twNext_kept hx1) _ e1))) ((State.twNext_kept hx1) _ e1))
 · exact hx1)

theorem State.handSend_kept {x1 : State} (hx1 : Kept s x1) : Kept s (State.handSend x1) := by
  unfold State.handSend
  exact (kept_ite (State.set1_kept (State.twCnt_kept (State.setRc_kept (State.setTw_kept (State.twSend_kept hx1))))) hx1)

theorem State.confirmRx_kept {x1 : State} (hx1 : Kept s x1) : Kept s (State.confirmRx x1) := by
  unfold State.confirmRx
  exact (by
 try dsimp only
 split
 · next e1 => exact (kept_ite (State.handSend_kept (kept_ite (State.setTw_kept (State.set1_kept (State.rcConfirm_kept ((State.twNext_kept hx1) _ e1)))) (State.rcConfirm_kept ((State.twNext_kept hx1) _ e1)))) ((State.twNext_kept hx1) _ e1))
 · exact hx1)

theorem State.epochTry_kept {x1 : State} (hx1 : Kept s x1) {x2} : Kept s (State.epochTry x1 x2) := by
  unfold State.epochTry
  exact (by
 try dsimp only
 split
 · exact hx1
 · exact (kept_ite (State.twCnt_kept (State.setFld_kept (State.setTw_kept (kept_foldl hx1 (fun _ h2 _ => by exact (State.grantApply_kept h2)))))) hx1))

theorem State.grantRx_kept {x1 : State} (hx1 : Kept s x1) : Kept s (State.grantRx x1) := by
  unfold State.grantRx
  exact (by
 try dsimp only
 split
 · next e1 => exact (kept_ite (State.epochTry_kept (State.setTw_kept ((State.twNext_kept hx1) _ e1))) ((State.twNext_kept hx1) _ e1))
 · exact hx1)

theorem State.epochEndRx_kept {x1 : State} (hx1 : Kept s x1) : Kept s (State.epochEndRx x1) := by
  unfold State.epochEndRx
  exact (by
 try dsimp only
 split
 · next e1 => exact (kept_ite (State.epochTry_kept (State.setTw_kept ((State.twNext_kept hx1) _ e1))) ((State.twNext_kept hx1) _ e1))
 · exact hx1)

theorem State.epochDiscard_kept {x1 : State} (hx1 : Kept s x1) : Kept s (State.epochDiscard x1) := by
  unfold State.epochDiscard
  exact (by
 try dsimp only
 split
 · exact hx1
 · exact (State.log_kept (State.twCnt_kept (State.set1_kept (State.setTw_kept hx1)))))

theorem State.epochClose_kept {x1 : State} (hx1 : Kept s x1) : Kept s (State.epochClose x1) := by
  unfold State.epochClose
  exact (State.twCnt_kept (State.setFld_kept (State.epochBegin_kept (State.setTw_kept (State.twSend_kept hx1)))))

theorem State.epochCut_kept {x1 : State} (hx1 : Kept s x1) : Kept s (State.epochCut x1) := by
  unfold State.epochCut
  exact (kept_ite (State.epochClose_kept hx1) hx1)

theorem State.progRx_kept {x1 : State} (hx1 : Kept s x1) : Kept s (State.progRx x1) := by
  unfold State.progRx
  exact (by
 try dsimp only
 split
 · next e1 => exact (kept_ite ((State.twNext_kept hx1) _ e1) (kept_ite (State.seqEv_kept (State.setSeq_kept ((State.twNext_kept hx1) _ e1))) (State.setSeq_kept ((State.twNext_kept hx1) _ e1))))
 · exact hx1)

theorem State.resend_kept {x1 : State} (hx1 : Kept s x1) : Kept s (State.resend x1) := by
  unfold State.resend
  exact (State.setTw_kept hx1)

theorem State.selfCheck_kept {x1 : State} (hx1 : Kept s x1) {x2 x3 x4} : Kept s (State.selfCheck x1 x2 x3 x4) := by
  unfold State.selfCheck
  exact (kept_ite hx1 (kept_ite (State.demoteStart_kept (State.setTw_kept hx1)) (State.setTw_kept hx1)))

theorem State.breathGuard_kept {x1 : State} (hx1 : Kept s x1) : Kept s (State.breathGuard x1) := by
  unfold State.breathGuard
  exact (kept_ite (State.setTw_kept hx1) hx1)

theorem State.disagree_kept {x1 : State} (hx1 : Kept s x1) : Kept s (State.disagree x1) := by
  unfold State.disagree
  exact (kept_ite hx1 (State.log_kept (State.set1_kept hx1)))

theorem State.pathCheck_kept {x1 : State} (hx1 : Kept s x1) : Kept s (State.pathCheck x1) := by
  unfold State.pathCheck
  exact (by
 try dsimp only
 split
 · exact (kept_ite (State.log_kept hx1) hx1)
 · exact hx1)

theorem State.linkSample_kept {x1 : State} (hx1 : Kept s x1) {x2} : Kept s (State.linkSample x1 x2) := by
  unfold State.linkSample
  exact (by
 try dsimp only
 split
 · exact (kept_ite (State.disagree_kept (State.pathCheck_kept (State.setTw_kept (State.setFld_kept hx1)))) (State.pathCheck_kept (State.setTw_kept (State.setFld_kept hx1))))
 · exact (State.pathCheck_kept (State.setTw_kept (State.setFld_kept hx1))))

theorem State.ppsSample_kept {x1 : State} (hx1 : Kept s x1) {x2} : Kept s (State.ppsSample x1 x2) := by
  unfold State.ppsSample
  exact (kept_ite hx1 (kept_ite (State.pathCheck_kept (State.setTw_kept (State.setFld_kept (State.quot_kept hx1)))) (kept_ite (State.disagree_kept (State.when_kept (State.pathCheck_kept (State.setTw_kept (State.setFld_kept (State.quot_kept hx1)))) (fun _ h5 => by exact (State.setTw_kept h5)))) (State.when_kept (State.pathCheck_kept (State.setTw_kept (State.setFld_kept (State.quot_kept hx1)))) (fun _ h5 => by exact (State.setTw_kept h5))))))

theorem State.ppsTake_kept {x1 : State} (hx1 : Kept s x1) : Kept s (State.ppsTake x1) := by
  unfold State.ppsTake
  exact (kept_foldl (by exact Kept.same hx1 rfl) (fun _ h2 _ => by exact (State.ppsSample_kept h2)))

theorem State.disagreeClear_kept {x1 : State} (hx1 : Kept s x1) : Kept s (State.disagreeClear x1) := by
  unfold State.disagreeClear
  exact (kept_ite (State.setTw_kept (State.clr_kept hx1)) hx1)

theorem State.unfitClear_kept {x1 : State} (hx1 : Kept s x1) : Kept s (State.unfitClear x1) := by
  unfold State.unfitClear
  exact (kept_ite (State.clr_kept hx1) hx1)

theorem State.psOf_kept {x1 : State} (hx1 : Kept s x1) {x2} : Kept s ((State.psOf x1 x2)).2 := by
  unfold State.psOf
  exact (kept_snd (State.quot_kept hx1))

theorem State.arbBody_kept {x1 : State} (hx1 : Kept s x1) : Kept s ((State.arbBody x1)).2 := by
  unfold State.arbBody
  exact (kept_foldl_snd (kept_snd hx1) (fun _ h2 _ => by exact (kept_ite_snd (kept_snd (State.psOf_kept h2)) (kept_snd h2))))

theorem State.arbSecond_kept {x1 : State} (hx1 : Kept s x1) : Kept s (State.arbSecond x1) := by
  unfold State.arbSecond
  exact (kept_ite (State.setTw_kept hx1) (kept_ite (State.setTw_kept (State.twSend_kept (State.twDrop_kept (State.psOf_kept (State.arbBody_kept hx1))))) hx1))

theorem State.verdictAct_kept {x1 : State} (hx1 : Kept s x1) {x2 x3 x4} : Kept s (State.verdictAct x1 x2 x3 x4) := by
  unfold State.verdictAct
  exact (kept_ite (kept_ite (State.demoteStart_kept (State.twCnt_kept (State.set1_kept (State.setFld_kept (State.setFld_kept (State.setFld_kept hx1)))))) (kept_ite (State.promote_kept (State.twCnt_kept (State.set1_kept (State.setFld_kept (State.setFld_kept (State.setFld_kept hx1)))))) (State.twCnt_kept (State.set1_kept (State.setFld_kept (State.setFld_kept (State.setFld_kept hx1))))))) (kept_ite (State.set1_kept (State.twCnt_kept (State.set1_kept (State.setFld_kept (State.setFld_kept (State.setFld_kept hx1)))))) (State.twCnt_kept (State.set1_kept (State.setFld_kept (State.setFld_kept (State.setFld_kept hx1)))))))

theorem State.arbDecide_kept {x1 : State} (hx1 : Kept s x1) : Kept s (State.arbDecide x1) := by
  unfold State.arbDecide
  exact (by
 try dsimp only
 split
 · exact (kept_ite hx1 (State.verdictAct_kept (State.when_kept (State.twSend_kept (State.twDrop_kept (State.setTw_kept hx1))) (fun _ h4 => by exact (State.log_kept h4)))))
 · exact hx1)

theorem State.arbRx_kept {x1 : State} (hx1 : Kept s x1) : Kept s (State.arbRx x1) := by
  unfold State.arbRx
  exact (by
 try dsimp only
 split
 · next e1 => exact (State.arbDecide_kept (State.setTw_kept ((State.twNext_kept hx1) _ e1)))
 · exact hx1)

theorem State.verdictRx_kept {x1 : State} (hx1 : Kept s x1) : Kept s (State.verdictRx x1) := by
  unfold State.verdictRx
  exact (by
 try dsimp only
 split
 · next e1 => exact (State.verdictAct_kept (State.twDrop_kept ((State.twNext_kept hx1) _ e1)))
 · exact hx1)

theorem State.proposeSwap_kept {x1 : State} (hx1 : Kept s x1) : Kept s (State.proposeSwap x1) := by
  unfold State.proposeSwap
  exact (kept_ite hx1 (State.setTw_kept (State.twSend_kept hx1)))

theorem State.swapMsg_kept {x1 : State} (hx1 : Kept s x1) {x2} : ∀ r, (State.swapMsg x1 x2) = some r → Kept s (r).2 := by
  unfold State.swapMsg
  exact (by
 try dsimp only
 split
 · next e1 => exact (kept_ite_some (fun _ hr => Option.some.inj hr ▸ (kept_snd ((State.twNext_kept hx1) _ e1))) (fun _ hr => nomatch hr))
 · exact (fun _ hr => nomatch hr))

theorem State.swapProposeRx_kept {x1 : State} (hx1 : Kept s x1) : Kept s (State.swapProposeRx x1) := by
  unfold State.swapProposeRx
  exact (by
 try dsimp only
 split
 · next e1 => exact (kept_ite (State.setTw_kept (State.twSend_kept (State.twDrop_kept ((State.swapMsg_kept hx1) _ e1)))) (State.twSend_kept (State.twDrop_kept ((State.swapMsg_kept hx1) _ e1))))
 · exact hx1)

theorem State.swapAcceptRx_kept {x1 : State} (hx1 : Kept s x1) : Kept s (State.swapAcceptRx x1) := by
  unfold State.swapAcceptRx
  exact (by
 try dsimp only
 split
 · next e1 => exact (kept_ite (State.setTw_kept (State.twDrop_kept ((State.swapMsg_kept hx1) _ e1))) ((State.swapMsg_kept hx1) _ e1))
 · exact hx1)

theorem State.swapRefuseRx_kept {x1 : State} (hx1 : Kept s x1) : Kept s (State.swapRefuseRx x1) := by
  unfold State.swapRefuseRx
  exact (by
 try dsimp only
 split
 · next e1 => exact (kept_ite (State.logFault_kept (State.twCnt_kept (State.set1_kept (State.setFld_kept (State.setTw_kept (State.twDrop_kept ((State.swapMsg_kept hx1) _ e1))))))) ((State.swapMsg_kept hx1) _ e1))
 · exact hx1)

theorem State.swapExecute_kept {x1 : State} (hx1 : Kept s x1) : Kept s (State.swapExecute x1) := by
  unfold State.swapExecute
  exact (by
 try dsimp only
 split
 · exact (kept_ite hx1 (kept_ite (State.handSend_kept (by
 try dsimp only
 split
 · exact (kept_ite (State.setTw_kept (State.setRole_kept (State.epochClose_kept (State.swapNext_kept (State.twDrop_kept hx1))))) (State.setRc_kept (State.setTw_kept (State.setRole_kept (State.epochClose_kept (State.swapNext_kept (State.twDrop_kept hx1)))))))
 · exact (State.setTw_kept (State.setRole_kept (State.epochClose_kept (State.swapNext_kept (State.twDrop_kept hx1))))))) (kept_ite (State.setTw_kept (State.clr_kept (kept_foldl (State.announceGo_kept (State.twActive_kept (State.swapNext_kept (State.twDrop_kept hx1)))) (fun _ h7 _ => by exact (State.dueStart_kept h7))))) (State.setTw_kept (State.swapNext_kept (State.twDrop_kept hx1))))))
 · exact hx1)

theorem State.handoverRx_kept {x1 : State} (hx1 : Kept s x1) : Kept s (State.handoverRx x1) := by
  unfold State.handoverRx
  exact (by
 try dsimp only
 split
 · next e1 => exact (kept_ite (State.set1_kept (State.twCnt_kept (State.setTw_kept (State.set1_kept (State.setFld_kept (State.jSetWrite_kept (State.rcTakeover_kept ((State.twNext_kept hx1) _ e1)))))))) ((State.twNext_kept hx1) _ e1))
 · exact hx1)

theorem State.twEnable_kept {x1 : State} (hx1 : Kept s x1) : Kept s (State.twEnable x1) := by
  unfold State.twEnable
  exact (kept_ite hx1 (kept_ite (State.twInit_kept (State.setTw_kept (State.clr_kept (State.clr_kept (State.set1_kept hx1))))) (State.setTw_kept (State.clr_kept (State.clr_kept (State.set1_kept hx1))))))

theorem State.twDisable_kept {x1 : State} (hx1 : Kept s x1) : Kept s (State.twDisable x1) := by
  unfold State.twDisable
  exact (kept_ite hx1 (kept_ite (State.demoteStart_kept (State.set1_kept (State.clr_kept hx1))) (kept_ite (State.set1_kept (State.clr_kept hx1)) (State.twNone_kept (State.clr_kept hx1)))))

theorem State.twMode_kept {x1 : State} (hx1 : Kept s x1) : Kept s (State.twMode x1) := by
  unfold State.twMode
  exact (kept_ite (kept_ite (State.twInit_kept hx1) hx1) (kept_ite hx1 (State.twNone_kept hx1)))

theorem State.twRecord_kept {x1 : State} (hx1 : Kept s x1) {x2} : Kept s (State.twRecord x1 x2) := by
  unfold State.twRecord
  exact (State.seniorShow_kept (State.when_kept (State.setTw_kept (State.setFld_kept hx1)) (fun _ h3 => by exact (State.log_kept h3))))

theorem State.seniorPin_kept {x1 : State} (hx1 : Kept s x1) {x2} : Kept s (State.seniorPin x1 x2) := by
  unfold State.seniorPin
  exact (State.setTw_kept hx1)

theorem State.seniorTake_kept {x1 : State} (hx1 : Kept s x1) : Kept s (State.seniorTake x1) := by
  unfold State.seniorTake
  exact (State.seniorShow_kept (State.setTw_kept hx1))

end Sys2Proof.Machine
end

