-- ==== Sys2Proof/Laws/KeptLanes.lean ====
section
/-! SUPPORT. What the operations of Machine/Lanes.lean keep, one lemma each (Laws/Kept.lean). -/

namespace Sys2Proof.Machine

variable {s : State}

theorem State.setItl_kept {x1 : State} (hx1 : Kept s x1) {x2 x3} : Kept s (State.setItl x1 x2 x3) := by
  unfold State.setItl
  exact (by exact Kept.same hx1 rfl)

theorem State.loopTake_kept {x1 : State} (hx1 : Kept s x1) {x2 x3 x4} : Kept s ((State.loopTake x1 x2 x3 x4)).2 := by
  unfold State.loopTake
  exact (kept_ite_snd (kept_snd hx1) (kept_ite_snd (kept_snd hx1) (kept_snd (State.logFault_kept hx1))))

theorem State.gateMiss_kept {x1 : State} (hx1 : Kept s x1) {x2} : Kept s (State.gateMiss x1 x2) := by
  unfold State.gateMiss
  exact (kept_foldl (State.setMac_kept hx1) (fun _ h2 _ => by exact (State.missed_kept (State.stat_kept h2))))

theorem State.linkDown_kept {x1 : State} (hx1 : Kept s x1) {x2 x3} : Kept s (State.linkDown x1 x2 x3) := by
  unfold State.linkDown
  exact (kept_ite (State.gateMiss_kept (State.macLinkDown_kept hx1)) hx1)

theorem State.ethStart_kept {x1 : State} (hx1 : Kept s x1) {x2} : Kept s (State.ethStart x1 x2) := by
  unfold State.ethStart
  exact (kept_ite hx1 (State.setEth_kept hx1))

theorem State.ethEnable_kept {x1 : State} (hx1 : Kept s x1) {x2} : Kept s (State.ethEnable x1 x2) := by
  unfold State.ethEnable
  exact (State.ethStart_kept (State.setEth_kept (State.loopTake_kept (State.set1_kept hx1))))

theorem State.ethTrain_kept {x1 : State} (hx1 : Kept s x1) {x2 x3} : Kept s (State.ethTrain x1 x2 x3) := by
  unfold State.ethTrain
  exact (State.when_kept (State.setFld_kept (State.setEth_kept hx1)) (fun _ h2 => by exact (State.emit_kept h2)))

theorem State.ethUp_kept {x1 : State} (hx1 : Kept s x1) {x2 x3} : Kept s (State.ethUp x1 x2 x3) := by
  unfold State.ethUp
  exact (kept_ite (State.when_kept (State.clr_kept (State.set1_kept (State.setEth_kept hx1))) (fun _ h3 => by exact (State.macLinkUp_kept h3))) hx1)

theorem State.ethDown_kept {x1 : State} (hx1 : Kept s x1) {x2 x3 x4} : Kept s (State.ethDown x1 x2 x3 x4) := by
  unfold State.ethDown
  exact (kept_ite (State.linkDown_kept (State.set1_kept (State.setEth_kept (State.clr_kept (State.clr_kept hx1))))) (State.setEth_kept (State.clr_kept (State.clr_kept hx1))))

theorem State.ethDisable_kept {x1 : State} (hx1 : Kept s x1) {x2} : Kept s (State.ethDisable x1 x2) := by
  unfold State.ethDisable
  exact (State.setEth_kept (State.setFld_kept (State.ethDown_kept (State.clr_kept hx1))))

theorem State.ethLoss_kept {x1 : State} (hx1 : Kept s x1) {x2 x3} : Kept s (State.ethLoss x1 x2 x3) := by
  unfold State.ethLoss
  exact (kept_ite (State.ethTrain_kept (State.ethDown_kept hx1)) hx1)

theorem State.ethTrainFail_kept {x1 : State} (hx1 : Kept s x1) {x2} : Kept s (State.ethTrainFail x1 x2) := by
  unfold State.ethTrainFail
  exact (kept_ite (State.logFault_kept (State.clr_kept (State.setEth_kept hx1))) hx1)

theorem State.ethRetry_kept {x1 : State} (hx1 : Kept s x1) {x2} : Kept s (State.ethRetry x1 x2) := by
  unfold State.ethRetry
  exact (kept_ite (State.ethStart_kept hx1) (kept_ite (State.ethTrain_kept hx1) hx1))

theorem State.itlStart_kept {x1 : State} (hx1 : Kept s x1) {x2} : Kept s (State.itlStart x1 x2) := by
  unfold State.itlStart
  exact (kept_ite (State.setItl_kept hx1) hx1)

theorem State.itlEnable_kept {x1 : State} (hx1 : Kept s x1) {x2} : Kept s (State.itlEnable x1 x2) := by
  unfold State.itlEnable
  exact (State.itlStart_kept (State.setItl_kept (State.loopTake_kept (State.set1_kept hx1))))

theorem State.itlTrain_kept {x1 : State} (hx1 : Kept s x1) {x2} : Kept s (State.itlTrain x1 x2) := by
  unfold State.itlTrain
  exact (State.setFld_kept (State.set1_kept (State.setItl_kept (State.free_kept hx1))))

theorem State.itlQuiet_kept {x1 : State} (hx1 : Kept s x1) {x2} : Kept s (State.itlQuiet x1 x2) := by
  unfold State.itlQuiet
  exact (kept_ite (State.linkCheck_kept (State.setTw_kept (State.setIn_kept (State.setRest_kept (State.setItl_kept (State.when_kept (State.clr_kept (State.clr_kept (State.clr_kept (State.clr_kept hx1)))) (fun _ h2 => by exact (State.set1_kept h2)))))))) (State.setItl_kept (State.when_kept (State.clr_kept (State.clr_kept (State.clr_kept (State.clr_kept hx1)))) (fun _ h2 => by exact (State.set1_kept h2)))))

theorem State.itlDown_kept {x1 : State} (hx1 : Kept s x1) {x2} : Kept s (State.itlDown x1 x2) := by
  unfold State.itlDown
  exact (State.itlStart_kept (State.logFault_kept (State.itlQuiet_kept hx1)))

theorem State.itlDisable_kept {x1 : State} (hx1 : Kept s x1) {x2} : Kept s (State.itlDisable x1 x2) := by
  unfold State.itlDisable
  exact (State.setFld_kept (State.setItl_kept (State.itlQuiet_kept (State.clr_kept hx1))))

theorem State.itlTrainFail_kept {x1 : State} (hx1 : Kept s x1) {x2} : Kept s (State.itlTrainFail x1 x2) := by
  unfold State.itlTrainFail
  exact (kept_ite (State.logFault_kept (State.setItl_kept (State.itlQuiet_kept hx1))) hx1)

theorem State.itlRetry_kept {x1 : State} (hx1 : Kept s x1) {x2} : Kept s (State.itlRetry x1 x2) := by
  unfold State.itlRetry
  exact (kept_ite (State.itlStart_kept hx1) hx1)

theorem State.trainRepeat_kept {x1 : State} (hx1 : Kept s x1) {x2} : Kept s (State.trainRepeat x1 x2) := by
  unfold State.trainRepeat
  exact (by
 try dsimp only
 split
 · exact (kept_ite (State.setItl_kept hx1) hx1)
 · exact hx1)

theorem State.ffeRequest_kept {x1 : State} (hx1 : Kept s x1) {x2 x3} : Kept s (State.ffeRequest x1 x2 x3) := by
  unfold State.ffeRequest
  exact (kept_ite hx1 (State.setItl_kept (State.setFld_kept hx1)))

theorem State.itlReady_kept {x1 : State} (hx1 : Kept s x1) {x2} : Kept s (State.itlReady x1 x2) := by
  unfold State.itlReady
  exact (kept_ite (State.setItl_kept hx1) hx1)

theorem State.itlAligned_kept {x1 : State} (hx1 : Kept s x1) {x2} : Kept s (State.itlAligned x1 x2) := by
  unfold State.itlAligned
  exact (kept_ite (State.clr_kept (State.set1_kept (State.setItl_kept hx1))) hx1)

theorem State.trainRx_kept {x1 : State} (hx1 : Kept s x1) {x2 x3} : Kept s (State.trainRx x1 x2 x3) := by
  unfold State.trainRx
  exact (kept_ite (kept_ite hx1 (State.set1_kept (State.set1_kept (State.setItl_kept (State.itlQuiet_kept hx1))))) (kept_ite (State.itlAligned_kept (State.itlReady_kept (State.setItl_kept hx1))) (State.itlReady_kept (State.ffeRequest_kept (State.setItl_kept hx1)))))

theorem State.historySend_kept {x1 : State} (hx1 : Kept s x1) : Kept s (State.historySend x1) := by
  unfold State.historySend
  exact (by
 try dsimp only
 split
 · exact (kept_ite hx1 (State.setTw_kept (State.mirrorSend_kept hx1)))
 · exact hx1)

theorem State.itlForm_kept {x1 : State} (hx1 : Kept s x1) {x2 x3 x4} : Kept s ((State.itlForm x1 x2 x3 x4)).2 := by
  unfold State.itlForm
  exact (kept_ite_snd (kept_snd hx1) (kept_ite_snd (kept_snd (State.setItl_kept hx1)) (by
 try dsimp only
 split
 · exact (kept_snd (kept_ite_snd (State.twCells_kept (State.historySend_kept hx1)) (kept_snd hx1)))
 · exact (kept_snd (kept_ite_snd (State.twCells_kept (State.historySend_kept hx1)) (kept_snd hx1))))))

theorem State.itlSent_kept {x1 : State} (hx1 : Kept s x1) {x2 x3 x4} : Kept s (State.itlSent x1 x2 x3 x4) := by
  unfold State.itlSent
  exact (kept_ite (kept_ite (State.setItl_kept (State.seniorTake_kept hx1)) (State.setItl_kept hx1)) (kept_ite (State.breathSent_kept hx1) (kept_ite (State.itlAligned_kept (State.setItl_kept hx1)) (State.itlReady_kept (State.setItl_kept hx1)))))

theorem State.twinOffset_kept {x1 : State} (hx1 : Kept s x1) {x2} : Kept s (State.twinOffset x1 x2) := by
  unfold State.twinOffset
  exact (kept_ite hx1 (kept_ite (kept_ite (State.linkSample_kept (State.quot_kept hx1)) hx1) (kept_ite (State.linkSample_kept hx1) (kept_ite (State.linkSample_kept hx1) hx1))))

theorem State.itlWindowTo_kept {x1 : State} (hx1 : Kept s x1) {x2 x3} : Kept s (State.itlWindowTo x1 x2 x3) := by
  unfold State.itlWindowTo
  exact (State.when_kept (kept_ite (State.clr_kept (State.setItl_kept hx1)) (State.when_kept (State.setFld_kept (State.setFld_kept (State.quot_kept (State.quot_kept (State.setItl_kept hx1))))) (fun _ h5 => by exact (State.logFault_kept h5)))) (fun _ h4 => by exact (State.twinOffset_kept h4)))

theorem State.itlWindow_kept {x1 : State} (hx1 : Kept s x1) {x2} : Kept s (State.itlWindow x1 x2) := by
  unfold State.itlWindow
  exact (kept_ite hx1 (State.itlWindowTo_kept hx1))

theorem State.itlMeas_kept {x1 : State} (hx1 : Kept s x1) {x2 x3 x4} : Kept s (State.itlMeas x1 x2 x3 x4) := by
  unfold State.itlMeas
  exact (by
 try dsimp only
 split
 · exact (kept_ite (State.itlWindowTo_kept hx1) hx1)
 · exact (kept_ite (State.clr_kept (kept_ite (State.itlWindowTo_kept hx1) hx1)) (kept_ite (State.clr_kept (kept_ite (State.itlWindowTo_kept hx1) hx1)) (kept_foldl (State.when_kept (State.set1_kept (kept_ite (State.itlWindowTo_kept hx1) hx1)) (fun _ h4 => by exact (State.setItl_kept h4))) (fun _ h5 _ => by exact (State.itlOffset_kept h5))))))

theorem State.lanesTick_kept {x1 : State} (hx1 : Kept s x1) : Kept s (State.lanesTick x1) := by
  unfold State.lanesTick
  exact (kept_ite (kept_foldl hx1 (fun _ h2 _ => by exact (kept_ite (State.setItl_kept h2) h2))) hx1)

theorem State.itlHeader_kept {x1 : State} (hx1 : Kept s x1) {x2 x3} : Kept s (State.itlHeader x1 x2 x3) := by
  unfold State.itlHeader
  exact (kept_ite (State.set1_kept (State.setItl_kept hx1)) (kept_ite (State.clr_kept (State.setItl_kept hx1)) (State.setItl_kept hx1)))

theorem State.statusRx_kept {x1 : State} (hx1 : Kept s x1) {x2 x3 x4 x5} : Kept s (State.statusRx x1 x2 x3 x4 x5) := by
  unfold State.statusRx
  exact (kept_ite (State.setItl_kept hx1) (kept_ite (State.setItl_kept hx1) (kept_ite (State.setItl_kept hx1) (State.when_kept (State.setFld_kept (State.setItl_kept hx1)) (fun _ h3 => by exact (State.twRecord_kept h3))))))

theorem State.itlBad_kept {x1 : State} (hx1 : Kept s x1) {x2} : Kept s (State.itlBad x1 x2) := by
  unfold State.itlBad
  exact (kept_ite (State.itlDown_kept (State.when_kept (State.engEv_kept (State.rcAdd_kept (State.setItl_kept hx1))) (fun _ h2 => by exact (State.twLose_kept h2)))) (State.when_kept (State.engEv_kept (State.rcAdd_kept (State.setItl_kept hx1))) (fun _ h2 => by exact (State.twLose_kept h2))))

theorem State.itlTake_kept {x1 : State} (hx1 : Kept s x1) {x2 x3 x4} : Kept s (State.itlTake x1 x2 x3 x4) := by
  unfold State.itlTake
  exact (kept_ite (State.trainRx_kept (State.when_kept hx1 (fun _ h2 => by exact (State.rcAdd_kept h2)))) (kept_ite (State.when_kept hx1 (fun _ h2 => by exact (State.rcAdd_kept h2))) (kept_ite (State.twTake_kept (kept_ite (State.statusRx_kept (State.itlMeas_kept (State.when_kept hx1 (fun _ h2 => by exact (State.rcAdd_kept h2))))) (kept_ite (State.when_kept (State.itlMeas_kept (State.when_kept hx1 (fun _ h2 => by exact (State.rcAdd_kept h2)))) (fun _ h4 => by exact (State.setTw_kept h4))) (State.itlMeas_kept (State.when_kept hx1 (fun _ h2 => by exact (State.rcAdd_kept h2))))))) (kept_ite (State.statusRx_kept (State.itlMeas_kept (State.when_kept hx1 (fun _ h2 => by exact (State.rcAdd_kept h2))))) (kept_ite (State.when_kept (State.itlMeas_kept (State.when_kept hx1 (fun _ h2 => by exact (State.rcAdd_kept h2)))) (fun _ h4 => by exact (State.setTw_kept h4))) (State.itlMeas_kept (State.when_kept hx1 (fun _ h2 => by exact (State.rcAdd_kept h2)))))))))

theorem State.itlWord_kept {x1 : State} (hx1 : Kept s x1) {x2 x3 x4 x5 x6} : Kept s (State.itlWord x1 x2 x3 x4 x5 x6) := by
  unfold State.itlWord
  exact (kept_ite (State.setItl_kept hx1) (by
 try dsimp only
 split
 · exact (State.itlTake_kept (State.setItl_kept (State.setItl_kept hx1)))
 · exact (kept_ite (State.itlTake_kept (State.setItl_kept hx1)) (State.itlBad_kept (State.setItl_kept hx1)))))

theorem State.itlRx_kept {x1 : State} (hx1 : Kept s x1) {x2 x3 x4 x5 x6} : Kept s (State.itlRx x1 x2 x3 x4 x5 x6) := by
  unfold State.itlRx
  exact (kept_ite hx1 (kept_ite (kept_ite (State.itlDown_kept (State.itlHeader_kept (State.when_kept hx1 (fun _ h2 => by exact (State.commit_kept h2))))) (State.itlHeader_kept (State.when_kept hx1 (fun _ h2 => by exact (State.commit_kept h2))))) (kept_ite (State.itlHeader_kept (State.when_kept hx1 (fun _ h2 => by exact (State.commit_kept h2)))) (by
 try dsimp only
 split
 · exact (State.itlWord_kept (State.itlHeader_kept (State.when_kept hx1 (fun _ h2 => by exact (State.commit_kept h2)))))
 · exact (State.when_kept (State.setItl_kept (State.itlHeader_kept (State.when_kept hx1 (fun _ h2 => by exact (State.commit_kept h2))))) (fun _ h3 => by exact (State.twLose_kept h3)))))))

theorem State.itlOut_kept {x1 : State} (hx1 : Kept s x1) {x2 x3 x4 x5 x6} : Kept s (State.itlOut x1 x2 x3 x4 x5 x6) := by
  unfold State.itlOut
  exact (by
 try dsimp only
 split
 · exact (State.emit_kept hx1)
 · exact hx1
 · exact (State.itlRx_kept hx1))

theorem State.itlSend_kept {x1 : State} (hx1 : Kept s x1) {x2 x3 x4} : Kept s (State.itlSend x1 x2 x3 x4) := by
  unfold State.itlSend
  exact (kept_ite (State.itlOut_kept (kept_ite (State.rcAdd_kept (State.setItl_kept (by
 try dsimp only
 split
 · exact (kept_snd hx1)
 · exact (State.itlForm_kept hx1)))) (State.setItl_kept (State.itlForm_kept (State.itlSent_kept (State.when_kept (State.setItl_kept (by
 try dsimp only
 split
 · exact (kept_snd hx1)
 · exact (State.itlForm_kept hx1))) (fun _ h5 => by exact (State.rcAdd_kept h5)))))))) hx1)

theorem State.itlBall_kept {x1 : State} (hx1 : Kept s x1) {x2 x3 x4 x5 x6} : Kept s (State.itlBall x1 x2 x3 x4 x5 x6) := by
  unfold State.itlBall
  exact (by
 try dsimp only
 split
 · exact (State.itlRx_kept hx1)
 · exact (State.itlRx_kept (State.emit_kept hx1))
 · exact hx1)

theorem State.itlCal_kept {x1 : State} (hx1 : Kept s x1) {x2 x3 x4 x5} : Kept s (State.itlCal x1 x2 x3 x4 x5) := by
  unfold State.itlCal
  exact (kept_ite hx1 (kept_ite (State.logFault_kept (State.setItl_kept hx1)) (State.itlTrain_kept (State.set1_kept (State.setFld_kept (State.setFld_kept (State.setItl_kept hx1)))))))

theorem State.ethCal_kept {x1 : State} (hx1 : Kept s x1) {x2 x3 x4 x5} : Kept s (State.ethCal x1 x2 x3 x4 x5) := by
  unfold State.ethCal
  exact (kept_ite hx1 (kept_ite (State.logFault_kept (State.setEth_kept hx1)) (State.ethTrain_kept (State.set1_kept (State.setFld_kept (State.setFld_kept (State.setEth_kept hx1)))))))

theorem State.laneTrack_kept {x1 : State} (hx1 : Kept s x1) {x2 x3 x4 x5 x6 x7} : Kept s (State.laneTrack x1 x2 x3 x4 x5 x6 x7) := by
  unfold State.laneTrack
  exact (State.setFld_kept (State.setFld_kept (State.quot_kept hx1)))

theorem State.laneCal_kept {x1 : State} (hx1 : Kept s x1) {x2 x3 x4 x5 x6} : Kept s (State.laneCal x1 x2 x3 x4 x5 x6) := by
  unfold State.laneCal
  exact (kept_ite (kept_ite (State.itlCal_kept hx1) (kept_ite (State.laneTrack_kept hx1) hx1)) (kept_ite (State.ethCal_kept hx1) (kept_ite (State.laneTrack_kept hx1) hx1)))

theorem State.laneFrozen_kept {x1 : State} (hx1 : Kept s x1) {x2 x3} : Kept s (State.laneFrozen x1 x2 x3) := by
  unfold State.laneFrozen
  exact (by
 try dsimp only
 split
 · exact hx1
 · exact (kept_ite hx1 (kept_ite (kept_ite hx1 (State.when_kept (State.setItl_kept (State.itlQuiet_kept hx1)) (fun _ h3 => by exact (State.logFault_kept h3)))) (kept_ite hx1 (State.ethDown_kept hx1)))))

theorem State.lanesThaw_kept {x1 : State} (hx1 : Kept s x1) : Kept s (State.lanesThaw x1) := by
  unfold State.lanesThaw
  exact (kept_foldl (kept_foldl hx1 (fun _ h2 _ => by exact (kept_ite (State.ethTrain_kept h2) h2))) (fun _ h3 _ => by exact (kept_ite (State.itlStart_kept h3) h3)))

theorem State.loopsOff_kept {x1 : State} (hx1 : Kept s x1) : Kept s (State.loopsOff x1) := by
  unfold State.loopsOff
  exact (kept_foldl (kept_foldl hx1 (fun _ h2 _ => by exact (kept_ite h2 (State.logFault_kept (State.ethDisable_kept h2))))) (fun _ h3 _ => by exact (kept_ite h3 (State.logFault_kept (State.itlDisable_kept h3)))))

theorem State.laneRetire_kept {x1 : State} (hx1 : Kept s x1) {x2 x3} : Kept s (State.laneRetire x1 x2 x3) := by
  unfold State.laneRetire
  exact (kept_ite (State.setItl_kept (State.itlQuiet_kept hx1)) (State.setEth_kept (State.ethDown_kept hx1)))

theorem State.laneBack_kept {x1 : State} (hx1 : Kept s x1) {x2 x3} : Kept s (State.laneBack x1 x2 x3) := by
  unfold State.laneBack
  exact (kept_ite (kept_ite (State.itlEnable_kept hx1) hx1) (kept_ite (State.ethEnable_kept hx1) hx1))

end Sys2Proof.Machine
end

