-- ==== Sys2Proof/Laws/KeptSettle.lean ====
section
/-! SUPPORT. What the operations of Machine/Settle.lean keep, one lemma each (Laws/Kept.lean). -/

namespace Sys2Proof.Machine

variable {s : State}

theorem State.retireAct_kept {x1 : State} (hx1 : Kept s x1) {x2} : Kept s (State.retireAct x1 x2) := by
  unfold State.retireAct
  exact (by
 try dsimp only
 split
 · exact (State.rsEval_kept (State.rsRetire_kept hx1))
 · exact (State.linkDown_kept hx1)
 · exact (State.laneRetire_kept hx1)
 · exact (State.laneRetire_kept hx1)
 · exact (kept_ite (State.rsEval_kept (State.rsLoss_kept (State.tmDrop_kept hx1))) (State.tmDrop_kept hx1))
 · exact (State.poCut_kept hx1)
 · exact (State.ckoRetire_kept hx1)
 · exact (State.ckoOf_kept hx1 (fun _ h2 _ => by exact (State.ckoRetire_kept h2)))
 · exact (State.seqRetire_kept hx1)
 · exact (State.setFld_kept hx1)
 · exact hx1)

theorem State.settleOnce_kept {x1 : State} (hx1 : Kept s x1) : Kept s (State.settleOnce x1) := by
  unfold State.settleOnce
  exact (kept_foldl (by exact Kept.same hx1 rfl) (fun _ h2 _ => by exact (State.retireAct_kept h2)))

theorem State.settle_kept {x1 : State} (hx1 : Kept s x1) : Kept s (State.settle x1) := by
  unfold State.settle
  exact (State.settleOnce_kept (State.settleOnce_kept hx1))

theorem State.reenable_kept {x1 : State} (hx1 : Kept s x1) {x2} : Kept s (State.reenable x1 x2) := by
  unfold State.reenable
  exact (by
 try dsimp only
 split
 · exact (State.setRef_kept (by exact Kept.same (State.setFld_kept (State.clr_kept (State.cancelRetry_kept hx1))) rfl))
 · exact (State.when_kept (by exact Kept.same (State.setFld_kept (State.clr_kept (State.cancelRetry_kept hx1))) rfl) (fun _ h5 => by exact (State.macLinkUp_kept h5)))
 · exact (State.laneBack_kept (by exact Kept.same (State.setFld_kept (State.clr_kept (State.cancelRetry_kept hx1))) rfl))
 · exact (State.laneBack_kept (by exact Kept.same (State.setFld_kept (State.clr_kept (State.cancelRetry_kept hx1))) rfl))
 · exact (State.ckoBack_kept (by exact Kept.same (State.setFld_kept (State.clr_kept (State.cancelRetry_kept hx1))) rfl))
 · exact (State.ckoOf_kept (by exact Kept.same (State.setFld_kept (State.clr_kept (State.cancelRetry_kept hx1))) rfl) (fun _ h6 _ => by exact (State.ckoBack_kept h6)))
 · exact (State.clr_kept (by exact Kept.same (State.setFld_kept (State.clr_kept (State.cancelRetry_kept hx1))) rfl))
 · exact (by exact Kept.same (State.setFld_kept (State.clr_kept (State.cancelRetry_kept hx1))) rfl))

end Sys2Proof.Machine
end

