-- ==== Sys2Proof/Laws/KeptFm.lean ====
section
/-! SUPPORT. What the operations of Machine/Fm.lean keep, one lemma each (Laws/Kept.lean). -/

namespace Sys2Proof.Machine

variable {s : State}

theorem State.retryAct_kept {x1 : State} (hx1 : Kept s x1) {x2} : Kept s (State.retryAct x1 x2) := by
  unfold State.retryAct
  exact (by
 try dsimp only
 split
 · exact (kept_ite (by exact Kept.same (State.bandSelect_kept hx1) rfl) hx1)
 · exact (State.setRef_kept hx1)
 · exact (State.ethRetry_kept hx1)
 · exact (State.itlRetry_kept hx1)
 · exact (by exact Kept.same hx1 rfl)
 · exact hx1)

theorem State.retryGrant_kept {x1 : State} (hx1 : Kept s x1) {x2} : Kept s (State.retryGrant x1 x2) := by
  unfold State.retryGrant
  exact (by
 try dsimp only
 split
 · exact (kept_ite (State.retryAct_kept (State.cancelRetry_kept hx1)) hx1)
 · exact hx1)

theorem State.inject_kept {x1 : State} (hx1 : Kept s x1) {x2 x3 x4 x5} : Kept s (State.inject x1 x2 x3 x4 x5) := by
  unfold State.inject
  exact (kept_ite (State.logFault_kept hx1) (State.log_kept hx1))

theorem State.katRun_kept {x1 : State} (hx1 : Kept s x1) {x2 x3} : Kept s (State.katRun x1 x2 x3) := by
  unfold State.katRun
  exact (kept_ite hx1 (kept_ite (by exact Kept.same hx1 rfl) (State.logFault_kept (by exact Kept.same hx1 rfl))))

theorem State.dieWatch_kept {x1 : State} (hx1 : Kept s x1) : Kept s (State.dieWatch x1) := by
  unfold State.dieWatch
  exact (by exact Kept.same hx1 rfl)

theorem State.dieWarn_kept {x1 : State} (hx1 : Kept s x1) {x2} : Kept s (State.dieWarn x1 x2) := by
  unfold State.dieWarn
  exact (kept_ite (State.logFault_kept (by exact Kept.same hx1 rfl)) hx1)

theorem State.dieTrip_kept {x1 : State} (hx1 : Kept s x1) : Kept s (State.dieTrip x1) := by
  unfold State.dieTrip
  exact (by
 try dsimp only
 split
 · exact (kept_ite (State.logFault_kept (by exact Kept.same hx1 rfl)) hx1)
 · exact hx1)

theorem State.pcNote_kept {x1 : State} (hx1 : Kept s x1) {x2 x3} : Kept s (State.pcNote x1 x2 x3) := by
  unfold State.pcNote
  exact (kept_ite (by exact Kept.same hx1 rfl) (kept_ite (by exact Kept.same hx1 rfl) (kept_ite (by exact Kept.same hx1 rfl) hx1)))

theorem State.pcStep_kept {x1 : State} (hx1 : Kept s x1) {x2 x3 x4 x5 x6} : Kept s (State.pcStep x1 x2 x3 x4 x5 x6) := by
  unfold State.pcStep
  exact (by
 try dsimp only
 split
 · exact (by exact Kept.same (State.when_kept hx1 (fun _ h2 => by exact (State.setFld_kept h2))) rfl)
 · exact (State.setFld_kept hx1))

theorem State.pcAdd_kept {x1 : State} (hx1 : Kept s x1) {x2 x3 x4 x5} : Kept s (State.pcAdd x1 x2 x3 x4 x5) := by
  unfold State.pcAdd
  exact (State.when_kept (State.pcStep_kept hx1) (fun _ h2 => by exact (State.setFld_kept h2)))

theorem State.pcCarry_kept {n} : ∀ {f k} {t : State}, Kept s t → Kept s (State.pcCarry t n k f)
  | 0, _, _, h => h
  | _ + 1, _, _, h => by
    unfold State.pcCarry
    exact kept_ite (kept_ite (pcCarry_kept (State.pcAdd_kept h)) (State.pcAdd_kept h)) h

theorem State.pcCount_kept {x1 : State} (hx1 : Kept s x1) {x2 x3 x4} : Kept s (State.pcCount x1 x2 x3 x4) := by
  unfold State.pcCount
  exact (kept_ite (State.pcCarry_kept (State.pcAdd_kept hx1)) (State.pcAdd_kept hx1))

theorem State.pcCycle_kept {x1 : State} (hx1 : Kept s x1) {x2} : Kept s (State.pcCycle x1 x2) := by
  unfold State.pcCycle
  exact (State.when_kept (State.pcStep_kept hx1) (fun _ h2 => by exact (State.set1_kept h2)))

theorem State.pcFall_kept {x1 : State} (hx1 : Kept s x1) {x2 x3} : Kept s (State.pcFall x1 x2 x3) := by
  unfold State.pcFall
  exact (State.when_kept (State.setFld_kept hx1) (fun _ h2 => by exact (State.setFld_kept h2)))

theorem State.pcTick_kept {x1 : State} (hx1 : Kept s x1) : Kept s (State.pcTick x1) := by
  unfold State.pcTick
  exact (by exact Kept.same (kept_foldl (kept_foldl (by exact Kept.same hx1 rfl) (fun _ h3 _ => by exact (kept_ite (State.pcFall_kept h3) h3))) (fun _ h4 _ => by exact (kept_foldl (State.when_kept h4 (fun _ h5 => by exact (State.pcCycle_kept h5))) (fun _ h6 _ => by exact (kept_ite (State.pcCount_kept h6) h6))))) rfl)

theorem State.fbRead_kept {x1 : State} (hx1 : Kept s x1) {x2} : Kept s ((State.fbRead x1 x2)).2 := by
  unfold State.fbRead
  exact (kept_ite_snd (kept_snd (State.free_kept hx1)) (kept_snd hx1))

theorem State.cntRead_kept {x1 : State} (hx1 : Kept s x1) {x2} : Kept s ((State.cntRead x1 x2)).2 := by
  unfold State.cntRead
  exact (kept_ite_snd (kept_snd (State.free_kept hx1)) (kept_snd hx1))

end Sys2Proof.Machine
end

