-- ==== Sys2Proof/Laws/KeptBoardCmds.lean ====
section
/-! SUPPORT. What the operations of Machine/BoardCmds.lean keep, one lemma each (Laws/Kept.lean). -/

namespace Sys2Proof.Machine

variable {s : State}

theorem execControllerReset_kept {x1 x2} {x3 : State} (hx3 : Kept s x3) : KeptO s (execControllerReset x1 x2 x3) := by
  unfold execControllerReset
  exact (State.gate_kept hx3 (fun _ h2 => by exact (kept_ite (State.ctrlReset_kept h2) h2)))

theorem execControllerDrainDone_kept {x1} {x2 : State} (hx2 : Kept s x2) : KeptO s (execControllerDrainDone x1 x2) := by
  unfold execControllerDrainDone
  exact (kept_ite_O (State.ctrlDrained_kept hx2) trivial)

theorem State.drCtl_kept {x1 : State} (hx1 : Kept s x1) {x2 x3 x4 x5} : Kept s (State.drCtl x1 x2 x3 x4 x5) := by
  unfold State.drCtl
  exact (State.when_kept (State.when_kept hx1 (fun _ h2 => by exact (State.drInit_kept h2))) (fun _ h3 => by exact (State.drZero_kept h3)))

theorem execDramInit_kept {x1 x2} {x3 : State} (hx3 : Kept s x3) : KeptO s (execDramInit x1 x2 x3) := by
  unfold execDramInit
  exact (kept_ite_O (State.gate_kept hx3 (fun _ h2 => by exact (State.drCtl_kept h2))) trivial)

theorem execDramInitDone_kept {x1 x2} {x3 : State} (hx3 : Kept s x3) : KeptO s (execDramInitDone x1 x2 x3) := by
  unfold execDramInitDone
  exact (kept_ite_O (State.settle_kept (State.drInitDone_kept hx3)) trivial)

theorem execDramZero_kept {x1 x2} {x3 : State} (hx3 : Kept s x3) : KeptO s (execDramZero x1 x2 x3) := by
  unfold execDramZero
  exact (kept_ite_O (State.gate_kept hx3 (fun _ h2 => by exact (State.drCtl_kept h2))) trivial)

theorem execDramZeroDone_kept {x1} {x2 : State} (hx2 : Kept s x2) : KeptO s (execDramZeroDone x1 x2) := by
  unfold execDramZeroDone
  exact (kept_ite_O (State.clr_kept hx2) trivial)

theorem execDramReadError_kept {x1 x2} {x3 : State} (hx3 : Kept s x3) : KeptO s (execDramReadError x1 x2 x3) := by
  unfold execDramReadError
  exact (kept_ite_O (State.settle_kept (State.drError_kept hx3)) trivial)

theorem execPatrolScrub_kept {x1 x2} {x3 : State} (hx3 : Kept s x3) : KeptO s (execPatrolScrub x1 x2 x3) := by
  unfold execPatrolScrub
  exact (kept_ite_O (kept_ite (State.settle_kept (State.drError_kept hx3)) hx3) trivial)

theorem State.msixUnmask_kept {x1 : State} (hx1 : Kept s x1) {x2 x3} : Kept s (State.msixUnmask x1 x2 x3) := by
  unfold State.msixUnmask
  exact (kept_ite (State.emit_kept (by exact Kept.same (by exact Kept.same hx1 rfl) rfl)) (by exact Kept.same hx1 rfl))

theorem State.msixMask_kept {x1 : State} (hx1 : Kept s x1) {x2 x3} : Kept s (State.msixMask x1 x2 x3) := by
  unfold State.msixMask
  exact (by exact Kept.same hx1 rfl)

theorem execMsixUnmask_kept {x1 x2} {x3 : State} (hx3 : Kept s x3) : KeptO s (execMsixUnmask x1 x2 x3) := by
  unfold execMsixUnmask
  exact (kept_ite_O (State.msixUnmask_kept hx3) trivial)

theorem execUartRxByte_kept {x1 x2 x3 x4 x5} {x6 : State} (hx6 : Kept s x6) : KeptO s (execUartRxByte x1 x2 x3 x4 x5 x6) := by
  unfold execUartRxByte
  exact (kept_ite_O (State.uartRx_kept hx6) trivial)

theorem execUartTxWrite_kept {x1 x2 x3} {x4 : State} (hx4 : Kept s x4) : KeptO s (execUartTxWrite x1 x2 x3 x4) := by
  unfold execUartTxWrite
  exact (kept_ite_O (State.gate_kept hx4 (fun _ h2 => by exact (State.uartTx_kept h2))) trivial)

theorem execUartTxByteDone_kept {x1} {x2 : State} (hx2 : Kept s x2) : KeptO s (execUartTxByteDone x1 x2) := by
  unfold execUartTxByteDone
  exact (kept_ite_O (State.uartSent_kept hx2) trivial)

theorem execI2cTransaction_kept {x1 x2 x3 x4} {x5 : State} (hx5 : Kept s x5) : KeptO s (execI2cTransaction x1 x2 x3 x4 x5) := by
  unfold execI2cTransaction
  exact (kept_ite_O (State.gate_kept hx5 (fun _ h2 => by exact (State.i2cGo_kept h2))) trivial)

theorem execI2cDone_kept {x1 x2 x3} {x4 : State} (hx4 : Kept s x4) : KeptO s (execI2cDone x1 x2 x3 x4) := by
  unfold execI2cDone
  exact (State.i2cEnd_kept hx4)

theorem execSpiTransfer_kept {x1 x2 x3} {x4 : State} (hx4 : Kept s x4) : KeptO s (execSpiTransfer x1 x2 x3 x4) := by
  unfold execSpiTransfer
  exact (kept_ite_O (State.gate_kept hx4 (fun _ h2 => by exact (State.spiGo_kept h2))) trivial)

theorem execSpiDone_kept {x1} {x2 : State} (hx2 : Kept s x2) : KeptO s (execSpiDone x1 x2) := by
  unfold execSpiDone
  exact (State.spiEnd_kept hx2)

theorem execSpiDisable_kept {x1} {x2 : State} (hx2 : Kept s x2) : KeptO s (execSpiDisable x1 x2) := by
  unfold execSpiDisable
  exact (State.gate_kept hx2 (fun _ h2 => by exact (State.spiOff_kept h2)))

theorem execGpioSet_kept {x1 x2} {x3 : State} (hx3 : Kept s x3) : KeptO s (execGpioSet x1 x2 x3) := by
  unfold execGpioSet
  exact (kept_ite_O (State.gate_kept hx3 (fun _ h2 => by exact (State.gpioSet_kept h2))) trivial)

theorem execGpioClr_kept {x1 x2} {x3 : State} (hx3 : Kept s x3) : KeptO s (execGpioClr x1 x2 x3) := by
  unfold execGpioClr
  exact (kept_ite_O (State.gate_kept hx3 (fun _ h2 => by exact (State.gpioClr_kept h2))) trivial)

theorem execGpioInputChange_kept {x1} {x2 : State} (hx2 : Kept s x2) : KeptO s (execGpioInputChange x1 x2) := by
  unfold execGpioInputChange
  exact (kept_ite_O (State.gpioLevels_kept hx2) trivial)

end Sys2Proof.Machine
end

