-- ==== Sys2Proof/Laws/KeptFmCmds.lean ====
section
/-! SUPPORT. What the operations of Machine/FmCmds.lean keep, one lemma each (Laws/Kept.lean). -/

namespace Sys2Proof.Machine

variable {s : State}

theorem execFaultInject_kept {x1 x2 x3 x4 x5} {x6 : State} (hx6 : Kept s x6) : KeptO s (execFaultInject x1 x2 x3 x4 x5 x6) := by
  unfold execFaultInject
  exact (kept_ite_O (State.gate_kept hx6 (fun _ h2 => by exact (State.settle_kept (State.inject_kept h2)))) trivial)

theorem execFatalWarmReset_kept {x1 : State} (hx1 : Kept s x1) : KeptO s (execFatalWarmReset x1) := by
  unfold execFatalWarmReset
  exact (by
 try dsimp only
 split
 · exact (kept_ite (State.warmReset_kept hx1) hx1)
 · exact hx1)

theorem execRetryGrant_kept {x1} {x2 : State} (hx2 : Kept s x2) : KeptO s (execRetryGrant x1 x2) := by
  unfold execRetryGrant
  exact (kept_ite_O (State.settle_kept (State.retryGrant_kept hx2)) trivial)

theorem execChannelReenable_kept {x1 x2} {x3 : State} (hx3 : Kept s x3) : KeptO s (execChannelReenable x1 x2 x3) := by
  unfold execChannelReenable
  exact (kept_ite_O (State.gate_kept hx3 (fun _ h2 => by exact (State.reenable_kept h2))) trivial)

theorem execCryptoKat_kept {x1 x2} {x3 : State} (hx3 : Kept s x3) : KeptO s (execCryptoKat x1 x2 x3) := by
  unfold execCryptoKat
  exact (kept_ite_O (State.settle_kept (State.katRun_kept hx3)) trivial)

theorem execThermalWarn_kept {x1} {x2 : State} (hx2 : Kept s x2) : KeptO s (execThermalWarn x1 x2) := by
  unfold execThermalWarn
  exact (kept_ite_O (State.dieWarn_kept hx2) trivial)

theorem execThermalTrip_kept {x1 : State} (hx1 : Kept s x1) : KeptO s (execThermalTrip x1) := by
  unfold execThermalTrip
  exact (State.dieTrip_kept hx1)

theorem execTimeCoreParity_kept {x1 : State} (hx1 : Kept s x1) : KeptO s (execTimeCoreParity x1) := by
  unfold execTimeCoreParity
  exact (State.log_kept hx1)

theorem execSramError_kept {x1 x2} {x3 : State} (hx3 : Kept s x3) : KeptO s (execSramError x1 x2 x3) := by
  unfold execSramError
  exact (kept_ite_O (State.logFault_kept hx3) trivial)

theorem execCounterOverflow_kept {x1 x2} {x3 : State} (hx3 : Kept s x3) : KeptO s (execCounterOverflow x1 x2 x3) := by
  unfold execCounterOverflow
  exact (kept_ite_O (kept_ite (State.pcCount_kept hx3) hx3) (kept_ite_O (kept_ite (State.pcCycle_kept hx3) hx3) (kept_ite_O (kept_ite (State.pcFall_kept hx3) hx3) trivial)))

theorem execPcieLinkUp_kept {x1 x2} {x3 : State} (hx3 : Kept s x3) : KeptO s (execPcieLinkUp x1 x2 x3) := by
  unfold execPcieLinkUp
  exact (kept_ite_O (kept_ite hx3 (State.setFld_kept (State.setFld_kept (State.set1_kept hx3)))) trivial)

theorem execTapInstruction_kept {x1} {x2 : State} (hx2 : Kept s x2) : KeptO s (execTapInstruction x1 x2) := by
  unfold execTapInstruction
  exact (kept_ite_O (State.when_kept (by exact Kept.same hx2 rfl) (fun _ h2 => by exact (State.emit_kept h2))) trivial)

end Sys2Proof.Machine
end

