-- ==== Sys2Proof/Laws/KeptLaneCmds.lean ====
section
/-! SUPPORT. What the operations of Machine/LaneCmds.lean keep, one lemma each (Laws/Kept.lean). -/

namespace Sys2Proof.Machine

variable {s : State}

theorem onUnit_kept {x1} {x2 : State} (hx2 : Kept s x2) : KeptO s (onUnit x1 x2) := by
  unfold onUnit
  exact (kept_ite_O (State.settle_kept hx2) trivial)

theorem execEthLaneEnable_kept {x1} {x2 : State} (hx2 : Kept s x2) : KeptO s (execEthLaneEnable x1 x2) := by
  unfold execEthLaneEnable
  exact (onUnit_kept (kept_ite hx2 (State.ethEnable_kept hx2)))

theorem execLaneCalComplete_kept {x1 x2 x3 x4 x5} {x6 : State} (hx6 : Kept s x6) : KeptO s (execLaneCalComplete x1 x2 x3 x4 x5 x6) := by
  unfold execLaneCalComplete
  exact (onUnit_kept (State.laneCal_kept hx6))

theorem execEthLinkUp_kept {x1 x2} {x3 : State} (hx3 : Kept s x3) : KeptO s (execEthLinkUp x1 x2 x3) := by
  unfold execEthLinkUp
  exact (onUnit_kept (State.ethUp_kept hx3))

theorem execEthTrainFail_kept {x1} {x2 : State} (hx2 : Kept s x2) : KeptO s (execEthTrainFail x1 x2) := by
  unfold execEthTrainFail
  exact (onUnit_kept (State.ethTrainFail_kept hx2))

theorem execEthLinkLoss_kept {x1 x2} {x3 : State} (hx3 : Kept s x3) : KeptO s (execEthLinkLoss x1 x2 x3) := by
  unfold execEthLinkLoss
  exact (onUnit_kept (State.ethLoss_kept hx3))

theorem execItlLaneEnable_kept {x1} {x2 : State} (hx2 : Kept s x2) : KeptO s (execItlLaneEnable x1 x2) := by
  unfold execItlLaneEnable
  exact (onUnit_kept (kept_ite hx2 (State.itlEnable_kept hx2)))

theorem execItlSuperwordTx_kept {x1 x2 x3} {x4 : State} (hx4 : Kept s x4) : KeptO s (execItlSuperwordTx x1 x2 x3 x4) := by
  unfold execItlSuperwordTx
  exact (onUnit_kept (State.itlSend_kept hx4))

theorem execItlSuperwordRx_kept {x1 x2 x3 x4 x5} {x6 : State} (hx6 : Kept s x6) : KeptO s (execItlSuperwordRx x1 x2 x3 x4 x5 x6) := by
  unfold execItlSuperwordRx
  exact (onUnit_kept (State.itlBall_kept hx6))

theorem execTrainRequestRepeat_kept {x1} {x2 : State} (hx2 : Kept s x2) : KeptO s (execTrainRequestRepeat x1 x2) := by
  unfold execTrainRequestRepeat
  exact (onUnit_kept (State.trainRepeat_kept hx2))

theorem execItlTrainFail_kept {x1} {x2 : State} (hx2 : Kept s x2) : KeptO s (execItlTrainFail x1 x2) := by
  unfold execItlTrainFail
  exact (onUnit_kept (State.itlTrainFail_kept hx2))

theorem execItlWindowEnd_kept {x1} {x2 : State} (hx2 : Kept s x2) : KeptO s (execItlWindowEnd x1 x2) := by
  unfold execItlWindowEnd
  exact (onUnit_kept (State.itlWindow_kept hx2))

theorem execLaneFreezeTimeout_kept {x1 x2} {x3 : State} (hx3 : Kept s x3) : KeptO s (execLaneFreezeTimeout x1 x2 x3) := by
  unfold execLaneFreezeTimeout
  exact (onUnit_kept (State.laneFrozen_kept hx3))

end Sys2Proof.Machine
end

