-- ==== Sys2Proof/Laws/KeptRcCmds.lean ====
section
/-! SUPPORT. What the operations of Machine/RcCmds.lean keep, one lemma each (Laws/Kept.lean). -/

namespace Sys2Proof.Machine

variable {s : State}

theorem execReceiptRequest_kept {x1 : State} (hx1 : Kept s x1) : KeptO s (execReceiptRequest x1) := by
  unfold execReceiptRequest
  exact (by
 try dsimp only
 split
 · exact (kept_ite (State.settle_kept (State.rcRequest_kept hx1)) hx1)
 · exact hx1)

theorem execReceiptPlace_kept {x1 : State} (hx1 : Kept s x1) : KeptO s (execReceiptPlace x1) := by
  unfold execReceiptPlace
  exact (State.settle_kept (State.rcPlace_kept hx1))

theorem execJournalWriteDone_kept {x1 : State} (hx1 : Kept s x1) : KeptO s (execJournalWriteDone x1) := by
  unfold execJournalWriteDone
  exact (kept_ite hx1 (State.settle_kept (State.journalDone_kept hx1)))

theorem execMirrorTimeout_kept {x1 : State} (hx1 : Kept s x1) : KeptO s (execMirrorTimeout x1) := by
  unfold execMirrorTimeout
  exact (kept_ite (State.settle_kept (State.mirrorTimeout_kept hx1)) hx1)

theorem execTallyBoundary_kept {x1 : State} (hx1 : Kept s x1) : KeptO s (execTallyBoundary x1) := by
  unfold execTallyBoundary
  exact (State.settle_kept (State.tallyBoundary_kept hx1))

theorem execBatchClose_kept {x1 : State} (hx1 : Kept s x1) : KeptO s (execBatchClose x1) := by
  unfold execBatchClose
  exact (State.settle_kept (State.batchFinish_kept hx1))

theorem execBatchSigned_kept {x1 : State} (hx1 : Kept s x1) : KeptO s (execBatchSigned x1) := by
  unfold execBatchSigned
  exact (State.settle_kept (State.batchSigned_kept hx1))

theorem execArchiveStream_kept {x1 : State} (hx1 : Kept s x1) : KeptO s (execArchiveStream x1) := by
  unfold execArchiveStream
  exact (kept_ite hx1 (State.settle_kept (State.archive_kept hx1)))

theorem execRcDisable_kept {x1} {x2 : State} (hx2 : Kept s x2) : KeptO s (execRcDisable x1 x2) := by
  unfold execRcDisable
  exact (State.settle_kept (State.gate_kept hx2 (fun _ h2 => by exact (kept_ite (State.rcStop_kept (State.clr_kept h2)) h2))))

theorem State.subCmd_kept {x1 : State} (hx1 : Kept s x1) {x2} {x3 : State → State} (hx3 : ∀ y1, Kept s y1 → Kept s (x3 y1)) : Kept s (State.subCmd x1 x2 x3) := by
  unfold State.subCmd
  exact (State.gate_kept hx1 (fun _ h3 => by exact (kept_ite (State.settle_kept (hx3 _ h3)) h3)))

theorem execSubRegister_kept {x1} {x2 : State} (hx2 : Kept s x2) : KeptO s (execSubRegister x1 x2) := by
  unfold execSubRegister
  exact (State.subCmd_kept hx2 (fun _ h2 => by exact (State.subWrite_kept h2)))

theorem execSubUpdate_kept {x1} {x2 : State} (hx2 : Kept s x2) : KeptO s (execSubUpdate x1 x2) := by
  unfold execSubUpdate
  exact (State.subCmd_kept hx2 (fun _ h2 => by exact (State.subWrite_kept h2)))

theorem execSubRemove_kept {x1} {x2 : State} (hx2 : Kept s x2) : KeptO s (execSubRemove x1 x2) := by
  unfold execSubRemove
  exact (State.subCmd_kept hx2 (fun _ h2 => by exact (State.subRemove_kept h2)))

theorem execSubRead_kept {x1} {x2 : State} (hx2 : Kept s x2) : KeptO s (execSubRead x1 x2) := by
  unfold execSubRead
  exact (State.subCmd_kept hx2 (fun _ h2 => by exact (State.subRead_kept h2)))

theorem execSubSuspend_kept {x1} {x2 : State} (hx2 : Kept s x2) : KeptO s (execSubSuspend x1 x2) := by
  unfold execSubSuspend
  exact (State.subCmd_kept hx2 (fun _ h2 => by exact (State.subSuspend_kept h2)))

theorem execSubResume_kept {x1} {x2 : State} (hx2 : Kept s x2) : KeptO s (execSubResume x1 x2) := by
  unfold execSubResume
  exact (State.subCmd_kept hx2 (fun _ h2 => by exact (State.subSuspend_kept h2)))

theorem execFetchTimeout_kept {x1 : State} (hx1 : Kept s x1) : KeptO s (execFetchTimeout x1) := by
  unfold execFetchTimeout
  exact (by
 try dsimp only
 split
 · exact (kept_ite (State.settle_kept (State.slotLost_kept (State.twDrop_kept (State.setRc_kept hx1)))) hx1)
 · exact hx1)

end Sys2Proof.Machine
end

