-- ==== Sys2Proof/Laws/KeptNetOps.lean ====
section
/-! SUPPORT. What the operations of Machine/NetOps.lean keep, one lemma each (Laws/Kept.lean). -/

namespace Sys2Proof.Machine

variable {s : State}

theorem State.macFrame_kept {x1 : State} (hx1 : Kept s x1) {x2 x3 x4 x5 x6 x7 x8 x9} : Kept s (State.macFrame x1 x2 x3 x4 x5 x6 x7 x8 x9) := by
  unfold State.macFrame
  exact (by
 try dsimp only
 split
 · exact (State.fcEval_kept (kept_ite (State.macRx_kept (State.setMac_kept hx1)) (State.setMac_kept hx1)))
 · exact (kept_ite (State.fcEval_kept (State.macRx_kept hx1)) hx1))

theorem State.toHost_kept {x1 : State} (hx1 : Kept s x1) {x2 x3} : Kept s (State.toHost x1 x2 x3) := by
  unfold State.toHost
  exact (kept_ite (State.setTs_kept (State.ringOffer_kept (State.tsCnt_kept hx1))) (State.rcAdd_kept (State.ringOffer_kept (State.tsCnt_kept hx1))))

theorem State.svcPut_kept {x1 : State} (hx1 : Kept s x1) {x2} : Kept s (State.svcPut x1 x2) := by
  unfold State.svcPut
  exact (State.setTs_kept hx1)

theorem State.pipeSvc_kept {x1 : State} (hx1 : Kept s x1) {x2 x3} : Kept s (State.pipeSvc x1 x2 x3) := by
  unfold State.pipeSvc
  exact (kept_ite (State.svcPut_kept (State.stat_kept hx1)) (kept_ite (State.tsCnt_kept (State.stat_kept hx1)) (kept_ite (kept_ite (State.svcPut_kept (State.rateTake_kept (State.stat_kept hx1))) (kept_ite (State.tsCnt_kept (State.answer_kept (State.ntpKiss_kept (State.engEv_kept (State.rateTake_kept (State.stat_kept hx1)))))) (State.tsCnt_kept (State.engEv_kept (State.rateTake_kept (State.stat_kept hx1)))))) (State.svcPut_kept (State.stat_kept hx1)))))

theorem State.pipeline_kept {x1 : State} (hx1 : Kept s x1) {x2} : Kept s (State.pipeline x1 x2) := by
  unfold State.pipeline
  exact (by
 try dsimp only
 split
 · exact hx1
 · exact (kept_ite hx1 (State.fcAll_kept (by
 try dsimp only
 split
 · exact (State.toHost_kept (State.setMac_kept hx1))
 · exact (State.tsCnt_kept (State.setMac_kept hx1))
 · exact (State.tsCnt_kept (State.macSend_kept (State.stat_kept (State.setMac_kept hx1))))
 · exact (State.tsCnt_kept (State.macSend_kept (State.stat_kept (State.setMac_kept hx1))))
 · exact (State.pipeSvc_kept (State.setMac_kept hx1))))))

theorem State.unseal_kept {x1 : State} (hx1 : Kept s x1) {x2} : Kept s (State.unseal x1 x2) := by
  unfold State.unseal
  exact (State.setTs_kept hx1)

theorem State.sealDone_kept {x1 : State} (hx1 : Kept s x1) {x2} : Kept s (State.sealDone x1 x2) := by
  unfold State.sealDone
  exact (by
 try dsimp only
 split
 · exact (kept_ite (State.setTs_kept hx1) (State.missed_kept (State.unseal_kept hx1)))
 · exact hx1)

theorem State.gateReturn_kept {x1 : State} (hx1 : Kept s x1) {x2 x3} : Kept s (State.gateReturn x1 x2 x3) := by
  unfold State.gateReturn
  exact (State.missed_kept (State.stat_kept hx1))

theorem State.handover_kept {x1 : State} (hx1 : Kept s x1) {x2} : Kept s (State.handover x1 x2) := by
  unfold State.handover
  exact (by
 try dsimp only
 split
 · exact (kept_ite hx1 (kept_ite (State.setMac_kept (State.unseal_kept hx1)) (State.gateReturn_kept (State.unseal_kept hx1))))
 · exact hx1)

theorem State.clearInstant_kept {x1 : State} (hx1 : Kept s x1) {x2} : Kept s (State.clearInstant x1 x2) := by
  unfold State.clearInstant
  exact (by
 try dsimp only
 split
 · exact (kept_ite (kept_ite (State.gateReturn_kept (State.setMac_kept (State.preempt_kept hx1))) (State.setMac_kept (State.preempt_kept hx1))) hx1)
 · exact hx1)

theorem State.launched_kept {x1 : State} (hx1 : Kept s x1) {x2} : Kept s (State.launched x1 x2) := by
  unfold State.launched
  exact (by
 try dsimp only
 split
 · exact (State.engEv_kept (State.tsCnt_kept hx1))
 · exact (State.engEv_kept (State.tsCnt_kept hx1))
 · exact (State.engEv_kept (State.tsCnt_kept hx1))
 · exact (State.engEv_kept (State.tsCnt_kept hx1))
 · exact (State.engEv_kept (State.pktSent_kept hx1)))

theorem State.release_kept {x1 : State} (hx1 : Kept s x1) {x2} : Kept s (State.release x1 x2) := by
  unfold State.release
  exact (by
 try dsimp only
 split
 · exact (kept_ite hx1 (kept_ite (State.gateReturn_kept (State.setMac_kept hx1)) (kept_ite (State.missedBound_kept (State.setMac_kept hx1)) (State.launched_kept (State.frameOut_kept (State.engEv_kept (State.stat_kept (State.stat_kept (State.stat_kept (State.stat_kept (State.setMac_kept (State.setMac_kept hx1))))))))))))
 · exact hx1)

theorem State.condemn1_kept {x1 : State} (hx1 : Kept s x1) : Kept s (State.condemn1 x1) := by
  unfold State.condemn1
  exact (by
 try dsimp only
 split
 · exact (State.missedBound_kept (State.setTs_kept hx1))
 · exact (by
 try dsimp only
 split
 · exact (State.missedBound_kept (State.setMac_kept hx1))
 · exact hx1))

theorem State.condemnAll_kept {x1 : State} (hx1 : Kept s x1) : Kept s (State.condemnAll x1) := by
  unfold State.condemnAll
  exact (kept_foldl hx1 (fun _ h2 _ => by exact (State.condemn1_kept h2)))

theorem State.clocked_kept {x1 : State} (hx1 : Kept s x1) {x2 : State} (hx2 : Kept s x2) : Kept s (State.clocked x1 x2) := by
  unfold State.clocked
  exact (kept_ite (kept_ite (State.safeDrop_kept hx1) hx1) (State.condemnAll_kept (kept_ite (State.safeDrop_kept hx1) hx1)))

theorem State.mute_kept {x1 : State} (hx1 : Kept s x1) {x2} : Kept s (State.mute x1 x2) := by
  unfold State.mute
  exact (kept_ite hx1 (kept_ite (kept_foldl (State.gateMiss_kept (State.macMute_kept hx1)) (fun _ h3 _ => by exact (State.clr_kept (State.setEth_kept h3)))) (State.gateMiss_kept (State.macMute_kept hx1))))

theorem State.muted_kept {x1 : State} (hx1 : Kept s x1) {x2} : Kept s (State.muted x1 x2) := by
  unfold State.muted
  exact (kept_ite hx1 (kept_foldl (State.clr_kept (State.clr_kept (State.set1_kept (State.clr_kept (State.setMac_kept (kept_foldl hx1 (fun _ h2 _ => by exact (State.holdEnd_kept h2)))))))) (fun _ h5 _ => by exact (State.setEth_kept (State.clr_kept (State.clr_kept (State.when_kept h5 (fun _ h6 => by exact (State.set1_kept h6)))))))))

theorem State.unmute_kept {x1 : State} (hx1 : Kept s x1) {x2 x3} : Kept s (State.unmute x1 x2 x3) := by
  unfold State.unmute
  exact (kept_ite (kept_ite (kept_foldl (State.when_kept (State.set1_kept (State.clr_kept hx1)) (fun _ h3 => by exact (State.emit_kept h3))) (fun _ h4 _ => by exact (kept_ite (State.ethTrain_kept h4) h4))) (State.clr_kept hx1)) hx1)

theorem State.wake_kept {x1 : State} (hx1 : Kept s x1) {x2 x3} : Kept s (State.wake x1 x2 x3) := by
  unfold State.wake
  exact (kept_ite hx1 (kept_ite (State.stat_kept hx1) (kept_ite (State.unmute_kept (State.set1_kept (State.stat_kept hx1))) (State.set1_kept (State.stat_kept hx1)))))

theorem State.ntsServe_kept {x1 : State} (hx1 : Kept s x1) {x2} : Kept s (State.ntsServe x1 x2) := by
  unfold State.ntsServe
  exact (kept_ite (State.tsCnt_kept hx1) (by
 try dsimp only
 split
 · exact (State.tsCnt_kept (State.answer_kept (State.ntpKiss_kept hx1)))
 · exact (kept_ite (State.tsCnt_kept hx1) (kept_ite (State.tsCnt_kept hx1) (State.decide__kept (State.cookies_kept hx1))))))

theorem State.ntpServe_kept {x1 : State} (hx1 : Kept s x1) : Kept s (State.ntpServe x1) := by
  unfold State.ntpServe
  exact (by
 try dsimp only
 split
 · exact hx1
 · next e1 => exact (kept_ite ((State.svcTake_kept hx1) _ e1) (kept_ite (State.tsCnt_kept ((State.svcTake_kept hx1) _ e1)) (kept_ite (State.tsCnt_kept ((State.svcTake_kept hx1) _ e1)) (kept_ite (State.ntsServe_kept ((State.svcTake_kept hx1) _ e1)) (kept_ite (State.tsCnt_kept ((State.svcTake_kept hx1) _ e1)) (State.decide__kept ((State.svcTake_kept hx1) _ e1))))))))

theorem State.attestServe_kept {x1 : State} (hx1 : Kept s x1) : Kept s (State.attestServe x1) := by
  unfold State.attestServe
  exact (by
 try dsimp only
 split
 · exact hx1
 · next e1 => exact (kept_ite hx1 (kept_ite (State.ksRefuseBy_kept ((State.svcTake_kept hx1) _ e1)) (kept_ite (State.rcAdd_kept ((State.svcTake_kept hx1) _ e1)) (kept_ite (State.rcAdd_kept (State.rateTake_kept ((State.svcTake_kept hx1) _ e1))) (State.setTs_kept (State.quoteCapture_kept (State.netSpend_kept (State.rateTake_kept ((State.svcTake_kept hx1) _ e1))))))))))

theorem State.attestAnswer_kept {x1 : State} (hx1 : Kept s x1) {x2 x3} : Kept s (State.attestAnswer x1 x2 x3) := by
  unfold State.attestAnswer
  exact (by
 try dsimp only
 split
 · exact (State.when_kept (State.answer_kept (State.setTs_kept hx1)) (fun _ h3 => by exact (State.rcAdd_kept h3)))
 · exact hx1)

theorem State.mintTake_kept {x1 : State} (hx1 : Kept s x1) {x2} : Kept s (State.mintTake x1 x2) := by
  unfold State.mintTake
  exact (State.setTs_kept (State.memWrite_kept hx1))

theorem State.mintGo_kept {x1 : State} (hx1 : Kept s x1) {x2 x3} : Kept s (State.mintGo x1 x2 x3) := by
  unfold State.mintGo
  exact (kept_ite (State.set1_kept hx1) (kept_ite (State.setTs_kept (State.set1_kept hx1)) (State.mintTake_kept (State.set1_kept hx1))))

theorem State.mintWrite_kept {x1 : State} (hx1 : Kept s x1) {x2 x3} : Kept s (State.mintWrite x1 x2 x3) := by
  unfold State.mintWrite
  exact (State.tsCnt_kept (State.set1_kept (State.clr_kept (State.memWrite_kept (State.setTs_kept (State.cookies_kept hx1))))))

theorem State.mintDone_kept {x1 : State} (hx1 : Kept s x1) : Kept s (State.mintDone x1) := by
  unfold State.mintDone
  exact (by
 try dsimp only
 split
 · exact (kept_ite hx1 (kept_ite (State.mintWrite_kept hx1) (kept_ite hx1 (State.mintWrite_kept (State.mintTake_kept hx1)))))
 · exact hx1)

theorem State.announceSa_kept {x1 : State} (hx1 : Kept s x1) {x2 x3} : Kept s (State.announceSa x1 x2 x3) := by
  unfold State.announceSa
  exact (kept_ite (State.macSend_kept hx1) (State.macSend_kept hx1))

theorem State.announceRound_kept {x1 : State} (hx1 : Kept s x1) : Kept s (State.announceRound x1) := by
  unfold State.announceRound
  exact (kept_ite hx1 (kept_ite (kept_foldl (State.setTs_kept hx1) (fun _ h3 _ => by exact (kept_ite (kept_foldl h3 (fun _ h4 _ => by exact (kept_ite (State.announceSa_kept h4) h4))) h3))) (kept_foldl (kept_foldl (kept_foldl (State.setTs_kept hx1) (fun _ h3 _ => by exact (kept_ite (kept_foldl h3 (fun _ h4 _ => by exact (kept_ite (State.announceSa_kept h4) h4))) h3))) (fun _ h4 _ => by exact (kept_ite (State.annMcast_kept h4) h4))) (fun _ h5 _ => by exact (kept_ite (State.grantSend_kept h5) h5)))))

theorem State.annTimer_kept {x1 : State} (hx1 : Kept s x1) {x2} : Kept s (State.annTimer x1 x2) := by
  unfold State.annTimer
  exact (kept_ite (State.annMcast_kept hx1) hx1)

theorem State.grantExpire_kept {x1 : State} (hx1 : Kept s x1) {x2} : Kept s (State.grantExpire x1 x2) := by
  unfold State.grantExpire
  exact (kept_foldl hx1 (fun _ h2 _ => by exact (kept_ite (State.grantStop_kept h2) h2)))

theorem State.pktGrants_kept {x1 : State} (hx1 : Kept s x1) {x2} : Kept s (State.pktGrants x1 x2) := by
  unfold State.pktGrants
  exact (by
 try dsimp only
 split
 · next e1 => exact (State.pktRenew_kept (State.pktGranted_kept ((State.svcTake_kept hx1) _ e1)))
 · exact (State.pktRenew_kept hx1))

theorem State.stagePop_kept {x1 : State} (hx1 : Kept s x1) {x2} : Kept s (State.stagePop x1 x2) := by
  unfold State.stagePop
  exact (State.descDone_kept (State.ringTake_kept hx1))

theorem State.hostFrame_kept {x1 : State} (hx1 : Kept s x1) {x2} : Kept s (State.hostFrame x1 x2) := by
  unfold State.hostFrame
  exact (by
 try dsimp only
 split
 · exact (kept_ite (State.rcAdd_kept (State.stagePop_kept (State.setTs_kept hx1))) (kept_ite (State.when_kept hx1 (fun _ h2 => by exact (State.set1_kept h2))) (by
 try dsimp only
 split
 · exact (State.rcAdd_kept (State.stagePop_kept (State.setTs_kept (State.rxBuffer_kept hx1))))
 · exact (State.stat_kept (State.stagePop_kept (State.setTs_kept (State.ringOffer_kept (State.descDone_kept (State.ringTake_kept (State.engEv_kept (by exact Kept.hostMemTo (State.rxBuffer_kept hx1) memPutBytes_wf)))))))))))
 · exact hx1)

theorem State.archDone_kept {x1 : State} (hx1 : Kept s x1) : Kept s (State.archDone x1) := by
  unfold State.archDone
  exact (by
 try dsimp only
 split
 · exact (by exact Kept.same (State.setFld_kept hx1) rfl)
 · exact hx1)

theorem State.stageMove_kept {x1 : State} (hx1 : Kept s x1) {x2} : Kept s (State.stageMove x1 x2) := by
  unfold State.stageMove
  exact (kept_ite (State.when_kept (State.stagePop_kept (State.ringOffer_kept hx1)) (fun _ h3 => by exact (State.archDone_kept h3))) (State.ringOffer_kept hx1))

theorem State.staging_kept {x1 : State} (hx1 : Kept s x1) {x2} : Kept s (State.staging x1 x2) := by
  unfold State.staging
  exact (kept_ite hx1 (kept_ite (State.ringStop_kept hx1) (kept_ite (State.hostFrame_kept hx1) (State.stageMove_kept hx1))))

theorem State.ringConsume_kept {x1 : State} (hx1 : Kept s x1) {x2} : Kept s (State.ringConsume x1 x2) := by
  unfold State.ringConsume
  exact (kept_ite hx1 (kept_ite (State.ringStop_kept hx1) (kept_ite (State.macSubmit_kept (State.engEv_kept (State.ringTake_kept hx1))) hx1)))

theorem State.dmaFail_kept {x1 : State} (hx1 : Kept s x1) {x2} : Kept s (State.dmaFail x1 x2) := by
  unfold State.dmaFail
  exact (kept_ite (State.logFault_kept (State.rcAdd_kept (State.ringStop_kept (State.when_kept hx1 (fun _ h2 => by exact (State.hostTxDone_kept (State.ringTake_kept h2))))))) hx1)

end Sys2Proof.Machine
end

