-- ==== Sys2Proof/Laws/KeptNetCmds.lean ====
section
/-! SUPPORT. What the operations of Machine/NetCmds.lean keep, one lemma each (Laws/Kept.lean). -/

namespace Sys2Proof.Machine

variable {s : State}

theorem execMacFrameRx_kept {x1 x2 x3 x4 x5 x6 x7 x8 x9 x10 x11} {x12 : State} (hx12 : Kept s x12) : KeptO s (execMacFrameRx x1 x2 x3 x4 x5 x6 x7 x8 x9 x10 x11 x12) := by
  unfold execMacFrameRx
  exact (onUnit_kept (kept_ite (State.when_kept (State.when_kept hx12 (fun _ h2 => by exact (State.rcAdd_kept (State.rcAdd_kept h2)))) (fun _ h3 => by exact (State.emit_kept h3))) (kept_ite (State.rxStart_kept (State.when_kept (State.when_kept hx12 (fun _ h2 => by exact (State.rcAdd_kept (State.rcAdd_kept h2)))) (fun _ h3 => by exact (State.emit_kept h3)))) (kept_ite (State.macFrame_kept (State.when_kept (State.when_kept hx12 (fun _ h2 => by exact (State.rcAdd_kept (State.rcAdd_kept h2)))) (fun _ h3 => by exact (State.emit_kept h3)))) (kept_ite (State.verifyRx_kept (State.when_kept (State.when_kept hx12 (fun _ h2 => by exact (State.rcAdd_kept (State.rcAdd_kept h2)))) (fun _ h3 => by exact (State.emit_kept h3)))) (State.when_kept (State.when_kept hx12 (fun _ h2 => by exact (State.rcAdd_kept (State.rcAdd_kept h2)))) (fun _ h3 => by exact (State.emit_kept h3))))))))

theorem execPauseHoldExpire_kept {x1} {x2 : State} (hx2 : Kept s x2) : KeptO s (execPauseHoldExpire x1 x2) := by
  unfold execPauseHoldExpire
  exact (onUnit_kept (State.holdExpire_kept hx2))

theorem execFcRefresh_kept {x1} {x2 : State} (hx2 : Kept s x2) : KeptO s (execFcRefresh x1 x2) := by
  unfold execFcRefresh
  exact (onUnit_kept (State.fcRefresh_kept hx2))

theorem execMacFrameBoundary_kept {x1 x2 x3} {x4 : State} (hx4 : Kept s x4) : KeptO s (execMacFrameBoundary x1 x2 x3 x4) := by
  unfold execMacFrameBoundary
  exact (onUnit_kept (State.macBoundary_kept hx4))

theorem execAgePromote_kept {x1} {x2 : State} (hx2 : Kept s x2) : KeptO s (execAgePromote x1 x2) := by
  unfold execAgePromote
  exact (onUnit_kept (State.agePromote_kept hx2))

theorem execVerifyTimeout_kept {x1} {x2 : State} (hx2 : Kept s x2) : KeptO s (execVerifyTimeout x1 x2) := by
  unfold execVerifyTimeout
  exact (onUnit_kept (State.verifyTimeout_kept hx2))

theorem execLaunchHandover_kept {x1} {x2 : State} (hx2 : Kept s x2) : KeptO s (execLaunchHandover x1 x2) := by
  unfold execLaunchHandover
  exact (State.settle_kept (State.handover_kept hx2))

theorem execLaunchClearInstant_kept {x1} {x2 : State} (hx2 : Kept s x2) : KeptO s (execLaunchClearInstant x1 x2) := by
  unfold execLaunchClearInstant
  exact (onUnit_kept (State.clearInstant_kept hx2))

theorem execLaunchRelease_kept {x1} {x2 : State} (hx2 : Kept s x2) : KeptO s (execLaunchRelease x1 x2) := by
  unfold execLaunchRelease
  exact (onUnit_kept (State.release_kept hx2))

theorem execMute_kept {x1 x2} {x3 : State} (hx3 : Kept s x3) : KeptO s (execMute x1 x2 x3) := by
  unfold execMute
  exact (onUnit_kept (State.gate_kept hx3 (fun _ h2 => by exact (kept_ite (State.mute_kept h2) h2))))

theorem execMuteComplete_kept {x1} {x2 : State} (hx2 : Kept s x2) : KeptO s (execMuteComplete x1 x2) := by
  unfold execMuteComplete
  exact (onUnit_kept (State.muted_kept hx2))

theorem execUnmute_kept {x1 x2} {x3 : State} (hx3 : Kept s x3) : KeptO s (execUnmute x1 x2 x3) := by
  unfold execUnmute
  exact (onUnit_kept (State.gate_kept hx3 (fun _ h2 => by exact (kept_ite (State.unmute_kept h2) h2))))

theorem execWakeSignal_kept {x1 x2} {x3 : State} (hx3 : Kept s x3) : KeptO s (execWakeSignal x1 x2 x3) := by
  unfold execWakeSignal
  exact (onUnit_kept (State.wake_kept hx3))

theorem execPipelineFrame_kept {x1} {x2 : State} (hx2 : Kept s x2) : KeptO s (execPipelineFrame x1 x2) := by
  unfold execPipelineFrame
  exact (onUnit_kept (State.pipeline_kept hx2))

theorem execNtpRequest_kept {x1 : State} (hx1 : Kept s x1) : KeptO s (execNtpRequest x1) := by
  unfold execNtpRequest
  exact (State.settle_kept (State.ntpServe_kept hx1))

theorem execSealComplete_kept {x1} {x2 : State} (hx2 : Kept s x2) : KeptO s (execSealComplete x1 x2) := by
  unfold execSealComplete
  exact (State.settle_kept (State.sealDone_kept hx2))

theorem execAnnounceCmd_kept {x1 x2} {x3 : State} (hx3 : Kept s x3) : KeptO s (execAnnounceCmd x1 x2 x3) := by
  unfold execAnnounceCmd
  exact (State.gate_kept hx3 (fun _ h2 => by exact (State.announceGo_kept h2)))

theorem execAnnounceRound_kept {x1 : State} (hx1 : Kept s x1) : KeptO s (execAnnounceRound x1) := by
  unfold execAnnounceRound
  exact (State.settle_kept (State.announceRound_kept hx1))

theorem execCookieMint_kept {x1 x2} {x3 : State} (hx3 : Kept s x3) : KeptO s (execCookieMint x1 x2 x3) := by
  unfold execCookieMint
  exact (State.gate_kept hx3 (fun _ h2 => by exact (State.mintGo_kept h2)))

theorem execCookieMintDone_kept {x1 : State} (hx1 : Kept s x1) : KeptO s (execCookieMintDone x1) := by
  unfold execCookieMintDone
  exact (State.settle_kept (State.mintDone_kept hx1))

theorem execPtpSyncTimer_kept {x1 x2 x3} {x4 : State} (hx4 : Kept s x4) : KeptO s (execPtpSyncTimer x1 x2 x3 x4) := by
  unfold execPtpSyncTimer
  exact (onUnit_kept (kept_ite (kept_ite (State.grantTimer_kept hx4) hx4) (State.syncMcast_kept hx4)))

theorem execPtpAnnounceTimer_kept {x1 x2 x3} {x4 : State} (hx4 : Kept s x4) : KeptO s (execPtpAnnounceTimer x1 x2 x3 x4) := by
  unfold execPtpAnnounceTimer
  exact (onUnit_kept (kept_ite (kept_ite (State.grantTimer_kept hx4) hx4) (State.annTimer_kept hx4)))

theorem State.serveTag_kept {x1 : State} (hx1 : Kept s x1) {x2 x3} {x4 : State → SvcReq → State} (hx4 : ∀ y1, Kept s y1 → ∀ y2, Kept s (x4 y1 y2)) : Kept s (State.serveTag x1 x2 x3 x4) := by
  unfold State.serveTag
  exact (by
 try dsimp only
 split
 · next e2 => exact (hx4 _ ((State.svcTake_kept hx1) _ e2) _)
 · exact hx1)

theorem execPtpDelayReq_kept {x1 : State} (hx1 : Kept s x1) : KeptO s (execPtpDelayReq x1) := by
  unfold execPtpDelayReq
  exact (State.settle_kept (State.serveTag_kept hx1 (fun _ h2 _ => by exact (State.delayReq_kept h2))))

theorem execPtpPdelayReq_kept {x1 : State} (hx1 : Kept s x1) : KeptO s (execPtpPdelayReq x1) := by
  unfold execPtpPdelayReq
  exact (State.settle_kept (State.serveTag_kept hx1 (fun _ h2 _ => by exact (State.pdelayReq_kept h2))))

theorem execPtpGrantRequest_kept {x1 : State} (hx1 : Kept s x1) : KeptO s (execPtpGrantRequest x1) := by
  unfold execPtpGrantRequest
  exact (State.settle_kept (State.serveTag_kept hx1 (fun _ h2 _ => by exact (State.grantRequest_kept h2))))

theorem execPtpGrantCancel_kept {x1 : State} (hx1 : Kept s x1) : KeptO s (execPtpGrantCancel x1) := by
  unfold execPtpGrantCancel
  exact (State.settle_kept (State.serveTag_kept hx1 (fun _ h2 _ => by exact (State.grantCancel_kept h2))))

theorem execGrantExpire_kept {x1 x2} {x3 : State} (hx3 : Kept s x3) : KeptO s (execGrantExpire x1 x2 x3) := by
  unfold execGrantExpire
  exact (onUnit_kept (kept_ite (State.grantExpire_kept hx3) hx3))

theorem execPktDelayReqTimer_kept {x1} {x2 : State} (hx2 : Kept s x2) : KeptO s (execPktDelayReqTimer x1 x2) := by
  unfold execPktDelayReqTimer
  exact (onUnit_kept (State.pktRequest_kept hx2))

theorem execPktSyncRx_kept {x1} {x2 : State} (hx2 : Kept s x2) : KeptO s (execPktSyncRx x1 x2) := by
  unfold execPktSyncRx
  exact (onUnit_kept (State.serveTag_kept hx2 (fun _ h2 _ => by exact (State.pktSync_kept h2))))

theorem execPktGrantRenew_kept {x1} {x2 : State} (hx2 : Kept s x2) : KeptO s (execPktGrantRenew x1 x2) := by
  unfold execPktGrantRenew
  exact (onUnit_kept (State.pktGrants_kept hx2))

theorem execAttestRequest_kept {x1 : State} (hx1 : Kept s x1) : KeptO s (execAttestRequest x1) := by
  unfold execAttestRequest
  exact (State.settle_kept (State.attestServe_kept hx1))

theorem execRingConsume_kept {x1} {x2 : State} (hx2 : Kept s x2) : KeptO s (execRingConsume x1 x2) := by
  unfold execRingConsume
  exact (onUnit_kept (State.ringConsume_kept hx2))

theorem execStagingForward_kept {x1} {x2 : State} (hx2 : Kept s x2) : KeptO s (execStagingForward x1 x2) := by
  unfold execStagingForward
  exact (onUnit_kept (State.staging_kept hx2))

theorem execHostDmaTimeout_kept {x1} {x2 : State} (hx2 : Kept s x2) : KeptO s (execHostDmaTimeout x1 x2) := by
  unfold execHostDmaTimeout
  exact (onUnit_kept (State.dmaFail_kept hx2))

end Sys2Proof.Machine
end

