-- ==== Sys2Proof/Laws/KeptRefCmds.lean ====
section
/-! SUPPORT. What the operations of Machine/RefCmds.lean keep, one lemma each (Laws/Kept.lean). -/

namespace Sys2Proof.Machine

variable {s : State}

theorem onRef_kept {x1} {x2 : State} (hx2 : Kept s x2) {x3 : State} (hx3 : Kept s x3) : KeptO s (onRef x1 x2 x3) := by
  unfold onRef
  exact (onUnit_kept (State.clocked_kept hx3 hx2))

theorem State.copyTake_kept {x1 : State} (hx1 : Kept s x1) {x2} : ∀ r, (State.copyTake x1 x2) = some r → Kept s (r).2 := by
  unfold State.copyTake
  exact (by
 try dsimp only
 split
 · exact (fun _ hr => Option.some.inj hr ▸ (kept_snd (by exact Kept.same hx1 rfl)))
 · exact (fun _ hr => nomatch hr))

theorem execRefPpsMeasurement_kept {x1} {x2 : State} (hx2 : Kept s x2) : KeptO s (execRefPpsMeasurement x1 x2) := by
  unfold execRefPpsMeasurement
  exact (onRef_kept hx2 (by
 try dsimp only
 split
 · next e1 => exact (State.rsEval_kept (State.ppsRecord_kept ((State.copyTake_kept hx2) _ e1)))
 · exact hx2))

theorem execRefPktExchange_kept {x1} {x2 : State} (hx2 : Kept s x2) : KeptO s (execRefPktExchange x1 x2) := by
  unfold execRefPktExchange
  exact (onRef_kept hx2 (State.rsEval_kept (State.serveTag_kept hx2 (fun _ h2 _ => by exact (State.pktExchangeOf_kept h2)))))

theorem execRefItlMeasurement_kept {x1} {x2 : State} (hx2 : Kept s x2) : KeptO s (execRefItlMeasurement x1 x2) := by
  unfold execRefItlMeasurement
  exact (onRef_kept hx2 (kept_ite hx2 (State.itlMeasure_kept hx2)))

theorem execRsTodWrite_kept {x1 x2 x3 x4} {x5 : State} (hx5 : Kept s x5) : KeptO s (execRsTodWrite x1 x2 x3 x4 x5) := by
  unfold execRsTodWrite
  exact (onRef_kept hx5 (State.gate_kept hx5 (fun _ h2 => by exact (State.rsEval_kept (State.todWrite_kept h2)))))

theorem execTodLabelTimeout_kept {x1} {x2 : State} (hx2 : Kept s x2) : KeptO s (execTodLabelTimeout x1 x2) := by
  unfold execTodLabelTimeout
  exact (onRef_kept hx2 (State.labelExpire_kept hx2))

theorem execTodRecordTimeout_kept {x1} {x2 : State} (hx2 : Kept s x2) : KeptO s (execTodRecordTimeout x1 x2) := by
  unfold execTodRecordTimeout
  exact (onRef_kept hx2 (State.rsEval_kept (State.recExpire_kept hx2)))

theorem execFreqWindowEnd_kept {x1 : State} (hx1 : Kept s x1) : KeptO s (execFreqWindowEnd x1) := by
  unfold execFreqWindowEnd
  exact (State.settle_kept (kept_ite (State.clocked_kept (State.rsEval_kept (State.windowEnd_kept hx1)) hx1) hx1))

theorem execRefQualified_kept {x1} {x2 : State} (hx2 : Kept s x2) : KeptO s (execRefQualified x1 x2) := by
  unfold execRefQualified
  exact (onRef_kept hx2 (kept_ite (State.rsEval_kept (State.rsGo_kept hx2)) hx2))

theorem execRefPresenceLoss_kept {x1} {x2 : State} (hx2 : Kept s x2) : KeptO s (execRefPresenceLoss x1 x2) := by
  unfold execRefPresenceLoss
  exact (onRef_kept hx2 (kept_ite (State.rsEval_kept (State.rsLoss_kept hx2)) hx2))

theorem execRefRequalify_kept {x1} {x2 : State} (hx2 : Kept s x2) : KeptO s (execRefRequalify x1 x2) := by
  unfold execRefRequalify
  exact (onRef_kept hx2 (kept_ite (State.rsEval_kept (State.rsQualifying_kept hx2)) hx2))

theorem State.refDisqualify_kept {x1 : State} (hx1 : Kept s x1) {x2} : Kept s (State.refDisqualify x1 x2) := by
  unfold State.refDisqualify
  exact (State.rsEval_kept (State.rsFail_kept hx1))

theorem State.refAccept_kept {x1 : State} (hx1 : Kept s x1) {x2} : Kept s (State.refAccept x1 x2) := by
  unfold State.refAccept
  exact (State.rsEval_kept (kept_ite (State.rsQualifying_kept hx1) (kept_ite (State.exemptSet_kept (State.rsQualifying_kept hx1)) hx1)))

theorem State.refClrDispute_kept {x1 : State} (hx1 : Kept s x1) {x2} : Kept s (State.refClrDispute x1 x2) := by
  unfold State.refClrDispute
  exact (State.rsEval_kept (State.disputeClr_kept hx1))

theorem State.refClrComp_kept {x1 : State} (hx1 : Kept s x1) {x2} : Kept s (State.refClrComp x1 x2) := by
  unfold State.refClrComp
  exact (kept_ite (State.setFld_kept hx1) hx1)

theorem execRefDisqualify_kept {x1 x2} {x3 : State} (hx3 : Kept s x3) : KeptO s (execRefDisqualify x1 x2 x3) := by
  unfold execRefDisqualify
  exact (onRef_kept hx3 (State.gate_kept hx3 (fun _ h2 => by exact (State.refDisqualify_kept h2))))

theorem execRefAccept_kept {x1 x2} {x3 : State} (hx3 : Kept s x3) : KeptO s (execRefAccept x1 x2 x3) := by
  unfold execRefAccept
  exact (onRef_kept hx3 (State.gate_kept hx3 (fun _ h2 => by exact (State.refAccept_kept h2))))

theorem execClrDispute_kept {x1 x2} {x3 : State} (hx3 : Kept s x3) : KeptO s (execClrDispute x1 x2 x3) := by
  unfold execClrDispute
  exact (onRef_kept hx3 (State.gate_kept hx3 (fun _ h2 => by exact (State.refClrDispute_kept h2))))

theorem execClrComp_kept {x1 x2} {x3 : State} (hx3 : Kept s x3) : KeptO s (execClrComp x1 x2 x3) := by
  unfold execClrComp
  exact (onRef_kept hx3 (State.gate_kept hx3 (fun _ h2 => by exact (State.refClrComp_kept h2))))

theorem State.refEn_kept {x1 : State} (hx1 : Kept s x1) {x2 x3} : Kept s (State.refEn x1 x2 x3) := by
  unfold State.refEn
  exact (State.rsEval_kept (kept_ite (State.rsEnable_kept hx1) (State.rsDisable_kept hx1)))

theorem execRefEnable_kept {x1 x2} {x3 : State} (hx3 : Kept s x3) : KeptO s (execRefEnable x1 x2 x3) := by
  unfold execRefEnable
  exact (onRef_kept hx3 (State.gate_kept hx3 (fun _ h2 => by exact (State.refEn_kept h2))))

theorem execRefDisable_kept {x1 x2} {x3 : State} (hx3 : Kept s x3) : KeptO s (execRefDisable x1 x2 x3) := by
  unfold execRefDisable
  exact (onRef_kept hx3 (State.gate_kept hx3 (fun _ h2 => by exact (State.refEn_kept h2))))

theorem State.forceBy_kept {x1 : State} (hx1 : Kept s x1) {x2 x3 x4} : Kept s (State.forceBy x1 x2 x3 x4) := by
  unfold State.forceBy
  exact (State.gate_kept hx1 (fun _ h2 => by exact (kept_ite (State.forceWrite_kept h2) h2)))

theorem execForceSelect_kept {x1 x2 x3} {x4 : State} (hx4 : Kept s x4) : KeptO s (execForceSelect x1 x2 x3 x4) := by
  unfold execForceSelect
  exact (onRef_kept hx4 (State.forceBy_kept hx4))

theorem execLockAchieved_kept {x1 : State} (hx1 : Kept s x1) : KeptO s (execLockAchieved x1) := by
  unfold execLockAchieved
  exact (State.settle_kept (kept_ite (State.engGo_kept hx1) hx1))

theorem execLockWindowExceeded_kept {x1 : State} (hx1 : Kept s x1) : KeptO s (execLockWindowExceeded x1) := by
  unfold execLockWindowExceeded
  exact (State.settle_kept (kept_ite (State.engGo_kept hx1) hx1))

theorem execPlausAgreement_kept {x1 x2} {x3 : State} (hx3 : Kept s x3) : KeptO s (execPlausAgreement x1 x2 x3) := by
  unfold execPlausAgreement
  exact (onRef_kept hx3 (kept_ite (State.rsEval_kept (State.agreeDone_kept hx3)) hx3))

end Sys2Proof.Machine
end

