-- ==== Sys2Proof/Laws/KeptSeqAlu.lean ====
section
/-! SUPPORT. What the operations of Machine/SeqAlu.lean keep, one lemma each (Laws/Kept.lean). -/

namespace Sys2Proof.Machine

variable {s : State}

theorem execAdd_kept {x1} {x2 : State} (hx2 : Kept s x2) : KeptO s (execAdd x1 x2) := by
  unfold execAdd
  exact (State.issueReg_kept hx2)

theorem execSub_kept {x1} {x2 : State} (hx2 : Kept s x2) : KeptO s (execSub x1 x2) := by
  unfold execSub
  exact (State.issueReg_kept hx2)

theorem execAndV_kept {x1} {x2 : State} (hx2 : Kept s x2) : KeptO s (execAndV x1 x2) := by
  unfold execAndV
  exact (State.issueReg_kept hx2)

theorem execOrV_kept {x1} {x2 : State} (hx2 : Kept s x2) : KeptO s (execOrV x1 x2) := by
  unfold execOrV
  exact (State.issueReg_kept hx2)

theorem execXorV_kept {x1} {x2 : State} (hx2 : Kept s x2) : KeptO s (execXorV x1 x2) := by
  unfold execXorV
  exact (State.issueReg_kept hx2)

theorem execShl_kept {x1} {x2 : State} (hx2 : Kept s x2) : KeptO s (execShl x1 x2) := by
  unfold execShl
  exact (State.issueReg_kept hx2)

theorem execShr_kept {x1} {x2 : State} (hx2 : Kept s x2) : KeptO s (execShr x1 x2) := by
  unfold execShr
  exact (State.issueReg_kept hx2)

theorem execAsr_kept {x1} {x2 : State} (hx2 : Kept s x2) : KeptO s (execAsr x1 x2) := by
  unfold execAsr
  exact (State.issueReg_kept hx2)

theorem execMinV_kept {x1} {x2 : State} (hx2 : Kept s x2) : KeptO s (execMinV x1 x2) := by
  unfold execMinV
  exact (State.issueReg_kept hx2)

theorem execMaxV_kept {x1} {x2 : State} (hx2 : Kept s x2) : KeptO s (execMaxV x1 x2) := by
  unfold execMaxV
  exact (State.issueReg_kept hx2)

theorem execMinu_kept {x1} {x2 : State} (hx2 : Kept s x2) : KeptO s (execMinu x1 x2) := by
  unfold execMinu
  exact (State.issueReg_kept hx2)

theorem execMaxu_kept {x1} {x2 : State} (hx2 : Kept s x2) : KeptO s (execMaxu x1 x2) := by
  unfold execMaxu
  exact (State.issueReg_kept hx2)

theorem execMul_kept {x1} {x2 : State} (hx2 : Kept s x2) : KeptO s (execMul x1 x2) := by
  unfold execMul
  exact (State.issueReg_kept hx2)

theorem execMulhs_kept {x1} {x2 : State} (hx2 : Kept s x2) : KeptO s (execMulhs x1 x2) := by
  unfold execMulhs
  exact (State.issueReg_kept hx2)

theorem execMulhu_kept {x1} {x2 : State} (hx2 : Kept s x2) : KeptO s (execMulhu x1 x2) := by
  unfold execMulhu
  exact (State.issueReg_kept hx2)

theorem execClz_kept {x1} {x2 : State} (hx2 : Kept s x2) : KeptO s (execClz x1 x2) := by
  unfold execClz
  exact (State.issueReg_kept hx2)

theorem execAddc_kept {x1} {x2 : State} (hx2 : Kept s x2) : KeptO s (execAddc x1 x2) := by
  unfold execAddc
  exact (State.issueReg_kept hx2)

theorem execSubc_kept {x1} {x2 : State} (hx2 : Kept s x2) : KeptO s (execSubc x1 x2) := by
  unfold execSubc
  exact (State.issueReg_kept hx2)

theorem execAddi_kept {x1} {x2 : State} (hx2 : Kept s x2) : KeptO s (execAddi x1 x2) := by
  unfold execAddi
  exact (State.issueReg_kept hx2)

theorem execSubi_kept {x1} {x2 : State} (hx2 : Kept s x2) : KeptO s (execSubi x1 x2) := by
  unfold execSubi
  exact (State.issueReg_kept hx2)

theorem execAndi_kept {x1} {x2 : State} (hx2 : Kept s x2) : KeptO s (execAndi x1 x2) := by
  unfold execAndi
  exact (State.issueReg_kept hx2)

theorem execOri_kept {x1} {x2 : State} (hx2 : Kept s x2) : KeptO s (execOri x1 x2) := by
  unfold execOri
  exact (State.issueReg_kept hx2)

theorem execXori_kept {x1} {x2 : State} (hx2 : Kept s x2) : KeptO s (execXori x1 x2) := by
  unfold execXori
  exact (State.issueReg_kept hx2)

theorem execLdi_kept {x1} {x2 : State} (hx2 : Kept s x2) : KeptO s (execLdi x1 x2) := by
  unfold execLdi
  exact (State.issueReg_kept hx2)

theorem execShli_kept {x1} {x2 : State} (hx2 : Kept s x2) : KeptO s (execShli x1 x2) := by
  unfold execShli
  exact (State.issueReg_kept hx2)

theorem execShri_kept {x1} {x2 : State} (hx2 : Kept s x2) : KeptO s (execShri x1 x2) := by
  unfold execShri
  exact (State.issueReg_kept hx2)

theorem execAsri_kept {x1} {x2 : State} (hx2 : Kept s x2) : KeptO s (execAsri x1 x2) := by
  unfold execAsri
  exact (State.issueReg_kept hx2)

theorem execMacs_kept {x1} {x2 : State} (hx2 : Kept s x2) : KeptO s (execMacs x1 x2) := by
  unfold execMacs
  exact (State.issueReg_kept hx2)

theorem execMacu_kept {x1} {x2 : State} (hx2 : Kept s x2) : KeptO s (execMacu x1 x2) := by
  unfold execMacu
  exact (State.issueReg_kept hx2)

theorem execMsbs_kept {x1} {x2 : State} (hx2 : Kept s x2) : KeptO s (execMsbs x1 x2) := by
  unfold execMsbs
  exact (State.issueReg_kept hx2)

theorem execMsbu_kept {x1} {x2 : State} (hx2 : Kept s x2) : KeptO s (execMsbu x1 x2) := by
  unfold execMsbu
  exact (State.issueReg_kept hx2)

theorem execClracc_kept {x1} {x2 : State} (hx2 : Kept s x2) : KeptO s (execClracc x1 x2) := by
  unfold execClracc
  exact (State.issueReg_kept hx2)

theorem execAccmov_kept {x1} {x2 : State} (hx2 : Kept s x2) : KeptO s (execAccmov x1 x2) := by
  unfold execAccmov
  exact (State.issueReg_kept hx2)

theorem execAccset_kept {x1} {x2 : State} (hx2 : Kept s x2) : KeptO s (execAccset x1 x2) := by
  unfold execAccset
  exact (State.issueReg_kept hx2)

theorem execAccadd_kept {x1} {x2 : State} (hx2 : Kept s x2) : KeptO s (execAccadd x1 x2) := by
  unfold execAccadd
  exact (State.issueReg_kept hx2)

theorem execAccw_kept {x1} {x2 : State} (hx2 : Kept s x2) : KeptO s (execAccw x1 x2) := by
  unfold execAccw
  exact (State.issueReg_kept hx2)

theorem execAccwr_kept {x1} {x2 : State} (hx2 : Kept s x2) : KeptO s (execAccwr x1 x2) := by
  unfold execAccwr
  exact (State.issueReg_kept hx2)

theorem execAccrd_kept {x1} {x2 : State} (hx2 : Kept s x2) : KeptO s (execAccrd x1 x2) := by
  unfold execAccrd
  exact (State.issueReg_kept hx2)

theorem execTnow_kept {x1} {x2 : State} (hx2 : Kept s x2) : KeptO s (execTnow x1 x2) := by
  unfold execTnow
  exact (State.issue_kept hx2 (fun _ _ h2 => by exact (State.setSeq_kept h2)))

theorem execTaddn_kept {x1} {x2 : State} (hx2 : Kept s x2) : KeptO s (execTaddn x1 x2) := by
  unfold execTaddn
  exact (State.issueReg_kept hx2)

theorem execTmov_kept {x1} {x2 : State} (hx2 : Kept s x2) : KeptO s (execTmov x1 x2) := by
  unfold execTmov
  exact (State.issueReg_kept hx2)

theorem execTadd_kept {x1} {x2 : State} (hx2 : Kept s x2) : KeptO s (execTadd x1 x2) := by
  unfold execTadd
  exact (State.issueReg_kept hx2)

theorem execTaddf_kept {x1} {x2 : State} (hx2 : Kept s x2) : KeptO s (execTaddf x1 x2) := by
  unfold execTaddf
  exact (State.issueReg_kept hx2)

theorem execTdifn_kept {x1} {x2 : State} (hx2 : Kept s x2) : KeptO s (execTdifn x1 x2) := by
  unfold execTdifn
  exact (State.issueReg_kept hx2)

theorem execTdiff_kept {x1} {x2 : State} (hx2 : Kept s x2) : KeptO s (execTdiff x1 x2) := by
  unfold execTdiff
  exact (State.issueReg_kept hx2)

theorem execTcmp_kept {x1} {x2 : State} (hx2 : Kept s x2) : KeptO s (execTcmp x1 x2) := by
  unfold execTcmp
  exact (State.issueReg_kept hx2)

theorem execTsec_kept {x1} {x2 : State} (hx2 : Kept s x2) : KeptO s (execTsec x1 x2) := by
  unfold execTsec
  exact (State.issueReg_kept hx2)

theorem execTsech_kept {x1} {x2 : State} (hx2 : Kept s x2) : KeptO s (execTsech x1 x2) := by
  unfold execTsech
  exact (State.issueReg_kept hx2)

theorem execTns_kept {x1} {x2 : State} (hx2 : Kept s x2) : KeptO s (execTns x1 x2) := by
  unfold execTns
  exact (State.issueReg_kept hx2)

theorem execTfrac_kept {x1} {x2 : State} (hx2 : Kept s x2) : KeptO s (execTfrac x1 x2) := by
  unfold execTfrac
  exact (State.issueReg_kept hx2)

theorem execTwnc_kept {x1} {x2 : State} (hx2 : Kept s x2) : KeptO s (execTwnc x1 x2) := by
  unfold execTwnc
  exact (State.issueReg_kept hx2)

theorem execTset_kept {x1} {x2 : State} (hx2 : Kept s x2) : KeptO s (execTset x1 x2) := by
  unfold execTset
  exact (State.issueReg_kept hx2)

theorem execTseth_kept {x1} {x2 : State} (hx2 : Kept s x2) : KeptO s (execTseth x1 x2) := by
  unfold execTseth
  exact (State.issueReg_kept hx2)

theorem execTextw_kept {x1} {x2 : State} (hx2 : Kept s x2) : KeptO s (execTextw x1 x2) := by
  unfold execTextw
  exact (State.issueReg_kept hx2)

theorem execWaitt_kept {x1} {x2 : State} (hx2 : Kept s x2) : KeptO s (execWaitt x1 x2) := by
  unfold execWaitt
  exact (State.issue_kept hx2 (fun _ _ h2 => by exact (kept_ite_R (State.setSeq_kept h2) (State.set1_kept (State.setSeq_kept h2)))))

theorem State.waitRelease_kept {x1 : State} (hx1 : Kept s x1) {x2} : Kept s (State.waitRelease x1 x2) := by
  unfold State.waitRelease
  exact (State.lateTake_kept (State.setPc_kept (State.endWait_kept hx1)))

theorem execTimeWaitRelease_kept {x1} {x2 : State} (hx2 : Kept s x2) : KeptO s (execTimeWaitRelease x1 x2) := by
  unfold execTimeWaitRelease
  exact (kept_ite_O (by
 try dsimp only
 split
 · exact (kept_ite (State.waitRelease_kept hx2) hx2)
 · exact hx2) trivial)

theorem execArm_kept {x1} {x2 : State} (hx2 : Kept s x2) : KeptO s (execArm x1 x2) := by
  unfold execArm
  exact (State.issue_kept hx2 (fun _ _ h2 => by exact (State.setSeq_kept (State.evClear_kept h2))))

theorem execDisarm_kept {x1} {x2 : State} (hx2 : Kept s x2) : KeptO s (execDisarm x1 x2) := by
  unfold execDisarm
  exact (State.issue_kept hx2 (fun _ _ h2 => by exact (State.setSeq_kept (State.evClear_kept h2))))

theorem execTimeCompareFire_kept {x1 x2} {x3 : State} (hx3 : Kept s x3) : KeptO s (execTimeCompareFire x1 x2 x3) := by
  unfold execTimeCompareFire
  exact (kept_ite_O (by
 try dsimp only
 split
 · exact (kept_ite (State.latchAt_kept (State.setSeq_kept hx3)) hx3)
 · exact hx3) trivial)

theorem State.evTake_kept {x1 : State} (hx1 : Kept s x1) {x2 x3 x4} : Kept s (State.evTake x1 x2 x3 x4) := by
  unfold State.evTake
  exact (State.setSeq_kept (State.evClear_kept hx1))

theorem execWaite_kept {x1} {x2 : State} (hx2 : Kept s x2) : KeptO s (execWaite x1 x2) := by
  unfold execWaite
  exact (State.issue_kept hx2 (fun _ _ h2 => by exact (kept_ite_R (State.evTake_kept h2) (State.set1_kept (State.setSeq_kept h2)))))

theorem execEventWaitRelease_kept {x1} {x2 : State} (hx2 : Kept s x2) : KeptO s (execEventWaitRelease x1 x2) := by
  unfold execEventWaitRelease
  exact (kept_ite_O (by
 try dsimp only
 split
 · exact (kept_ite (State.waitRelease_kept (State.evTake_kept hx2)) hx2)
 · exact hx2) trivial)

end Sys2Proof.Machine
end

