-- ==== Sys2Proof/Laws/KeptSeqFlow.lean ====
section
/-! SUPPORT. What the operations of Machine/SeqFlow.lean keep, one lemma each (Laws/Kept.lean). -/

namespace Sys2Proof.Machine

variable {s : State}

theorem State.issueLoad_kept {x1 : State} (hx1 : Kept s x1) {x2 x3 x4 x5} : KeptO s (State.issueLoad x1 x2 x3 x4 x5) := by
  unfold State.issueLoad
  exact (State.issue_kept hx1 (fun _ _ h2 => by exact (kept_ite_R trivial (State.setSeq_kept h2))))

theorem State.issueStore_kept {x1 : State} (hx1 : Kept s x1) {x2 x3 x4 x5} : KeptO s (State.issueStore x1 x2 x3 x4 x5) := by
  unfold State.issueStore
  exact (State.issue_kept hx1 (fun _ _ h2 => by exact (kept_ite_R trivial (by exact Kept.memTo h2 memPut_wf))))

theorem execLdw_kept {x1} {x2 : State} (hx2 : Kept s x2) : KeptO s (execLdw x1 x2) := by
  unfold execLdw
  exact (State.issueLoad_kept hx2)

theorem execLdh_kept {x1} {x2 : State} (hx2 : Kept s x2) : KeptO s (execLdh x1 x2) := by
  unfold execLdh
  exact (State.issueLoad_kept hx2)

theorem execLdhu_kept {x1} {x2 : State} (hx2 : Kept s x2) : KeptO s (execLdhu x1 x2) := by
  unfold execLdhu
  exact (State.issueLoad_kept hx2)

theorem execLdb_kept {x1} {x2 : State} (hx2 : Kept s x2) : KeptO s (execLdb x1 x2) := by
  unfold execLdb
  exact (State.issueLoad_kept hx2)

theorem execLdbu_kept {x1} {x2 : State} (hx2 : Kept s x2) : KeptO s (execLdbu x1 x2) := by
  unfold execLdbu
  exact (State.issueLoad_kept hx2)

theorem execStw_kept {x1} {x2 : State} (hx2 : Kept s x2) : KeptO s (execStw x1 x2) := by
  unfold execStw
  exact (State.issueStore_kept hx2)

theorem execSth_kept {x1} {x2 : State} (hx2 : Kept s x2) : KeptO s (execSth x1 x2) := by
  unfold execSth
  exact (State.issueStore_kept hx2)

theorem execStb_kept {x1} {x2 : State} (hx2 : Kept s x2) : KeptO s (execStb x1 x2) := by
  unfold execStb
  exact (State.issueStore_kept hx2)

theorem execLdt_kept {x1} {x2 : State} (hx2 : Kept s x2) : KeptO s (execLdt x1 x2) := by
  unfold execLdt
  exact (State.issueLoad_kept hx2)

theorem execStt_kept {x1} {x2 : State} (hx2 : Kept s x2) : KeptO s (execStt x1 x2) := by
  unfold execStt
  exact (State.issueStore_kept hx2)

theorem execBif_kept {x1} {x2 : State} (hx2 : Kept s x2) : KeptO s (execBif x1 x2) := by
  unfold execBif
  exact (State.issue_kept hx2 (fun _ _ h2 => by exact (kept_ite_R (State.seqEv_kept h2) h2)))

theorem State.callTo_kept {x1 : State} (hx1 : Kept s x1) {x2 x3} : KeptR s (State.callTo x1 x2 x3) := by
  unfold State.callTo
  exact (kept_ite_R trivial (kept_ite_R trivial (State.seqEv_kept (State.setSeq_kept hx1))))

theorem execCall_kept {x1} {x2 : State} (hx2 : Kept s x2) : KeptO s (execCall x1 x2) := by
  unfold execCall
  exact (State.issue_kept hx2 (fun _ _ h2 => by exact (State.callTo_kept h2)))

theorem execJr_kept {x1} {x2 : State} (hx2 : Kept s x2) : KeptO s (execJr x1 x2) := by
  unfold execJr
  exact (State.issue_kept hx2 (fun _ _ h2 => by exact (kept_ite_R trivial (State.seqEv_kept h2))))

theorem execCallr_kept {x1} {x2 : State} (hx2 : Kept s x2) : KeptO s (execCallr x1 x2) := by
  unfold execCallr
  exact (State.issue_kept hx2 (fun _ _ h2 => by exact (State.callTo_kept h2)))

theorem execRet_kept {x1} {x2 : State} (hx2 : Kept s x2) : KeptO s (execRet x1 x2) := by
  unfold execRet
  exact (State.issue_kept hx2 (fun _ _ h2 => by exact (by
 try dsimp only
 split
 · exact (State.seqEv_kept (State.setSeq_kept h2))
 · exact trivial)))

theorem execTrap_kept {x1} {x2 : State} (hx2 : Kept s x2) : KeptO s (execTrap x1 x2) := by
  unfold execTrap
  exact (State.issue_kept hx2 (fun _ _ h2 => by exact trivial))

theorem execNop_kept {x1} {x2 : State} (hx2 : Kept s x2) : KeptO s (execNop x1 x2) := by
  unfold execNop
  exact (State.issue_kept hx2 (fun _ _ h2 => by exact h2))

theorem execRfe_kept {x1} {x2 : State} (hx2 : Kept s x2) : KeptO s (execRfe x1 x2) := by
  unfold execRfe
  exact (State.issue_kept hx2 (fun _ _ h2 => by exact (kept_ite_R trivial (kept_ite_R trivial (kept_ite_R trivial (State.excReturn_kept h2))))))

theorem execHalt_kept {x1} {x2 : State} (hx2 : Kept s x2) : KeptO s (execHalt x1 x2) := by
  unfold execHalt
  exact (State.issue_kept hx2 (fun _ _ h2 => by exact (kept_ite_R trivial (State.seqHalt_kept h2))))

theorem execFence_kept {x1} {x2 : State} (hx2 : Kept s x2) : KeptO s (execFence x1 x2) := by
  unfold execFence
  exact (State.issue_kept hx2 (fun _ _ h2 => by exact (kept_ite_R h2 (State.setSeq_kept h2))))

theorem execFenceRelease_kept {x1} {x2 : State} (hx2 : Kept s x2) : KeptO s (execFenceRelease x1 x2) := by
  unfold execFenceRelease
  exact (kept_ite_O (kept_ite (State.seqDrain_kept (State.waitRelease_kept hx2)) hx2) trivial)

theorem State.seqTick1_kept {x1 : State} (hx1 : Kept s x1) {x2} : Kept s (State.seqTick1 x1 x2) := by
  unfold State.seqTick1
  exact (by
 try dsimp only
 split
 · exact (State.seqEv_kept (kept_ite (State.setSeq_kept hx1) hx1))
 · exact (State.seqEv_kept (kept_ite (State.setSeq_kept hx1) hx1))
 · exact (State.seqEv_kept (kept_ite (State.setSeq_kept hx1) hx1))
 · exact (kept_ite (State.setSeq_kept hx1) hx1))

theorem execWatchdog_kept {x1} {x2 : State} (hx2 : Kept s x2) : KeptO s (execWatchdog x1 x2) := by
  unfold execWatchdog
  exact (kept_ite_O (kept_ite (State.raise_kept (State.setSeq_kept hx2)) hx2) trivial)

theorem State.hostMail_kept {x1 : State} (hx1 : Kept s x1) {x2 x3} : Kept s (State.hostMail x1 x2 x3) := by
  unfold State.hostMail
  exact (State.mboxPush_kept hx1)

theorem execHostMailboxSend_kept {x1 x2 x3} {x4 : State} (hx4 : Kept s x4) : KeptO s (execHostMailboxSend x1 x2 x3 x4) := by
  unfold execHostMailboxSend
  exact (kept_ite_O (State.gate_kept hx4 (fun _ h2 => by exact (State.hostMail_kept h2))) trivial)

theorem State.hostAcquire_kept {x1 : State} (hx1 : Kept s x1) {x2} : Kept s (State.hostAcquire x1 x2) := by
  unfold State.hostAcquire
  exact (State.semTake_kept hx1)

theorem State.hostRelease_kept {x1 : State} (hx1 : Kept s x1) {x2} : Kept s (State.hostRelease x1 x2) := by
  unfold State.hostRelease
  exact (kept_ite (State.semFree_kept hx1) hx1)

theorem State.forceRelease_kept {x1 : State} (hx1 : Kept s x1) {x2} : Kept s (State.forceRelease x1 x2) := by
  unfold State.forceRelease
  exact (kept_ite (State.semFree_kept hx1) hx1)

theorem execSemAcquire_kept {x1 x2} {x3 : State} (hx3 : Kept s x3) : KeptO s (execSemAcquire x1 x2 x3) := by
  unfold execSemAcquire
  exact (kept_ite_O (State.gate_kept hx3 (fun _ h2 => by exact (State.hostAcquire_kept h2))) trivial)

theorem execSemRelease_kept {x1 x2} {x3 : State} (hx3 : Kept s x3) : KeptO s (execSemRelease x1 x2 x3) := by
  unfold execSemRelease
  exact (kept_ite_O (State.gate_kept hx3 (fun _ h2 => by exact (State.hostRelease_kept h2))) trivial)

theorem execSemForceRelease_kept {x1 x2} {x3 : State} (hx3 : Kept s x3) : KeptO s (execSemForceRelease x1 x2 x3) := by
  unfold execSemForceRelease
  exact (kept_ite_O (State.gate_kept hx3 (fun _ h2 => by exact (kept_ite (State.forceRelease_kept h2) h2))) trivial)

end Sys2Proof.Machine
end

