-- ==== Sys2Proof/Laws/KeptTwCmds.lean ====
section
/-! SUPPORT. What the operations of Machine/TwCmds.lean keep, one lemma each (Laws/Kept.lean). -/

namespace Sys2Proof.Machine

variable {s : State}

theorem execBreathTx_kept {x1 : State} (hx1 : Kept s x1) : KeptO s (execBreathTx x1) := by
  unfold execBreathTx
  exact (State.settle_kept (State.breathTx_kept hx1))

theorem execBreathRx_kept {x1 : State} (hx1 : Kept s x1) : KeptO s (execBreathRx x1) := by
  unfold execBreathRx
  exact (State.settle_kept (State.breathRx_kept hx1))

theorem execLeaseExpire_kept {x1 : State} (hx1 : Kept s x1) : KeptO s (execLeaseExpire x1) := by
  unfold execLeaseExpire
  exact (State.settle_kept (State.leaseExpire_kept hx1))

theorem execWitnessPulse_kept {x1 : State} (hx1 : Kept s x1) : KeptO s (execWitnessPulse x1) := by
  unfold execWitnessPulse
  exact (State.witnessPulse_kept hx1)

theorem execWitnessPartnerPulse_kept {x1} {x2 : State} (hx2 : Kept s x2) : KeptO s (execWitnessPartnerPulse x1 x2) := by
  unfold execWitnessPartnerPulse
  exact (State.settle_kept (State.witnessSeen_kept hx2))

theorem execWitnessFault_kept {x1 : State} (hx1 : Kept s x1) : KeptO s (execWitnessFault x1) := by
  unfold execWitnessFault
  exact (State.settle_kept (State.witnessBad_kept hx1))

theorem execPartnerSilent_kept {x1 : State} (hx1 : Kept s x1) : KeptO s (execPartnerSilent x1) := by
  unfold execPartnerSilent
  exact (State.settle_kept (State.partnerSilent_kept hx1))

theorem execMirrorRx_kept {x1 : State} (hx1 : Kept s x1) : KeptO s (execMirrorRx x1) := by
  unfold execMirrorRx
  exact (State.settle_kept (State.mirrorRx_kept hx1))

theorem execConfirmRx_kept {x1 : State} (hx1 : Kept s x1) : KeptO s (execConfirmRx x1) := by
  unfold execConfirmRx
  exact (State.settle_kept (State.confirmRx_kept hx1))

theorem execRecordRx_kept {x1 : State} (hx1 : Kept s x1) : KeptO s (execRecordRx x1) := by
  unfold execRecordRx
  exact (State.settle_kept (State.recordRx_kept hx1))

theorem execFetchRx_kept {x1 : State} (hx1 : Kept s x1) : KeptO s (execFetchRx x1) := by
  unfold execFetchRx
  exact (State.settle_kept (State.fetchRx_kept hx1))

theorem execJoinRx_kept {x1 : State} (hx1 : Kept s x1) : KeptO s (execJoinRx x1) := by
  unfold execJoinRx
  exact (State.settle_kept (State.joinRx_kept hx1))

theorem execSublastRx_kept {x1 : State} (hx1 : Kept s x1) : KeptO s (execSublastRx x1) := by
  unfold execSublastRx
  exact (State.settle_kept (State.sublastRx_kept hx1))

theorem execGrantRx_kept {x1 : State} (hx1 : Kept s x1) : KeptO s (execGrantRx x1) := by
  unfold execGrantRx
  exact (State.settle_kept (State.grantRx_kept hx1))

theorem execEpochEndRx_kept {x1 : State} (hx1 : Kept s x1) : KeptO s (execEpochEndRx x1) := by
  unfold execEpochEndRx
  exact (State.settle_kept (State.epochEndRx_kept hx1))

theorem execProgRx_kept {x1 : State} (hx1 : Kept s x1) : KeptO s (execProgRx x1) := by
  unfold execProgRx
  exact (State.settle_kept (State.progRx_kept hx1))

theorem execSwapProposeRx_kept {x1 : State} (hx1 : Kept s x1) : KeptO s (execSwapProposeRx x1) := by
  unfold execSwapProposeRx
  exact (State.settle_kept (State.swapProposeRx_kept hx1))

theorem execSwapAcceptRx_kept {x1 : State} (hx1 : Kept s x1) : KeptO s (execSwapAcceptRx x1) := by
  unfold execSwapAcceptRx
  exact (State.settle_kept (State.swapAcceptRx_kept hx1))

theorem execSwapRefuseRx_kept {x1 : State} (hx1 : Kept s x1) : KeptO s (execSwapRefuseRx x1) := by
  unfold execSwapRefuseRx
  exact (State.settle_kept (State.swapRefuseRx_kept hx1))

theorem execHandoverRx_kept {x1 : State} (hx1 : Kept s x1) : KeptO s (execHandoverRx x1) := by
  unfold execHandoverRx
  exact (State.settle_kept (State.handoverRx_kept hx1))

theorem execArbRx_kept {x1 : State} (hx1 : Kept s x1) : KeptO s (execArbRx x1) := by
  unfold execArbRx
  exact (State.settle_kept (State.arbRx_kept hx1))

theorem execVerdictRx_kept {x1 : State} (hx1 : Kept s x1) : KeptO s (execVerdictRx x1) := by
  unfold execVerdictRx
  exact (State.settle_kept (State.verdictRx_kept hx1))

theorem execMessageResend_kept {x1 : State} (hx1 : Kept s x1) : KeptO s (execMessageResend x1) := by
  unfold execMessageResend
  exact (State.settle_kept (State.resend_kept hx1))

theorem execEpochCut_kept {x1 : State} (hx1 : Kept s x1) : KeptO s (execEpochCut x1) := by
  unfold execEpochCut
  exact (State.settle_kept (State.epochCut_kept hx1))

theorem execEpochDiscard_kept {x1 : State} (hx1 : Kept s x1) : KeptO s (execEpochDiscard x1) := by
  unfold execEpochDiscard
  exact (State.settle_kept (State.epochDiscard_kept hx1))

theorem execPromoteCmd_kept {x1} {x2 : State} (hx2 : Kept s x2) : KeptO s (execPromoteCmd x1 x2) := by
  unfold execPromoteCmd
  exact (State.gate_kept hx2 (fun _ h2 => by exact (kept_ite (State.settle_kept (State.promote_kept h2)) h2)))

theorem execDemoteCmd_kept {x1} {x2 : State} (hx2 : Kept s x2) : KeptO s (execDemoteCmd x1 x2) := by
  unfold execDemoteCmd
  exact (State.gate_kept hx2 (fun _ h2 => by exact (kept_ite (State.settle_kept (State.demoteStart_kept h2)) h2)))

theorem execDemotionComplete_kept {x1 : State} (hx1 : Kept s x1) : KeptO s (execDemotionComplete x1) := by
  unfold execDemotionComplete
  exact (State.settle_kept (State.demoteEnd_kept hx1))

theorem execSwapNow_kept {x1} {x2 : State} (hx2 : Kept s x2) : KeptO s (execSwapNow x1 x2) := by
  unfold execSwapNow
  exact (State.gate_kept hx2 (fun _ h2 => by exact (State.proposeSwap_kept h2)))

theorem execClrUnfit_kept {x1} {x2 : State} (hx2 : Kept s x2) : KeptO s (execClrUnfit x1 x2) := by
  unfold execClrUnfit
  exact (State.gate_kept hx2 (fun _ h2 => by exact (State.clr_kept h2)))

theorem execSelfCheck_kept {x1 x2 x3} {x4 : State} (hx4 : Kept s x4) : KeptO s (execSelfCheck x1 x2 x3 x4) := by
  unfold execSelfCheck
  exact (State.settle_kept (State.selfCheck_kept hx4))

theorem execBreathGuard_kept {x1 : State} (hx1 : Kept s x1) : KeptO s (execBreathGuard x1) := by
  unfold execBreathGuard
  exact (State.settle_kept (State.breathGuard_kept hx1))

theorem execDisagreeClear_kept {x1 : State} (hx1 : Kept s x1) : KeptO s (execDisagreeClear x1) := by
  unfold execDisagreeClear
  exact (State.disagreeClear_kept hx1)

theorem execUnfitClear_kept {x1 : State} (hx1 : Kept s x1) : KeptO s (execUnfitClear x1) := by
  unfold execUnfitClear
  exact (State.unfitClear_kept hx1)

theorem execSwapPropose_kept {x1 : State} (hx1 : Kept s x1) : KeptO s (execSwapPropose x1) := by
  unfold execSwapPropose
  exact (kept_ite (State.proposeSwap_kept hx1) hx1)

theorem execSwapExecute_kept {x1 : State} (hx1 : Kept s x1) : KeptO s (execSwapExecute x1) := by
  unfold execSwapExecute
  exact (State.settle_kept (State.swapExecute_kept hx1))

theorem execTwinDisable_kept {x1} {x2 : State} (hx2 : Kept s x2) : KeptO s (execTwinDisable x1 x2) := by
  unfold execTwinDisable
  exact (State.gate_kept hx2 (fun _ h2 => by exact (kept_ite (State.settle_kept (State.twDisable_kept h2)) h2)))

end Sys2Proof.Machine
end

