-- ==== Sys2Proof/Laws/KeptRegisters.lean ====
section
/-! SUPPORT. What the operations of Machine/Registers.lean keep, one lemma each (Laws/Kept.lean). -/

namespace Sys2Proof.Machine

variable {s : State}

/-- A register action keeps it. -/
def ActKept (s : State) (g : RegAct) : Prop :=
  ∀ t, Kept s t → ∀ o, Kept s o → ∀ a n v, Kept s (g t o a n v)

theorem State.keyEdge_kept {x1 : State} (hx1 : Kept s x1) {x2 : State} (hx2 : Kept s x2) : Kept s (State.keyEdge x1 x2) := by
  unfold State.keyEdge
  exact (kept_ite (State.rcKeyEdge_kept (kept_ite hx1 (State.cacheSweep_kept hx1))) (kept_ite hx1 (State.cacheSweep_kept hx1)))

theorem State.edge_kept {x1 : State} (hx1 : Kept s x1) {x2 x3 x4} {x5 : State → State} (hx5 : ∀ y1, Kept s y1 → Kept s (x5 y1)) {x6 : State → State} (hx6 : ∀ y1, Kept s y1 → Kept s (x6 y1)) : Kept s (State.edge x1 x2 x3 x4 x5 x6) := by
  unfold State.edge
  exact (kept_ite (kept_ite hx1 (hx5 _ hx1)) (kept_ite (hx6 _ hx1) hx1))

theorem State.loopOn_kept {x1 : State} (hx1 : Kept s x1) : Kept s (State.loopOn x1) := by
  unfold State.loopOn
  exact (by exact Kept.same (State.set1_kept hx1) rfl)

theorem State.loopOff_kept {x1 : State} (hx1 : Kept s x1) : Kept s (State.loopOff x1) := by
  unfold State.loopOff
  exact (by exact Kept.same (State.clr_kept hx1) rfl)

theorem State.tsOn_kept {x1 : State} (hx1 : Kept s x1) : Kept s (State.tsOn x1) := by
  unfold State.tsOn
  exact (State.set1_kept (by exact Kept.same (State.free_kept hx1) rfl))

theorem State.staleAll_kept {x1 : State} (hx1 : Kept s x1) : Kept s (State.staleAll x1) := by
  unfold State.staleAll
  exact (kept_foldl hx1 (fun _ h2 _ => by exact (State.tmStaleShow_kept h2)))

theorem State.settingWrite_kept {x1 : State} (hx1 : Kept s x1) {x2 x3 x4 x5 x6 x7} : Kept s (State.settingWrite x1 x2 x3 x4 x5 x6 x7) := by
  unfold State.settingWrite
  exact (kept_ite (State.setting_kept hx1) (kept_ite hx1 (State.log_kept hx1)))

theorem State.lockWrite_kept {x1 : State} (hx1 : Kept s x1) {x2 x3} : Kept s (State.lockWrite x1 x2 x3) := by
  unfold State.lockWrite
  exact (kept_ite (kept_foldl hx1 (fun _ h2 _ => by exact (kept_ite (State.iramLock_kept h2) h2))) hx1)

theorem State.modeWrite_kept {x1 : State} (hx1 : Kept s x1) {x2 x3} : Kept s (State.modeWrite x1 x2 x3) := by
  unfold State.modeWrite
  exact (kept_ite (State.modeAsk_kept hx1) hx1)

theorem State.stageWrite_kept {x1 : State} (hx1 : Kept s x1) {x2 x3} : Kept s (State.stageWrite x1 x2 x3) := by
  unfold State.stageWrite
  exact (kept_ite (State.ksOp_kept (kept_ite (State.ksStage_kept hx1) hx1) (fun _ h3 => by exact (kept_fst (State.ksDiscard_kept h3)))) (kept_ite (State.ksStage_kept hx1) hx1))

theorem State.commitWrite_kept {x1 : State} (hx1 : Kept s x1) {x2} : Kept s (State.commitWrite x1 x2) := by
  unfold State.commitWrite
  exact (by
 try dsimp only
 split
 · exact (State.ksCommit_kept hx1)
 · exact (State.ksCommitSeq_kept hx1)
 · exact (State.ksRefuseBy_kept hx1))

theorem State.subWriteCmd_kept {x1 : State} (hx1 : Kept s x1) {x2 x3} : Kept s (State.subWriteCmd x1 x2 x3) := by
  unfold State.subWriteCmd
  exact (kept_ite (by
 try dsimp only
 split
 · exact (State.subWrite_kept hx1)
 · exact (State.subWrite_kept hx1)
 · exact (State.subRemove_kept hx1)
 · exact (State.subRead_kept hx1)
 · exact (State.subSuspend_kept hx1)
 · exact (State.subSuspend_kept hx1)
 · exact hx1) hx1)

theorem State.refCmd_kept {x1 : State} (hx1 : Kept s x1) {x2 x3} : Kept s (State.refCmd x1 x2 x3) := by
  unfold State.refCmd
  exact (kept_ite (State.refClrComp_kept (kept_ite (State.refClrDispute_kept (kept_ite (State.refAccept_kept (kept_ite (State.refDisqualify_kept hx1) hx1)) (kept_ite (State.refDisqualify_kept hx1) hx1))) (kept_ite (State.refAccept_kept (kept_ite (State.refDisqualify_kept hx1) hx1)) (kept_ite (State.refDisqualify_kept hx1) hx1)))) (kept_ite (State.refClrDispute_kept (kept_ite (State.refAccept_kept (kept_ite (State.refDisqualify_kept hx1) hx1)) (kept_ite (State.refDisqualify_kept hx1) hx1))) (kept_ite (State.refAccept_kept (kept_ite (State.refDisqualify_kept hx1) hx1)) (kept_ite (State.refDisqualify_kept hx1) hx1))))

theorem State.twCmd_kept {x1 : State} (hx1 : Kept s x1) {x2 x3} : Kept s (State.twCmd x1 x2 x3) := by
  unfold State.twCmd
  exact (kept_ite (State.clr_kept (kept_ite (State.demoteStart_kept (kept_ite (State.promote_kept (kept_ite (State.proposeSwap_kept hx1) hx1)) (kept_ite (State.proposeSwap_kept hx1) hx1))) (kept_ite (State.promote_kept (kept_ite (State.proposeSwap_kept hx1) hx1)) (kept_ite (State.proposeSwap_kept hx1) hx1)))) (kept_ite (State.demoteStart_kept (kept_ite (State.promote_kept (kept_ite (State.proposeSwap_kept hx1) hx1)) (kept_ite (State.proposeSwap_kept hx1) hx1))) (kept_ite (State.promote_kept (kept_ite (State.proposeSwap_kept hx1) hx1)) (kept_ite (State.proposeSwap_kept hx1) hx1))))

theorem State.semCmd_kept {x1 : State} (hx1 : Kept s x1) {x2 x3 x4} : Kept s (State.semCmd x1 x2 x3 x4) := by
  unfold State.semCmd
  exact (kept_ite (State.hostAcquire_kept (kept_ite (State.forceRelease_kept (kept_ite (State.hostRelease_kept hx1) hx1)) (kept_ite (State.hostRelease_kept hx1) hx1))) (kept_ite (State.forceRelease_kept (kept_ite (State.hostRelease_kept hx1) hx1)) (kept_ite (State.hostRelease_kept hx1) hx1)))

theorem State.sqCtl_kept {x1 : State} (hx1 : Kept s x1) {x2 x3} : Kept s (State.sqCtl x1 x2 x3) := by
  unfold State.sqCtl
  exact (State.edge_kept (State.settingWrite_kept (kept_ite (State.seqResetWrite_kept hx1) hx1)) (fun _ h4 => by exact (State.seqEnable_kept h4)) (fun _ h5 => by exact (State.seqDisable_kept h5)))

theorem State.warmSrc_kept {x1 : State} (hx1 : Kept s x1) {x2 : State} (hx2 : Kept s x2) : Kept s (State.warmSrc x1 x2) := by
  unfold State.warmSrc
  exact (kept_ite hx1 (by exact Kept.same hx1 rfl))

theorem State.putFld_kept {x1 : State} (hx1 : Kept s x1) {x2 x3 x4} : Kept s (State.putFld x1 x2 x3 x4) := by
  unfold State.putFld
  exact (by
 try dsimp only
 split
 · exact (State.setFld_kept hx1)
 · exact (State.setFld_kept hx1)
 · exact (State.setFld_kept hx1)
 · exact (State.clearBits_kept hx1)
 · exact (State.setFld_kept hx1)
 · exact (kept_ite (State.slideWrite_kept hx1) (State.setShadow_kept hx1))
 · exact (State.setShadow_kept hx1)
 · exact (State.setShadow_kept hx1)
 · exact hx1
 · exact hx1)

theorem State.writeFields_kept {x1 : State} (hx1 : Kept s x1) {x2 x3 x4 x5} : Kept s (State.writeFields x1 x2 x3 x4 x5) := by
  unfold State.writeFields
  exact (State.when_kept (State.when_kept (kept_foldl hx1 (fun _ h2 _ => by exact (kept_ite h2 (State.putFld_kept h2)))) (fun _ h3 => by exact (State.log_kept h3))) (fun _ h4 => by exact (State.log_kept h4)))

theorem State.noteRank_kept {x1 : State} (hx1 : Kept s x1) {x2 x3 x4} : Kept s (State.noteRank x1 x2 x3 x4) := by
  unfold State.noteRank
  exact (kept_ite hx1 (by exact Kept.same hx1 rfl))

theorem acts02_kept : List.Forall (fun p => ActKept s p.2) acts02 := by
  unfold acts02
  dsimp only [List.Forall, ActKept]
  exact ⟨(fun _ h1 _ h2 _ _ _ => by exact (State.timeSetWrite_kept h1)),
    (fun _ h1 _ h2 _ _ _ => by exact (State.stepWrite_kept h1)),
    (fun _ h1 _ h2 _ _ _ => by exact (State.stepAccept_kept h1)),
    (fun _ h1 _ h2 _ _ _ => by exact (State.boundRaise_kept h1)),
    (fun _ h1 _ h2 _ _ _ => by exact (State.edge_kept h1 (fun _ h3 => by exact (State.poArm_kept h3)) (fun _ h4 => by exact (State.poDisable_kept h4)))),
    (fun _ h1 _ h2 _ _ _ => by exact (State.staleAll_kept h1)),
    (fun _ h1 _ h2 _ _ _ => by exact (State.warmSrc_kept h1 h2)),
    (fun _ h1 _ h2 _ _ _ => by exact (State.edge_kept h1 (fun _ h3 => by exact (State.loopOn_kept h3)) (fun _ h4 => by exact (State.loopOff_kept h4)))),
    (fun _ h1 _ h2 _ _ _ => by exact (State.edge_kept h1 (fun _ h3 => by exact (State.tmEnable_kept h3)) (fun _ h4 => by exact (State.tmDisable_kept h4)))),
    (fun _ h1 _ h2 _ _ _ => by exact (State.rootCmd_kept h1)),
    (fun _ h1 _ h2 _ _ _ => by exact (State.edge_kept h1 (fun _ h3 => by exact (State.opllEnable_kept h3)) (fun _ h4 => by exact (State.opllDisable_kept h4)))),
    (fun _ h1 _ h2 _ _ _ => by exact (State.multWrite_kept h1)),
    (fun _ h1 _ h2 _ _ _ => by exact (State.edge_kept (State.ckoSrc_kept h1) (fun _ h3 => by exact (State.ckoEnable_kept h3)) (fun _ h4 => by exact (State.ckoDisable_kept h4))))⟩

theorem acts05_kept : List.Forall (fun p => ActKept s p.2) acts05 := by
  unfold acts05
  dsimp only [List.Forall, ActKept]
  exact ⟨(fun _ h1 _ h2 _ _ _ => by exact (State.rsEval_kept h1)),
    (fun _ h1 _ h2 _ _ _ => by exact (kept_ite (State.forceWrite_kept h1) h1)),
    (fun _ h1 _ h2 _ _ _ => by exact (State.rsJudge_kept h1)),
    (fun _ h1 _ h2 _ _ _ => by exact (State.refEn_kept h1)),
    (fun _ h1 _ h2 _ _ _ => by exact (State.refCmd_kept h1)),
    (fun _ h1 _ h2 _ _ _ => by exact (State.rsEval_kept (State.todWrite_kept h1))),
    (fun _ h1 _ h2 _ _ _ => by exact (State.hoKick_kept (State.edge_kept h1 (fun _ h3 => by exact (State.hoEnable_kept h3)) (fun _ h4 => by exact (State.hoDisable_kept h4))))),
    (fun _ h1 _ h2 _ _ _ => by exact (State.boardWrite_kept h1))⟩

theorem acts07_kept : List.Forall (fun p => ActKept s p.2) acts07 := by
  unfold acts07
  dsimp only [List.Forall, ActKept]
  exact ⟨(fun _ h1 _ h2 _ _ _ => by exact (State.semCmd_kept h1)),
    (fun _ h1 _ h2 _ _ _ => by exact (State.sqCtl_kept h1)),
    (fun _ h1 _ h2 _ _ _ => by exact (State.settingWrite_kept h1)),
    (fun _ h1 _ h2 _ _ _ => by exact (State.settingWrite_kept h1)),
    (fun _ h1 _ h2 _ _ _ => by exact (State.settingWrite_kept h1)),
    (fun _ h1 _ h2 _ _ _ => by exact (State.settingWrite_kept h1)),
    (fun _ h1 _ h2 _ _ _ => by exact (State.hostMail_kept h1)),
    (fun _ h1 _ h2 _ _ _ => by exact (kept_ite (State.loadGo_kept h1) h1)),
    (fun _ h1 _ h2 _ _ _ => by exact (kept_ite (State.launch_kept h1) h1)),
    (fun _ h1 _ h2 _ _ _ => by exact (State.modeWrite_kept h1)),
    (fun _ h1 _ h2 _ _ _ => by exact (kept_ite (State.warmReset_kept h1) h1)),
    (fun _ h1 _ h2 _ _ _ => by exact (State.lockWrite_kept h1)),
    (fun _ h1 _ h2 _ _ _ => by exact (kept_ite (State.hostExtend_kept h1) h1)),
    (fun _ h1 _ h2 _ _ _ => by exact (kept_ite (State.quoteGo_kept h1) h1))⟩

theorem acts10_kept : List.Forall (fun p => ActKept s p.2) acts10 := by
  unfold acts10
  dsimp only [List.Forall, ActKept]
  exact ⟨(fun _ h1 _ h2 _ _ _ => by exact (kept_ite (State.keyEdge_kept (State.commitWrite_kept h1) h2) h1)),
    (fun _ h1 _ h2 _ _ _ => by exact (State.stageWrite_kept h1)),
    (fun _ h1 _ h2 _ _ _ => by exact (kept_ite (State.keyEdge_kept (State.ksInval_kept h1) h2) h1)),
    (fun _ h1 _ h2 _ _ _ => by exact (kept_ite (State.cmdStart_kept h1) h1)),
    (fun _ h1 _ h2 _ _ _ => by exact (kept_ite (State.stmtRequest_kept h1) h1)),
    (fun _ h1 _ h2 _ _ _ => by exact (State.lcAdvance_kept h1))⟩

theorem acts11_kept : List.Forall (fun p => ActKept s p.2) acts11 := by
  unfold acts11
  dsimp only [List.Forall, ActKept]
  exact ⟨(fun _ h1 _ h2 _ _ _ => by exact (State.edge_kept h1 (fun _ h3 => by exact (State.ethEnable_kept h3)) (fun _ h4 => by exact (State.ethDisable_kept h4)))),
    (fun _ h1 _ h2 _ _ _ => by exact (State.edge_kept h1 (fun _ h3 => by exact (State.itlEnable_kept h3)) (fun _ h4 => by exact (State.itlDisable_kept h4)))),
    (fun _ h1 _ h2 _ _ _ => by exact (State.edge_kept h1 (fun _ h3 => by exact (State.mute_kept h3)) (fun _ h4 => by exact (State.unmute_kept h4)))),
    (fun _ h1 _ h2 _ _ _ => by exact (State.edge_kept h1 (fun _ h3 => by exact (State.tsOn_kept h3)) (fun _ h4 => by exact (State.clr_kept h4)))),
    (fun _ h1 _ h2 _ _ _ => by exact (kept_ite (State.announceGo_kept h1) h1)),
    (fun _ h1 _ h2 _ _ _ => by exact (kept_ite (State.mintGo_kept h1) h1))⟩

theorem acts14_kept : List.Forall (fun p => ActKept s p.2) acts14 := by
  unfold acts14
  dsimp only [List.Forall, ActKept]
  exact ⟨(fun _ h1 _ h2 _ _ _ => by exact (State.edge_kept h1 (fun _ h3 => by exact (State.rcEnable_kept h3)) (fun _ h4 => by exact (State.rcStop_kept (State.clr_kept h4))))),
    (fun _ h1 _ h2 _ _ _ => by exact (State.joinWaitEnd_kept (State.rcRelease_kept h1))),
    (fun _ h1 _ h2 _ _ _ => by exact (kept_ite (State.subWriteCmd_kept h1) h1)),
    (fun _ h1 _ h2 _ _ _ => by exact (State.edge_kept h1 (fun _ h3 => by exact (State.twEnable_kept h3)) (fun _ h4 => by exact (State.twDisable_kept h4)))),
    (fun _ h1 _ h2 _ _ _ => by exact (State.twCmd_kept h1))⟩

theorem acts16_kept : List.Forall (fun p => ActKept s p.2) acts16 := by
  unfold acts16
  dsimp only [List.Forall, ActKept]
  exact ⟨(fun _ h1 _ h2 _ _ _ => by exact (kept_ite (State.ctrlReset_kept h1) h1)),
    (fun _ h1 _ h2 _ _ _ => by exact (State.drCtl_kept h1)),
    (fun _ h1 _ h2 _ _ _ => by exact (State.when_kept (State.edge_kept h1 (fun _ h3 => by exact (State.ringEnable_kept h3)) (fun _ h4 => by exact (State.ringDisable_kept h4))) (fun _ h5 => by exact (State.ringRestart_kept h5)))),
    (fun _ h1 _ h2 _ _ _ => by exact (State.ringProdWrite_kept h1)),
    (fun _ h1 _ h2 _ _ _ => by exact (State.ringConsWrite_kept h1)),
    (fun _ h1 _ h2 _ _ _ => by exact (State.edge_kept h1 (fun _ h3 => by exact (State.uartEnable_kept h3)) (fun _ h4 => by exact (State.uartDisable_kept h4)))),
    (fun _ h1 _ h2 _ _ _ => by exact (State.uartTx_kept h1)),
    (fun _ h1 _ h2 _ _ _ => by exact (kept_ite (State.i2cGo_kept h1) h1)),
    (fun _ h1 _ h2 _ _ _ => by exact (State.edge_kept h1 (fun _ h3 => by exact (State.set1_kept h3)) (fun _ h4 => by exact (State.spiOff_kept h4)))),
    (fun _ h1 _ h2 _ _ _ => by exact (kept_ite (State.spiGo_kept h1) h1)),
    (fun _ h1 _ h2 _ _ _ => by exact (State.gpioSync_kept h1)),
    (fun _ h1 _ h2 _ _ _ => by exact (State.gpioSync_kept h1)),
    (fun _ h1 _ h2 _ _ _ => by exact (State.gpioSet_kept h1)),
    (fun _ h1 _ h2 _ _ _ => by exact (State.gpioClr_kept h1)),
    (fun _ h1 _ h2 _ _ _ => by exact (State.inject_kept h1)),
    (fun _ h1 _ h2 _ _ _ => by exact (kept_ite (State.reenable_kept h1) h1))⟩

theorem regAct_kept {b} : ActKept s (regAct b) := by
  have all : List.Forall (fun p => ActKept s p.2) regActs := by
    simp only [regActs, List.forall_append]
    exact ⟨⟨⟨⟨⟨⟨acts02_kept, acts05_kept⟩, acts07_kept⟩, acts10_kept⟩, acts11_kept⟩, acts14_kept⟩, acts16_kept⟩
  unfold regAct
  split
  · next hf => exact List.forall_iff_forall_mem.1 all _ (List.mem_of_find?_eq_some hf)
  · exact fun _ h _ _ _ _ _ => h

theorem State.writeWhole_kept {t : State} (h : Kept s t) {a port d n v} : Kept s (State.writeWhole t a port d n v) := by
  unfold State.writeWhole
  exact kept_ite h (kept_ite (State.log_kept h) (State.noteRank_kept (State.settle_kept
    (State.clocked_kept (regAct_kept _ (State.writeFields_kept (State.pcNote_kept h)) _ h _ _ _) h))))

theorem State.unhold_kept {x1 : State} (hx1 : Kept s x1) {x2 x3} : Kept s (State.unhold x1 x2 x3) := by
  unfold State.unhold
  exact (by exact Kept.same hx1 rfl)

theorem State.wordWrite_kept {x1 : State} (hx1 : Kept s x1) {x2 x3 x4 x5} : Kept s (State.wordWrite x1 x2 x3 x4 x5) := by
  unfold State.wordWrite
  exact (kept_ite (by exact Kept.same hx1 rfl) (State.writeWhole_kept (State.unhold_kept hx1)))

theorem State.slotGate_kept {x1 : State} (hx1 : Kept s x1) {x2 x3 x4} {x5 : State → State} (hx5 : ∀ y1, Kept s y1 → Kept s (x5 y1)) : Kept s (State.slotGate x1 x2 x3 x4 x5) := by
  unfold State.slotGate
  exact (by
 try dsimp only
 split
 · exact (hx5 _ hx1)
 · exact (State.gate_kept hx1 (fun _ h3 => by exact h3))
 · exact (State.gate_kept hx1 hx5))

theorem State.stmtGate_kept {x1 : State} (hx1 : Kept s x1) {x2 x3 x4} {x5 : State → State} (hx5 : ∀ y1, Kept s y1 → Kept s (x5 y1)) : Kept s (State.stmtGate x1 x2 x3 x4 x5) := by
  unfold State.stmtGate
  exact (kept_ite (State.keyGate_kept hx1 hx5) (State.slotGate_kept hx1 hx5))

theorem State.barred_kept {x1 : State} (hx1 : Kept s x1) {x2 x3 x4} : Kept s (State.barred x1 x2 x3 x4) := by
  unfold State.barred
  exact (kept_ite (State.stepBarred_kept (State.gate_kept hx1 (fun _ h2 => by exact h2))) (kept_ite (State.sweepBarred_kept (State.gate_kept hx1 (fun _ h3 => by exact h3))) (kept_ite (State.lcGate_kept hx1) (kept_ite (State.cmdGate_kept hx1) (by
 try dsimp only
 split
 · exact (State.keyGate_kept hx1 (fun _ h4 => by exact h4))
 · exact (State.gate_kept hx1 (fun _ h5 => by exact h5)))))))

theorem State.writeReg_kept {x1 : State} (hx1 : Kept s x1) {x2 x3 x4 x5} : Kept s (State.writeReg x1 x2 x3 x4 x5) := by
  unfold State.writeReg
  exact (by
 try dsimp only
 split
 · exact (kept_ite (kept_ite (State.barred_kept hx1) (State.slotGate_kept hx1 (fun _ h2 => by exact (State.wordWrite_kept h2)))) (kept_ite (State.barred_kept hx1) (State.wordWrite_kept hx1)))
 · exact (by
 try dsimp only
 split
 · exact (kept_ite (State.gate_kept hx1 (fun _ h3 => by exact h3)) hx1)
 · exact hx1))

theorem State.tmTakeHead_kept {x1 : State} (hx1 : Kept s x1) {x2 x3 x4} : Kept s ((State.tmTakeHead x1 x2 x3 x4)).2 := by
  unfold State.tmTakeHead
  exact (kept_ite_snd (kept_snd (State.tmPop_kept hx1)) (kept_snd hx1))

theorem State.uartNone_kept {x1 : State} (hx1 : Kept s x1) : Kept s ((State.uartNone x1)).2 := by
  unfold State.uartNone
  exact (kept_snd (State.free_kept hx1))

theorem State.uartTakeHead_kept {x1 : State} (hx1 : Kept s x1) {x2 x3 x4} : Kept s ((State.uartTakeHead x1 x2 x3 x4)).2 := by
  unfold State.uartTakeHead
  exact (by
 try dsimp only
 split
 · exact (kept_snd (State.setUart_kept hx1))
 · exact (State.uartNone_kept hx1))

theorem State.queueTake_kept {t : State} (h : Kept s t) {a} : Kept s (State.queueTake t a).2 := by
  unfold State.queueTake
  exact kept_ite (State.setQueue_kept h fun hq =>
    ⟨by have := hq.1; simp only [List.length_tail]; omega, hq.2.sublist ((List.tail_sublist _).map _)⟩) h

theorem State.readClear_kept {x1 : State} (hx1 : Kept s x1) {x2 x3 x4} : Kept s (State.readClear x1 x2 x3 x4) := by
  unfold State.readClear
  exact (kept_ite hx1 (kept_foldl hx1 (fun _ h2 _ => by exact (kept_ite (State.setFld_kept h2) h2))))

theorem State.statNow_kept {x1 : State} (hx1 : Kept s x1) {x2 x3} : Kept s (State.statNow x1 x2 x3) := by
  unfold State.statNow
  exact (kept_ite hx1 (kept_ite (State.heldCount_kept hx1) (kept_ite (State.xoffCount_kept hx1) hx1)))

theorem State.takeWhole_kept {x1 : State} (hx1 : Kept s x1) {x2 x3 x4} : Kept s ((State.takeWhole x1 x2 x3 x4)).2 := by
  unfold State.takeWhole
  exact (kept_ite_snd (State.tmTakeHead_kept (State.statNow_kept hx1)) (kept_ite_snd (State.uartTakeHead_kept (State.statNow_kept hx1)) (kept_ite_snd (State.queueTake_kept (State.statNow_kept hx1)) (kept_ite_snd (kept_snd (State.statNow_kept hx1)) (kept_ite_snd (State.fbRead_kept (State.statNow_kept hx1)) (kept_ite_snd (State.cntRead_kept (State.statNow_kept hx1)) (kept_snd (State.readClear_kept (State.statNow_kept hx1)))))))))

theorem State.snapTake_kept {x1 : State} (hx1 : Kept s x1) {x2 x3 x4} : Kept s (State.snapTake x1 x2 x3 x4) := by
  unfold State.snapTake
  exact (by exact Kept.same hx1 rfl)

theorem State.wordRead_kept {x1 : State} (hx1 : Kept s x1) {x2 x3} {x4 : ℕ × State} (hx4 : Kept s (x4).2) : Kept s ((State.wordRead x1 x2 x3 x4)).2 := by
  unfold State.wordRead
  exact (kept_ite_snd (kept_snd (kept_ite (State.snapTake_kept hx4) hx4)) (by
 try dsimp only
 split
 · exact (kept_snd hx1)
 · exact (kept_snd hx1)))

theorem State.readReg_kept {x1 : State} (hx1 : Kept s x1) {x2 x3} : Kept s ((State.readReg x1 x2 x3)).2 := by
  unfold State.readReg
  exact (by
 try dsimp only
 split
 · exact (State.wordRead_kept hx1 (State.takeWhole_kept hx1))
 · exact (kept_snd hx1))

end Sys2Proof.Machine
end

