-- ==== Sys2Proof/Laws/KeptRegCmds.lean ====
section
/-! SUPPORT. What the operations of Machine/RegCmds.lean keep, one lemma each (Laws/Kept.lean). -/

namespace Sys2Proof.Machine

variable {s : State}

theorem State.busWriteNow_kept {x1 : State} (hx1 : Kept s x1) {x2 x3 x4} : Kept s (State.busWriteNow x1 x2 x3 x4) := by
  unfold State.busWriteNow
  exact (kept_ite (kept_ite (State.decodeErr_kept hx1) (kept_ite (State.writeReg_kept hx1) hx1)) (kept_ite (State.memWrite_kept hx1) (State.gateLog_kept hx1)))

theorem State.busRead_kept {x1 : State} (hx1 : Kept s x1) {x2 x3 x4} : Kept s ((State.busRead x1 x2 x3 x4)).2 := by
  unfold State.busRead
  exact (kept_ite_snd (kept_snd (State.decodeErr_kept hx1)) (kept_ite_snd (kept_ite_snd (kept_snd (State.readReg_kept hx1)) (kept_snd hx1)) (kept_snd hx1)))

theorem State.answerReadNow_kept {x1 : State} (hx1 : Kept s x1) {x2 x3 x4} : Kept s (State.answerReadNow x1 x2 x3 x4) := by
  unfold State.answerReadNow
  exact (by
 try dsimp only
 split
 · exact (kept_ite (State.emit_kept (State.bmErr_kept (by rename_i heq; have hk := congrArg Prod.snd heq; dsimp only at hk; rw [← hk]; exact (State.busRead_kept hx1)))) (State.emit_kept (by rename_i heq; have hk := congrArg Prod.snd heq; dsimp only at hk; rw [← hk]; exact (State.busRead_kept hx1))))
 · exact (State.emit_kept (by rename_i heq; have hk := congrArg Prod.snd heq; dsimp only at hk; rw [← hk]; exact (State.busRead_kept hx1))))

theorem State.busWrite_kept {x1 : State} (hx1 : Kept s x1) {x2 x3 x4} : Kept s (State.busWrite x1 x2 x3 x4) := by
  unfold State.busWrite
  exact (kept_ite (by exact Kept.same (State.debugNote_kept hx1) rfl) (State.busWriteNow_kept (State.debugNote_kept hx1)))

theorem State.answerRead_kept {x1 : State} (hx1 : Kept s x1) {x2 x3 x4} : Kept s (State.answerRead x1 x2 x3 x4) := by
  unfold State.answerRead
  exact (kept_ite (by exact Kept.same (State.debugNote_kept hx1) rfl) (State.answerReadNow_kept (State.debugNote_kept hx1)))

theorem State.releaseWaits_kept {x1 : State} (hx1 : Kept s x1) : Kept s (State.releaseWaits x1) := by
  unfold State.releaseWaits
  exact (kept_foldl (by exact Kept.same hx1 rfl) (fun _ h2 _ => by exact (kept_ite (State.busWriteNow_kept h2) (State.answerReadNow_kept h2))))

theorem execRegisterWrite_kept {x1 x2 x3} {x4 : State} (hx4 : Kept s x4) : KeptO s (execRegisterWrite x1 x2 x3 x4) := by
  unfold execRegisterWrite
  exact (State.settle_kept (State.busWrite_kept hx4))

theorem execRcCounterRead_kept {x1 x2} {x3 : State} (hx3 : Kept s x3) : KeptO s (execRcCounterRead x1 x2 x3) := by
  unfold execRcCounterRead
  exact (State.settle_kept (State.answerRead_kept hx3))

theorem State.fifoRead_kept {x1 : State} (hx1 : Kept s x1) {x2 x3 x4 x5} {x6 : ℕ × State} (hx6 : Kept s (x6).2) : Kept s (State.fifoRead x1 x2 x3 x4 x5 x6) := by
  unfold State.fifoRead
  exact (State.emit_kept (State.debugNote_kept (State.wordRead_kept hx1 hx6)))

theorem execTmFifoRead_kept {x1 x2 x3 x4} {x5 : State} (hx5 : Kept s x5) : KeptO s (execTmFifoRead x1 x2 x3 x4 x5) := by
  unfold execTmFifoRead
  exact (kept_ite_O (State.fifoRead_kept hx5 (State.tmTakeHead_kept hx5)) trivial)

theorem execUartFifoRead_kept {x1 x2 x3 x4} {x5 : State} (hx5 : Kept s x5) : KeptO s (execUartFifoRead x1 x2 x3 x4 x5) := by
  unfold execUartFifoRead
  exact (kept_ite_O (State.fifoRead_kept hx5 (State.uartTakeHead_kept hx5)) trivial)

theorem execFaultQueueRead_kept {x1} {x2 : State} (hx2 : Kept s x2) : KeptO s (execFaultQueueRead x1 x2) := by
  unfold execFaultQueueRead
  exact (State.fifoRead_kept hx2 (State.queueTake_kept hx2))

theorem State.sqCtlCmd_kept {x1 : State} (hx1 : Kept s x1) {x2 x3 x4 x5} : Kept s (State.sqCtlCmd x1 x2 x3 x4 x5) := by
  unfold State.sqCtlCmd
  exact (State.gate_kept hx1 (fun _ h2 => by exact (State.writeWhole_kept h2)))

theorem execSeqEnable_kept {x1 x2} {x3 : State} (hx3 : Kept s x3) : KeptO s (execSeqEnable x1 x2 x3) := by
  unfold execSeqEnable
  exact (kept_ite_O (State.sqCtlCmd_kept hx3) trivial)

theorem execSeqDisable_kept {x1 x2} {x3 : State} (hx3 : Kept s x3) : KeptO s (execSeqDisable x1 x2 x3) := by
  unfold execSeqDisable
  exact (kept_ite_O (State.sqCtlCmd_kept hx3) trivial)

theorem execSeqReset_kept {x1 x2} {x3 : State} (hx3 : Kept s x3) : KeptO s (execSeqReset x1 x2 x3) := by
  unfold execSeqReset
  exact (kept_ite_O (State.sqCtlCmd_kept hx3) trivial)

theorem State.tcCommitTick_kept {x1 : State} (hx1 : Kept s x1) : Kept s (State.tcCommitTick x1) := by
  unfold State.tcCommitTick
  exact (by
 try dsimp only
 split
 · exact (State.slideStart_kept (by exact Kept.same (State.commit_kept (State.commit_kept (State.commit_kept (State.commit_kept hx1)))) rfl))
 · exact (State.commit_kept (State.commit_kept (State.commit_kept (State.commit_kept hx1)))))

theorem State.bgCommitTick_kept {x1 : State} (hx1 : Kept s x1) : Kept s (State.bgCommitTick x1) := by
  unfold State.bgCommitTick
  exact (kept_ite (State.condemnAll_kept (State.coefShadowCommit_kept hx1)) hx1)

theorem State.commitTick_kept {x1 : State} (hx1 : Kept s x1) {x2} : Kept s (State.commitTick x1 x2) := by
  unfold State.commitTick
  exact (by
 try dsimp only
 split
 · exact (State.tcCommitTick_kept hx1)
 · exact (State.bgCommitTick_kept hx1)
 · exact (State.tmSwaps_kept (State.tmHitsCommit_kept hx1))
 · exact hx1)

theorem State.commitSecond_kept {x1 : State} (hx1 : Kept s x1) : Kept s (State.commitSecond x1) := by
  unfold State.commitSecond
  exact (State.commitDue_kept hx1)

theorem execRwsCommit_kept {x1 x2 x3} {x4 : State} (hx4 : Kept s x4) : KeptO s (execRwsCommit x1 x2 x3 x4) := by
  unfold execRwsCommit
  exact (by
 try dsimp only
 split
 · exact (kept_ite_O (State.settle_kept (State.commitTick_kept hx4)) (kept_ite_O hx4 (kept_ite_O (kept_ite (State.commit_kept hx4) hx4) trivial)))
 · exact trivial)

theorem State.ckoDrained_kept {x1 : State} (hx1 : Kept s x1) {x2} : Kept s (State.ckoDrained x1 x2) := by
  unfold State.ckoDrained
  exact (kept_ite (State.clr_kept hx1) (State.clr_kept (State.clr_kept hx1)))

theorem State.drained_kept {x1 : State} (hx1 : Kept s x1) {x2 x3} : Kept s (State.drained x1 x2 x3) := by
  unfold State.drained
  exact (by
 try dsimp only
 split
 · exact (kept_ite (State.clr_kept hx1) hx1)
 · exact (kept_ite (State.ckoDrained_kept hx1) hx1)
 · exact (kept_ite (State.seqDrain_kept hx1) hx1)
 · exact (kept_ite (State.clr_kept hx1) (kept_ite (State.clr_kept hx1) hx1))
 · exact (kept_ite (State.clr_kept hx1) hx1)
 · exact (State.rcIdle_kept hx1)
 · exact hx1)

theorem execBlockDrainDone_kept {x1 x2} {x3 : State} (hx3 : Kept s x3) : KeptO s (execBlockDrainDone x1 x2 x3) := by
  unfold execBlockDrainDone
  exact (by
 try dsimp only
 split
 · exact (State.drained_kept hx3)
 · exact trivial)

theorem execDebugAccess_kept {x1 x2 x3 x4} {x5 : State} (hx5 : Kept s x5) : KeptO s (execDebugAccess x1 x2 x3 x4 x5) := by
  unfold execDebugAccess
  exact (kept_ite (State.settle_kept (kept_ite (State.busWrite_kept (by exact Kept.same hx5 rfl)) (State.answerRead_kept (by exact Kept.same hx5 rfl)))) hx5)

end Sys2Proof.Machine
end

