-- ==== Sys2Proof/Laws/KeptBootCmds.lean ====
section
/-! SUPPORT. What the operations of Machine/BootCmds.lean keep, one lemma each (Laws/Kept.lean). -/

namespace Sys2Proof.Machine

variable {s : State}

theorem execColdReset_kept {x1 : State} (hx1 : Kept s x1) : KeptO s (execColdReset x1) := by
  unfold execColdReset
  exact (State.coldReset_kept hx1)

theorem execPowerUp_kept {x1 : State} (hx1 : Kept s x1) : KeptO s (execPowerUp x1) := by
  unfold execPowerUp
  exact (kept_ite (State.powerUp_kept hx1) hx1)

theorem execRomReady_kept {x1 : State} (hx1 : Kept s x1) : KeptO s (execRomReady x1) := by
  unfold execRomReady
  exact (kept_ite hx1 (State.settle_kept (State.romReady_kept hx1)))

theorem execWarmReset_kept {x1 : State} (hx1 : Kept s x1) : KeptO s (execWarmReset x1) := by
  unfold execWarmReset
  exact (kept_ite hx1 (State.settle_kept (State.warmReset_kept hx1)))

theorem execWarmResetCmd_kept {x1 x2} {x3 : State} (hx3 : Kept s x3) : KeptO s (execWarmResetCmd x1 x2 x3) := by
  unfold execWarmResetCmd
  exact (State.gate_kept hx3 (fun _ h2 => by exact (kept_ite (State.settle_kept (State.warmReset_kept h2)) h2)))

theorem execSupplyBrownout_kept {x1 : State} (hx1 : Kept s x1) : KeptO s (execSupplyBrownout x1) := by
  unfold execSupplyBrownout
  exact (by exact Kept.same (State.coldReset_kept hx1) rfl)

theorem execSupplyRecovery_kept {x1 : State} (hx1 : Kept s x1) : KeptO s (execSupplyRecovery x1) := by
  unfold execSupplyRecovery
  exact (kept_ite (State.powerUp_kept (by exact Kept.same hx1 rfl)) hx1)

theorem execPcieReset_kept {x1 : State} (hx1 : Kept s x1) : KeptO s (execPcieReset x1) := by
  unfold execPcieReset
  exact (State.peReset_kept hx1)

theorem State.dmaAbandon_kept {x1 : State} (hx1 : Kept s x1) : Kept s (State.dmaAbandon x1) := by
  unfold State.dmaAbandon
  exact (kept_foldl (kept_foldl hx1 (fun _ h2 _ => by exact (State.setRing_kept h2))) (fun _ h3 _ => by exact (State.setMac_kept h3)))

theorem State.flr_kept {x1 : State} (hx1 : Kept s x1) {x2} : Kept s (State.flr x1 x2) := by
  unfold State.flr
  exact (by exact Kept.same (State.dropHeld_kept (State.when_kept (State.resetFlds_kept (State.clr_kept hx1)) (fun _ h4 => by exact (State.ksDiscard_kept (State.dmaAbandon_kept h4))))) rfl)

theorem execFunctionLevelReset_kept {x1} {x2 : State} (hx2 : Kept s x2) : KeptO s (execFunctionLevelReset x1 x2) := by
  unfold execFunctionLevelReset
  exact (kept_ite_O (State.flr_kept hx2) trivial)

theorem execImageLoad_kept {x1} {x2 : State} (hx2 : Kept s x2) : KeptO s (execImageLoad x1 x2) := by
  unfold execImageLoad
  exact (State.gate_kept hx2 (fun _ h2 => by exact (kept_ite (State.settle_kept (State.loadGo_kept h2)) h2)))

theorem execLaunch_kept {x1 x2} {x3 : State} (hx3 : Kept s x3) : KeptO s (execLaunch x1 x2 x3) := by
  unfold execLaunch
  exact (kept_ite_O (State.gate_kept hx3 (fun _ h2 => by exact (kept_ite (State.launch_kept h2) h2))) trivial)

theorem execIramWrite_kept {x1 x2 x3 x4} {x5 : State} (hx5 : Kept s x5) : KeptO s (execIramWrite x1 x2 x3 x4 x5) := by
  unfold execIramWrite
  exact (kept_ite_O (kept_ite (State.settle_kept (State.iramWrite_kept (State.debugNote_kept hx5))) (State.settle_kept (State.gateLog_kept (State.debugNote_kept hx5)))) trivial)

theorem execIramLock_kept {x1 x2} {x3 : State} (hx3 : Kept s x3) : KeptO s (execIramLock x1 x2 x3) := by
  unfold execIramLock
  exact (kept_ite_O (State.gate_kept hx3 (fun _ h2 => by exact (State.lockWrite_kept h2))) trivial)

theorem execHostExtend_kept {x1} {x2 : State} (hx2 : Kept s x2) : KeptO s (execHostExtend x1 x2) := by
  unfold execHostExtend
  exact (State.gate_kept hx2 (fun _ h2 => by exact (kept_ite (State.hostExtend_kept h2) h2)))

theorem execExtensionCommit_kept {x1} {x2 : State} (hx2 : Kept s x2) : KeptO s (execExtensionCommit x1 x2) := by
  unfold execExtensionCommit
  exact (kept_ite_O (State.extCommit_kept hx2) trivial)

theorem execModeReqService_kept {x1} {x2 : State} (hx2 : Kept s x2) : KeptO s (execModeReqService x1 x2) := by
  unfold execModeReqService
  exact (State.gate_kept hx2 (fun _ h2 => by exact (State.settle_kept (State.modeWrite_kept h2))))

theorem execModeReqTest_kept {x1} {x2 : State} (hx2 : Kept s x2) : KeptO s (execModeReqTest x1 x2) := by
  unfold execModeReqTest
  exact (State.gate_kept hx2 (fun _ h2 => by exact (State.settle_kept (State.modeWrite_kept h2))))

theorem execModeReqRecovery_kept {x1} {x2 : State} (hx2 : Kept s x2) : KeptO s (execModeReqRecovery x1 x2) := by
  unfold execModeReqRecovery
  exact (State.gate_kept hx2 (fun _ h2 => by exact (State.settle_kept (State.modeWrite_kept h2))))

theorem execQuoteRequest_kept {x1 x2} {x3 : State} (hx3 : Kept s x3) : KeptO s (execQuoteRequest x1 x2 x3) := by
  unfold execQuoteRequest
  exact (kept_ite_O (State.slotGate_kept hx3 (fun _ h2 => by exact (State.settle_kept (State.quoteGo_kept h2)))) trivial)

theorem State.signHead_kept {x1 : State} (hx1 : Kept s x1) {x2} : ∀ r, (State.signHead x1 x2) = some r → Kept s (r).2 := by
  unfold State.signHead
  exact (by
 try dsimp only
 split
 · exact (kept_ite_some (fun _ hr => Option.some.inj hr ▸ (kept_snd (by exact Kept.same hx1 rfl))) (fun _ hr => nomatch hr))
 · exact (fun _ hr => nomatch hr))

theorem execQuoteSigned_kept {x1 : State} (hx1 : Kept s x1) : KeptO s (execQuoteSigned x1) := by
  unfold execQuoteSigned
  exact (by
 try dsimp only
 split
 · next e1 => exact (State.settle_kept (kept_ite (State.attestAnswer_kept (State.engEv_kept (State.signBy_kept ((State.signHead_kept hx1) _ e1)))) (State.quoteDone_kept (State.engEv_kept (State.signBy_kept ((State.signHead_kept hx1) _ e1))))))
 · exact hx1)

end Sys2Proof.Machine
end

