-- ==== Sys2Proof/Laws/KeptKeyCmds.lean ====
section
/-! SUPPORT. What the operations of Machine/KeyCmds.lean keep, one lemma each (Laws/Kept.lean). -/

namespace Sys2Proof.Machine

variable {s : State}

theorem execIdReady_kept {x1} {x2 : State} (hx2 : Kept s x2) : KeptO s (execIdReady x1 x2) := by
  unfold execIdReady
  exact (kept_ite hx2 (kept_ite (State.set1_kept (State.deriveIds_kept hx2)) (State.settle_kept (State.log_kept hx2))))

theorem execGenDeriveComplete_kept {x1 : State} (hx1 : Kept s x1) : KeptO s (execGenDeriveComplete x1) := by
  unfold execGenDeriveComplete
  exact (State.settle_kept (State.keyEdge_kept (State.ksDerived_kept hx1) hx1))

theorem execKsStage_kept {x1 x2} {x3 : State} (hx3 : Kept s x3) : KeptO s (execKsStage x1 x2 x3) := by
  unfold execKsStage
  exact (kept_ite_O (State.settle_kept (State.keyGate_kept hx3 (fun _ h2 => by exact (State.stageWrite_kept h2)))) trivial)

theorem execKsDiscard_kept {x1} {x2 : State} (hx2 : Kept s x2) : KeptO s (execKsDiscard x1 x2) := by
  unfold execKsDiscard
  exact (State.settle_kept (State.keyGate_kept hx2 (fun _ h2 => by exact (State.stageWrite_kept h2))))

theorem execKsCommit_kept {x1} {x2 : State} (hx2 : Kept s x2) : KeptO s (execKsCommit x1 x2) := by
  unfold execKsCommit
  exact (State.settle_kept (State.keyGate_kept hx2 (fun _ h2 => by exact (State.keyEdge_kept (State.commitWrite_kept h2) h2))))

theorem execKsInvalidate_kept {x1 x2} {x3 : State} (hx3 : Kept s x3) : KeptO s (execKsInvalidate x1 x2 x3) := by
  unfold execKsInvalidate
  exact (kept_ite_O (State.settle_kept (State.keyGate_kept hx3 (fun _ h2 => by exact (State.keyEdge_kept (State.ksInval_kept h2) h2)))) trivial)

theorem execExportBlob_kept {x1 x2} {x3 : State} (hx3 : Kept s x3) : KeptO s (execExportBlob x1 x2 x3) := by
  unfold execExportBlob
  exact (kept_ite_O (State.settle_kept (State.cmdGate_kept hx3)) trivial)

theorem execLoadBlob_kept {x1 x2} {x3 : State} (hx3 : Kept s x3) : KeptO s (execLoadBlob x1 x2 x3) := by
  unfold execLoadBlob
  exact (kept_ite_O (State.settle_kept (State.cmdGate_kept hx3)) trivial)

theorem execRewrapBlob_kept {x1} {x2 : State} (hx2 : Kept s x2) : KeptO s (execRewrapBlob x1 x2) := by
  unfold execRewrapBlob
  exact (State.settle_kept (State.cmdGate_kept hx2))

theorem execKsCmdComplete_kept {x1 : State} (hx1 : Kept s x1) : KeptO s (execKsCmdComplete x1) := by
  unfold execKsCmdComplete
  exact (State.settle_kept (State.cmdDone_kept hx1))

theorem execTagSweep_kept {x1} {x2 : State} (hx2 : Kept s x2) : KeptO s (execTagSweep x1 x2) := by
  unfold execTagSweep
  exact (kept_ite_O (State.settle_kept (kept_foldl hx2 (fun _ h2 _ => by exact (State.tagFail_kept h2)))) trivial)

theorem execDerivedAgain_kept {x1} {x2 : State} (hx2 : Kept s x2) : KeptO s (execDerivedAgain x1 x2) := by
  unfold execDerivedAgain
  exact (kept_ite_O (State.deriveAgain_kept hx2) trivial)

theorem execStatementRequest_kept {x1 x2 x3} {x4 : State} (hx4 : Kept s x4) : KeptO s (execStatementRequest x1 x2 x3 x4) := by
  unfold execStatementRequest
  exact (kept_ite_O (State.settle_kept (State.stmtGate_kept hx4 (fun _ h2 => by exact (State.stmtRequest_kept h2)))) trivial)

theorem execStatementSigned_kept {x1 : State} (hx1 : Kept s x1) : KeptO s (execStatementSigned x1) := by
  unfold execStatementSigned
  exact (by
 try dsimp only
 split
 · next e1 => exact (State.stmtDone_kept (State.signBy_kept ((State.signHead_kept hx1) _ e1)))
 · exact hx1)

theorem execLcPrepare_kept {x1 x2 x3} {x4 : State} (hx4 : Kept s x4) : KeptO s (execLcPrepare x1 x2 x3 x4) := by
  unfold execLcPrepare
  exact (kept_ite_O (State.settle_kept (State.lcGate_kept hx4)) trivial)

theorem execLcPrepared_kept {x1 : State} (hx1 : Kept s x1) : KeptO s (execLcPrepared x1) := by
  unfold execLcPrepared
  exact (kept_ite hx1 (State.lcPrepared_kept hx1))

theorem execLcCommit_kept {x1 x2 x3} {x4 : State} (hx4 : Kept s x4) : KeptO s (execLcCommit x1 x2 x3 x4) := by
  unfold execLcCommit
  exact (kept_ite_O (State.settle_kept (State.lcGate_kept hx4)) trivial)

theorem execLcFusesBlown_kept {x1 : State} (hx1 : Kept s x1) : KeptO s (execLcFusesBlown x1) := by
  unfold execLcFusesBlown
  exact (State.settle_kept (State.keyEdge_kept (State.lcBlown_kept hx1) hx1))

theorem State.fuseStop_kept {x1 : State} (hx1 : Kept s x1) : Kept s (State.fuseStop x1) := by
  unfold State.fuseStop
  exact (by
 try dsimp only
 split
 · exact (by exact Kept.same (State.clr_kept (State.free_kept hx1)) rfl)
 · exact hx1)

theorem execFuseSupplyLost_kept {x1 : State} (hx1 : Kept s x1) : KeptO s (execFuseSupplyLost x1) := by
  unfold execFuseSupplyLost
  exact (State.fuseStop_kept (State.clr_kept hx1))

end Sys2Proof.Machine
end

