-- ==== Sys2Proof/Laws/KeptPcieCmds.lean ====
section
/-! SUPPORT. What the operations of Machine/PcieCmds.lean keep, one lemma each (Laws/Kept.lean). -/

namespace Sys2Proof.Machine

variable {s : State}

theorem State.msixWrite_kept {x1 : State} (hx1 : Kept s x1) {x2 x3 x4} : Kept s (State.msixWrite x1 x2 x3 x4) := by
  unfold State.msixWrite
  exact (kept_ite hx1 (kept_ite (kept_ite (State.msixMask_kept hx1) (State.msixUnmask_kept hx1)) (by exact Kept.same hx1 rfl)))

theorem State.msixWrites_kept {fn} : ∀ {l : List Nat} {off} {t : State}, Kept s t → Kept s (State.msixWrites t fn off l)
  | _ :: _ :: _ :: _ :: _, _, _, h => by rw [State.msixWrites]; exact msixWrites_kept (State.msixWrite_kept h)
  | [], _, _, h => h
  | [_], _, _, h => h
  | [_, _], _, _, h => h
  | [_, _, _], _, _, h => h

theorem State.unsupported_kept {x1 : State} (hx1 : Kept s x1) {x2 x3} : Kept s (State.unsupported x1 x2 x3) := by
  unfold State.unsupported
  exact (State.emit_kept (State.rcAdd_kept hx1))

theorem State.barError_kept {x1 : State} (hx1 : Kept s x1) {x2 x3} : Kept s (State.barError x1 x2 x3) := by
  unfold State.barError
  exact (kept_ite (State.logFault_kept (State.set1_kept (State.setFld_kept (State.setFld_kept (State.setFld_kept (State.setFld_kept (State.free_kept hx1))))))) hx1)

theorem State.hostRead_kept {x1 : State} (hx1 : Kept s x1) {x2 x3 x4 x5} : Kept s (State.hostRead x1 x2 x3 x4 x5) := by
  unfold State.hostRead
  exact (by
 try dsimp only
 split
 · exact (by
 try dsimp only
 split
 · exact (kept_ite (State.emit_kept (State.rcAdd_kept (State.bmErr_kept (by rename_i heq; have hk := congrArg Prod.snd heq; dsimp only at hk; rw [← hk]; exact (State.busRead_kept hx1))))) (State.emit_kept (by rename_i heq; have hk := congrArg Prod.snd heq; dsimp only at hk; rw [← hk]; exact (State.busRead_kept hx1))))
 · exact (State.unsupported_kept (by rename_i heq; have hk := congrArg Prod.snd heq; dsimp only at hk; rw [← hk]; exact (State.busRead_kept hx1))))
 · exact (State.emit_kept hx1)
 · exact (State.unsupported_kept (State.barError_kept hx1)))

theorem State.hostWrite_kept {x1 : State} (hx1 : Kept s x1) {x2 x3 x4 x5 x6} : Kept s (State.hostWrite x1 x2 x3 x4 x5 x6) := by
  unfold State.hostWrite
  exact (kept_ite (State.rcAdd_kept hx1) (by
 try dsimp only
 split
 · exact (State.when_kept (State.busWrite_kept hx1) (fun _ h2 => by exact (State.emit_kept h2)))
 · exact (kept_ite (State.msixWrites_kept hx1) hx1)
 · exact (State.emit_kept (State.barError_kept hx1))))

theorem State.bmeSet_kept {x1 : State} (hx1 : Kept s x1) {x2 x3} : Kept s (State.bmeSet x1 x2 x3) := by
  unfold State.bmeSet
  exact (kept_ite (kept_foldl (State.when_kept (State.setFld_kept hx1) (fun _ h3 => by exact (State.descRelease_kept h3))) (fun _ h4 _ => by exact (State.emit_kept (by exact Kept.same h4 rfl)))) (State.when_kept (State.setFld_kept hx1) (fun _ h3 => by exact (State.descRelease_kept h3))))

theorem execPcieInboundRequest_kept {x1 x2 x3 x4 x5 x6 x7} {x8 : State} (hx8 : Kept s x8) : KeptO s (execPcieInboundRequest x1 x2 x3 x4 x5 x6 x7 x8) := by
  unfold execPcieInboundRequest
  exact (kept_ite_O (kept_ite hx8 (State.settle_kept (kept_ite (State.hostRead_kept (State.engEv_kept hx8)) (kept_ite (State.hostWrite_kept (State.engEv_kept hx8)) (State.bmeSet_kept (State.engEv_kept hx8)))))) trivial)

theorem execPcieAtomicOp_kept {x1 x2 x3 x4 x5 x6 x7} {x8 : State} (hx8 : Kept s x8) : KeptO s (execPcieAtomicOp x1 x2 x3 x4 x5 x6 x7 x8) := by
  unfold execPcieAtomicOp
  exact (kept_ite_O (kept_ite hx8 (by
 try dsimp only
 split
 · exact (kept_ite (kept_ite (State.unsupported_kept (State.decodeErr_kept (State.engEv_kept hx8))) (kept_ite (State.emit_kept (State.rcAdd_kept (State.bmErr_kept (State.engEv_kept hx8)))) (State.settle_kept (State.emit_kept (State.memWrite_kept (State.engEv_kept hx8)))))) (State.unsupported_kept (State.engEv_kept hx8)))
 · exact (State.unsupported_kept (State.barError_kept (State.engEv_kept hx8))))) trivial)

theorem State.seqTimeout_kept {x1 : State} (hx1 : Kept s x1) {x2 x3 x4} : Kept s (State.seqTimeout x1 x2 x3 x4) := by
  unfold State.seqTimeout
  exact (by
 try dsimp only
 split
 · exact (by
 try dsimp only
 split
 · exact (State.seqDrain_kept (State.raise_kept (State.txnTake_kept hx1)))
 · exact hx1)
 · exact hx1)

theorem execBridgeTimeout_kept {x1 x2 x3} {x4 : State} (hx4 : Kept s x4) : KeptO s (execBridgeTimeout x1 x2 x3 x4) := by
  unfold execBridgeTimeout
  exact (by
 try dsimp only
 split
 · exact (State.settle_kept (by
 try dsimp only
 split
 · exact (State.unsupported_kept (State.log_kept (State.bmErr_kept (State.debugNote_kept hx4))))
 · exact (State.unsupported_kept (State.log_kept (State.bmErr_kept (State.debugNote_kept hx4))))
 · exact (State.log_kept (State.bmErr_kept (State.debugNote_kept hx4)))
 · exact (State.log_kept (State.bmErr_kept (State.debugNote_kept hx4)))
 · exact (State.emit_kept (State.seqTimeout_kept (State.log_kept (State.bmErr_kept (State.debugNote_kept hx4)))))
 · exact (State.emit_kept (State.log_kept (State.bmErr_kept (State.debugNote_kept hx4))))))
 · exact trivial)

end Sys2Proof.Machine
end

