-- ==== Sys2Proof/Laws/KeptRootCmds.lean ====
section
/-! SUPPORT. What the operations of Machine/RootCmds.lean keep, one lemma each (Laws/Kept.lean). -/

namespace Sys2Proof.Machine

variable {s : State}

theorem execEdgeArrival_kept {x1 x2 x3 x4 x5 x6 x7} {x8 : State} (hx8 : Kept s x8) : KeptO s (execEdgeArrival x1 x2 x3 x4 x5 x6 x7 x8) := by
  unfold execEdgeArrival
  exact (kept_ite_O (State.settle_kept (State.when_kept (State.tmEdge_kept hx8) (fun _ h2 => by exact (State.ppsTake_kept h2)))) trivial)

theorem execCalTableComplete_kept {x1} {x2 : State} (hx2 : Kept s x2) : KeptO s (execCalTableComplete x1 x2) := by
  unfold execCalTableComplete
  exact (kept_ite_O (kept_ite hx2 (kept_ite (State.tmSwap_kept hx2) (State.settle_kept (State.logFault_kept (State.tmDropBuild_kept hx2))))) trivial)

theorem execDieTempRefresh_kept {x1 x2 x3 x4} {x5 : State} (hx5 : Kept s x5) : KeptO s (execDieTempRefresh x1 x2 x3 x4 x5) := by
  unfold execDieTempRefresh
  exact (State.dieWatch_kept (State.setHo_kept (State.setFld_kept (State.setFld_kept (State.setFld_kept (State.setFld_kept hx5))))))

theorem execLoscLost_kept {x1 : State} (hx1 : Kept s x1) : KeptO s (execLoscLost x1) := by
  unfold execLoscLost
  exact (kept_ite (State.settle_kept (State.when_kept (State.clocked_kept (State.lockLoss_kept (State.log_kept (State.clr_kept (State.set1_kept (State.clr_kept hx1))))) hx1) (fun _ h3 => by exact (State.demoteStart_kept h3)))) hx1)

theorem execLoscPresent_kept {x1 : State} (hx1 : Kept s x1) : KeptO s (execLoscPresent x1) := by
  unfold execLoscPresent
  exact (kept_ite hx1 (kept_ite (State.rootLatch_kept (State.set1_kept hx1)) (State.set1_kept hx1)))

theorem execRootRelockCmd_kept {x1} {x2 : State} (hx2 : Kept s x2) : KeptO s (execRootRelockCmd x1 x2) := by
  unfold execRootRelockCmd
  exact (State.gate_kept hx2 (fun _ h2 => by exact (State.settle_kept (State.clocked_kept (State.rootCmd_kept h2) h2))))

theorem execBandSweepCmd_kept {x1} {x2 : State} (hx2 : Kept s x2) : KeptO s (execBandSweepCmd x1 x2) := by
  unfold execBandSweepCmd
  exact (kept_ite (State.settle_kept (State.clocked_kept (State.rootCmd_kept (State.debugNote_kept hx2)) hx2)) (State.settle_kept (State.sweepBarred_kept (State.gate_kept hx2 (fun _ h2 => by exact h2)))))

theorem execRootLossOfLock_kept {x1 : State} (hx1 : Kept s x1) : KeptO s (execRootLossOfLock x1) := by
  unfold execRootLossOfLock
  exact (State.settle_kept (State.clocked_kept (State.lockLoss_kept hx1) hx1))

theorem execCoreClockSwitchback_kept {x1 : State} (hx1 : Kept s x1) : KeptO s (execCoreClockSwitchback x1) := by
  unfold execCoreClockSwitchback
  exact (kept_ite (State.settle_kept (State.clocked_kept (State.uartThaw_kept (State.lanesThaw_kept (State.switchback_kept hx1))) hx1)) hx1)

theorem State.heldRun_kept {x1 : State} (hx1 : Kept s x1) : Kept s (State.heldRun x1) := by
  unfold State.heldRun
  exact (kept_ite (by exact Kept.same hx1 rfl) (State.relockCmd_kept (by exact Kept.same hx1 rfl)))

theorem State.relockEnd_kept {x1 : State} (hx1 : Kept s x1) : Kept s (State.relockEnd x1) := by
  unfold State.relockEnd
  exact (State.heldRun_kept (kept_foldl (State.releaseWaits_kept (by exact Kept.same (State.rcAdd_kept (State.clr_kept (State.clr_kept (State.clr_kept hx1)))) rfl)) (fun _ h6 _ => by exact (kept_ite (State.opllStart_kept h6) h6))))

theorem execRelockDone_kept {x1 : State} (hx1 : Kept s x1) : KeptO s (execRelockDone x1) := by
  unfold execRelockDone
  exact (kept_ite (State.settle_kept (State.clocked_kept (State.relockEnd_kept hx1) hx1)) hx1)

theorem execRootLockFail_kept {x1 : State} (hx1 : Kept s x1) : KeptO s (execRootLockFail x1) := by
  unfold execRootLockFail
  exact (kept_ite (State.settle_kept (State.log_kept (by exact Kept.same hx1 rfl))) hx1)

theorem execOpllLockFail_kept {x1} {x2 : State} (hx2 : Kept s x2) : KeptO s (execOpllLockFail x1 x2) := by
  unfold execOpllLockFail
  exact (kept_ite_O (kept_ite (State.settle_kept (State.logFault_kept (State.setPll_kept hx2))) hx2) trivial)

end Sys2Proof.Machine
end

