-- ==== Sys2Proof/Laws/KeptSeqPorts.lean ====
section
/-! SUPPORT. What the operations of Machine/SeqPorts.lean keep, one lemma each (Laws/Kept.lean). -/

namespace Sys2Proof.Machine

variable {s : State}

theorem kept_ite_st {c : Prop} [Decidable c] {p q : TxnEnd} (h : Kept s p.st) (g : Kept s q.st) :
    Kept s (if c then p else q).st := by split <;> assumption

theorem State.portFifo_kept {x1 : State} (hx1 : Kept s x1) {x2 x3 x4 x5 x6} {x7 : State → ℕ × State} (hx7 : ∀ y1, Kept s y1 → Kept s ((x7 y1)).2) {x8 : ℕ × State} (hx8 : Kept s (x8).2) : Kept s ((State.portFifo x1 x2 x3 x4 x5 x6 x7 x8)).2 := by
  unfold State.portFifo
  exact (kept_ite_snd (State.wordRead_kept hx1 (hx7 _ hx1)) (kept_ite_snd (State.wordRead_kept hx1 (hx7 _ (by exact Kept.same hx1 rfl))) (State.wordRead_kept hx1 hx8)))

theorem State.cellTake_kept {x1 : State} (hx1 : Kept s x1) {x2} : Kept s ((State.cellTake x1 x2)).2 := by
  unfold State.cellTake
  exact (by
 try dsimp only
 split
 · exact (kept_snd (State.setSeq_kept hx1))
 · exact (kept_snd (State.free_kept hx1)))

theorem State.ownRead_kept {x1 : State} (hx1 : Kept s x1) {x2 x3} : Kept s ((State.ownRead x1 x2 x3)).2 := by
  unfold State.ownRead
  exact (by
 try dsimp only
 split
 · exact (kept_snd (State.mboxPop_kept hx1))
 · exact (kept_snd hx1)
 · exact (kept_snd (State.setSeq_kept hx1))
 · exact (kept_snd (State.setFld_kept hx1))
 · exact (kept_snd hx1)
 · exact (kept_snd hx1)
 · exact (kept_snd hx1)
 · exact (kept_snd hx1)
 · exact (kept_snd hx1)
 · exact (kept_snd hx1)
 · exact (kept_snd hx1)
 · exact (kept_snd hx1))

theorem State.cellRead_kept {x1 : State} (hx1 : Kept s x1) {x2 x3} : Kept s ((State.cellRead x1 x2 x3)).2 := by
  unfold State.cellRead
  exact (by
 try dsimp only
 split
 · exact (kept_snd hx1)
 · exact (kept_snd hx1)
 · exact (kept_snd (State.setSeq_kept hx1))
 · exact (State.cellTake_kept hx1)
 · exact (kept_snd hx1)
 · exact (kept_snd (State.setSeq_kept hx1))
 · exact (kept_snd hx1))

theorem State.portRead_kept {x1 : State} (hx1 : Kept s x1) {x2 x3} : Kept s ((State.portRead x1 x2 x3)).2 := by
  unfold State.portRead
  exact (by
 try dsimp only
 split
 · exact (State.readReg_kept hx1)
 · exact (kept_ite_snd (kept_snd hx1) (kept_ite_snd (kept_snd hx1) (kept_ite_snd (kept_snd hx1) (kept_ite_snd (kept_ite_snd (State.portFifo_kept hx1 (fun _ h2 => by exact (State.tmTakeHead_kept h2)) (kept_snd hx1)) (kept_ite_snd (kept_snd hx1) (kept_snd hx1))) (kept_ite_snd (kept_ite_snd (State.portFifo_kept hx1 (fun _ h3 => by exact (State.uartTakeHead_kept h3)) (State.uartNone_kept hx1)) (kept_ite_snd (kept_snd hx1) (kept_snd hx1))) (kept_ite_snd (State.ownRead_kept hx1) (kept_ite_snd (State.cellRead_kept hx1) (kept_snd hx1)))))))))

theorem State.portIn_kept {x1 : State} (hx1 : Kept s x1) {x2 x3 x4} : Kept s (State.portIn x1 x2 x3 x4) := by
  unfold State.portIn
  exact (kept_ite (State.semTake_kept hx1) (State.putV_kept (State.portRead_kept hx1)))

theorem State.cellWrite_kept {x1 : State} (hx1 : Kept s x1) {x2 x3 x4} : Kept s (State.cellWrite x1 x2 x3 x4) := by
  unfold State.cellWrite
  exact (kept_ite (State.setSeq_kept hx1) (State.setSeq_kept hx1))

theorem State.portWrite_kept {x1 : State} (hx1 : Kept s x1) {x2 x3 x4} : Kept s (State.portWrite x1 x2 x3 x4) := by
  unfold State.portWrite
  exact (by
 try dsimp only
 split
 · exact (State.writeReg_kept hx1)
 · exact (kept_ite (State.writeReg_kept hx1) (kept_ite (State.writeReg_kept hx1) (kept_ite (State.mboxPush_kept hx1) (kept_ite (State.setSeq_kept hx1) (kept_ite (State.setSeq_kept hx1) (kept_ite (State.evClear_kept hx1) (kept_ite (State.semWrite_kept hx1) (kept_ite (State.cellWrite_kept hx1) hx1)))))))))

theorem State.portAcc_kept {x1 : State} (hx1 : Kept s x1) {x2 x3 x4} {x5 : State → State} (hx5 : ∀ y1, Kept s y1 → Kept s (x5 y1)) : KeptR s (State.portAcc x1 x2 x3 x4 x5) := by
  unfold State.portAcc
  exact (kept_ite_R trivial (State.seqEv_kept (hx5 _ hx1)))

theorem execInPort_kept {x1} {x2 : State} (hx2 : Kept s x2) : KeptO s (execInPort x1 x2) := by
  unfold execInPort
  exact (State.issue_kept hx2 (fun _ _ h2 => by exact (State.portAcc_kept h2 (fun _ h3 => by exact (State.settle_kept (State.portIn_kept h3))))))

theorem execOutPort_kept {x1} {x2 : State} (hx2 : Kept s x2) : KeptO s (execOutPort x1 x2) := by
  unfold execOutPort
  exact (State.issue_kept hx2 (fun _ _ h2 => by exact (State.portAcc_kept h2 (fun _ h3 => by exact (State.settle_kept (State.portWrite_kept h3))))))

theorem execSacq_kept {x1} {x2 : State} (hx2 : Kept s x2) : KeptO s (execSacq x1 x2) := by
  unfold execSacq
  exact (State.issue_kept hx2 (fun _ _ h2 => by exact (State.portAcc_kept h2 (fun _ h3 => by exact (State.semTake_kept h3)))))

theorem execSrel_kept {x1} {x2 : State} (hx2 : Kept s x2) : KeptO s (execSrel x1 x2) := by
  unfold execSrel
  exact (State.issue_kept hx2 (fun _ _ h2 => by exact (State.portAcc_kept h2 (fun _ h3 => by exact (State.semWrite_kept h3)))))

theorem State.issueKey_kept {x1 : State} (hx1 : Kept s x1) {x2 x3 x4} : KeptO s (State.issueKey x1 x2 x3 x4) := by
  unfold State.issueKey
  exact (State.issue_kept hx1 (fun _ _ h2 => by exact (kept_ite_R trivial (kept_ite_R trivial (State.seqEv_kept (State.setSeq_kept h2))))))

theorem execKstage_kept {x1} {x2 : State} (hx2 : Kept s x2) : KeptO s (execKstage x1 x2) := by
  unfold execKstage
  exact (State.issueKey_kept hx2)

theorem execKcommit_kept {x1} {x2 : State} (hx2 : Kept s x2) : KeptO s (execKcommit x1 x2) := by
  unfold execKcommit
  exact (State.issueKey_kept hx2)

theorem execKinval_kept {x1} {x2 : State} (hx2 : Kept s x2) : KeptO s (execKinval x1 x2) := by
  unfold execKinval
  exact (State.issueKey_kept hx2)

theorem execKstat_kept {x1} {x2 : State} (hx2 : Kept s x2) : KeptO s (execKstat x1 x2) := by
  unfold execKstat
  exact (State.issueKey_kept hx2)

theorem State.keyFn_kept {x1 : State} (hx1 : Kept s x1) {x2 x3 x4 x5 x6} : Kept s ((State.keyFn x1 x2 x3 x4 x5 x6)).1 := by
  unfold State.keyFn
  exact (by
 try dsimp only
 split
 · exact (State.ksStage_kept hx1)
 · exact (kept_fst (State.keyEdge_kept (State.ksCommitSeq_kept hx1) hx1))
 · exact (kept_fst (State.keyEdge_kept (State.ksInval_kept hx1) hx1))
 · exact (kept_fst (State.putV_kept hx1)))

theorem execKeyInstrComplete_kept {x1} {x2 : State} (hx2 : Kept s x2) : KeptO s (execKeyInstrComplete x1 x2) := by
  unfold execKeyInstrComplete
  exact (kept_ite_O (by
 try dsimp only
 split
 · exact (State.seqDrain_kept (State.settle_kept (kept_ite (State.lateTake_kept (State.takeExc_kept (State.keyFn_kept hx2))) (State.waitRelease_kept (State.keyFn_kept hx2)))))
 · exact hx2) trivial)

theorem State.issueRing_kept {x1 : State} (hx1 : Kept s x1) {x2 x3 x4} : KeptO s (State.issueRing x1 x2 x3 x4) := by
  unfold State.issueRing
  exact (State.issue_kept hx1 (fun _ _ h2 => by exact (kept_ite_R trivial (State.seqEv_kept (State.setSeq_kept h2)))))

theorem execRpush_kept {x1} {x2 : State} (hx2 : Kept s x2) : KeptO s (execRpush x1 x2) := by
  unfold execRpush
  exact (State.issueRing_kept hx2)

theorem execRpop_kept {x1} {x2 : State} (hx2 : Kept s x2) : KeptO s (execRpop x1 x2) := by
  unfold execRpop
  exact (State.issueRing_kept hx2)

theorem State.rpush_kept {x1 : State} (hx1 : Kept s x1) {x2 x3 x4} : Kept s ((State.rpush x1 x2 x3 x4)).1 := by
  unfold State.rpush
  exact (kept_ite_fst (kept_fst hx1) (kept_ite_fst (kept_fst hx1) (kept_ite_fst (kept_fst (State.set1_kept hx1)) (kept_fst (State.ringProduce_kept hx1)))))

theorem State.rpop_kept {x1 : State} (hx1 : Kept s x1) {x2 x3 x4} : Kept s ((State.rpop x1 x2 x3 x4)).1 := by
  unfold State.rpop
  exact (kept_ite_fst (kept_fst hx1) (kept_ite_fst (kept_fst hx1) (kept_ite_fst (kept_fst hx1) (kept_ite_fst (kept_fst hx1) (kept_ite_fst (kept_fst (State.ringStop_kept hx1)) (kept_fst (State.descDone_kept (State.ringTake_kept (by exact Kept.memTo hx1 memPut_wf)))))))))

theorem State.ringAnswer_kept {x1 : State} (hx1 : Kept s x1) {x2 x3} {x4 : State × ℕ} (hx4 : Kept s (x4).1) : Kept s (State.ringAnswer x1 x2 x3 x4) := by
  unfold State.ringAnswer
  exact (State.seqDrain_kept (State.waitRelease_kept (State.setSeq_kept (State.when_kept (State.putV_kept hx4) (fun _ h3 => by exact (State.seqEv_kept h3))))))

theorem execRingInstrComplete_kept {x1} {x2 : State} (hx2 : Kept s x2) : KeptO s (execRingInstrComplete x1 x2) := by
  unfold execRingInstrComplete
  exact (kept_ite_O (by
 try dsimp only
 split
 · exact (kept_ite (State.settle_kept (State.ringAnswer_kept hx2 (kept_ite_fst (State.rpop_kept hx2) (State.rpush_kept hx2)))) hx2)
 · exact hx2) trivial)

theorem State.cntAt_kept {x1 : State} (hx1 : Kept s x1) {x2 x3} : Kept s ((State.cntAt x1 x2 x3)).2 := by
  unfold State.cntAt
  exact (by
 try dsimp only
 split
 · exact (kept_snd hx1)
 · exact (State.cntRead_kept hx1)
 · exact (State.fbRead_kept hx1)
 · exact (State.cntRead_kept hx1))

theorem execRdcnt_kept {x1} {x2 : State} (hx2 : Kept s x2) : KeptO s (execRdcnt x1 x2) := by
  unfold execRdcnt
  exact (State.issue_kept hx2 (fun _ _ h2 => by exact (kept_ite_R trivial (kept_ite_R (State.putV_kept (State.cntAt_kept h2)) (kept_ite_R (State.putV_kept h2) (State.putV_kept (State.setSeq_kept (State.cntAt_kept h2))))))))

theorem State.issueMatrix_kept {x1 : State} (hx1 : Kept s x1) {x2 x3 x4 x5 x6} : KeptO s (State.issueMatrix x1 x2 x3 x4 x5 x6) := by
  unfold State.issueMatrix
  exact (State.issue_kept hx1 (fun _ _ h2 => by exact (kept_ite_R trivial (kept_ite_R trivial (kept_ite_R trivial (State.seqEv_kept (State.setSeq_kept h2)))))))

theorem execMldw_kept {x1} {x2 : State} (hx2 : Kept s x2) : KeptO s (execMldw x1 x2) := by
  unfold execMldw
  exact (State.issueMatrix_kept hx2)

theorem execMstw_kept {x1} {x2 : State} (hx2 : Kept s x2) : KeptO s (execMstw x1 x2) := by
  unfold execMstw
  exact (State.issueMatrix_kept hx2)

theorem execMldt_kept {x1} {x2 : State} (hx2 : Kept s x2) : KeptO s (execMldt x1 x2) := by
  unfold execMldt
  exact (State.issueMatrix_kept hx2)

theorem execMstt_kept {x1} {x2 : State} (hx2 : Kept s x2) : KeptO s (execMstt x1 x2) := by
  unfold execMstt
  exact (State.issueMatrix_kept hx2)

theorem State.txnRun_kept {x1 : State} (hx1 : Kept s x1) {x2 x3} : Kept s ((State.txnRun x1 x2 x3)).st := by
  unfold State.txnRun
  exact (kept_ite_st (State.busWrite_kept hx1) (by
 try dsimp only
 split
 · exact (by rename_i heq; have hk := congrArg Prod.snd heq; dsimp only at hk; rw [← hk]; exact (State.busRead_kept hx1))
 · exact (kept_ite_st (State.bmErr_kept (by rename_i heq; have hk := congrArg Prod.snd heq; dsimp only at hk; rw [← hk]; exact (State.busRead_kept hx1))) (by rename_i heq; have hk := congrArg Prod.snd heq; dsimp only at hk; rw [← hk]; exact (State.busRead_kept hx1)))))

theorem State.txnRunAs_kept {x1 : State} (hx1 : Kept s x1) {x2 x3} : Kept s ((State.txnRunAs x1 x2 x3)).st := by
  unfold State.txnRunAs
  exact (State.setFld_kept (State.txnRun_kept (State.setFld_kept hx1)))

theorem execMatrixTxnComplete_kept {x1 x2} {x3 : State} (hx3 : Kept s x3) : KeptO s (execMatrixTxnComplete x1 x2 x3) := by
  unfold execMatrixTxnComplete
  exact (kept_ite_O (by
 try dsimp only
 split
 · exact (kept_ite (State.seqDrain_kept (State.settle_kept (kept_ite (State.txnFill_kept (State.txnRunAs_kept (State.txnTake_kept hx3))) (State.raise_kept (State.txnRunAs_kept (State.txnTake_kept hx3)))))) hx3)
 · exact hx3) trivial)

end Sys2Proof.Machine
end

