-- ==== Sys2Proof/Laws/KeptTimeCmds.lean ====
section
/-! SUPPORT. What the operations of Machine/TimeCmds.lean keep, one lemma each (Laws/Kept.lean). -/

namespace Sys2Proof.Machine

variable {s : State}

theorem State.second_kept {x1 : State} (hx1 : Kept s x1) : Kept s (State.second x1) := by
  unfold State.second
  exact (State.pktExpire_kept (State.pktExpire_kept (State.arbSecond_kept (State.commitSecond_kept (State.clocked_kept (State.rsEval_kept (State.hoSecondWrite_kept (State.runsSecond_kept (State.hoHistory_kept (State.poSecond_kept (State.tcSecond_kept hx1)))))) hx1)))))

theorem execEngineSecond_kept {x1 : State} (hx1 : Kept s x1) : KeptO s (execEngineSecond x1) := by
  unfold execEngineSecond
  exact (kept_ite (State.settle_kept (State.second_kept hx1)) hx1)

theorem execLeap_kept {x1 : State} (hx1 : Kept s x1) : KeptO s (execLeap x1) := by
  unfold execLeap
  exact (kept_ite (State.leapNow_kept hx1) hx1)

theorem execSmearStart_kept {x1 : State} (hx1 : Kept s x1) : KeptO s (execSmearStart x1) := by
  unfold execSmearStart
  exact (kept_ite (State.smearStart_kept hx1) hx1)

theorem execSmearEnd_kept {x1 : State} (hx1 : Kept s x1) : KeptO s (execSmearEnd x1) := by
  unfold execSmearEnd
  exact (kept_ite (State.smearEnd_kept hx1) hx1)

theorem execTimeSet_kept {x1 x2} {x3 : State} (hx3 : Kept s x3) : KeptO s (execTimeSet x1 x2 x3) := by
  unfold execTimeSet
  exact (State.gate_kept hx3 (fun _ h2 => by exact (State.settle_kept (State.timeSetWrite_kept h2))))

theorem execStepOffsetWrite_kept {x1 x2} {x3 : State} (hx3 : Kept s x3) : KeptO s (execStepOffsetWrite x1 x2 x3) := by
  unfold execStepOffsetWrite
  exact (State.gate_kept hx3 (fun _ h2 => by exact (kept_ite h2 (State.settle_kept (State.stepWrite_kept h2)))))

theorem execStepAccept_kept {x1 x2 x3} {x4 : State} (hx4 : Kept s x4) : KeptO s (execStepAccept x1 x2 x3 x4) := by
  unfold execStepAccept
  exact (kept_ite_O (kept_ite (State.gate_kept hx4 (fun _ h2 => by exact (State.settle_kept (State.stepAccept_kept h2)))) (State.settle_kept (State.stepBarred_kept (State.gate_kept hx4 (fun _ h3 => by exact h3))))) trivial)

theorem State.stepNow_kept {x1 : State} (hx1 : Kept s x1) {x2} : Kept s (State.stepNow x1 x2) := by
  unfold State.stepNow
  exact (State.rsStepped_kept (State.poStepped_kept (State.tcStepTo_kept hx1)))

theorem State.boundEnd_kept {x1 : State} (hx1 : Kept s x1) : Kept s (State.boundEnd x1) := by
  unfold State.boundEnd
  exact (State.boundPublish_kept (kept_ite (State.goLost_kept hx1) hx1))

theorem State.dues_kept {x1 : State} (hx1 : Kept s x1) : Kept s (State.dues x1) := by
  unfold State.dues
  exact (kept_ite (State.second_kept (kept_ite (State.boundEnd_kept hx1) hx1)) (kept_ite (State.boundEnd_kept hx1) hx1))

theorem State.stepDues_kept {x1 : State} (hx1 : Kept s x1) : Kept s (State.stepDues x1) := by
  unfold State.stepDues
  exact (by
 try dsimp only
 split
 · exact (State.stepNow_kept (State.dues_kept hx1))
 · exact (State.dues_kept hx1))

theorem execStepApplied_kept {x1 : State} (hx1 : Kept s x1) : KeptO s (execStepApplied x1) := by
  unfold execStepApplied
  exact (by
 try dsimp only
 split
 · exact (State.settle_kept (State.stepDues_kept hx1))
 · exact hx1)

theorem execSlideOffsetWrite_kept {x1 x2} {x3 : State} (hx3 : Kept s x3) : KeptO s (execSlideOffsetWrite x1 x2 x3) := by
  unfold execSlideOffsetWrite
  exact (State.gate_kept hx3 (fun _ h2 => by exact (kept_ite h2 (State.slideWrite_kept h2))))

theorem State.slideLast_kept {x1 : State} (hx1 : Kept s x1) : Kept s (State.slideLast x1) := by
  unfold State.slideLast
  exact (State.boundRaise_kept (State.setFld_kept (State.setSlide_kept (State.advance_kept hx1))))

theorem execSlideComplete_kept {x1 : State} (hx1 : Kept s x1) : KeptO s (execSlideComplete x1) := by
  unfold execSlideComplete
  exact (kept_ite (State.slideLast_kept hx1) hx1)

theorem execBoundIntervalEnd_kept {x1 : State} (hx1 : Kept s x1) : KeptO s (execBoundIntervalEnd x1) := by
  unfold execBoundIntervalEnd
  exact (kept_ite (State.settle_kept (State.boundEnd_kept hx1)) hx1)

theorem execBgCoefCommit_kept {x1 : State} (hx1 : Kept s x1) : KeptO s (execBgCoefCommit x1) := by
  unfold execBgCoefCommit
  exact (State.settle_kept (State.bgCommitTick_kept hx1))

theorem State.pinsTake_kept {x1 : State} (hx1 : Kept s x1) {x2} : Kept s (State.pinsTake x1 x2) := by
  unfold State.pinsTake
  exact (State.seniorPin_kept (kept_ite (State.set1_kept (by exact Kept.same hx1 rfl)) (State.fuseStop_kept (State.clr_kept (by exact Kept.same hx1 rfl)))))

theorem State.fatalTick_kept {x1 : State} (hx1 : Kept s x1) : Kept s (State.fatalTick x1) := by
  unfold State.fatalTick
  exact (kept_ite (kept_ite (by exact Kept.same (by exact Kept.same hx1 rfl) rfl) (kept_ite (by exact Kept.same (by exact Kept.same hx1 rfl) rfl) (by exact Kept.same hx1 rfl))) hx1)

theorem State.modeEntered_kept {x1 : State} (hx1 : Kept s x1) {x2 : State} (hx2 : Kept s x2) : Kept s (State.modeEntered x1 x2) := by
  unfold State.modeEntered
  exact (kept_ite hx1 (kept_ite (State.rcStop_kept (State.gateDrop_kept (State.twMode_kept hx1))) (kept_ite (State.loopsOff_kept (State.twMode_kept hx1)) (State.twMode_kept hx1))))

theorem State.modeStep_kept {x1 : State} (hx1 : Kept s x1) : Kept s (State.modeStep x1) := by
  unfold State.modeStep
  exact (State.modeEntered_kept (State.modeTick_kept hx1) hx1)

theorem State.lockClock_kept {x1 : State} (hx1 : Kept s x1) {x2} : Kept s (State.lockClock x1 x2) := by
  unfold State.lockClock
  exact (kept_ite (by exact Kept.same hx1 rfl) hx1)

theorem State.tickCount_kept {x1 : State} (hx1 : Kept s x1) : Kept s (State.tickCount x1) := by
  unfold State.tickCount
  exact (State.pcTick_kept (State.when_kept (State.lanesTick_kept (State.fcAll_kept (kept_foldl (State.warmTick_kept (State.rsTick_kept (State.hoTick_kept (State.opllTick_kept (State.lockClock_kept (State.tcTick_kept hx1)))))) (fun _ h3 _ => by exact (State.seqTick1_kept h3))))) (fun _ h5 => by exact (State.engEv_kept h5))))

theorem execTick_kept {x1} {x2 : State} (hx2 : Kept s x2) : KeptO s (execTick x1 x2) := by
  unfold execTick
  exact (kept_ite_O (kept_ite hx2 (State.settle_kept (State.tickCount_kept (State.modeStep_kept (State.fatalTick_kept (State.commitTick_kept (State.commitTick_kept (State.commitTick_kept (State.stepDues_kept (State.pinsTake_kept (by exact Kept.same hx2 rfl))))))))))) trivial)

end Sys2Proof.Machine
end

