-- ==== Sys2Proof/Laws/State.lean ====
section
/-! SUPPORT. The small lemmas of the state: one for each field under each update, and what a register field reads after a write. -/

namespace Sys2Proof.Machine

/-! ### Register fields -/

theorem Fld.key_ne_bit {f g : Fld} {n d : Nat} (h : f.bit ≠ g.bit) : f.key n ≠ g.key d := by
  unfold Fld.key
  have := Nat.mod_lt n (show 0 < 4096 by decide)
  have := Nat.mod_lt d (show 0 < 4096 by decide)
  omega

theorem Fld.key_ne_unit {f g : Fld} {n d : Nat} (h : n % 4096 ≠ d % 4096) : f.key n ≠ g.key d := by
  unfold Fld.key
  have := Nat.mod_lt n (show 0 < 4096 by decide)
  have := Nat.mod_lt d (show 0 < 4096 by decide)
  omega

section
variable (s : State) (f g : Fld) (n d v : Nat)

/-- A field just written reads as what was written, kept to its width. -/
@[simp] theorem State.fld_setFld : (s.setFld f n v).fld f n = v % 2 ^ f.width := smGet_smSet_same ..

/-- A write to one field leaves every other as it was. -/
theorem State.fld_setFld_ne {f g : Fld} {n d : Nat} (h : f.key n ≠ g.key d) : (s.setFld f n v).fld g d = s.fld g d :=
  smGet_smSet_ne _ _ _ _ h

theorem State.fld_setFld_bit {f g : Fld} (h : f.bit ≠ g.bit) : (s.setFld f n v).fld g d = s.fld g d :=
  s.fld_setFld_ne v (Fld.key_ne_bit h)

theorem State.fld_setFld_unit {n d : Nat} (h : n % 4096 ≠ d % 4096) : (s.setFld f n v).fld g d = s.fld g d :=
  s.fld_setFld_ne v (Fld.key_ne_unit h)

@[simp] theorem State.fld_clr : (s.clr f n).fld f n = 0 := by simp [State.clr]

theorem State.fld_set1 {f : Fld} (h : 0 < f.width) : (s.set1 f n).fld f n = 1 := by
  rw [State.set1, State.fld_setFld, Nat.mod_eq_of_lt (Nat.one_lt_two_pow (by omega))]

@[simp] theorem State.when_true (k : State → State) : s.when true k = k s := rfl

@[simp] theorem State.when_false (k : State → State) : s.when false k = s := rfl

/-- Any actor but controller 13 leaves DEBUG_USED alone (R225). -/
theorem State.debugNote_ne {a : Actor} (h : a ≠ .ctrl 13) : s.debugNote a = s := by simp [State.debugNote, h]

/-- A permitted write is carried out (R225). -/
theorem State.gate_may {a : Actor} {b : Blk} (k : State → State) (h : s.mayWrite a b = true) :
    s.gate a b k = k (s.debugNote a) := by
  simp [State.gate, h]

/-- With no retirement left to act on, settling changes nothing. -/
theorem State.settle_nil (h : s.fm.todo = []) : s.settle = s := by
  have one : ∀ t : State, t.fm.todo = [] → t.settleOnce = t := by
    intro t ht
    obtain ⟨_, _, _, _, _, _, _, _, _, _, _, _, _, _, _, _, _, _, _, _, _, _, _, _, _, _, _, fm, _⟩ := t
    obtain ⟨_, _, _, _, _, _⟩ := fm
    cases ht
    rfl
  rw [State.settle, one s h, one s h]

end

/-! ### One field under one update -/

section
variable {s : State} {f g : Fld} {n d v : Nat} {o : Out} {q : Seqr} {x : RgSt} {c : TmSt} {l : List FaultRec} {h : HoSt}
  {e : EthSt} {i : ItlSt} {m : McSt} {p : PoSt} {r : RcSt} {b : RefSt} {u : UartSt} {j : OpllSt} {k : CkoSt} {t : TsSt}
  {w : TwSt}

/-! #### setFld -/

@[simp] theorem State.setFld_shadows : (s.setFld f n v).shadows = s.shadows := rfl
@[simp] theorem State.setFld_due : (s.setFld f n v).due = s.due := rfl
@[simp] theorem State.setFld_held : (s.setFld f n v).held = s.held := rfl
@[simp] theorem State.setFld_snaps : (s.setFld f n v).snaps = s.snaps := rfl
@[simp] theorem State.setFld_ti : (s.setFld f n v).ti = s.ti := rfl
@[simp] theorem State.setFld_po : (s.setFld f n v).po = s.po := rfl
@[simp] theorem State.setFld_tm : (s.setFld f n v).tm = s.tm := rfl
@[simp] theorem State.setFld_tmb : (s.setFld f n v).tmb = s.tmb := rfl
@[simp] theorem State.setFld_sy : (s.setFld f n v).sy = s.sy := rfl
@[simp] theorem State.setFld_opll : (s.setFld f n v).opll = s.opll := rfl
@[simp] theorem State.setFld_cko : (s.setFld f n v).cko = s.cko := rfl
@[simp] theorem State.setFld_seqs : (s.setFld f n v).seqs = s.seqs := rfl
@[simp] theorem State.setFld_semRef : (s.setFld f n v).semRef = s.semRef := rfl
@[simp] theorem State.setFld_uart : (s.setFld f n v).uart = s.uart := rfl
@[simp] theorem State.setFld_ho : (s.setFld f n v).ho = s.ho := rfl
@[simp] theorem State.setFld_rs : (s.setFld f n v).rs = s.rs := rfl
@[simp] theorem State.setFld_refs : (s.setFld f n v).refs = s.refs := rfl
@[simp] theorem State.setFld_bt : (s.setFld f n v).bt = s.bt := rfl
@[simp] theorem State.setFld_ks : (s.setFld f n v).ks = s.ks := rfl
@[simp] theorem State.setFld_eth : (s.setFld f n v).eth = s.eth := rfl
@[simp] theorem State.setFld_itl : (s.setFld f n v).itl = s.itl := rfl
@[simp] theorem State.setFld_mc : (s.setFld f n v).mc = s.mc := rfl
@[simp] theorem State.setFld_ts : (s.setFld f n v).ts = s.ts := rfl
@[simp] theorem State.setFld_rc : (s.setFld f n v).rc = s.rc := rfl
@[simp] theorem State.setFld_tw : (s.setFld f n v).tw = s.tw := rfl
@[simp] theorem State.setFld_brd : (s.setFld f n v).brd = s.brd := rfl
@[simp] theorem State.setFld_fm : (s.setFld f n v).fm = s.fm := rfl
@[simp] theorem State.setFld_pe : (s.setFld f n v).pe = s.pe := rfl
@[simp] theorem State.setFld_rg : (s.setFld f n v).rg = s.rg := rfl
@[simp] theorem State.setFld_mem : (s.setFld f n v).mem = s.mem := rfl
@[simp] theorem State.setFld_hostMem : (s.setFld f n v).hostMem = s.hostMem := rfl
@[simp] theorem State.setFld_poison : (s.setFld f n v).poison = s.poison := rfl
@[simp] theorem State.setFld_waits : (s.setFld f n v).waits = s.waits := rfl
@[simp] theorem State.setFld_evc : (s.setFld f n v).evc = s.evc := rfl
@[simp] theorem State.setFld_freeCtr : (s.setFld f n v).freeCtr = s.freeCtr := rfl
@[simp] theorem State.setFld_out : (s.setFld f n v).out = s.out := rfl
@[simp] theorem State.setFld_pending : (s.setFld f n v).pending = s.pending := rfl

/-! #### emit -/

@[simp] theorem State.emit_regs : (s.emit o).regs = s.regs := rfl
@[simp] theorem State.emit_shadows : (s.emit o).shadows = s.shadows := rfl
@[simp] theorem State.emit_due : (s.emit o).due = s.due := rfl
@[simp] theorem State.emit_held : (s.emit o).held = s.held := rfl
@[simp] theorem State.emit_snaps : (s.emit o).snaps = s.snaps := rfl
@[simp] theorem State.emit_ti : (s.emit o).ti = s.ti := rfl
@[simp] theorem State.emit_po : (s.emit o).po = s.po := rfl
@[simp] theorem State.emit_tm : (s.emit o).tm = s.tm := rfl
@[simp] theorem State.emit_tmb : (s.emit o).tmb = s.tmb := rfl
@[simp] theorem State.emit_sy : (s.emit o).sy = s.sy := rfl
@[simp] theorem State.emit_opll : (s.emit o).opll = s.opll := rfl
@[simp] theorem State.emit_cko : (s.emit o).cko = s.cko := rfl
@[simp] theorem State.emit_seqs : (s.emit o).seqs = s.seqs := rfl
@[simp] theorem State.emit_semRef : (s.emit o).semRef = s.semRef := rfl
@[simp] theorem State.emit_uart : (s.emit o).uart = s.uart := rfl
@[simp] theorem State.emit_ho : (s.emit o).ho = s.ho := rfl
@[simp] theorem State.emit_rs : (s.emit o).rs = s.rs := rfl
@[simp] theorem State.emit_refs : (s.emit o).refs = s.refs := rfl
@[simp] theorem State.emit_bt : (s.emit o).bt = s.bt := rfl
@[simp] theorem State.emit_ks : (s.emit o).ks = s.ks := rfl
@[simp] theorem State.emit_eth : (s.emit o).eth = s.eth := rfl
@[simp] theorem State.emit_itl : (s.emit o).itl = s.itl := rfl
@[simp] theorem State.emit_mc : (s.emit o).mc = s.mc := rfl
@[simp] theorem State.emit_ts : (s.emit o).ts = s.ts := rfl
@[simp] theorem State.emit_rc : (s.emit o).rc = s.rc := rfl
@[simp] theorem State.emit_tw : (s.emit o).tw = s.tw := rfl
@[simp] theorem State.emit_brd : (s.emit o).brd = s.brd := rfl
@[simp] theorem State.emit_fm : (s.emit o).fm = s.fm := rfl
@[simp] theorem State.emit_pe : (s.emit o).pe = s.pe := rfl
@[simp] theorem State.emit_rg : (s.emit o).rg = s.rg := rfl
@[simp] theorem State.emit_mem : (s.emit o).mem = s.mem := rfl
@[simp] theorem State.emit_hostMem : (s.emit o).hostMem = s.hostMem := rfl
@[simp] theorem State.emit_poison : (s.emit o).poison = s.poison := rfl
@[simp] theorem State.emit_waits : (s.emit o).waits = s.waits := rfl
@[simp] theorem State.emit_evc : (s.emit o).evc = s.evc := rfl
@[simp] theorem State.emit_freeCtr : (s.emit o).freeCtr = s.freeCtr := rfl
@[simp] theorem State.emit_tk : (s.emit o).tk = s.tk := rfl
@[simp] theorem State.emit_pending : (s.emit o).pending = s.pending := rfl
@[simp] theorem State.emit_fld : (s.emit o).fld g d = s.fld g d := rfl

/-! #### free -/

@[simp] theorem State.free_regs : (s.free.2).regs = s.regs := rfl
@[simp] theorem State.free_shadows : (s.free.2).shadows = s.shadows := rfl
@[simp] theorem State.free_due : (s.free.2).due = s.due := rfl
@[simp] theorem State.free_held : (s.free.2).held = s.held := rfl
@[simp] theorem State.free_snaps : (s.free.2).snaps = s.snaps := rfl
@[simp] theorem State.free_ti : (s.free.2).ti = s.ti := rfl
@[simp] theorem State.free_po : (s.free.2).po = s.po := rfl
@[simp] theorem State.free_tm : (s.free.2).tm = s.tm := rfl
@[simp] theorem State.free_tmb : (s.free.2).tmb = s.tmb := rfl
@[simp] theorem State.free_sy : (s.free.2).sy = s.sy := rfl
@[simp] theorem State.free_opll : (s.free.2).opll = s.opll := rfl
@[simp] theorem State.free_cko : (s.free.2).cko = s.cko := rfl
@[simp] theorem State.free_seqs : (s.free.2).seqs = s.seqs := rfl
@[simp] theorem State.free_semRef : (s.free.2).semRef = s.semRef := rfl
@[simp] theorem State.free_uart : (s.free.2).uart = s.uart := rfl
@[simp] theorem State.free_ho : (s.free.2).ho = s.ho := rfl
@[simp] theorem State.free_rs : (s.free.2).rs = s.rs := rfl
@[simp] theorem State.free_refs : (s.free.2).refs = s.refs := rfl
@[simp] theorem State.free_bt : (s.free.2).bt = s.bt := rfl
@[simp] theorem State.free_ks : (s.free.2).ks = s.ks := rfl
@[simp] theorem State.free_eth : (s.free.2).eth = s.eth := rfl
@[simp] theorem State.free_itl : (s.free.2).itl = s.itl := rfl
@[simp] theorem State.free_mc : (s.free.2).mc = s.mc := rfl
@[simp] theorem State.free_ts : (s.free.2).ts = s.ts := rfl
@[simp] theorem State.free_rc : (s.free.2).rc = s.rc := rfl
@[simp] theorem State.free_tw : (s.free.2).tw = s.tw := rfl
@[simp] theorem State.free_brd : (s.free.2).brd = s.brd := rfl
@[simp] theorem State.free_fm : (s.free.2).fm = s.fm := rfl
@[simp] theorem State.free_pe : (s.free.2).pe = s.pe := rfl
@[simp] theorem State.free_rg : (s.free.2).rg = s.rg := rfl
@[simp] theorem State.free_mem : (s.free.2).mem = s.mem := rfl
@[simp] theorem State.free_hostMem : (s.free.2).hostMem = s.hostMem := rfl
@[simp] theorem State.free_poison : (s.free.2).poison = s.poison := rfl
@[simp] theorem State.free_waits : (s.free.2).waits = s.waits := rfl
@[simp] theorem State.free_evc : (s.free.2).evc = s.evc := rfl
@[simp] theorem State.free_tk : (s.free.2).tk = s.tk := rfl
@[simp] theorem State.free_out : (s.free.2).out = s.out := rfl
@[simp] theorem State.free_pending : (s.free.2).pending = s.pending := rfl
@[simp] theorem State.free_fld : (s.free.2).fld g d = s.fld g d := rfl

/-! #### occur -/

@[simp] theorem State.occur_regs : (s.occur n).regs = s.regs := rfl
@[simp] theorem State.occur_shadows : (s.occur n).shadows = s.shadows := rfl
@[simp] theorem State.occur_due : (s.occur n).due = s.due := rfl
@[simp] theorem State.occur_held : (s.occur n).held = s.held := rfl
@[simp] theorem State.occur_snaps : (s.occur n).snaps = s.snaps := rfl
@[simp] theorem State.occur_ti : (s.occur n).ti = s.ti := rfl
@[simp] theorem State.occur_po : (s.occur n).po = s.po := rfl
@[simp] theorem State.occur_tm : (s.occur n).tm = s.tm := rfl
@[simp] theorem State.occur_tmb : (s.occur n).tmb = s.tmb := rfl
@[simp] theorem State.occur_sy : (s.occur n).sy = s.sy := rfl
@[simp] theorem State.occur_opll : (s.occur n).opll = s.opll := rfl
@[simp] theorem State.occur_cko : (s.occur n).cko = s.cko := rfl
@[simp] theorem State.occur_seqs : (s.occur n).seqs = s.seqs := rfl
@[simp] theorem State.occur_semRef : (s.occur n).semRef = s.semRef := rfl
@[simp] theorem State.occur_uart : (s.occur n).uart = s.uart := rfl
@[simp] theorem State.occur_ho : (s.occur n).ho = s.ho := rfl
@[simp] theorem State.occur_rs : (s.occur n).rs = s.rs := rfl
@[simp] theorem State.occur_refs : (s.occur n).refs = s.refs := rfl
@[simp] theorem State.occur_bt : (s.occur n).bt = s.bt := rfl
@[simp] theorem State.occur_ks : (s.occur n).ks = s.ks := rfl
@[simp] theorem State.occur_eth : (s.occur n).eth = s.eth := rfl
@[simp] theorem State.occur_itl : (s.occur n).itl = s.itl := rfl
@[simp] theorem State.occur_mc : (s.occur n).mc = s.mc := rfl
@[simp] theorem State.occur_ts : (s.occur n).ts = s.ts := rfl
@[simp] theorem State.occur_rc : (s.occur n).rc = s.rc := rfl
@[simp] theorem State.occur_tw : (s.occur n).tw = s.tw := rfl
@[simp] theorem State.occur_brd : (s.occur n).brd = s.brd := rfl
@[simp] theorem State.occur_fm : (s.occur n).fm = s.fm := rfl
@[simp] theorem State.occur_pe : (s.occur n).pe = s.pe := rfl
@[simp] theorem State.occur_rg : (s.occur n).rg = s.rg := rfl
@[simp] theorem State.occur_mem : (s.occur n).mem = s.mem := rfl
@[simp] theorem State.occur_hostMem : (s.occur n).hostMem = s.hostMem := rfl
@[simp] theorem State.occur_poison : (s.occur n).poison = s.poison := rfl
@[simp] theorem State.occur_waits : (s.occur n).waits = s.waits := rfl
@[simp] theorem State.occur_freeCtr : (s.occur n).freeCtr = s.freeCtr := rfl
@[simp] theorem State.occur_tk : (s.occur n).tk = s.tk := rfl
@[simp] theorem State.occur_out : (s.occur n).out = s.out := rfl
@[simp] theorem State.occur_pending : (s.occur n).pending = s.pending := rfl
@[simp] theorem State.occur_fld : (s.occur n).fld g d = s.fld g d := rfl

/-! #### setShadow -/

@[simp] theorem State.setShadow_regs : (s.setShadow f n v).regs = s.regs := rfl
@[simp] theorem State.setShadow_due : (s.setShadow f n v).due = s.due := rfl
@[simp] theorem State.setShadow_held : (s.setShadow f n v).held = s.held := rfl
@[simp] theorem State.setShadow_snaps : (s.setShadow f n v).snaps = s.snaps := rfl
@[simp] theorem State.setShadow_ti : (s.setShadow f n v).ti = s.ti := rfl
@[simp] theorem State.setShadow_po : (s.setShadow f n v).po = s.po := rfl
@[simp] theorem State.setShadow_tm : (s.setShadow f n v).tm = s.tm := rfl
@[simp] theorem State.setShadow_tmb : (s.setShadow f n v).tmb = s.tmb := rfl
@[simp] theorem State.setShadow_sy : (s.setShadow f n v).sy = s.sy := rfl
@[simp] theorem State.setShadow_opll : (s.setShadow f n v).opll = s.opll := rfl
@[simp] theorem State.setShadow_cko : (s.setShadow f n v).cko = s.cko := rfl
@[simp] theorem State.setShadow_seqs : (s.setShadow f n v).seqs = s.seqs := rfl
@[simp] theorem State.setShadow_semRef : (s.setShadow f n v).semRef = s.semRef := rfl
@[simp] theorem State.setShadow_uart : (s.setShadow f n v).uart = s.uart := rfl
@[simp] theorem State.setShadow_ho : (s.setShadow f n v).ho = s.ho := rfl
@[simp] theorem State.setShadow_rs : (s.setShadow f n v).rs = s.rs := rfl
@[simp] theorem State.setShadow_refs : (s.setShadow f n v).refs = s.refs := rfl
@[simp] theorem State.setShadow_bt : (s.setShadow f n v).bt = s.bt := rfl
@[simp] theorem State.setShadow_ks : (s.setShadow f n v).ks = s.ks := rfl
@[simp] theorem State.setShadow_eth : (s.setShadow f n v).eth = s.eth := rfl
@[simp] theorem State.setShadow_itl : (s.setShadow f n v).itl = s.itl := rfl
@[simp] theorem State.setShadow_mc : (s.setShadow f n v).mc = s.mc := rfl
@[simp] theorem State.setShadow_ts : (s.setShadow f n v).ts = s.ts := rfl
@[simp] theorem State.setShadow_rc : (s.setShadow f n v).rc = s.rc := rfl
@[simp] theorem State.setShadow_tw : (s.setShadow f n v).tw = s.tw := rfl
@[simp] theorem State.setShadow_brd : (s.setShadow f n v).brd = s.brd := rfl
@[simp] theorem State.setShadow_fm : (s.setShadow f n v).fm = s.fm := rfl
@[simp] theorem State.setShadow_pe : (s.setShadow f n v).pe = s.pe := rfl
@[simp] theorem State.setShadow_rg : (s.setShadow f n v).rg = s.rg := rfl
@[simp] theorem State.setShadow_mem : (s.setShadow f n v).mem = s.mem := rfl
@[simp] theorem State.setShadow_hostMem : (s.setShadow f n v).hostMem = s.hostMem := rfl
@[simp] theorem State.setShadow_poison : (s.setShadow f n v).poison = s.poison := rfl
@[simp] theorem State.setShadow_waits : (s.setShadow f n v).waits = s.waits := rfl
@[simp] theorem State.setShadow_evc : (s.setShadow f n v).evc = s.evc := rfl
@[simp] theorem State.setShadow_freeCtr : (s.setShadow f n v).freeCtr = s.freeCtr := rfl
@[simp] theorem State.setShadow_tk : (s.setShadow f n v).tk = s.tk := rfl
@[simp] theorem State.setShadow_out : (s.setShadow f n v).out = s.out := rfl
@[simp] theorem State.setShadow_pending : (s.setShadow f n v).pending = s.pending := rfl
@[simp] theorem State.setShadow_fld : (s.setShadow f n v).fld g d = s.fld g d := rfl

/-! #### dropShadow -/

@[simp] theorem State.dropShadow_regs : (s.dropShadow f n).regs = s.regs := rfl
@[simp] theorem State.dropShadow_due : (s.dropShadow f n).due = s.due := rfl
@[simp] theorem State.dropShadow_held : (s.dropShadow f n).held = s.held := rfl
@[simp] theorem State.dropShadow_snaps : (s.dropShadow f n).snaps = s.snaps := rfl
@[simp] theorem State.dropShadow_ti : (s.dropShadow f n).ti = s.ti := rfl
@[simp] theorem State.dropShadow_po : (s.dropShadow f n).po = s.po := rfl
@[simp] theorem State.dropShadow_tm : (s.dropShadow f n).tm = s.tm := rfl
@[simp] theorem State.dropShadow_tmb : (s.dropShadow f n).tmb = s.tmb := rfl
@[simp] theorem State.dropShadow_sy : (s.dropShadow f n).sy = s.sy := rfl
@[simp] theorem State.dropShadow_opll : (s.dropShadow f n).opll = s.opll := rfl
@[simp] theorem State.dropShadow_cko : (s.dropShadow f n).cko = s.cko := rfl
@[simp] theorem State.dropShadow_seqs : (s.dropShadow f n).seqs = s.seqs := rfl
@[simp] theorem State.dropShadow_semRef : (s.dropShadow f n).semRef = s.semRef := rfl
@[simp] theorem State.dropShadow_uart : (s.dropShadow f n).uart = s.uart := rfl
@[simp] theorem State.dropShadow_ho : (s.dropShadow f n).ho = s.ho := rfl
@[simp] theorem State.dropShadow_rs : (s.dropShadow f n).rs = s.rs := rfl
@[simp] theorem State.dropShadow_refs : (s.dropShadow f n).refs = s.refs := rfl
@[simp] theorem State.dropShadow_bt : (s.dropShadow f n).bt = s.bt := rfl
@[simp] theorem State.dropShadow_ks : (s.dropShadow f n).ks = s.ks := rfl
@[simp] theorem State.dropShadow_eth : (s.dropShadow f n).eth = s.eth := rfl
@[simp] theorem State.dropShadow_itl : (s.dropShadow f n).itl = s.itl := rfl
@[simp] theorem State.dropShadow_mc : (s.dropShadow f n).mc = s.mc := rfl
@[simp] theorem State.dropShadow_ts : (s.dropShadow f n).ts = s.ts := rfl
@[simp] theorem State.dropShadow_rc : (s.dropShadow f n).rc = s.rc := rfl
@[simp] theorem State.dropShadow_tw : (s.dropShadow f n).tw = s.tw := rfl
@[simp] theorem State.dropShadow_brd : (s.dropShadow f n).brd = s.brd := rfl
@[simp] theorem State.dropShadow_fm : (s.dropShadow f n).fm = s.fm := rfl
@[simp] theorem State.dropShadow_pe : (s.dropShadow f n).pe = s.pe := rfl
@[simp] theorem State.dropShadow_rg : (s.dropShadow f n).rg = s.rg := rfl
@[simp] theorem State.dropShadow_mem : (s.dropShadow f n).mem = s.mem := rfl
@[simp] theorem State.dropShadow_hostMem : (s.dropShadow f n).hostMem = s.hostMem := rfl
@[simp] theorem State.dropShadow_poison : (s.dropShadow f n).poison = s.poison := rfl
@[simp] theorem State.dropShadow_waits : (s.dropShadow f n).waits = s.waits := rfl
@[simp] theorem State.dropShadow_evc : (s.dropShadow f n).evc = s.evc := rfl
@[simp] theorem State.dropShadow_freeCtr : (s.dropShadow f n).freeCtr = s.freeCtr := rfl
@[simp] theorem State.dropShadow_tk : (s.dropShadow f n).tk = s.tk := rfl
@[simp] theorem State.dropShadow_out : (s.dropShadow f n).out = s.out := rfl
@[simp] theorem State.dropShadow_pending : (s.dropShadow f n).pending = s.pending := rfl
@[simp] theorem State.dropShadow_fld : (s.dropShadow f n).fld g d = s.fld g d := rfl

/-! #### setSeq -/

@[simp] theorem State.setSeq_regs : (s.setSeq n q).regs = s.regs := rfl
@[simp] theorem State.setSeq_shadows : (s.setSeq n q).shadows = s.shadows := rfl
@[simp] theorem State.setSeq_due : (s.setSeq n q).due = s.due := rfl
@[simp] theorem State.setSeq_held : (s.setSeq n q).held = s.held := rfl
@[simp] theorem State.setSeq_snaps : (s.setSeq n q).snaps = s.snaps := rfl
@[simp] theorem State.setSeq_ti : (s.setSeq n q).ti = s.ti := rfl
@[simp] theorem State.setSeq_po : (s.setSeq n q).po = s.po := rfl
@[simp] theorem State.setSeq_tm : (s.setSeq n q).tm = s.tm := rfl
@[simp] theorem State.setSeq_tmb : (s.setSeq n q).tmb = s.tmb := rfl
@[simp] theorem State.setSeq_sy : (s.setSeq n q).sy = s.sy := rfl
@[simp] theorem State.setSeq_opll : (s.setSeq n q).opll = s.opll := rfl
@[simp] theorem State.setSeq_cko : (s.setSeq n q).cko = s.cko := rfl
@[simp] theorem State.setSeq_semRef : (s.setSeq n q).semRef = s.semRef := rfl
@[simp] theorem State.setSeq_uart : (s.setSeq n q).uart = s.uart := rfl
@[simp] theorem State.setSeq_ho : (s.setSeq n q).ho = s.ho := rfl
@[simp] theorem State.setSeq_rs : (s.setSeq n q).rs = s.rs := rfl
@[simp] theorem State.setSeq_refs : (s.setSeq n q).refs = s.refs := rfl
@[simp] theorem State.setSeq_bt : (s.setSeq n q).bt = s.bt := rfl
@[simp] theorem State.setSeq_ks : (s.setSeq n q).ks = s.ks := rfl
@[simp] theorem State.setSeq_eth : (s.setSeq n q).eth = s.eth := rfl
@[simp] theorem State.setSeq_itl : (s.setSeq n q).itl = s.itl := rfl
@[simp] theorem State.setSeq_mc : (s.setSeq n q).mc = s.mc := rfl
@[simp] theorem State.setSeq_ts : (s.setSeq n q).ts = s.ts := rfl
@[simp] theorem State.setSeq_rc : (s.setSeq n q).rc = s.rc := rfl
@[simp] theorem State.setSeq_tw : (s.setSeq n q).tw = s.tw := rfl
@[simp] theorem State.setSeq_brd : (s.setSeq n q).brd = s.brd := rfl
@[simp] theorem State.setSeq_fm : (s.setSeq n q).fm = s.fm := rfl
@[simp] theorem State.setSeq_pe : (s.setSeq n q).pe = s.pe := rfl
@[simp] theorem State.setSeq_rg : (s.setSeq n q).rg = s.rg := rfl
@[simp] theorem State.setSeq_mem : (s.setSeq n q).mem = s.mem := rfl
@[simp] theorem State.setSeq_hostMem : (s.setSeq n q).hostMem = s.hostMem := rfl
@[simp] theorem State.setSeq_poison : (s.setSeq n q).poison = s.poison := rfl
@[simp] theorem State.setSeq_waits : (s.setSeq n q).waits = s.waits := rfl
@[simp] theorem State.setSeq_evc : (s.setSeq n q).evc = s.evc := rfl
@[simp] theorem State.setSeq_freeCtr : (s.setSeq n q).freeCtr = s.freeCtr := rfl
@[simp] theorem State.setSeq_tk : (s.setSeq n q).tk = s.tk := rfl
@[simp] theorem State.setSeq_out : (s.setSeq n q).out = s.out := rfl
@[simp] theorem State.setSeq_pending : (s.setSeq n q).pending = s.pending := rfl
@[simp] theorem State.setSeq_fld : (s.setSeq n q).fld g d = s.fld g d := rfl

/-! #### setRing -/

@[simp] theorem State.setRing_regs : (s.setRing n x).regs = s.regs := rfl
@[simp] theorem State.setRing_shadows : (s.setRing n x).shadows = s.shadows := rfl
@[simp] theorem State.setRing_due : (s.setRing n x).due = s.due := rfl
@[simp] theorem State.setRing_held : (s.setRing n x).held = s.held := rfl
@[simp] theorem State.setRing_snaps : (s.setRing n x).snaps = s.snaps := rfl
@[simp] theorem State.setRing_ti : (s.setRing n x).ti = s.ti := rfl
@[simp] theorem State.setRing_po : (s.setRing n x).po = s.po := rfl
@[simp] theorem State.setRing_tm : (s.setRing n x).tm = s.tm := rfl
@[simp] theorem State.setRing_tmb : (s.setRing n x).tmb = s.tmb := rfl
@[simp] theorem State.setRing_sy : (s.setRing n x).sy = s.sy := rfl
@[simp] theorem State.setRing_opll : (s.setRing n x).opll = s.opll := rfl
@[simp] theorem State.setRing_cko : (s.setRing n x).cko = s.cko := rfl
@[simp] theorem State.setRing_seqs : (s.setRing n x).seqs = s.seqs := rfl
@[simp] theorem State.setRing_semRef : (s.setRing n x).semRef = s.semRef := rfl
@[simp] theorem State.setRing_uart : (s.setRing n x).uart = s.uart := rfl
@[simp] theorem State.setRing_ho : (s.setRing n x).ho = s.ho := rfl
@[simp] theorem State.setRing_rs : (s.setRing n x).rs = s.rs := rfl
@[simp] theorem State.setRing_refs : (s.setRing n x).refs = s.refs := rfl
@[simp] theorem State.setRing_bt : (s.setRing n x).bt = s.bt := rfl
@[simp] theorem State.setRing_ks : (s.setRing n x).ks = s.ks := rfl
@[simp] theorem State.setRing_eth : (s.setRing n x).eth = s.eth := rfl
@[simp] theorem State.setRing_itl : (s.setRing n x).itl = s.itl := rfl
@[simp] theorem State.setRing_mc : (s.setRing n x).mc = s.mc := rfl
@[simp] theorem State.setRing_ts : (s.setRing n x).ts = s.ts := rfl
@[simp] theorem State.setRing_rc : (s.setRing n x).rc = s.rc := rfl
@[simp] theorem State.setRing_tw : (s.setRing n x).tw = s.tw := rfl
@[simp] theorem State.setRing_brd : (s.setRing n x).brd = s.brd := rfl
@[simp] theorem State.setRing_fm : (s.setRing n x).fm = s.fm := rfl
@[simp] theorem State.setRing_pe : (s.setRing n x).pe = s.pe := rfl
@[simp] theorem State.setRing_mem : (s.setRing n x).mem = s.mem := rfl
@[simp] theorem State.setRing_hostMem : (s.setRing n x).hostMem = s.hostMem := rfl
@[simp] theorem State.setRing_poison : (s.setRing n x).poison = s.poison := rfl
@[simp] theorem State.setRing_waits : (s.setRing n x).waits = s.waits := rfl
@[simp] theorem State.setRing_evc : (s.setRing n x).evc = s.evc := rfl
@[simp] theorem State.setRing_freeCtr : (s.setRing n x).freeCtr = s.freeCtr := rfl
@[simp] theorem State.setRing_tk : (s.setRing n x).tk = s.tk := rfl
@[simp] theorem State.setRing_out : (s.setRing n x).out = s.out := rfl
@[simp] theorem State.setRing_pending : (s.setRing n x).pending = s.pending := rfl
@[simp] theorem State.setRing_fld : (s.setRing n x).fld g d = s.fld g d := rfl

/-! #### setTdc -/

@[simp] theorem State.setTdc_regs : (s.setTdc n c).regs = s.regs := rfl
@[simp] theorem State.setTdc_shadows : (s.setTdc n c).shadows = s.shadows := rfl
@[simp] theorem State.setTdc_due : (s.setTdc n c).due = s.due := rfl
@[simp] theorem State.setTdc_held : (s.setTdc n c).held = s.held := rfl
@[simp] theorem State.setTdc_snaps : (s.setTdc n c).snaps = s.snaps := rfl
@[simp] theorem State.setTdc_ti : (s.setTdc n c).ti = s.ti := rfl
@[simp] theorem State.setTdc_po : (s.setTdc n c).po = s.po := rfl
@[simp] theorem State.setTdc_tmb : (s.setTdc n c).tmb = s.tmb := rfl
@[simp] theorem State.setTdc_sy : (s.setTdc n c).sy = s.sy := rfl
@[simp] theorem State.setTdc_opll : (s.setTdc n c).opll = s.opll := rfl
@[simp] theorem State.setTdc_cko : (s.setTdc n c).cko = s.cko := rfl
@[simp] theorem State.setTdc_seqs : (s.setTdc n c).seqs = s.seqs := rfl
@[simp] theorem State.setTdc_semRef : (s.setTdc n c).semRef = s.semRef := rfl
@[simp] theorem State.setTdc_uart : (s.setTdc n c).uart = s.uart := rfl
@[simp] theorem State.setTdc_ho : (s.setTdc n c).ho = s.ho := rfl
@[simp] theorem State.setTdc_rs : (s.setTdc n c).rs = s.rs := rfl
@[simp] theorem State.setTdc_refs : (s.setTdc n c).refs = s.refs := rfl
@[simp] theorem State.setTdc_bt : (s.setTdc n c).bt = s.bt := rfl
@[simp] theorem State.setTdc_ks : (s.setTdc n c).ks = s.ks := rfl
@[simp] theorem State.setTdc_eth : (s.setTdc n c).eth = s.eth := rfl
@[simp] theorem State.setTdc_itl : (s.setTdc n c).itl = s.itl := rfl
@[simp] theorem State.setTdc_mc : (s.setTdc n c).mc = s.mc := rfl
@[simp] theorem State.setTdc_ts : (s.setTdc n c).ts = s.ts := rfl
@[simp] theorem State.setTdc_rc : (s.setTdc n c).rc = s.rc := rfl
@[simp] theorem State.setTdc_tw : (s.setTdc n c).tw = s.tw := rfl
@[simp] theorem State.setTdc_brd : (s.setTdc n c).brd = s.brd := rfl
@[simp] theorem State.setTdc_fm : (s.setTdc n c).fm = s.fm := rfl
@[simp] theorem State.setTdc_pe : (s.setTdc n c).pe = s.pe := rfl
@[simp] theorem State.setTdc_rg : (s.setTdc n c).rg = s.rg := rfl
@[simp] theorem State.setTdc_mem : (s.setTdc n c).mem = s.mem := rfl
@[simp] theorem State.setTdc_hostMem : (s.setTdc n c).hostMem = s.hostMem := rfl
@[simp] theorem State.setTdc_poison : (s.setTdc n c).poison = s.poison := rfl
@[simp] theorem State.setTdc_waits : (s.setTdc n c).waits = s.waits := rfl
@[simp] theorem State.setTdc_evc : (s.setTdc n c).evc = s.evc := rfl
@[simp] theorem State.setTdc_freeCtr : (s.setTdc n c).freeCtr = s.freeCtr := rfl
@[simp] theorem State.setTdc_tk : (s.setTdc n c).tk = s.tk := rfl
@[simp] theorem State.setTdc_out : (s.setTdc n c).out = s.out := rfl
@[simp] theorem State.setTdc_pending : (s.setTdc n c).pending = s.pending := rfl
@[simp] theorem State.setTdc_fld : (s.setTdc n c).fld g d = s.fld g d := rfl

/-! #### setQueue -/

@[simp] theorem State.setQueue_regs : (s.setQueue l).regs = s.regs := rfl
@[simp] theorem State.setQueue_shadows : (s.setQueue l).shadows = s.shadows := rfl
@[simp] theorem State.setQueue_due : (s.setQueue l).due = s.due := rfl
@[simp] theorem State.setQueue_held : (s.setQueue l).held = s.held := rfl
@[simp] theorem State.setQueue_snaps : (s.setQueue l).snaps = s.snaps := rfl
@[simp] theorem State.setQueue_ti : (s.setQueue l).ti = s.ti := rfl
@[simp] theorem State.setQueue_po : (s.setQueue l).po = s.po := rfl
@[simp] theorem State.setQueue_tm : (s.setQueue l).tm = s.tm := rfl
@[simp] theorem State.setQueue_tmb : (s.setQueue l).tmb = s.tmb := rfl
@[simp] theorem State.setQueue_sy : (s.setQueue l).sy = s.sy := rfl
@[simp] theorem State.setQueue_opll : (s.setQueue l).opll = s.opll := rfl
@[simp] theorem State.setQueue_cko : (s.setQueue l).cko = s.cko := rfl
@[simp] theorem State.setQueue_seqs : (s.setQueue l).seqs = s.seqs := rfl
@[simp] theorem State.setQueue_semRef : (s.setQueue l).semRef = s.semRef := rfl
@[simp] theorem State.setQueue_uart : (s.setQueue l).uart = s.uart := rfl
@[simp] theorem State.setQueue_ho : (s.setQueue l).ho = s.ho := rfl
@[simp] theorem State.setQueue_rs : (s.setQueue l).rs = s.rs := rfl
@[simp] theorem State.setQueue_refs : (s.setQueue l).refs = s.refs := rfl
@[simp] theorem State.setQueue_bt : (s.setQueue l).bt = s.bt := rfl
@[simp] theorem State.setQueue_ks : (s.setQueue l).ks = s.ks := rfl
@[simp] theorem State.setQueue_eth : (s.setQueue l).eth = s.eth := rfl
@[simp] theorem State.setQueue_itl : (s.setQueue l).itl = s.itl := rfl
@[simp] theorem State.setQueue_mc : (s.setQueue l).mc = s.mc := rfl
@[simp] theorem State.setQueue_ts : (s.setQueue l).ts = s.ts := rfl
@[simp] theorem State.setQueue_rc : (s.setQueue l).rc = s.rc := rfl
@[simp] theorem State.setQueue_tw : (s.setQueue l).tw = s.tw := rfl
@[simp] theorem State.setQueue_brd : (s.setQueue l).brd = s.brd := rfl
@[simp] theorem State.setQueue_pe : (s.setQueue l).pe = s.pe := rfl
@[simp] theorem State.setQueue_rg : (s.setQueue l).rg = s.rg := rfl
@[simp] theorem State.setQueue_mem : (s.setQueue l).mem = s.mem := rfl
@[simp] theorem State.setQueue_hostMem : (s.setQueue l).hostMem = s.hostMem := rfl
@[simp] theorem State.setQueue_poison : (s.setQueue l).poison = s.poison := rfl
@[simp] theorem State.setQueue_waits : (s.setQueue l).waits = s.waits := rfl
@[simp] theorem State.setQueue_evc : (s.setQueue l).evc = s.evc := rfl
@[simp] theorem State.setQueue_freeCtr : (s.setQueue l).freeCtr = s.freeCtr := rfl
@[simp] theorem State.setQueue_tk : (s.setQueue l).tk = s.tk := rfl
@[simp] theorem State.setQueue_out : (s.setQueue l).out = s.out := rfl
@[simp] theorem State.setQueue_pending : (s.setQueue l).pending = s.pending := rfl
@[simp] theorem State.setQueue_fld : (s.setQueue l).fld g d = s.fld g d := rfl

/-! #### setHo -/

@[simp] theorem State.setHo_regs : (s.setHo h).regs = s.regs := rfl
@[simp] theorem State.setHo_shadows : (s.setHo h).shadows = s.shadows := rfl
@[simp] theorem State.setHo_due : (s.setHo h).due = s.due := rfl
@[simp] theorem State.setHo_held : (s.setHo h).held = s.held := rfl
@[simp] theorem State.setHo_snaps : (s.setHo h).snaps = s.snaps := rfl
@[simp] theorem State.setHo_ti : (s.setHo h).ti = s.ti := rfl
@[simp] theorem State.setHo_po : (s.setHo h).po = s.po := rfl
@[simp] theorem State.setHo_tm : (s.setHo h).tm = s.tm := rfl
@[simp] theorem State.setHo_tmb : (s.setHo h).tmb = s.tmb := rfl
@[simp] theorem State.setHo_sy : (s.setHo h).sy = s.sy := rfl
@[simp] theorem State.setHo_opll : (s.setHo h).opll = s.opll := rfl
@[simp] theorem State.setHo_cko : (s.setHo h).cko = s.cko := rfl
@[simp] theorem State.setHo_seqs : (s.setHo h).seqs = s.seqs := rfl
@[simp] theorem State.setHo_semRef : (s.setHo h).semRef = s.semRef := rfl
@[simp] theorem State.setHo_uart : (s.setHo h).uart = s.uart := rfl
@[simp] theorem State.setHo_rs : (s.setHo h).rs = s.rs := rfl
@[simp] theorem State.setHo_refs : (s.setHo h).refs = s.refs := rfl
@[simp] theorem State.setHo_bt : (s.setHo h).bt = s.bt := rfl
@[simp] theorem State.setHo_ks : (s.setHo h).ks = s.ks := rfl
@[simp] theorem State.setHo_eth : (s.setHo h).eth = s.eth := rfl
@[simp] theorem State.setHo_itl : (s.setHo h).itl = s.itl := rfl
@[simp] theorem State.setHo_mc : (s.setHo h).mc = s.mc := rfl
@[simp] theorem State.setHo_ts : (s.setHo h).ts = s.ts := rfl
@[simp] theorem State.setHo_rc : (s.setHo h).rc = s.rc := rfl
@[simp] theorem State.setHo_tw : (s.setHo h).tw = s.tw := rfl
@[simp] theorem State.setHo_brd : (s.setHo h).brd = s.brd := rfl
@[simp] theorem State.setHo_fm : (s.setHo h).fm = s.fm := rfl
@[simp] theorem State.setHo_pe : (s.setHo h).pe = s.pe := rfl
@[simp] theorem State.setHo_rg : (s.setHo h).rg = s.rg := rfl
@[simp] theorem State.setHo_mem : (s.setHo h).mem = s.mem := rfl
@[simp] theorem State.setHo_hostMem : (s.setHo h).hostMem = s.hostMem := rfl
@[simp] theorem State.setHo_poison : (s.setHo h).poison = s.poison := rfl
@[simp] theorem State.setHo_waits : (s.setHo h).waits = s.waits := rfl
@[simp] theorem State.setHo_evc : (s.setHo h).evc = s.evc := rfl
@[simp] theorem State.setHo_freeCtr : (s.setHo h).freeCtr = s.freeCtr := rfl
@[simp] theorem State.setHo_tk : (s.setHo h).tk = s.tk := rfl
@[simp] theorem State.setHo_out : (s.setHo h).out = s.out := rfl
@[simp] theorem State.setHo_pending : (s.setHo h).pending = s.pending := rfl
@[simp] theorem State.setHo_fld : (s.setHo h).fld g d = s.fld g d := rfl

/-! #### setEth -/

@[simp] theorem State.setEth_regs : (s.setEth n e).regs = s.regs := rfl
@[simp] theorem State.setEth_shadows : (s.setEth n e).shadows = s.shadows := rfl
@[simp] theorem State.setEth_due : (s.setEth n e).due = s.due := rfl
@[simp] theorem State.setEth_held : (s.setEth n e).held = s.held := rfl
@[simp] theorem State.setEth_snaps : (s.setEth n e).snaps = s.snaps := rfl
@[simp] theorem State.setEth_ti : (s.setEth n e).ti = s.ti := rfl
@[simp] theorem State.setEth_po : (s.setEth n e).po = s.po := rfl
@[simp] theorem State.setEth_tm : (s.setEth n e).tm = s.tm := rfl
@[simp] theorem State.setEth_tmb : (s.setEth n e).tmb = s.tmb := rfl
@[simp] theorem State.setEth_sy : (s.setEth n e).sy = s.sy := rfl
@[simp] theorem State.setEth_opll : (s.setEth n e).opll = s.opll := rfl
@[simp] theorem State.setEth_cko : (s.setEth n e).cko = s.cko := rfl
@[simp] theorem State.setEth_seqs : (s.setEth n e).seqs = s.seqs := rfl
@[simp] theorem State.setEth_semRef : (s.setEth n e).semRef = s.semRef := rfl
@[simp] theorem State.setEth_uart : (s.setEth n e).uart = s.uart := rfl
@[simp] theorem State.setEth_ho : (s.setEth n e).ho = s.ho := rfl
@[simp] theorem State.setEth_rs : (s.setEth n e).rs = s.rs := rfl
@[simp] theorem State.setEth_refs : (s.setEth n e).refs = s.refs := rfl
@[simp] theorem State.setEth_bt : (s.setEth n e).bt = s.bt := rfl
@[simp] theorem State.setEth_ks : (s.setEth n e).ks = s.ks := rfl
@[simp] theorem State.setEth_itl : (s.setEth n e).itl = s.itl := rfl
@[simp] theorem State.setEth_mc : (s.setEth n e).mc = s.mc := rfl
@[simp] theorem State.setEth_ts : (s.setEth n e).ts = s.ts := rfl
@[simp] theorem State.setEth_rc : (s.setEth n e).rc = s.rc := rfl
@[simp] theorem State.setEth_tw : (s.setEth n e).tw = s.tw := rfl
@[simp] theorem State.setEth_brd : (s.setEth n e).brd = s.brd := rfl
@[simp] theorem State.setEth_fm : (s.setEth n e).fm = s.fm := rfl
@[simp] theorem State.setEth_pe : (s.setEth n e).pe = s.pe := rfl
@[simp] theorem State.setEth_rg : (s.setEth n e).rg = s.rg := rfl
@[simp] theorem State.setEth_mem : (s.setEth n e).mem = s.mem := rfl
@[simp] theorem State.setEth_hostMem : (s.setEth n e).hostMem = s.hostMem := rfl
@[simp] theorem State.setEth_poison : (s.setEth n e).poison = s.poison := rfl
@[simp] theorem State.setEth_waits : (s.setEth n e).waits = s.waits := rfl
@[simp] theorem State.setEth_evc : (s.setEth n e).evc = s.evc := rfl
@[simp] theorem State.setEth_freeCtr : (s.setEth n e).freeCtr = s.freeCtr := rfl
@[simp] theorem State.setEth_tk : (s.setEth n e).tk = s.tk := rfl
@[simp] theorem State.setEth_out : (s.setEth n e).out = s.out := rfl
@[simp] theorem State.setEth_pending : (s.setEth n e).pending = s.pending := rfl
@[simp] theorem State.setEth_fld : (s.setEth n e).fld g d = s.fld g d := rfl

/-! #### setItl -/

@[simp] theorem State.setItl_regs : (s.setItl n i).regs = s.regs := rfl
@[simp] theorem State.setItl_shadows : (s.setItl n i).shadows = s.shadows := rfl
@[simp] theorem State.setItl_due : (s.setItl n i).due = s.due := rfl
@[simp] theorem State.setItl_held : (s.setItl n i).held = s.held := rfl
@[simp] theorem State.setItl_snaps : (s.setItl n i).snaps = s.snaps := rfl
@[simp] theorem State.setItl_ti : (s.setItl n i).ti = s.ti := rfl
@[simp] theorem State.setItl_po : (s.setItl n i).po = s.po := rfl
@[simp] theorem State.setItl_tm : (s.setItl n i).tm = s.tm := rfl
@[simp] theorem State.setItl_tmb : (s.setItl n i).tmb = s.tmb := rfl
@[simp] theorem State.setItl_sy : (s.setItl n i).sy = s.sy := rfl
@[simp] theorem State.setItl_opll : (s.setItl n i).opll = s.opll := rfl
@[simp] theorem State.setItl_cko : (s.setItl n i).cko = s.cko := rfl
@[simp] theorem State.setItl_seqs : (s.setItl n i).seqs = s.seqs := rfl
@[simp] theorem State.setItl_semRef : (s.setItl n i).semRef = s.semRef := rfl
@[simp] theorem State.setItl_uart : (s.setItl n i).uart = s.uart := rfl
@[simp] theorem State.setItl_ho : (s.setItl n i).ho = s.ho := rfl
@[simp] theorem State.setItl_rs : (s.setItl n i).rs = s.rs := rfl
@[simp] theorem State.setItl_refs : (s.setItl n i).refs = s.refs := rfl
@[simp] theorem State.setItl_bt : (s.setItl n i).bt = s.bt := rfl
@[simp] theorem State.setItl_ks : (s.setItl n i).ks = s.ks := rfl
@[simp] theorem State.setItl_eth : (s.setItl n i).eth = s.eth := rfl
@[simp] theorem State.setItl_mc : (s.setItl n i).mc = s.mc := rfl
@[simp] theorem State.setItl_ts : (s.setItl n i).ts = s.ts := rfl
@[simp] theorem State.setItl_rc : (s.setItl n i).rc = s.rc := rfl
@[simp] theorem State.setItl_tw : (s.setItl n i).tw = s.tw := rfl
@[simp] theorem State.setItl_brd : (s.setItl n i).brd = s.brd := rfl
@[simp] theorem State.setItl_fm : (s.setItl n i).fm = s.fm := rfl
@[simp] theorem State.setItl_pe : (s.setItl n i).pe = s.pe := rfl
@[simp] theorem State.setItl_rg : (s.setItl n i).rg = s.rg := rfl
@[simp] theorem State.setItl_mem : (s.setItl n i).mem = s.mem := rfl
@[simp] theorem State.setItl_hostMem : (s.setItl n i).hostMem = s.hostMem := rfl
@[simp] theorem State.setItl_poison : (s.setItl n i).poison = s.poison := rfl
@[simp] theorem State.setItl_waits : (s.setItl n i).waits = s.waits := rfl
@[simp] theorem State.setItl_evc : (s.setItl n i).evc = s.evc := rfl
@[simp] theorem State.setItl_freeCtr : (s.setItl n i).freeCtr = s.freeCtr := rfl
@[simp] theorem State.setItl_tk : (s.setItl n i).tk = s.tk := rfl
@[simp] theorem State.setItl_out : (s.setItl n i).out = s.out := rfl
@[simp] theorem State.setItl_pending : (s.setItl n i).pending = s.pending := rfl
@[simp] theorem State.setItl_fld : (s.setItl n i).fld g d = s.fld g d := rfl

/-! #### setMac -/

@[simp] theorem State.setMac_regs : (s.setMac n m).regs = s.regs := rfl
@[simp] theorem State.setMac_shadows : (s.setMac n m).shadows = s.shadows := rfl
@[simp] theorem State.setMac_due : (s.setMac n m).due = s.due := rfl
@[simp] theorem State.setMac_held : (s.setMac n m).held = s.held := rfl
@[simp] theorem State.setMac_snaps : (s.setMac n m).snaps = s.snaps := rfl
@[simp] theorem State.setMac_ti : (s.setMac n m).ti = s.ti := rfl
@[simp] theorem State.setMac_po : (s.setMac n m).po = s.po := rfl
@[simp] theorem State.setMac_tm : (s.setMac n m).tm = s.tm := rfl
@[simp] theorem State.setMac_tmb : (s.setMac n m).tmb = s.tmb := rfl
@[simp] theorem State.setMac_sy : (s.setMac n m).sy = s.sy := rfl
@[simp] theorem State.setMac_opll : (s.setMac n m).opll = s.opll := rfl
@[simp] theorem State.setMac_cko : (s.setMac n m).cko = s.cko := rfl
@[simp] theorem State.setMac_seqs : (s.setMac n m).seqs = s.seqs := rfl
@[simp] theorem State.setMac_semRef : (s.setMac n m).semRef = s.semRef := rfl
@[simp] theorem State.setMac_uart : (s.setMac n m).uart = s.uart := rfl
@[simp] theorem State.setMac_ho : (s.setMac n m).ho = s.ho := rfl
@[simp] theorem State.setMac_rs : (s.setMac n m).rs = s.rs := rfl
@[simp] theorem State.setMac_refs : (s.setMac n m).refs = s.refs := rfl
@[simp] theorem State.setMac_bt : (s.setMac n m).bt = s.bt := rfl
@[simp] theorem State.setMac_ks : (s.setMac n m).ks = s.ks := rfl
@[simp] theorem State.setMac_eth : (s.setMac n m).eth = s.eth := rfl
@[simp] theorem State.setMac_itl : (s.setMac n m).itl = s.itl := rfl
@[simp] theorem State.setMac_ts : (s.setMac n m).ts = s.ts := rfl
@[simp] theorem State.setMac_rc : (s.setMac n m).rc = s.rc := rfl
@[simp] theorem State.setMac_tw : (s.setMac n m).tw = s.tw := rfl
@[simp] theorem State.setMac_brd : (s.setMac n m).brd = s.brd := rfl
@[simp] theorem State.setMac_fm : (s.setMac n m).fm = s.fm := rfl
@[simp] theorem State.setMac_pe : (s.setMac n m).pe = s.pe := rfl
@[simp] theorem State.setMac_rg : (s.setMac n m).rg = s.rg := rfl
@[simp] theorem State.setMac_mem : (s.setMac n m).mem = s.mem := rfl
@[simp] theorem State.setMac_hostMem : (s.setMac n m).hostMem = s.hostMem := rfl
@[simp] theorem State.setMac_poison : (s.setMac n m).poison = s.poison := rfl
@[simp] theorem State.setMac_waits : (s.setMac n m).waits = s.waits := rfl
@[simp] theorem State.setMac_evc : (s.setMac n m).evc = s.evc := rfl
@[simp] theorem State.setMac_freeCtr : (s.setMac n m).freeCtr = s.freeCtr := rfl
@[simp] theorem State.setMac_tk : (s.setMac n m).tk = s.tk := rfl
@[simp] theorem State.setMac_out : (s.setMac n m).out = s.out := rfl
@[simp] theorem State.setMac_pending : (s.setMac n m).pending = s.pending := rfl
@[simp] theorem State.setMac_fld : (s.setMac n m).fld g d = s.fld g d := rfl

/-! #### setPout -/

@[simp] theorem State.setPout_regs : (s.setPout n p).regs = s.regs := rfl
@[simp] theorem State.setPout_shadows : (s.setPout n p).shadows = s.shadows := rfl
@[simp] theorem State.setPout_due : (s.setPout n p).due = s.due := rfl
@[simp] theorem State.setPout_held : (s.setPout n p).held = s.held := rfl
@[simp] theorem State.setPout_snaps : (s.setPout n p).snaps = s.snaps := rfl
@[simp] theorem State.setPout_ti : (s.setPout n p).ti = s.ti := rfl
@[simp] theorem State.setPout_tm : (s.setPout n p).tm = s.tm := rfl
@[simp] theorem State.setPout_tmb : (s.setPout n p).tmb = s.tmb := rfl
@[simp] theorem State.setPout_sy : (s.setPout n p).sy = s.sy := rfl
@[simp] theorem State.setPout_opll : (s.setPout n p).opll = s.opll := rfl
@[simp] theorem State.setPout_cko : (s.setPout n p).cko = s.cko := rfl
@[simp] theorem State.setPout_seqs : (s.setPout n p).seqs = s.seqs := rfl
@[simp] theorem State.setPout_semRef : (s.setPout n p).semRef = s.semRef := rfl
@[simp] theorem State.setPout_uart : (s.setPout n p).uart = s.uart := rfl
@[simp] theorem State.setPout_ho : (s.setPout n p).ho = s.ho := rfl
@[simp] theorem State.setPout_rs : (s.setPout n p).rs = s.rs := rfl
@[simp] theorem State.setPout_refs : (s.setPout n p).refs = s.refs := rfl
@[simp] theorem State.setPout_bt : (s.setPout n p).bt = s.bt := rfl
@[simp] theorem State.setPout_ks : (s.setPout n p).ks = s.ks := rfl
@[simp] theorem State.setPout_eth : (s.setPout n p).eth = s.eth := rfl
@[simp] theorem State.setPout_itl : (s.setPout n p).itl = s.itl := rfl
@[simp] theorem State.setPout_mc : (s.setPout n p).mc = s.mc := rfl
@[simp] theorem State.setPout_ts : (s.setPout n p).ts = s.ts := rfl
@[simp] theorem State.setPout_rc : (s.setPout n p).rc = s.rc := rfl
@[simp] theorem State.setPout_tw : (s.setPout n p).tw = s.tw := rfl
@[simp] theorem State.setPout_brd : (s.setPout n p).brd = s.brd := rfl
@[simp] theorem State.setPout_fm : (s.setPout n p).fm = s.fm := rfl
@[simp] theorem State.setPout_pe : (s.setPout n p).pe = s.pe := rfl
@[simp] theorem State.setPout_rg : (s.setPout n p).rg = s.rg := rfl
@[simp] theorem State.setPout_mem : (s.setPout n p).mem = s.mem := rfl
@[simp] theorem State.setPout_hostMem : (s.setPout n p).hostMem = s.hostMem := rfl
@[simp] theorem State.setPout_poison : (s.setPout n p).poison = s.poison := rfl
@[simp] theorem State.setPout_waits : (s.setPout n p).waits = s.waits := rfl
@[simp] theorem State.setPout_evc : (s.setPout n p).evc = s.evc := rfl
@[simp] theorem State.setPout_freeCtr : (s.setPout n p).freeCtr = s.freeCtr := rfl
@[simp] theorem State.setPout_tk : (s.setPout n p).tk = s.tk := rfl
@[simp] theorem State.setPout_out : (s.setPout n p).out = s.out := rfl
@[simp] theorem State.setPout_pending : (s.setPout n p).pending = s.pending := rfl
@[simp] theorem State.setPout_fld : (s.setPout n p).fld g d = s.fld g d := rfl

/-! #### setRc -/

@[simp] theorem State.setRc_regs : (s.setRc r).regs = s.regs := rfl
@[simp] theorem State.setRc_shadows : (s.setRc r).shadows = s.shadows := rfl
@[simp] theorem State.setRc_due : (s.setRc r).due = s.due := rfl
@[simp] theorem State.setRc_held : (s.setRc r).held = s.held := rfl
@[simp] theorem State.setRc_snaps : (s.setRc r).snaps = s.snaps := rfl
@[simp] theorem State.setRc_ti : (s.setRc r).ti = s.ti := rfl
@[simp] theorem State.setRc_po : (s.setRc r).po = s.po := rfl
@[simp] theorem State.setRc_tm : (s.setRc r).tm = s.tm := rfl
@[simp] theorem State.setRc_tmb : (s.setRc r).tmb = s.tmb := rfl
@[simp] theorem State.setRc_sy : (s.setRc r).sy = s.sy := rfl
@[simp] theorem State.setRc_opll : (s.setRc r).opll = s.opll := rfl
@[simp] theorem State.setRc_cko : (s.setRc r).cko = s.cko := rfl
@[simp] theorem State.setRc_seqs : (s.setRc r).seqs = s.seqs := rfl
@[simp] theorem State.setRc_semRef : (s.setRc r).semRef = s.semRef := rfl
@[simp] theorem State.setRc_uart : (s.setRc r).uart = s.uart := rfl
@[simp] theorem State.setRc_ho : (s.setRc r).ho = s.ho := rfl
@[simp] theorem State.setRc_rs : (s.setRc r).rs = s.rs := rfl
@[simp] theorem State.setRc_refs : (s.setRc r).refs = s.refs := rfl
@[simp] theorem State.setRc_bt : (s.setRc r).bt = s.bt := rfl
@[simp] theorem State.setRc_ks : (s.setRc r).ks = s.ks := rfl
@[simp] theorem State.setRc_eth : (s.setRc r).eth = s.eth := rfl
@[simp] theorem State.setRc_itl : (s.setRc r).itl = s.itl := rfl
@[simp] theorem State.setRc_mc : (s.setRc r).mc = s.mc := rfl
@[simp] theorem State.setRc_ts : (s.setRc r).ts = s.ts := rfl
@[simp] theorem State.setRc_tw : (s.setRc r).tw = s.tw := rfl
@[simp] theorem State.setRc_brd : (s.setRc r).brd = s.brd := rfl
@[simp] theorem State.setRc_fm : (s.setRc r).fm = s.fm := rfl
@[simp] theorem State.setRc_pe : (s.setRc r).pe = s.pe := rfl
@[simp] theorem State.setRc_rg : (s.setRc r).rg = s.rg := rfl
@[simp] theorem State.setRc_mem : (s.setRc r).mem = s.mem := rfl
@[simp] theorem State.setRc_hostMem : (s.setRc r).hostMem = s.hostMem := rfl
@[simp] theorem State.setRc_poison : (s.setRc r).poison = s.poison := rfl
@[simp] theorem State.setRc_waits : (s.setRc r).waits = s.waits := rfl
@[simp] theorem State.setRc_evc : (s.setRc r).evc = s.evc := rfl
@[simp] theorem State.setRc_freeCtr : (s.setRc r).freeCtr = s.freeCtr := rfl
@[simp] theorem State.setRc_tk : (s.setRc r).tk = s.tk := rfl
@[simp] theorem State.setRc_out : (s.setRc r).out = s.out := rfl
@[simp] theorem State.setRc_pending : (s.setRc r).pending = s.pending := rfl
@[simp] theorem State.setRc_fld : (s.setRc r).fld g d = s.fld g d := rfl

/-! #### setRef -/

@[simp] theorem State.setRef_regs : (s.setRef n b).regs = s.regs := rfl
@[simp] theorem State.setRef_shadows : (s.setRef n b).shadows = s.shadows := rfl
@[simp] theorem State.setRef_due : (s.setRef n b).due = s.due := rfl
@[simp] theorem State.setRef_held : (s.setRef n b).held = s.held := rfl
@[simp] theorem State.setRef_snaps : (s.setRef n b).snaps = s.snaps := rfl
@[simp] theorem State.setRef_ti : (s.setRef n b).ti = s.ti := rfl
@[simp] theorem State.setRef_po : (s.setRef n b).po = s.po := rfl
@[simp] theorem State.setRef_tm : (s.setRef n b).tm = s.tm := rfl
@[simp] theorem State.setRef_tmb : (s.setRef n b).tmb = s.tmb := rfl
@[simp] theorem State.setRef_sy : (s.setRef n b).sy = s.sy := rfl
@[simp] theorem State.setRef_opll : (s.setRef n b).opll = s.opll := rfl
@[simp] theorem State.setRef_cko : (s.setRef n b).cko = s.cko := rfl
@[simp] theorem State.setRef_seqs : (s.setRef n b).seqs = s.seqs := rfl
@[simp] theorem State.setRef_semRef : (s.setRef n b).semRef = s.semRef := rfl
@[simp] theorem State.setRef_uart : (s.setRef n b).uart = s.uart := rfl
@[simp] theorem State.setRef_ho : (s.setRef n b).ho = s.ho := rfl
@[simp] theorem State.setRef_rs : (s.setRef n b).rs = s.rs := rfl
@[simp] theorem State.setRef_bt : (s.setRef n b).bt = s.bt := rfl
@[simp] theorem State.setRef_ks : (s.setRef n b).ks = s.ks := rfl
@[simp] theorem State.setRef_eth : (s.setRef n b).eth = s.eth := rfl
@[simp] theorem State.setRef_itl : (s.setRef n b).itl = s.itl := rfl
@[simp] theorem State.setRef_mc : (s.setRef n b).mc = s.mc := rfl
@[simp] theorem State.setRef_ts : (s.setRef n b).ts = s.ts := rfl
@[simp] theorem State.setRef_rc : (s.setRef n b).rc = s.rc := rfl
@[simp] theorem State.setRef_tw : (s.setRef n b).tw = s.tw := rfl
@[simp] theorem State.setRef_brd : (s.setRef n b).brd = s.brd := rfl
@[simp] theorem State.setRef_fm : (s.setRef n b).fm = s.fm := rfl
@[simp] theorem State.setRef_pe : (s.setRef n b).pe = s.pe := rfl
@[simp] theorem State.setRef_rg : (s.setRef n b).rg = s.rg := rfl
@[simp] theorem State.setRef_mem : (s.setRef n b).mem = s.mem := rfl
@[simp] theorem State.setRef_hostMem : (s.setRef n b).hostMem = s.hostMem := rfl
@[simp] theorem State.setRef_poison : (s.setRef n b).poison = s.poison := rfl
@[simp] theorem State.setRef_waits : (s.setRef n b).waits = s.waits := rfl
@[simp] theorem State.setRef_evc : (s.setRef n b).evc = s.evc := rfl
@[simp] theorem State.setRef_freeCtr : (s.setRef n b).freeCtr = s.freeCtr := rfl
@[simp] theorem State.setRef_tk : (s.setRef n b).tk = s.tk := rfl
@[simp] theorem State.setRef_out : (s.setRef n b).out = s.out := rfl
@[simp] theorem State.setRef_pending : (s.setRef n b).pending = s.pending := rfl
@[simp] theorem State.setRef_fld : (s.setRef n b).fld g d = s.fld g d := rfl

/-! #### setUart -/

@[simp] theorem State.setUart_regs : (s.setUart n u).regs = s.regs := rfl
@[simp] theorem State.setUart_shadows : (s.setUart n u).shadows = s.shadows := rfl
@[simp] theorem State.setUart_due : (s.setUart n u).due = s.due := rfl
@[simp] theorem State.setUart_held : (s.setUart n u).held = s.held := rfl
@[simp] theorem State.setUart_snaps : (s.setUart n u).snaps = s.snaps := rfl
@[simp] theorem State.setUart_ti : (s.setUart n u).ti = s.ti := rfl
@[simp] theorem State.setUart_po : (s.setUart n u).po = s.po := rfl
@[simp] theorem State.setUart_tm : (s.setUart n u).tm = s.tm := rfl
@[simp] theorem State.setUart_tmb : (s.setUart n u).tmb = s.tmb := rfl
@[simp] theorem State.setUart_sy : (s.setUart n u).sy = s.sy := rfl
@[simp] theorem State.setUart_opll : (s.setUart n u).opll = s.opll := rfl
@[simp] theorem State.setUart_cko : (s.setUart n u).cko = s.cko := rfl
@[simp] theorem State.setUart_seqs : (s.setUart n u).seqs = s.seqs := rfl
@[simp] theorem State.setUart_semRef : (s.setUart n u).semRef = s.semRef := rfl
@[simp] theorem State.setUart_ho : (s.setUart n u).ho = s.ho := rfl
@[simp] theorem State.setUart_rs : (s.setUart n u).rs = s.rs := rfl
@[simp] theorem State.setUart_refs : (s.setUart n u).refs = s.refs := rfl
@[simp] theorem State.setUart_bt : (s.setUart n u).bt = s.bt := rfl
@[simp] theorem State.setUart_ks : (s.setUart n u).ks = s.ks := rfl
@[simp] theorem State.setUart_eth : (s.setUart n u).eth = s.eth := rfl
@[simp] theorem State.setUart_itl : (s.setUart n u).itl = s.itl := rfl
@[simp] theorem State.setUart_mc : (s.setUart n u).mc = s.mc := rfl
@[simp] theorem State.setUart_ts : (s.setUart n u).ts = s.ts := rfl
@[simp] theorem State.setUart_rc : (s.setUart n u).rc = s.rc := rfl
@[simp] theorem State.setUart_tw : (s.setUart n u).tw = s.tw := rfl
@[simp] theorem State.setUart_brd : (s.setUart n u).brd = s.brd := rfl
@[simp] theorem State.setUart_fm : (s.setUart n u).fm = s.fm := rfl
@[simp] theorem State.setUart_pe : (s.setUart n u).pe = s.pe := rfl
@[simp] theorem State.setUart_rg : (s.setUart n u).rg = s.rg := rfl
@[simp] theorem State.setUart_mem : (s.setUart n u).mem = s.mem := rfl
@[simp] theorem State.setUart_hostMem : (s.setUart n u).hostMem = s.hostMem := rfl
@[simp] theorem State.setUart_poison : (s.setUart n u).poison = s.poison := rfl
@[simp] theorem State.setUart_waits : (s.setUart n u).waits = s.waits := rfl
@[simp] theorem State.setUart_evc : (s.setUart n u).evc = s.evc := rfl
@[simp] theorem State.setUart_freeCtr : (s.setUart n u).freeCtr = s.freeCtr := rfl
@[simp] theorem State.setUart_tk : (s.setUart n u).tk = s.tk := rfl
@[simp] theorem State.setUart_out : (s.setUart n u).out = s.out := rfl
@[simp] theorem State.setUart_pending : (s.setUart n u).pending = s.pending := rfl
@[simp] theorem State.setUart_fld : (s.setUart n u).fld g d = s.fld g d := rfl

/-! #### setPll -/

@[simp] theorem State.setPll_regs : (s.setPll n j).regs = s.regs := rfl
@[simp] theorem State.setPll_shadows : (s.setPll n j).shadows = s.shadows := rfl
@[simp] theorem State.setPll_due : (s.setPll n j).due = s.due := rfl
@[simp] theorem State.setPll_held : (s.setPll n j).held = s.held := rfl
@[simp] theorem State.setPll_snaps : (s.setPll n j).snaps = s.snaps := rfl
@[simp] theorem State.setPll_ti : (s.setPll n j).ti = s.ti := rfl
@[simp] theorem State.setPll_po : (s.setPll n j).po = s.po := rfl
@[simp] theorem State.setPll_tm : (s.setPll n j).tm = s.tm := rfl
@[simp] theorem State.setPll_tmb : (s.setPll n j).tmb = s.tmb := rfl
@[simp] theorem State.setPll_sy : (s.setPll n j).sy = s.sy := rfl
@[simp] theorem State.setPll_cko : (s.setPll n j).cko = s.cko := rfl
@[simp] theorem State.setPll_seqs : (s.setPll n j).seqs = s.seqs := rfl
@[simp] theorem State.setPll_semRef : (s.setPll n j).semRef = s.semRef := rfl
@[simp] theorem State.setPll_uart : (s.setPll n j).uart = s.uart := rfl
@[simp] theorem State.setPll_ho : (s.setPll n j).ho = s.ho := rfl
@[simp] theorem State.setPll_rs : (s.setPll n j).rs = s.rs := rfl
@[simp] theorem State.setPll_refs : (s.setPll n j).refs = s.refs := rfl
@[simp] theorem State.setPll_bt : (s.setPll n j).bt = s.bt := rfl
@[simp] theorem State.setPll_ks : (s.setPll n j).ks = s.ks := rfl
@[simp] theorem State.setPll_eth : (s.setPll n j).eth = s.eth := rfl
@[simp] theorem State.setPll_itl : (s.setPll n j).itl = s.itl := rfl
@[simp] theorem State.setPll_mc : (s.setPll n j).mc = s.mc := rfl
@[simp] theorem State.setPll_ts : (s.setPll n j).ts = s.ts := rfl
@[simp] theorem State.setPll_rc : (s.setPll n j).rc = s.rc := rfl
@[simp] theorem State.setPll_tw : (s.setPll n j).tw = s.tw := rfl
@[simp] theorem State.setPll_brd : (s.setPll n j).brd = s.brd := rfl
@[simp] theorem State.setPll_fm : (s.setPll n j).fm = s.fm := rfl
@[simp] theorem State.setPll_pe : (s.setPll n j).pe = s.pe := rfl
@[simp] theorem State.setPll_rg : (s.setPll n j).rg = s.rg := rfl
@[simp] theorem State.setPll_mem : (s.setPll n j).mem = s.mem := rfl
@[simp] theorem State.setPll_hostMem : (s.setPll n j).hostMem = s.hostMem := rfl
@[simp] theorem State.setPll_poison : (s.setPll n j).poison = s.poison := rfl
@[simp] theorem State.setPll_waits : (s.setPll n j).waits = s.waits := rfl
@[simp] theorem State.setPll_evc : (s.setPll n j).evc = s.evc := rfl
@[simp] theorem State.setPll_freeCtr : (s.setPll n j).freeCtr = s.freeCtr := rfl
@[simp] theorem State.setPll_tk : (s.setPll n j).tk = s.tk := rfl
@[simp] theorem State.setPll_out : (s.setPll n j).out = s.out := rfl
@[simp] theorem State.setPll_pending : (s.setPll n j).pending = s.pending := rfl
@[simp] theorem State.setPll_fld : (s.setPll n j).fld g d = s.fld g d := rfl

/-! #### setCk -/

@[simp] theorem State.setCk_regs : (s.setCk n k).regs = s.regs := rfl
@[simp] theorem State.setCk_shadows : (s.setCk n k).shadows = s.shadows := rfl
@[simp] theorem State.setCk_due : (s.setCk n k).due = s.due := rfl
@[simp] theorem State.setCk_held : (s.setCk n k).held = s.held := rfl
@[simp] theorem State.setCk_snaps : (s.setCk n k).snaps = s.snaps := rfl
@[simp] theorem State.setCk_ti : (s.setCk n k).ti = s.ti := rfl
@[simp] theorem State.setCk_po : (s.setCk n k).po = s.po := rfl
@[simp] theorem State.setCk_tm : (s.setCk n k).tm = s.tm := rfl
@[simp] theorem State.setCk_tmb : (s.setCk n k).tmb = s.tmb := rfl
@[simp] theorem State.setCk_sy : (s.setCk n k).sy = s.sy := rfl
@[simp] theorem State.setCk_opll : (s.setCk n k).opll = s.opll := rfl
@[simp] theorem State.setCk_seqs : (s.setCk n k).seqs = s.seqs := rfl
@[simp] theorem State.setCk_semRef : (s.setCk n k).semRef = s.semRef := rfl
@[simp] theorem State.setCk_uart : (s.setCk n k).uart = s.uart := rfl
@[simp] theorem State.setCk_ho : (s.setCk n k).ho = s.ho := rfl
@[simp] theorem State.setCk_rs : (s.setCk n k).rs = s.rs := rfl
@[simp] theorem State.setCk_refs : (s.setCk n k).refs = s.refs := rfl
@[simp] theorem State.setCk_bt : (s.setCk n k).bt = s.bt := rfl
@[simp] theorem State.setCk_ks : (s.setCk n k).ks = s.ks := rfl
@[simp] theorem State.setCk_eth : (s.setCk n k).eth = s.eth := rfl
@[simp] theorem State.setCk_itl : (s.setCk n k).itl = s.itl := rfl
@[simp] theorem State.setCk_mc : (s.setCk n k).mc = s.mc := rfl
@[simp] theorem State.setCk_ts : (s.setCk n k).ts = s.ts := rfl
@[simp] theorem State.setCk_rc : (s.setCk n k).rc = s.rc := rfl
@[simp] theorem State.setCk_tw : (s.setCk n k).tw = s.tw := rfl
@[simp] theorem State.setCk_brd : (s.setCk n k).brd = s.brd := rfl
@[simp] theorem State.setCk_fm : (s.setCk n k).fm = s.fm := rfl
@[simp] theorem State.setCk_pe : (s.setCk n k).pe = s.pe := rfl
@[simp] theorem State.setCk_rg : (s.setCk n k).rg = s.rg := rfl
@[simp] theorem State.setCk_mem : (s.setCk n k).mem = s.mem := rfl
@[simp] theorem State.setCk_hostMem : (s.setCk n k).hostMem = s.hostMem := rfl
@[simp] theorem State.setCk_poison : (s.setCk n k).poison = s.poison := rfl
@[simp] theorem State.setCk_waits : (s.setCk n k).waits = s.waits := rfl
@[simp] theorem State.setCk_evc : (s.setCk n k).evc = s.evc := rfl
@[simp] theorem State.setCk_freeCtr : (s.setCk n k).freeCtr = s.freeCtr := rfl
@[simp] theorem State.setCk_tk : (s.setCk n k).tk = s.tk := rfl
@[simp] theorem State.setCk_out : (s.setCk n k).out = s.out := rfl
@[simp] theorem State.setCk_pending : (s.setCk n k).pending = s.pending := rfl
@[simp] theorem State.setCk_fld : (s.setCk n k).fld g d = s.fld g d := rfl

/-! #### setTs -/

@[simp] theorem State.setTs_regs : (s.setTs t).regs = s.regs := rfl
@[simp] theorem State.setTs_shadows : (s.setTs t).shadows = s.shadows := rfl
@[simp] theorem State.setTs_due : (s.setTs t).due = s.due := rfl
@[simp] theorem State.setTs_held : (s.setTs t).held = s.held := rfl
@[simp] theorem State.setTs_snaps : (s.setTs t).snaps = s.snaps := rfl
@[simp] theorem State.setTs_ti : (s.setTs t).ti = s.ti := rfl
@[simp] theorem State.setTs_po : (s.setTs t).po = s.po := rfl
@[simp] theorem State.setTs_tm : (s.setTs t).tm = s.tm := rfl
@[simp] theorem State.setTs_tmb : (s.setTs t).tmb = s.tmb := rfl
@[simp] theorem State.setTs_sy : (s.setTs t).sy = s.sy := rfl
@[simp] theorem State.setTs_opll : (s.setTs t).opll = s.opll := rfl
@[simp] theorem State.setTs_cko : (s.setTs t).cko = s.cko := rfl
@[simp] theorem State.setTs_seqs : (s.setTs t).seqs = s.seqs := rfl
@[simp] theorem State.setTs_semRef : (s.setTs t).semRef = s.semRef := rfl
@[simp] theorem State.setTs_uart : (s.setTs t).uart = s.uart := rfl
@[simp] theorem State.setTs_ho : (s.setTs t).ho = s.ho := rfl
@[simp] theorem State.setTs_rs : (s.setTs t).rs = s.rs := rfl
@[simp] theorem State.setTs_refs : (s.setTs t).refs = s.refs := rfl
@[simp] theorem State.setTs_bt : (s.setTs t).bt = s.bt := rfl
@[simp] theorem State.setTs_ks : (s.setTs t).ks = s.ks := rfl
@[simp] theorem State.setTs_eth : (s.setTs t).eth = s.eth := rfl
@[simp] theorem State.setTs_itl : (s.setTs t).itl = s.itl := rfl
@[simp] theorem State.setTs_mc : (s.setTs t).mc = s.mc := rfl
@[simp] theorem State.setTs_rc : (s.setTs t).rc = s.rc := rfl
@[simp] theorem State.setTs_tw : (s.setTs t).tw = s.tw := rfl
@[simp] theorem State.setTs_brd : (s.setTs t).brd = s.brd := rfl
@[simp] theorem State.setTs_fm : (s.setTs t).fm = s.fm := rfl
@[simp] theorem State.setTs_pe : (s.setTs t).pe = s.pe := rfl
@[simp] theorem State.setTs_rg : (s.setTs t).rg = s.rg := rfl
@[simp] theorem State.setTs_mem : (s.setTs t).mem = s.mem := rfl
@[simp] theorem State.setTs_hostMem : (s.setTs t).hostMem = s.hostMem := rfl
@[simp] theorem State.setTs_poison : (s.setTs t).poison = s.poison := rfl
@[simp] theorem State.setTs_waits : (s.setTs t).waits = s.waits := rfl
@[simp] theorem State.setTs_evc : (s.setTs t).evc = s.evc := rfl
@[simp] theorem State.setTs_freeCtr : (s.setTs t).freeCtr = s.freeCtr := rfl
@[simp] theorem State.setTs_tk : (s.setTs t).tk = s.tk := rfl
@[simp] theorem State.setTs_out : (s.setTs t).out = s.out := rfl
@[simp] theorem State.setTs_pending : (s.setTs t).pending = s.pending := rfl
@[simp] theorem State.setTs_fld : (s.setTs t).fld g d = s.fld g d := rfl

/-! #### setTw -/

@[simp] theorem State.setTw_regs : (s.setTw w).regs = s.regs := rfl
@[simp] theorem State.setTw_shadows : (s.setTw w).shadows = s.shadows := rfl
@[simp] theorem State.setTw_due : (s.setTw w).due = s.due := rfl
@[simp] theorem State.setTw_held : (s.setTw w).held = s.held := rfl
@[simp] theorem State.setTw_snaps : (s.setTw w).snaps = s.snaps := rfl
@[simp] theorem State.setTw_ti : (s.setTw w).ti = s.ti := rfl
@[simp] theorem State.setTw_po : (s.setTw w).po = s.po := rfl
@[simp] theorem State.setTw_tm : (s.setTw w).tm = s.tm := rfl
@[simp] theorem State.setTw_tmb : (s.setTw w).tmb = s.tmb := rfl
@[simp] theorem State.setTw_sy : (s.setTw w).sy = s.sy := rfl
@[simp] theorem State.setTw_opll : (s.setTw w).opll = s.opll := rfl
@[simp] theorem State.setTw_cko : (s.setTw w).cko = s.cko := rfl
@[simp] theorem State.setTw_seqs : (s.setTw w).seqs = s.seqs := rfl
@[simp] theorem State.setTw_semRef : (s.setTw w).semRef = s.semRef := rfl
@[simp] theorem State.setTw_uart : (s.setTw w).uart = s.uart := rfl
@[simp] theorem State.setTw_ho : (s.setTw w).ho = s.ho := rfl
@[simp] theorem State.setTw_rs : (s.setTw w).rs = s.rs := rfl
@[simp] theorem State.setTw_refs : (s.setTw w).refs = s.refs := rfl
@[simp] theorem State.setTw_bt : (s.setTw w).bt = s.bt := rfl
@[simp] theorem State.setTw_ks : (s.setTw w).ks = s.ks := rfl
@[simp] theorem State.setTw_eth : (s.setTw w).eth = s.eth := rfl
@[simp] theorem State.setTw_itl : (s.setTw w).itl = s.itl := rfl
@[simp] theorem State.setTw_mc : (s.setTw w).mc = s.mc := rfl
@[simp] theorem State.setTw_ts : (s.setTw w).ts = s.ts := rfl
@[simp] theorem State.setTw_rc : (s.setTw w).rc = s.rc := rfl
@[simp] theorem State.setTw_brd : (s.setTw w).brd = s.brd := rfl
@[simp] theorem State.setTw_fm : (s.setTw w).fm = s.fm := rfl
@[simp] theorem State.setTw_pe : (s.setTw w).pe = s.pe := rfl
@[simp] theorem State.setTw_rg : (s.setTw w).rg = s.rg := rfl
@[simp] theorem State.setTw_mem : (s.setTw w).mem = s.mem := rfl
@[simp] theorem State.setTw_hostMem : (s.setTw w).hostMem = s.hostMem := rfl
@[simp] theorem State.setTw_poison : (s.setTw w).poison = s.poison := rfl
@[simp] theorem State.setTw_waits : (s.setTw w).waits = s.waits := rfl
@[simp] theorem State.setTw_evc : (s.setTw w).evc = s.evc := rfl
@[simp] theorem State.setTw_freeCtr : (s.setTw w).freeCtr = s.freeCtr := rfl
@[simp] theorem State.setTw_tk : (s.setTw w).tk = s.tk := rfl
@[simp] theorem State.setTw_out : (s.setTw w).out = s.out := rfl
@[simp] theorem State.setTw_pending : (s.setTw w).pending = s.pending := rfl
@[simp] theorem State.setTw_fld : (s.setTw w).fld g d = s.fld g d := rfl

/-! ### A unit just written reads back, and the others are as they were -/

@[simp] theorem State.seq_setSeq : (s.setSeq n q).seq n = q := smGet_smSet_same ..
theorem State.seq_setSeq_ne (h : n ≠ d) : (s.setSeq n q).seq d = s.seq d := smGet_smSet_ne _ _ _ _ h
@[simp] theorem State.ring_setRing : (s.setRing n x).ring n = x := smGet_smSet_same ..
theorem State.ring_setRing_ne (h : n ≠ d) : (s.setRing n x).ring d = s.ring d := smGet_smSet_ne _ _ _ _ h
@[simp] theorem State.tdc_setTdc : (s.setTdc n c).tdc n = c := smGet_smSet_same ..
theorem State.tdc_setTdc_ne (h : n ≠ d) : (s.setTdc n c).tdc d = s.tdc d := smGet_smSet_ne _ _ _ _ h
@[simp] theorem State.ethL_setEth : (s.setEth n e).ethL n = e := smGet_smSet_same ..
theorem State.ethL_setEth_ne (h : n ≠ d) : (s.setEth n e).ethL d = s.ethL d := smGet_smSet_ne _ _ _ _ h
@[simp] theorem State.itlL_setItl : (s.setItl n i).itlL n = i := smGet_smSet_same ..
theorem State.itlL_setItl_ne (h : n ≠ d) : (s.setItl n i).itlL d = s.itlL d := smGet_smSet_ne _ _ _ _ h
@[simp] theorem State.mac_setMac : (s.setMac n m).mac n = m := smGet_smSet_same ..
theorem State.mac_setMac_ne (h : n ≠ d) : (s.setMac n m).mac d = s.mac d := smGet_smSet_ne _ _ _ _ h
@[simp] theorem State.pout_setPout : (s.setPout n p).pout n = p := smGet_smSet_same ..
theorem State.pout_setPout_ne (h : n ≠ d) : (s.setPout n p).pout d = s.pout d := smGet_smSet_ne _ _ _ _ h
@[simp] theorem State.ref_setRef : (s.setRef n b).ref n = b := smGet_smSet_same ..
theorem State.ref_setRef_ne (h : n ≠ d) : (s.setRef n b).ref d = s.ref d := smGet_smSet_ne _ _ _ _ h
@[simp] theorem State.uartOf_setUart : (s.setUart n u).uartOf n = u := smGet_smSet_same ..
theorem State.uartOf_setUart_ne (h : n ≠ d) : (s.setUart n u).uartOf d = s.uartOf d := smGet_smSet_ne _ _ _ _ h
@[simp] theorem State.pll_setPll : (s.setPll n j).pll n = j := smGet_smSet_same ..
theorem State.pll_setPll_ne (h : n ≠ d) : (s.setPll n j).pll d = s.pll d := smGet_smSet_ne _ _ _ _ h
@[simp] theorem State.ck_setCk : (s.setCk n k).ck n = k := smGet_smSet_same ..
theorem State.ck_setCk_ne (h : n ≠ d) : (s.setCk n k).ck d = s.ck d := smGet_smSet_ne _ _ _ _ h
end

end Sys2Proof.Machine
end

