-- ==== Sys2Proof/Tests/Slice0.lean ====
section
/-! SUPPORT. Tests of the package: ill-formed commands refused, one-step tests with results worked out from the spec, and for every
statement with hypotheses concrete states and operands that meet them, clause by clause. In a witness `from_ s fun s => …` the body is
the clause's hypotheses; where a hypothesis is an equation that names a value, the witness matches on it. -/

open Sys2Proof Sys2Proof.Machine

namespace Sys2Proof.Tests

-- One theorem at a time: the kernel's evaluations below would otherwise stand in memory together.
set_option Elab.async false

/-! ### Ill-formed commands: for each check a command at the bound is accepted and one past it refused -/

theorem test_units_2 : ([
    .functionLevelReset, .refPktExchange, .refItlMeasurement, (fun n => .rsTodWrite .pf0 n 0 0), .todLabelTimeout, .todRecordTimeout,
    (fun n => .quoteRequest .pf0 n), .pktDelayReqTimer, .pktSyncRx, .pktGrantRenew, (fun n => .dramInit .pf0 n),
    (fun n => .dramInitDone n false), (fun n => .dramZero .pf0 n), .dramZeroDone, .uartTxByteDone] : List (Nat → Instr)).all (fun f => (f 1).inRange && !(f 2).inRange) = true := by
  decide +kernel

theorem test_units_23 : ([
    (fun n => .blockDrainDone n 0)] : List (Nat → Instr)).all (fun f => (f 22).inRange && !(f 23).inRange) = true := by
  decide +kernel

theorem test_units_256 : ([
    (fun n => .stepAccept .pf0 n false), (fun n => .launch .pf0 n), (fun n => .ksStage .pf0 n), (fun n => .ksInvalidate .pf0 n),
    (fun n => .exportBlob .pf0 n), (fun n => .loadBlob .pf0 n), .tapInstruction] : List (Nat → Instr)).all (fun f => (f 255).inRange && !(f 256).inRange) = true := by
  decide +kernel

theorem test_units_8_1 : ([
    .pulseArm, .pulseLeadingEdge, .pulseTrailingEdge, .pulseDisable, .ckoEnable, .ckoDisable, (fun n => .ckoGuardSuppress n false 0),
    .ckoAlignStart, .ckoAligned, .refQualified, .refPresenceLoss, .refRequalify, (fun n => .refDisqualify .pf0 n),
    (fun n => .refAccept .pf0 n), (fun n => .clrDispute .pf0 n), (fun n => .clrComp .pf0 n), (fun n => .refEnable .pf0 n),
    (fun n => .refDisable .pf0 n), (fun n => .forceSelect .pf0 n false), .add, .sub, .andV, .orV, .xorV, .shl, .shr, .asr, .minV,
    .maxV, .minu, .maxu, .mul, .mulhs, .mulhu, .clz, .addc, .subc, .addi, .subi, .andi, .ori, .xori, .ldi, .shli, .shri, .asri,
    .macs, .macu, .msbs, .msbu, .clracc, .accmov, .accset, .accadd, .accw, .accwr, .accrd, .tnow, .taddn, .tmov] : List (Nat → Instr)).all (fun f => (f 7).inRange && !(f 8).inRange) = true := by
  decide +kernel

theorem test_units_8_2 : ([
    .tadd, .taddf, .tdifn, .tdiff, .tcmp, .tsec, .tsech, .tns, .tfrac, .twnc, .tset, .tseth, .textw, .waitt, .timeWaitRelease, .arm,
    .disarm, .waite, .eventWaitRelease, .inPort, .outPort, .sacq, .srel, .kstage, .kcommit, .kinval, .kstat, .keyInstrComplete,
    .rpush, .rpop, .ringInstrComplete, .rdcnt, .ldw, .ldh, .ldhu, .ldb, .ldbu, .stw, .sth, .stb, .ldt, .stt, .mldw, .mstw, .mldt,
    .mstt, .bif, .call, .jr, .callr, .ret, .trap, .nop, .rfe, .halt, .fence, .fenceRelease, .watchdog, (fun n => .seqEnable .pf0 n),
    (fun n => .seqDisable .pf0 n)] : List (Nat → Instr)).all (fun f => (f 7).inRange && !(f 8).inRange) = true := by
  decide +kernel

theorem test_units_8_3 : ([
    (fun n => .seqReset .pf0 n), (fun n => .hostMailboxSend .pf0 n 0), (fun n => .iramLock .pf0 n), .itlLaneEnable,
    (fun n => .itlSuperwordTx n 0 false), .trainRequestRepeat, .itlTrainFail, .itlWindowEnd, (fun n => .cryptoKat n false), .tick,
    .derivedAgain] : List (Nat → Instr)).all (fun f => (f 7).inRange && !(f 8).inRange) = true := by
  decide +kernel

theorem test_units_12 : ([
    .intervalTimeout, .tmChannelEnable, .tmChannelDisable, (fun n => .offsetCalDone n 0), .calTableComplete, .calStale,
    .eventDmaPost, .extensionCommit] : List (Nat → Instr)).all (fun f => (f 11).inRange && !(f 12).inRange) = true := by
  decide +kernel

theorem test_units_4 : ([
    .opllEnable, (fun n => .opllMultWrite .pf0 n 0), .opllSettled, .opllLockFail, .refPpsMeasurement, .thermalWarn] : List (Nat → Instr)).all (fun f => (f 3).inRange && !(f 4).inRange) = true := by
  decide +kernel

theorem test_units_32 : ([
    (fun n => .semAcquire .pf0 n), (fun n => .semRelease .pf0 n), (fun n => .semForceRelease .pf0 n), .ringIrq] : List (Nat → Instr)).all (fun f => (f 31).inRange && !(f 32).inRange) = true := by
  decide +kernel

theorem test_units_16 : ([
    .ethLaneEnable, (fun n => .ethLinkUp n false), .ethTrainFail, (fun n => .ethLinkLoss n false), .pauseHoldExpire, .fcRefresh,
    .agePromote, .verifyTimeout, .launchClearInstant, .launchRelease, (fun n => .mute .pf0 n), .muteComplete,
    (fun n => .unmute .pf0 n), (fun n => .wakeSignal n 0), .pipelineFrame] : List (Nat → Instr)).all (fun f => (f 15).inRange && !(f 16).inRange) = true := by
  decide +kernel

theorem test_units_14 : ([
    .controllerDrainDone] : List (Nat → Instr)).all (fun f => (f 13).inRange && !(f 14).inRange) = true := by
  decide +kernel

theorem test_units_64 : ([
    (fun n => .ringEnable .pf0 n), (fun n => .ringProdWrite .pf0 n 0), (fun n => .ringConsWrite .pf0 n 0),
    (fun n => .ringRestart .pf0 n), (fun n => .spiTransfer .pf0 n false)] : List (Nat → Instr)).all (fun f => (f 63).inRange && !(f 64).inRange) = true := by
  decide +kernel

theorem test_units_65536 : ([
    (fun n => .gpioSet .pf0 n), (fun n => .gpioClr .pf0 n), .gpioInputChange] : List (Nat → Instr)).all (fun f => (f 65535).inRange && !(f 65536).inRange) = true := by
  decide +kernel

theorem test_accepted : ([
    .rwsCommit 22 2 7, .edgeArrival 10 false 3 256 256 256 256, .calHit 11 256 256 256 256 false, .tmFifoRead (.seq 7) 11 3 true,
    .tmFifoRead .pf0 0 0 false, .bandSweepComplete (List.replicate 32 0) (List.replicate 32 0), .laneFreezeTimeout true 7,
    .laneFreezeTimeout false 15, .opllLocked 3 15, .plausAgreement 6 7, .timeCompareFire 7 3, .matrixTxnComplete 7 7,
    .iramWrite .pf0 0x6000FFFC 0 15, .tagSweep [255], .statementRequest .pf0 1 255, .lcPrepare .pf0 255 3, .lcCommit .pf0 255 3,
    .laneCalComplete true 7 5 5 0, .laneCalComplete false 15 5 5 0, .itlSuperwordRx 7 65535 (2 ^ 1008 - 1) 0 (2 ^ 31 - 1),
    .loopEdge 3 256 256 256 256, .macFrameBoundary 15 (2 ^ 20 - 1) 3, .macFrameRx 15 [] false false false false 0 3 0 0 3,
    .ptpSyncTimer true 4194303 7, .ptpSyncTimer false 15 0, .ptpAnnounceTimer true 4194303 7, .ptpAnnounceTimer false 15 0,
    .grantExpire 4194303 7, .pcieInboundRequest 1 2 5 0 4096 [] false, .pcieAtomicOp 1 5 0 2 16 0 0,
    .bridgeTimeout .pf0 0x48030020 false, .dramReadError 0x1000000000 false, .patrolScrub 0x1FFFFFFFC0 2, .ringConsume 16,
    .ringConsume 31, .ringProduce 15 0 0 0 0 0 0 0 0 0, .ringProduce 51 0 0 0 0 0 0 0 0 0, .stagingForward 48, .stagingForward 51,
    .hostDmaTimeout 16, .hostDmaTimeout 31, .msixUnmask 0 223, .msixUnmask 1 31, .uartRxByte 1 255 false 0 false,
    .uartTxWrite .pf0 1 255, .uartFifoRead (.seq 0) 1 3 true, .i2cTransaction .pf0 127 15 15, .faultInject .pf0 65535 3 65535 65535,
    .retryGrant 0x201, .channelReenable .pf0 0x201, .sramError 2 false, .sramError 3 true, .sramError 10 true, .counterOverflow 7 8,
    .counterOverflow 8 239, .pcieLinkUp 1 1, .pcieLinkUp 4 8] : List Instr).all Instr.inRange = true := by decide +kernel

theorem test_refused : ([
    .rwsCommit 23 0 0, .rwsCommit 0 3 0, .rwsCommit 0 2 8, .edgeArrival 11 false 0 0 0 0 0, .edgeArrival 0 false 4 0 0 0 0,
    .edgeArrival 0 false 0 257 0 0 0, .edgeArrival 0 false 0 0 257 0 0, .edgeArrival 0 false 0 0 0 257 0,
    .edgeArrival 0 false 0 0 0 0 257, .calHit 12 0 0 0 0 false, .calHit 0 257 0 0 0 false, .calHit 0 0 257 0 0 false,
    .calHit 0 0 0 257 0 false, .calHit 0 0 0 0 257 false, .tmFifoRead .pf0 12 0 false, .tmFifoRead .pf0 0 4 false,
    .tmFifoRead .pf0 0 0 true, .tmFifoRead (.seq 8) 0 0 true, .bandSweepComplete [] (List.replicate 32 0),
    .bandSweepComplete (List.replicate 32 0) [], .laneFreezeTimeout true 8, .laneFreezeTimeout false 16, .opllLocked 4 0,
    .opllLocked 0 16, .plausAgreement 3 3, .plausAgreement 3 8, .timeCompareFire 8 0, .timeCompareFire 0 4, .matrixTxnComplete 8 0,
    .matrixTxnComplete 0 8, .iramWrite .pf0 0x20000000 0 15, .iramWrite .pf0 0x60010000 0 15, .iramWrite .pf0 0x60000000 0 16,
    .tagSweep [0, 256], .statementRequest .pf0 2 0, .statementRequest .pf0 0 256, .lcPrepare .pf0 256 0, .lcPrepare .pf0 0 4,
    .lcCommit .pf0 256 0, .lcCommit .pf0 0 4, .laneCalComplete true 8 5 5 0, .laneCalComplete false 16 5 5 0,
    .laneCalComplete true 0 5 6 0, .laneCalComplete true 0 4294967296 6 0, .itlSuperwordRx 8 0 0 0 0, .itlSuperwordRx 0 65536 0 0 0,
    .itlSuperwordRx 0 0 (2 ^ 1008) 0 0, .itlSuperwordRx 0 0 0 0 (2 ^ 31), .loopEdge 4 0 0 0 0, .loopEdge 0 257 0 0 0,
    .loopEdge 0 0 257 0 0, .loopEdge 0 0 0 257 0, .loopEdge 0 0 0 0 257, .macFrameBoundary 16 0 0, .macFrameBoundary 0 (2 ^ 20) 0,
    .macFrameBoundary 0 0 4, .macFrameRx 16 [] false false false false 0 0 0 0 0, .macFrameRx 0 [] false false false false 0 4 0 0 0,
    .macFrameRx 0 [] false false false false 0 0 0 0 4, .ptpSyncTimer true 4194304 0, .ptpSyncTimer true 0 8,
    .ptpSyncTimer false 16 0, .ptpAnnounceTimer true 4194304 0, .ptpAnnounceTimer true 0 8, .ptpAnnounceTimer false 16 0,
    .grantExpire 4194304 0, .grantExpire 0 8, .pcieInboundRequest 2 0 0 0 0 [] false, .pcieInboundRequest 0 3 0 0 0 [] false,
    .pcieInboundRequest 0 0 6 0 0 [] false, .pcieInboundRequest 0 0 0 0 4097 [] false,
    .pcieInboundRequest 0 0 0 0 0 (List.replicate 513 0) false, .pcieAtomicOp 2 0 0 0 4 0 0, .pcieAtomicOp 0 6 0 0 4 0 0,
    .pcieAtomicOp 0 0 0 3 4 0 0, .pcieAtomicOp 0 0 0 0 17 0 0, .bridgeTimeout .pf0 0x20000000 false,
    .dramReadError 0x2000000000 false, .patrolScrub 0xFFFFFFFC0 0, .patrolScrub 0x1000000000 3, .ringConsume 15, .ringConsume 32,
    .ringProduce 64 0 0 0 0 0 0 0 0 0, .ringProduce 16 0 0 0 0 0 0 0 0 0, .ringProduce 31 0 0 0 0 0 0 0 0 0,
    .ringProduce 52 0 0 0 0 0 0 0 0 0, .stagingForward 47, .stagingForward 52, .hostDmaTimeout 15, .hostDmaTimeout 32,
    .msixUnmask 0 224, .msixUnmask 1 32, .msixUnmask 2 0, .uartRxByte 2 0 false 0 false, .uartRxByte 0 256 false 0 false,
    .uartTxWrite .pf0 2 0, .uartTxWrite .pf0 0 256, .uartFifoRead .pf0 2 0 false, .uartFifoRead .pf0 0 4 false,
    .uartFifoRead .pf0 0 0 true, .i2cTransaction .pf0 128 0 0, .i2cTransaction .pf0 0 16 0, .i2cTransaction .pf0 0 0 16,
    .faultInject .pf0 65536 0 0 0, .faultInject .pf0 0 4 0 0, .faultInject .pf0 0 0 65536 0, .faultInject .pf0 0 0 0 65536,
    .retryGrant 0x2FF, .channelReenable .pf0 0x2FF, .channelReenable .pf0 0x100, .sramError 1 false, .sramError 4 false,
    .counterOverflow 7 9, .counterOverflow 8 240, .counterOverflow 9 0, .pcieLinkUp 0 1, .pcieLinkUp 5 1, .pcieLinkUp 1 3,
    .pcieLinkUp 1 16] : List Instr).all (fun c => !c.inRange) = true := by decide +kernel

theorem test_actors : ([
    (fun a => .warmResetCmd a 0), (fun a => .registerWrite a 0 0), (fun a => .rcCounterRead a 0), (fun a => .timeSet a 0),
    (fun a => .stepOffsetWrite a 0), (fun a => .stepAccept a 0 false), (fun a => .slideOffsetWrite a 0),
    (fun a => .tmFifoRead a 0 0 false), .rootRelockCmd, .bandSweepCmd, (fun a => .opllMultWrite a 0 0),
    (fun a => .rsTodWrite a 0 0 0), (fun a => .refDisqualify a 0), (fun a => .refAccept a 0), (fun a => .clrDispute a 0),
    (fun a => .clrComp a 0), (fun a => .refEnable a 0), (fun a => .refDisable a 0), (fun a => .forceSelect a 0 false), .hoEnable,
    (fun a => .hoTempBoardWrite a 0), (fun a => .seqEnable a 0), (fun a => .seqDisable a 0), (fun a => .seqReset a 0),
    (fun a => .hostMailboxSend a 0 0), (fun a => .semAcquire a 0), (fun a => .semRelease a 0), (fun a => .semForceRelease a 0),
    .imageLoad, (fun a => .launch a 0), (fun a => .iramWrite a 0 0 0), (fun a => .iramLock a 0), .hostExtend, .modeReqService,
    .modeReqTest, .modeReqRecovery, (fun a => .quoteRequest a 0), (fun a => .ksStage a 0), .ksDiscard, .ksCommit,
    (fun a => .ksInvalidate a 0), (fun a => .exportBlob a 0), (fun a => .loadBlob a 0), .rewrapBlob,
    (fun a => .statementRequest a 0 0), (fun a => .lcPrepare a 0 0), (fun a => .lcCommit a 0 0), (fun a => .mute a 0),
    (fun a => .unmute a 0), (fun a => .announceCmd a 0), (fun a => .cookieMint a 0), .rcDisable, .subRegister, .subUpdate,
    .subRemove, .subRead, .subSuspend, .subResume, .promoteCmd, .demoteCmd, .swapNow, .clrUnfit, .twinDisable,
    (fun a => .bridgeTimeout a 0 false), (fun a => .controllerReset a 0), (fun a => .dramInit a 0), (fun a => .dramZero a 0),
    (fun a => .ringEnable a 0), (fun a => .ringProdWrite a 0 0), (fun a => .ringConsWrite a 0 0), (fun a => .ringRestart a 0),
    (fun a => .uartTxWrite a 0 0), (fun a => .uartFifoRead a 0 0 false), (fun a => .i2cTransaction a 0 0 0),
    (fun a => .spiTransfer a 0 false), .spiDisable, (fun a => .gpioSet a 0), (fun a => .gpioClr a 0),
    (fun a => .faultInject a 0 0 0 0), .faultQueueRead, (fun a => .channelReenable a 0)] : List (Actor → Instr)).all (fun f =>
      (f (.seq 7)).sane && (f (.ctrl 13)).sane && !(f (.seq 8)).sane && !(f (.ctrl 14)).sane) = true := by decide +kernel

theorem test_byte_operands : ([
    (fun l => .macFrameRx 0 l false false false false 0 0 0 0 0), (fun l => .pcieInboundRequest 0 0 0 0 0 l false),
    (fun l => .i2cDone false false l), .spiDone] : List (List Nat → Instr)).all (fun f => (f [255]).sane && !(f [0, 256]).sane) = true := by
  decide +kernel

/-! ### States to start from -/

/-- An engine after power-up, on the root clock, in BOOT. -/
def up0 : State :=
  { ((State.reset.clr TC_STATUS_SAFE_CLOCK 0).set1 SY_ROOT_STATUS_LOCKED 0).set1 BT_STATUS_ROM_READY 0 with
    bt := { State.reset.bt with held := false },
    ti := { State.reset.ti with elapsed := 5000 * secU, now := 5000 * secU + 3 } }

/-- The same in SERVICE. -/
def srv0 : State := (up0.setFld BT_MODE_MODE 0 1).set1 BT_STATUS_LAUNCHED 0

/-- Parts of a state replaced. -/
def withTi (s : State) (f : TimeSt → TimeSt) : State := { s with ti := f s.ti }
def setR (s : State) (n : Nat) (f : RefSt → RefSt) : State := s.setRef n (f (s.ref n))
def rst (s : State) (n st re : Nat) : State := (s.setFld RS_REF_STATUS_STATE n st).setFld RS_REF_STATUS_REASON n re
def td (s : State) (n : Nat) (f : TmSt → TmSt) : State := { s with tm := smSet TmSt.init s.tm n (f (s.tdc n)) }
def tw (s : State) (f : TwSt → TwSt) : State := { s with tw := f s.tw }
def rc (s : State) (f : RcSt → RcSt) : State := { s with rc := f s.rc }
def m3 (s : State) (f : McSt → McSt) : State := { s with mc := [(3, f McSt.init)] }
def setQ (s : State) (q : List SvcReq) : State := { s with ts := { s.ts with queue := q } }

/-- An instruction word (R180) of a row of the opcode map: vector fields d, a, b where the row has them, and imm. -/
def wordOf (m : SeqOp) (d a b : Nat) : Nat :=
  match opRows.find? (fun r => r.m == m) with
  | some r => r.op * 2 ^ 26 + (if r.d = .zero then 0 else d * 2 ^ 22) + (if r.a = .zero then 0 else a * 2 ^ 18) +
      (if r.b = .zero then 0 else b * 2 ^ 14) + r.fn
  | none => 0

/-- Sequencer 1 runs at 0x200, where a word stands. -/
def seqAt (w : Nat) (f : Seqr → Seqr) : State :=
  { ((up0.set1 SQ_CTL_EN 1).set1 SQ_STATUS_RUNNING 1).setFld SQ_PC_PC 1 0x200 with
    mem := memPut [] 0x60020200 4 w, seqs := [(1, f Seqr.init)] }

/-- The state a command leaves. -/
def run1 (o : State → Host.Outcome State Fault Refusal) (s : State) : State := match o s with | .next t => t | _ => s

/-- TDC channel 3, enabled, with a calibration histogram that spans its lines. -/
def spanning (s : State) : State := td (s.set1 TM_CH_CTL_EN 3) 3 fun t =>
  { t with hits := 2 ^ 20, hist := [(0, 1), (100, 2 ^ 20 - 2), (256, 1), (512, 1), (612, 2 ^ 20 - 2), (768, 1), (1024, 1), (1124, 2 ^ 20 - 2),
                                    (1280, 1), (1536, 1), (1636, 2 ^ 20 - 2), (1792, 1)] }

/-- MAC 3 enabled on an Ethernet group with its link up. -/
def macUp (s : State) : State :=
  ((((s.setFld SL_GRP_CFG_MODE 0 1).set1 MC_STATUS_LINK_UP 3).set1 MC_CTL_EN 3).set1 MC_CTL_PROMISC 3).setFld MC_MAX_FRAME_OCTETS 3 1522
def rxf : RxFrame := { inst := 3, bytes := List.range 100, stamp := 99, bound := 5, seq := 0 }
def txf : TxFrame := { cls := 2, bytes := List.range 100, host := none, since := 0, aged := false, sent := 0, frags := 0 }

/-- A UDP frame over IPv4 to a port. -/
def udp4 (dport bad : Nat) : List Nat :=
  List.replicate 6 0xFF ++ [2, 0, 0, 0, 0, 9, 8, 0, 0x45, 0] ++ toBytesBE 2 76 ++
    [0, 0, 0, 0, 64, 17, 0x66 + bad, 0x9F, 10, 0, 0, 1, 10, 0, 0, 2, 0x03, 0xE8] ++ toBytesBE 2 dport ++ toBytesBE 2 56 ++ [0, 0] ++
    0x23 :: List.replicate 47 5

/-- A response with its launch. -/
def rspx : Resp :=
  { kind := 0, inst := 3, rq := { tag := 1, unit_ := 0, inst := 3, peer := Peer.init, body := List.range 100, stamp := 1, bound := 2 },
    seqId := 0, keys := [], cookies := [], tries := 0, t3 := 0, b3 := 2 ^ 31, sealed := true, cleared := false, bytes := List.range 100 }

/-- The time service of a SERVICE engine, open to NTP and PTP. -/
def tsOn (s : State) : State := ((((((((s.setFld BT_MODE_MODE 0 1).set1 TS_CTL_EN 0).set1 TW_CTL_ALONE 0).set1 TS_SA_CTL_NTP 2).set1
  TS_SA_CTL_EN 2).setFld TS_LATENCY_NS 0 30000).setFld RS_STATE_ENGINE_STATE 0 2).setFld TS_CT_BASE_ADDR 0 0x1000800000).clr TC_STATUS_SAFE_CLOCK 0

/-- A PTP message and its TLVs. -/
def ptpM (ty flags2 : Nat) (tl : List Nat) : List Nat :=
  [ty, 2] ++ toBytesBE 2 (ptpFixed ty + tl.length) ++ [0, 0, flags2, 0] ++ toBytesBE 8 65536 ++ List.replicate 4 0 ++
    [1, 2, 3, 4, 5, 6, 7, 8, 0, 1, 0x12, 0x34, 0, 0] ++ toBytesBE 6 77 ++ toBytesBE 4 88 ++ List.replicate (ptpFixed ty - 44) 0 ++ tl
def tlv4 (k ty lg dur : Nat) : List Nat := toBytesBE 2 k ++ (if k = 6 then [0, 2] else if k = 4 then [0, 6] else [0, 8]) ++
  (if k = 6 then [ty * 16, 0] else [ty * 16, lg] ++ toBytesBE 4 dur ++ (if k = 4 then [] else [0, 1]))
def ptpPort (s : State) : State := ((((((s.set1 TS_PTP_CTL_EN 3).setFld TS_PTP_CTL_TRANSPORT 3 2).set1 TS_PTP_CTL_MCAST 3).set1
  TS_PTP_CTL_DELAY 3).clr TS_PTP_CTL_NEED_AUTH 3).clr RS_REF_CTL_NEED_AUTH 4).clr RS_REF_CTL_NEED_AUTH 5

/-- The receipt controller at work, with one submitter. -/
def rcOn (s : State) : State := (((((((((((s.setFld BT_MODE_MODE 0 1).set1 TW_CTL_ALONE 0).set1 RC_CTL_EN 0).set1 RC_CTL_SOLO 0).clr
  TC_STATUS_SAFE_CLOCK 0).setFld RC_JRN_CFG_LOG 0 12).setFld RC_JRN_BASE_ADDR 0 0x1000800000).setFld KS_SLOT_STATUS_STATE 6 1).setFld
  KS_SLOT_STATUS_STATE 2 1).setFld RC_TALLY_US 0 1000).setFld RC_MIRROR_TO_US 0 50 |>.setFld LC_STATE_CODE 0 1).setFld RC_SUB_BASE_ADDR 0 0x1000900000
def withSub (s : State) : State := rc s fun r =>
  { r with subs := [(5, some { id := 0x10005, loose := false, rate := 0, last := 9, blob := List.replicate 160 1, susp := false, tok := 0, at_ := 0 })],
           cache := [(5, 0, List.range 32)] }
def rqOf (t : Nat) (b : List Nat) : SvcReq := { tag := 2, unit_ := 1, inst := 3, peer := Peer.init, body := b, stamp := t, bound := 8 }
def reqB (id seq : Nat) : List Nat :=
  let b := toBytesBE 4 id ++ toBytesBE 8 seq ++ List.replicate 32 6
  b ++ (toBytesBE 32 (hmac256 (List.range 32) (ascii "JKRQ" ++ b))).take 16
def rcpt (s : State) (seq slot : Nat) : Rcpt :=
  { rq := rqOf s.now [], sub := 0x10005, seq := seq, digest := List.replicate 32 6, key := List.range 32, gap := false, prev := seq - 1,
    waiters := [], batch := 0, idx := 0, slot := slot, hash := 5, solo := true, written := false, at_ := s.ti.elapsed }
def bat (s : State) : Batch := { num := 4, start := s.now, bound_ := s.now + 5, slot := 0, leaves := [(77, 5, 6, true)], chain := true, close := none }
def rootR : RootRec := { num := 4, bytes := List.replicate 192 3, stage := 0, slot := 0, len := 3, pos := 0, end_ := 5, maxB := 6, key := false }
def arch (s : State) : State := ((((((s.set1 PE_STATUS_BME_PF0 0).setFld RC_CTL_FREE_RING 0 8).set1 RG_CTL_EN 24).setFld RG_CTL_CONSUMER 24 3).setFld RG_BASE_ADDR 24
  0xA00000).set1 RG_CTL_EN 50).setFld RG_PROD_COUNT 24 2

/-- One of a twin's pair, in a role. -/
def twin (s : State) (r : Nat) : State := ((((((((s.setFld BT_MODE_MODE 0 1).set1 TW_CTL_EN 0).setFld TW_STATUS_ROLE 0 r).setFld
  TW_LEASE_LEASE_US 0 100).setFld TW_LEASE_SILENCE_US 0 500).setFld RC_JRN_CFG_LOG 0 12).setFld RC_JRN_BASE_ADDR 0 0x1000800000).setFld
  RC_JRN_WRITE_INDEX 0 9).setFld RC_JRN_RELEASE_INDEX 0 3
def alive (s : State) : State := tw s fun t => { t with peer := some (2 * 2 ^ 14, s.ti.elapsed), pulse := some (s.ti.elapsed, true) }

/-- Both DRAM channels initialised, 16 GiB each. -/
def dramOn (s : State) : State :=
  ((s.set1 DR_STATUS_INIT_DONE 0).set1 DR_STATUS_INIT_DONE 1).setFld DR_STATUS_CAPACITY 0 16 |>.setFld DR_STATUS_CAPACITY 1 16

/-- Ring 20 feeds a frame of 100 octets at the host to MAC 3. -/
def txRing (s : State) : State :=
  let u := (((((macUp s).setFld RG_BASE_ADDR 20 0x30800000).setFld RG_CTL_SIZE_LOG2 20 4).set1 RG_CTL_EN 20).setFld RG_CTL_CONSUMER 20 1).setFld
    RG_PROD_COUNT 20 1
  { u with mem := memPut [] 0x30800000 32 (100 + 0x21 * 2 ^ 24 + 2 ^ 31 + 0x1000 * 2 ^ 64 + 3 * 2 ^ 160) }

/-- Performance counter 2 of sequencer 0 full. -/
def pcFull (s : State) : State := (((s.set1 SQ_CTL_EN 0).set1 SQ_STATUS_RUNNING 0).set1 PC_CFG_EN 1).setFld PC_CNT_COUNT 1 (2 ^ 48 - 1)

/-- A blob of an HMAC-SHA256 key under the KEK of slot 2 (R246), at the place that RC_SUB_BLOB names. -/
def blobHead : List Nat :=
  [0x4A, 0x42, 1, 0, 0, 1, 1, 0] ++ toBytesBE 8 Config.unitId ++ toBytesBE 8 0 ++ toBytesBE 4 0 ++ [0, 2, 0, 32] ++ keyIdSym 1 (List.range 32)
def blobText : List Nat := List.range 32 ++ List.replicate 32 0
def withBlob (s : State) : State :=
  { ((((rcOn s).setFld RC_SUB_BLOB_ADDR 0 0x20001000).setFld RC_SUB_ID_ID 0 0x10005).setFld RC_SUB_LAST_LAST 0 9) with
    mem := memPut [] 0x20001000 160 (ofBytes (blobHead ++ sivSeal [] blobHead blobText)) }

/-- What a state meets. -/
def from_ (s : State) (p : State → Bool) : Bool := p s

/-! ### Digests: the standard examples of FIPS 180-4 and of CRC-32C -/

theorem test_sha256 : sha256 [0x61, 0x62, 0x63] = 0xBA7816BF8F01CFEA414140DE5DAE2223B00361A396177A9CB410FF61F20015AD := by
  decide +kernel

theorem test_crc32c : crc32c [0x31, 0x32, 0x33, 0x34, 0x35, 0x36, 0x37, 0x38, 0x39] = 0xE3069283 := by decide +kernel

/-! ### One step each: results worked out from the rule named -/

/-- Sequencer 1 after one instruction at 0x200. -/
def after (c : Nat → Instr) (w : Nat) (f : Seqr → Seqr) : State := run1 (exec (c 1)) (seqAt w f)

/-- R185: the sum wraps to 0; Z and C set, N and V clear; PC moves by 4. -/
theorem test_add_wraps : (fun t : State => ((t.seq 1).rv 1, (t.seq 1).flags, t.pc 1))
    (after .add (wordOf .add 1 2 3) fun q => { q with v := [(2, 0xFFFFFFFF), (3, 1)] }) = (0, (true, false, true, false), 0x204) := by
  decide +kernel

/-- R185: after a subtraction C is clear when a borrow was needed. -/
theorem test_sub_borrows : (fun t : State => ((t.seq 1).rv 1, (t.seq 1).flags))
    (after .sub (wordOf .sub 1 2 3) fun q => { q with v := [(2, 3), (3, 5)] }) = (0xFFFFFFFE, (false, true, false, false)) := by
  decide +kernel

/-- R184: V0 reads as zero and discards what is written. -/
theorem test_v0 : (after .ldi (wordOf .ldi 0 0 0 + 7) id).seq 1 = { Seqr.init with wdog := ((after .ldi (wordOf .ldi 0 0 0 + 7) id).seq 1).wdog } := by
  decide +kernel

/-- R190: an arithmetic shift right keeps the sign; C is the last bit moved out. -/
theorem test_asri : (fun t : State => ((t.seq 1).rv 1, (t.seq 1).cf))
    (after .asri (wordOf .asri 1 2 0 + 4) fun q => { q with v := [(2, 0x80000008)] }) = (0xF8000000, true) := by decide +kernel

/-- R204: BIF of Z moves PC by four times its signed offset. -/
theorem test_bif_back : (after .bif (wordOf .bif 1 0 0 + 0x3FFF) fun q => { q with zf := true }).pc 1 = 0x1FC := by decide +kernel

/-- R206: TRAP 5 saves the mode and the address and enters at the vector with cause 11. -/
theorem test_trap : (fun t : State => ((t.seq 1).epc, t.fld SQ_STATUS_LAST_CAUSE 1, t.flag SQ_STATUS_IN_EXC 1))
    (after .trap (wordOf .trap 0 0 0 + 5) id) = (0x200, 11, true) := by decide +kernel

/-- With no command waiting, a step leaves the block as it is. -/
theorem test_idle : step State.reset = .next State.reset := rfl

/-- The front command is taken from the queue. -/
theorem test_front : step { up0 with pending := [.add 9, .sub 1] } = .fault .noSuchUnit := rfl

/-! ### Witnesses of the statements' hypotheses -/

theorem wit_StepRunsFrontCommand : from_ { up0 with pending := [.sub 1, .add 1] } fun s => s.pending.length == 2 := by decide +kernel

/-- A state that meets the invariant, not the one after reset, and steps. -/
theorem wit_StepKeepsInvariant : ∃ s t : State, s.Inv ∧ s.mem ≠ [] ∧ step s = .next t :=
  ⟨seqAt 5 id, seqAt 5 id, ⟨by decide +kernel, by decide +kernel, by unfold QueueOk; decide +kernel⟩, by decide +kernel, rfl⟩

theorem wit_CommandsOnlyGoForward : ∃ t : State, exec (.gpioSet .pf0 3) up0 = .next t := ⟨_, rfl⟩

theorem wit_RangeDecidesCompletion :
    (Instr.seqEnable .pf0 7).inRange = true ∧ (Instr.seqEnable .pf0 8).inRange = false := by decide +kernel

/-- A register the spec gives no reset value of its own instance, and the bounds of the loss times. -/
theorem wit_ResetState : (resetRegs.all (fun p => p.1 != TC_SLIDE_SLOPE_SLOPE.key 0)) = true ∧ 4 ≤ 5 ∧ 5 < 8 ∧ 4 ≤ 7 ∧ 7 < 8 := by
  decide +kernel

/-- Whether sequencer 1 is ready for an instruction at 0x200, with what more the statement asks. -/
def ready (m : SeqOp) (imm : Nat) (f : Seqr → Seqr) (p : Ins → State → Bool) : Bool :=
  from_ (seqAt (wordOf m 1 2 3 + imm) f) fun s => s.canIssue 1 &&
    (match s.insAt 1 with | some i => i.row.m == m && !(i.blocked (s.seq 1)) && p i s | none => false)

theorem wit_AddAndSubtract : [SeqOp.add, .addi, .addc, .sub, .subi, .subc].all (fun m => ready m 0 id fun _ _ => true) = true := by
  decide +kernel

theorem wit_LogicExtremesProducts : [SeqOp.and_, .or_, .xor_, .andi, .ori, .xori, .ldi, .min_, .max_, .minu, .maxu, .mul, .mulhs, .mulhu,
    .clz].all (fun m => ready m 0 id fun _ _ => true) = true := by decide +kernel

theorem wit_Shifts : [SeqOp.shl, .shli, .shr, .shri, .asr, .asri].all (fun m => ready m 0 id fun _ _ => true) = true := by decide +kernel

theorem wit_AccumulatorInstructions : [SeqOp.macs, .macu, .msbs, .msbu, .accadd, .accset, .clracc, .accmov, .accw, .accwr, .accrd].all
    (fun m => ready m 0 id fun _ _ => true) = true := by decide +kernel

theorem wit_TimeRegisters : [SeqOp.tnow, .tmov, .taddn, .tadd, .taddf, .tseth, .tset].all (fun m => ready m 0 id fun _ _ => true) = true ∧
    ready .textw 0 (fun q => { q with t := [(2, toTime128 (5000 * secU))] }) (fun i s =>
      time128Ok ((s.seq 1).rt i.a) && decide ((s.seq 1).rt i.a < 2 ^ 128 ∧ 2 ^ 31 ≤ ofTime128 ((s.seq 1).rt i.a) / nsU ∧
        ofTime128 ((s.seq 1).rt i.a) / nsU + 2 ^ 31 < timeMod / nsU)) = true := by decide +kernel

theorem wit_TimeValues : [SeqOp.tdifn, .tdiff, .tcmp, .tsec, .tsech, .tns, .tfrac, .twnc].all (fun m => ready m 0 id fun _ _ => true) = true := by
  decide +kernel

/-- The last byte, halfword, word and sixteen bytes of the data RAM. -/
theorem wit_DataRamForms : [(SeqOp.ldw, 4), (.ldh, 2), (.ldhu, 2), (.ldb, 1), (.ldbu, 1), (.ldt, 16), (.stw, 4), (.sth, 2), (.stb, 1), (.stt, 16)].all
    (fun x => ready x.1 0 (fun q => { q with v := [(2, 65536 - x.2)] }) fun i s =>
      ramAddr 1 i (s.seq 1) == 0x60050000 - x.2 - 0x10000 && ramAddr 1 i (s.seq 1) % x.2 == 0) = true := by decide +kernel

/-- Each condition met and not met, calls with 15 addresses held, and the outstanding and idle fence. -/
theorem wit_Jumps :
    (List.range 15).all (fun k => ready .nop 0 id fun _ _ => from_ (seqAt (wordOf .bif k 0 0 + 4) id) fun s =>
      s.canIssue 1 && (match s.insAt 1 with | some i => i.row.m == .bif && i.d == k && !(i.blocked (s.seq 1)) | none => false)) = true ∧
    ready .call 16 (fun q => { q with ret := List.replicate 15 8 }) (fun _ s => decide ((s.seq 1).ret.length < 16)) = true ∧
    ready .jr 0 (fun q => { q with v := [(2, 0xFFFC)] }) (fun i s => ((s.seq 1).rv i.a).toNat % 4 == 0) = true ∧
    ready .callr 0 (fun q => { q with v := [(2, 0xFFFC)], ret := List.replicate 15 8 })
      (fun i s => ((s.seq 1).rv i.a).toNat % 4 == 0 && decide ((s.seq 1).ret.length < 16)) = true ∧
    ready .nop 0 id (fun _ _ => true) = true ∧ ready .fence 0 id (fun _ s => (s.seq 1).txns.isEmpty) = true ∧
    ready .fence 0 (fun q => { q with txns := [⟨false, false, 4, 0x20000004, 0, 0x200, false⟩] }) (fun _ s => !(s.seq 1).txns.isEmpty) = true := by
  decide +kernel

/-- Conditions that hold and that do not hold (R186). -/
theorem wit_Conditions : condition 1 { Seqr.init with zf := true } ∧ ¬ condition 1 Seqr.init ∧ condition 13 Seqr.init ∧
    ¬ condition 14 Seqr.init ∧ condition 0 Seqr.init := by simp [condition, Seqr.init]

theorem wit_MatrixInstructions : [(SeqOp.mldw, 4), (.mstw, 4), (.mldt, 16), (.mstt, 16)].all (fun x =>
    ready x.1 0 (fun q => { q with v := [(2, 0), (3, 0x20000000)], txns := List.replicate 7 ⟨false, false, 4, 0x20000004, 0, 0x200, false⟩ }) fun i s =>
      i.mea (s.seq 1) % x.2 == 0 && s.matrixMay 1 (i.mea (s.seq 1)) && decide ((s.seq 1).txns.length < 8)) = true := by decide +kernel

theorem wit_KeyAndRingForms : [SeqOp.kstage, .kcommit, .kinval, .kstat, .rpush, .rpop].all (fun m =>
    ready m 0 (fun q => { q with v := [(3, 0xFFE0)] }) fun i s => !(s.user 1) && ((s.seq 1).rv i.b).toNat % 65536 % 32 == 0) = true := by
  decide +kernel

/-- An uncorrectable error, by a read and by the scrubber, on a channel that scrubs. -/
theorem wit_DramErrors : from_ ((dramOn up0).setFld DR_SCRUB_HOURS 0 24) (fun s => let a := 0x1000000040; inDram a && s.dramOk a &&
    !(s.poison.contains (a / 64)) && s.flag DR_SCRUB_HOURS (dramCh a)) = true := by decide +kernel

/-! The set of a client's entry is a free value of the model (the table's hash); with one set it is set 0, whatever the hash. -/

/-- A PTP port with one set in its client table. -/
def oneSet (s : State) : State := (ptpPort (tsOn s)).setFld TS_CT_CFG_SETS_LOG2 0 0
theorem ctSet_one (s : State) (key : List Nat) (h : s.fld TS_CT_CFG_SETS_LOG2 0 = 0) : s.ctSet key = 0 := by
  unfold State.ctSet; rw [h]; exact Nat.mod_one _

/-- A Signaling message from a client: a request of Sync for 300 seconds, and its cancelling. -/
def askGrant (tag : Nat) (tl : List Nat) : SvcReq :=
  { tag := tag, unit_ := 3, inst := 3, peer := Peer.init, body := ptpM 12 0 tl, stamp := 7, bound := 8 }
def granting (uni : Bool) : State :=
  let s := setQ (oneSet up0) [askGrant 6 (tlv4 4 0 1 300)]
  if uni then s.set1 TS_PTP_CTL_UNICAST 3 else s
def granted : State :=
  let s := setQ (oneSet up0) [askGrant 7 (tlv4 6 0 0 0)]
  { s with mem := memPut [] (s.ctAddr 0 0) 64 (ofBytes ([2, 0, 0, 0, 0, 0, 0, 0] ++ clientKey 0 0 ++ List.replicate 8 0 ++
      ((askGrant 7 []).body.drop 20).take 8 ++ [1, 0] ++ List.replicate 22 0)) }

theorem wit_PtpGrantFind : ∀ uni : Bool, (granting uni).grantFind 0 0 (((askGrant 6 []).body.drop 20).take 10) = none := by
  intro uni
  unfold State.grantFind
  rw [ctSet_one _ _ (by cases uni <;> decide +kernel)]
  cases uni <;> decide +kernel

theorem wit_PtpGrantPlace : ∀ (uni : Bool) (key : List Nat), (granting uni).ctPlace ((granting uni).ctSet key) = some 0x1000800000 := by
  intro uni key
  rw [ctSet_one _ _ (by cases uni <;> decide +kernel)]
  cases uni <;> decide +kernel

theorem wit_PtpGrantRequest : (∀ uni : Bool, (granting uni).waiting 6 none = some (askGrant 6 (tlv4 4 0 1 300)) ∧
    (granting uni).ptpAuth (askGrant 6 (tlv4 4 0 1 300)).body = 0 ∧ (granting uni).flag TS_PTP_CTL_NEED_AUTH 3 = false ∧
    ptpTlvs (askGrant 6 (tlv4 4 0 1 300)).body = [(4, [0, 1, 0, 0, 1, 44])] ∧ grantType 0 = some 1 ∧ (granting uni).stopped = false ∧
    (granting uni).poison = [] ∧ (granting uni).flag TS_PTP_CTL_UNICAST 3 = uni) ∧ (granting true).grantMin 3 1 ≤ 1 := by
  decide +kernel

theorem wit_PtpGrantCancel : granted.waiting 7 none = some (askGrant 7 (tlv4 6 0 0 0)) ∧ granted.ptpAuth (askGrant 7 (tlv4 6 0 0 0)).body = 0 ∧
    granted.flag TS_PTP_CTL_NEED_AUTH 3 = false ∧ ptpTlvs (askGrant 7 (tlv4 6 0 0 0)).body = [(6, [0, 0])] ∧ grantType 0 = some 1 ∧
    granted.grantFind 0 0 (((askGrant 7 (tlv4 6 0 0 0)).body.drop 20).take 10) = some 0x1000800000 := by
  refine ⟨by decide +kernel, by decide +kernel, by decide +kernel, by decide +kernel, by decide +kernel, ?_⟩
  unfold State.grantFind
  rw [ctSet_one _ _ (by decide +kernel)]
  decide +kernel

/-! A calibration table that spans its lines: the positions by one recursion, which the kernel evaluates quickly. -/

def linePos (h : List (Nat × Nat)) (n j : Nat) : Nat → List Nat → List (Nat × Nat)
  | _, [] => []
  | a, c :: l => (j * 512 + c, a + smGet 0 h (j * 512 + c) * 20971520 / n / 2) :: linePos h n j (a + smGet 0 h (j * 512 + c) * 20971520 / n) l

theorem tmLine_linePos (h : List (Nat × Nat)) (n j : Nat) : tmLine h n j = linePos h n j 0 (List.range 257) := by
  have key : ∀ (l : List Nat) (p : Nat × List (Nat × Nat)),
      (l.foldl (fun (a : Nat × List (Nat × Nat)) c =>
        let w := smGet 0 h (j * 512 + c) * 20971520 / n
        (a.1 + w, a.2 ++ [(j * 512 + c, a.1 + w / 2)])) p).2 = p.2 ++ linePos h n j p.1 l := by
    intro l
    induction l with
    | nil => intro p; simp [linePos]
    | cons c l ih => intro p; rw [List.foldl_cons, ih]; simp [linePos]
  exact key (List.range 257) (0, [])

theorem wit_CalTableComplete :
    (spanning up0).safe = false ∧ (spanning up0).tmComplete 3 = true ∧ (spanning up0).tmSpanOk 3 = true := by
  refine ⟨by decide +kernel, by decide +kernel, ?_⟩
  unfold State.tmSpanOk State.tmBuilt
  simp only [tmLine_linePos]
  decide +kernel

/-! A sealed blob opens, whatever the cipher is: the AES-SIV of the model is uninterpreted. -/

theorem ofBytes_toBytes (k v : Nat) : ofBytes (toBytes k v) = v % 256 ^ k := by
  induction k generalizing v with
  | zero => simp [toBytes, ofBytes, Nat.mod_one]
  | succ k ih =>
    simp only [toBytes, ofBytes, ih, Nat.mod_mod]
    rw [Nat.pow_succ, Nat.mul_comm (256 ^ k) 256, Nat.mod_mul]

theorem toBytes_length (k v : Nat) : (toBytes k v).length = k := by
  induction k generalizing v with
  | zero => rfl
  | succ k ih => simp [toBytes, ih]

theorem toBytes_lt (k v : Nat) : ∀ b ∈ toBytes k v, b < 256 := by
  induction k generalizing v with
  | zero => simp [toBytes]
  | succ k ih =>
    intro b hb
    rcases List.mem_cons.1 hb with h | h
    · subst h; exact Nat.mod_lt _ (by decide)
    · exact ih _ b h

theorem toBytes_ofBytes (bs : List Nat) (h : ∀ b ∈ bs, b < 256) : toBytes bs.length (ofBytes bs) = bs := by
  induction bs with
  | nil => rfl
  | cons b bs ih =>
    have hb : b < 256 := h b (by simp)
    simp only [List.length_cons, toBytes, ofBytes]
    rw [show (b % 256 + 256 * ofBytes bs) % 256 = b by omega, show (b % 256 + 256 * ofBytes bs) / 256 = ofBytes bs by omega,
      ih fun c hc => h c (by simp [hc])]

theorem toBytesBE_length (k v : Nat) : (toBytesBE k v).length = k := by simp [toBytesBE, toBytes_length]
theorem toBytesBE_lt (k v : Nat) : ∀ b ∈ toBytesBE k v, b < 256 := fun b hb => toBytes_lt k v b (by simpa [toBytesBE] using hb)
theorem ofBytesBE_toBytesBE (k v : Nat) (h : v < 256 ^ k) : ofBytesBE (toBytesBE k v) = v := by
  simp only [ofBytesBE, toBytesBE, List.reverse_reverse, ofBytes_toBytes, Nat.mod_eq_of_lt h]

/-- Bytes of working SRAM, by the number that they spell. -/
theorem bytesAt_sram (s : State) (k : Nat) : ∀ a, 0x20000000 ≤ a → s.bytesAt a k = toBytes k (memNat s.mem a k) := by
  induction k with
  | zero => intros; rfl
  | succ k ih =>
    intro a h
    have hb : s.byteAt a = (memGet s.mem a).toNat := by
      unfold State.byteAt
      rw [if_neg (by omega), if_neg (by omega)]
    have := (memGet s.mem a).isLt
    simp only [State.bytesAt, toBytes, memNat, hb]
    rw [ih (a + 1) (by omega), show ((memGet s.mem a).toNat + 256 * memNat s.mem (a + 1) k) % 256 = (memGet s.mem a).toNat by omega,
      show ((memGet s.mem a).toNat + 256 * memNat s.mem (a + 1) k) / 256 = memNat s.mem (a + 1) k by omega]

theorem sivXor_length (key iv bs : List Nat) : (sivXor key iv bs).length = bs.length := by simp [sivXor]

theorem sivXor_sivXor (key iv bs : List Nat) : sivXor key iv (sivXor key iv bs) = bs := by
  apply List.ext_getElem
  · simp [sivXor]
  · intro i h1 h2
    simp [sivXor]

theorem sivXor_lt (key iv bs : List Nat) (h : ∀ b ∈ bs, b < 256) : ∀ b ∈ sivXor key iv bs, b < 256 := by
  intro b hb
  simp only [sivXor, List.mem_map, Prod.exists] at hb
  obtain ⟨x, i, hx, rfl⟩ := hb
  have : x < 256 := h x (by
    obtain ⟨_, hj, he⟩ := List.mem_zipIdx hx
    simp at hj he
    rw [he]; exact List.getElem_mem _)
  exact Nat.xor_lt_two_pow (n := 8) this (Nat.mod_lt _ (by decide))

theorem sivOpen_sivSeal (key ad p : List Nat) : sivOpen key ad (sivSeal key ad p) = some p := by
  have hl : (sivIv key ad p).length = 16 := toBytesBE_length _ _
  unfold sivOpen sivSeal
  simp only [List.take_left' hl, List.drop_left' hl, sivXor_sivXor]
  simp [hl]

theorem sivSeal_length (key ad p : List Nat) : (sivSeal key ad p).length = 16 + p.length := by
  unfold sivSeal sivIv
  simp [toBytesBE_length, sivXor_length]

theorem sivSeal_lt (key ad p : List Nat) (h : ∀ b ∈ p, b < 256) : ∀ b ∈ sivSeal key ad p, b < 256 := by
  unfold sivSeal sivIv
  intro b hb
  rcases List.mem_append.1 hb with hb | hb
  · exact toBytesBE_lt _ _ b hb
  · exact sivXor_lt _ _ _ h b hb

theorem blobHead_length : blobHead.length = 80 := by simp [blobHead, keyIdSym, sha384b, toBytesBE_length]
theorem blobHead_lt : ∀ b ∈ blobHead, b < 256 := by
  intro b hb
  simp only [blobHead, keyIdSym, sha384b, List.mem_append] at hb
  rcases hb with ((((h | h) | h) | h) | h) | h
  · revert b; decide
  · exact toBytesBE_lt _ _ b h
  · exact toBytesBE_lt _ _ b h
  · exact toBytesBE_lt _ _ b h
  · revert b; decide
  · exact toBytesBE_lt _ _ b h

theorem toBytes_mod (k : Nat) : ∀ v, toBytes k (v % 256 ^ k) = toBytes k v := by
  induction k with
  | zero => intros; rfl
  | succ k ih =>
    intro v
    simp only [toBytes]
    rw [Nat.pow_succ, Nat.mul_comm (256 ^ k) 256, Nat.mod_mul_right_mod, Nat.mod_mul_right_div_self, ih]

theorem bytesAt_memPut (s : State) (a : Nat) (bs : List Nat) (m : List Host.Cell) (ha : 0x20000000 ≤ a) (h : ∀ b ∈ bs, b < 256)
    (hm : s.mem = memPut m a bs.length (ofBytes bs)) : s.bytesAt a bs.length = bs := by
  rw [bytesAt_sram _ _ _ ha, hm, memNat_memPut, toBytes_mod, toBytes_ofBytes _ h]

theorem blob_length : (blobHead ++ sivSeal [] blobHead blobText).length = 160 := by
  rw [List.length_append, blobHead_length, sivSeal_length]; rfl

theorem withBlob_bytes (s : State) : (withBlob s).bytesAt 0x20001000 160 = blobHead ++ sivSeal [] blobHead blobText := by
  rw [← blob_length]
  refine bytesAt_memPut _ _ _ [] (by decide) ?_ (by simp only [blob_length, withBlob])
  intro b h
  rcases List.mem_append.1 h with h | h
  · exact blobHead_lt b h
  · exact sivSeal_lt _ _ _ (by decide) b h

theorem wit_blobOpen : (withBlob up0).blobOpen ((withBlob up0).bytesAt 0x20001000 160) =
    .ok ({ usage := 2, gen := 0, keyId := keyIdSym 1 (List.range 32), key := List.range 32, pub := [], pair := false, tag := [] }, 1, false) := by
  rw [withBlob_bytes]
  have hk : (keyIdSym 1 (List.range 32)).length = 48 := toBytesBE_length _ _
  have hu : ofBytesBE (toBytesBE 8 Config.unitId) = Config.unitId := ofBytesBE_toBytesBE _ _ Config.unitFuses.isLt
  have ho : (withBlob up0).blobOwner false = (Config.unitId, 0) := rfl
  have hp : (withBlob up0).ks.kekPair = false := rfl
  have hg : (withBlob up0).genSlot 0 0 = some 2 := by decide +kernel
  have hs : ((withBlob up0).kslot 2).key = [] := by decide +kernel
  have h80 : (blobHead ++ sivSeal [] blobHead blobText).take 80 = blobHead := List.take_left' blobHead_length
  have hd : ((blobHead ++ sivSeal [] blobHead blobText).drop 80).take 80 = sivSeal [] blobHead blobText := by
    rw [List.drop_left' blobHead_length, List.take_of_length_le (by rw [sivSeal_length]; decide)]
  have cut : ∀ U K X : List Nat, U.length = 8 → K.length = 48 →
      let b := ([0x4A, 0x42, 1, 0, 0, 1, 1, 0] ++ U ++ toBytesBE 8 0 ++ toBytesBE 4 0 ++ [0, 2, 0, 32] ++ K) ++ X
      b.take 6 = [0x4A, 0x42, 1, 0, 0, 1] ∧ b.getD 6 0 = 1 ∧ b.getD 7 0 = 0 ∧ (b.drop 8).take 8 = U ∧ (b.drop 16).take 8 = toBytesBE 8 0 ∧
        (b.drop 24).take 4 = toBytesBE 4 0 ∧ (b.drop 28).take 2 = [0, 2] ∧ (b.drop 30).take 2 = [0, 32] ∧ (b.drop 32).take 48 = K := by
    intro U K X hU hK
    obtain ⟨a0, a1, a2, a3, a4, a5, a6, a7, rfl⟩ : ∃ a0 a1 a2 a3 a4 a5 a6 a7, U = [a0, a1, a2, a3, a4, a5, a6, a7] := by
      match U, hU with
      | [a0, a1, a2, a3, a4, a5, a6, a7], _ => exact ⟨a0, a1, a2, a3, a4, a5, a6, a7, rfl⟩
    refine ⟨rfl, rfl, rfl, rfl, rfl, rfl, rfl, rfl, ?_⟩
    exact List.take_left' hK
  obtain ⟨c1, c2, c3, c4, c5, c6, c7, c8, c9⟩ :=
    cut (toBytesBE 8 Config.unitId) (keyIdSym 1 (List.range 32)) (sivSeal [] blobHead blobText) (toBytesBE_length _ _) hk
  rw [← blobHead] at c1 c2 c3 c4 c5 c6 c7 c8 c9
  have z8 : ofBytesBE (toBytesBE 8 0) = 0 := by decide
  have z4 : ofBytesBE (toBytesBE 4 0) = 0 := by decide
  have hx : blobText.take (ofBytesBE [0, 32]) = List.range 32 := by decide
  have hw : ofBytesBE [0, 2] = 2 := by decide
  have b0 : bitOf 0 1 = false ∧ bitOf 0 0 = false := by decide
  unfold State.blobOpen
  simp only [c1, c2, c3, c4, c5, c6, c7, c8, c9, hp, ho, hu, z8, z4, hg, hs, h80, hd, sivOpen_sivSeal, hx, hw, b0]
  simp

theorem wit_SubmitterBlob : (withBlob up0).fld RC_SUB_BLOB_ADDR 0 = 0x20001000 ∧ (withBlob up0).ksGate .pf0 = 0 ∧
    (withBlob up0).subAt ((withBlob up0).fld RC_SUB_ID_ID 0) = none ∧ (withBlob up0).fld RC_SUB_BASE_ADDR 0 ≠ 0 ∧
    (withBlob up0).mayWrite .pf0 .RC = true ∧ (withBlob up0).privileged .pf0 = true ∧ bitOf 2 1 = true ∧
    32 ≤ (List.range 32).length ∧ (List.range 32).length ≤ 64 ∧
    ((({ withBlob up0 with rc := (withSub up0).rc } : State).subAt 0x10005).map (·.id)) = some 0x10005 := by decide +kernel

theorem wit_WaitsAndCompares :
    (from_ (seqAt (wordOf .waitt 0 1 0 + 0) id) fun s =>
      let n : Nat := 1; decide (n < 8 ∧ s.canIssue n = true) &&
        (match s.insAt n with | some i => decide (i.row.m = .waitt ∧ i.blocked (s.seq n) = false ∧ (s.seq n).rt i.a ≤ toTime128 s.now) | _ => false)) ∧
    (from_ (seqAt (wordOf .waitt 0 1 0 + 0) (fun q => { q with t := [(1, 2 ^ 120)] })) fun s =>
      let n : Nat := 1; decide (n < 8 ∧ s.canIssue n = true) &&
        (match s.insAt n with | some i => decide (i.row.m = .waitt ∧ i.blocked (s.seq n) = false ∧ toTime128 s.now < (s.seq n).rt i.a) | _ => false)) ∧
    (from_ (seqAt (wordOf .waitt 0 1 0 + 0) (fun q => { q with wait := .time 5 })) fun s =>
      let n : Nat := 1; decide (n < 8) &&
        (match (s.seq n).wait with | .time x => decide ((s.seq n).late = []) && (match s.insAt n with | some _ => decide (x ≤ toTime128 s.now) | _ => false) | _ => false)) ∧
    (from_ (seqAt (wordOf .waitt 0 1 0 + 0) (fun q => { q with wait := .time (2 ^ 120) })) fun s =>
      let n : Nat := 1; decide (n < 8) &&
        (match (s.seq n).wait with | .time x => decide ((s.seq n).late = []) && (match s.insAt n with | some _ => decide (toTime128 s.now < x) | _ => false) | _ => false)) ∧
    (from_ ({ seqAt (wordOf .waite 2 0 0 + 0x1000) id with uart := [(0, { UartSt.init with rx := [5] })] }) fun s =>
      let n : Nat := 1; decide (n < 8 ∧ s.canIssue n = true) &&
        (match s.insAt n with | some i => decide (i.row.m = .waite ∧ i.blocked (s.seq n) = false ∧ s.evPending n &&& i.zimm.toNat ≠ 0) | _ => false)) ∧
    (from_ (seqAt (wordOf .waite 2 0 0 + 8191) (fun q => { q with events := latchedMask })) fun s =>
      let n : Nat := 1; decide (n < 8 ∧ s.canIssue n = true) &&
        (match s.insAt n with | some i => decide (i.row.m = .waite ∧ i.blocked (s.seq n) = false ∧ s.evPending n &&& i.zimm.toNat = 0) | _ => false)) ∧
    (from_ (seqAt (wordOf .waite 2 0 0 + 5) (fun q => { q with wait := .event 2 latchedMask, events := latchedMask })) fun s =>
      let n : Nat := 1; decide (n < 8) &&
        (match (s.seq n).wait with | .event _ mask => decide ((s.seq n).late = []) && (match s.insAt n with | some _ => decide (s.evPending n &&& mask ≠ 0) | _ => false) | _ => false)) ∧
    (from_ (seqAt (wordOf .waite 2 0 0 + 5) (fun q => { q with wait := .event 2 5 })) fun s =>
      let n : Nat := 1; decide (n < 8) &&
        (match (s.seq n).wait with | .event _ mask => decide ((s.seq n).late = []) && (match s.insAt n with | some _ => decide (s.evPending n &&& mask = 0) | _ => false) | _ => false)) ∧
    (from_ (seqAt (wordOf .arm 0 1 0 + 0) id) fun s =>
      let n : Nat := 1; decide (n < 8 ∧ s.canIssue n = true) &&
        (match s.insAt n with | some i => decide (i.row.m = .arm ∧ i.blocked (s.seq n) = false) | _ => false)) ∧
    (from_ (seqAt (wordOf .disarm 0 1 0 + 0) id) fun s =>
      let n : Nat := 1; decide (n < 8 ∧ s.canIssue n = true) &&
        (match s.insAt n with | some i => decide (i.row.m = .disarm ∧ i.blocked (s.seq n) = false) | _ => false)) ∧
    (from_ (seqAt (wordOf .nop 0 0 0 + 0) (fun q => { q with cmp := [(0, some 0), (1, some (2 ^ 120))] })) fun s =>
      let n : Nat := 1; let k : Nat := 0; decide (n < 8 ∧ k < 4) &&
        (match smGet none (s.seq n).cmp k with | some x => decide (x ≤ toTime128 s.now) | _ => false)) ∧
    (from_ (seqAt (wordOf .nop 0 0 0 + 0) (fun q => { q with cmp := [(0, some 0), (1, some (2 ^ 120))] })) fun s =>
      let n : Nat := 1; let k : Nat := 1; decide (n < 8 ∧ k < 4) &&
        (match smGet none (s.seq n).cmp k with | some x => decide (toTime128 s.now < x) | _ => false)) := by decide +kernel

theorem wit_DataRam :
    (from_ (seqAt (wordOf .ldt 1 0 3 + 0) id) fun s =>
      let n : Nat := 1; decide (n < 8 ∧ s.canIssue n = true) &&
        (match s.insAt n with | some i => decide (i.row.m = .ldt ∧ i.blocked (s.seq n) = false ∧ ramAddr n i (s.seq n) % 16 = 0) | _ => false)) := by decide +kernel

theorem wit_ControlTransfer :
    (from_ (seqAt (wordOf .ret 0 0 0 + 0) (fun q => { q with ret := [8, 12] })) fun s =>
      let n : Nat := 1; decide (n < 8 ∧ s.canIssue n = true) &&
        (match s.insAt n with | some i => decide (i.row.m = .ret ∧ i.blocked (s.seq n) = false) && (match (s.seq n).ret with | _ :: _ => true | _ => false) | _ => false)) := by decide +kernel

theorem wit_SystemInstructions :
    (from_ (seqAt (wordOf .fence 0 0 0 + 0) (fun q => { q with wait := .fence })) fun s =>
      let n : Nat := 1; decide (n < 8 ∧ (s.seq n).wait = .fence) &&
        (match s.insAt n with | some _ => decide ((s.seq n).txns = [] ∧ (s.seq n).late = [] ∧ s.flag SQ_STATUS_BUSY n = false) | _ => false)) ∧
    (from_ ((seqAt (wordOf .rfe 0 0 0 + 0) (fun q => { q with epc := 0x40 })).set1 SQ_STATUS_IN_EXC 1) fun s =>
      let n : Nat := 1; decide (n < 8 ∧ s.canIssue n = true) &&
        (match s.insAt n with | some i => decide (i.row.m = .rfe ∧ i.blocked (s.seq n) = false ∧ s.flag SQ_STATUS_IN_EXC n = true ∧ s.user n = false ∧ (s.seq n).epc % 4 = 0) | _ => false)) ∧
    (from_ (seqAt (wordOf .halt 0 0 0 + 0) id) fun s =>
      let n : Nat := 1; decide (n < 8 ∧ s.canIssue n = true) &&
        (match s.insAt n with | some i => decide (i.row.m = .halt ∧ i.blocked (s.seq n) = false ∧ s.user n = false) | _ => false)) := by decide +kernel

theorem wit_InstructionExceptions :
    (from_ (seqAt (wordOf .ldw 1 2 3 + 0) (fun q => { q with v := [(2, 1), (3, 1)] })) fun s =>
      let n : Nat := 1; decide (s.flag SQ_STATUS_IN_EXC n = false ∧
        (s.fld SQ_WDOG_LIMIT n = 0 ∨ (s.seq n).wdog < s.fld SQ_WDOG_LIMIT n) ∧ n < 8 ∧ s.canIssue n = true) &&
        (match s.insAt n with | some i => decide (i.row.m = .ldw ∧ i.blocked (s.seq n) = false ∧ ramAddr n i (s.seq n) % 4 ≠ 0) | _ => false)) ∧
    (from_ (seqAt (wordOf .ldh 1 2 3 + 0) (fun q => { q with v := [(2, 1), (3, 1)] })) fun s =>
      let n : Nat := 1; decide (s.flag SQ_STATUS_IN_EXC n = false ∧
        (s.fld SQ_WDOG_LIMIT n = 0 ∨ (s.seq n).wdog < s.fld SQ_WDOG_LIMIT n) ∧ n < 8 ∧ s.canIssue n = true) &&
        (match s.insAt n with | some i => decide (i.row.m = .ldh ∧ i.blocked (s.seq n) = false ∧ ramAddr n i (s.seq n) % 2 ≠ 0) | _ => false)) ∧
    (from_ (seqAt (wordOf .ldhu 1 2 3 + 0) (fun q => { q with v := [(2, 1), (3, 1)] })) fun s =>
      let n : Nat := 1; decide (s.flag SQ_STATUS_IN_EXC n = false ∧
        (s.fld SQ_WDOG_LIMIT n = 0 ∨ (s.seq n).wdog < s.fld SQ_WDOG_LIMIT n) ∧ n < 8 ∧ s.canIssue n = true) &&
        (match s.insAt n with | some i => decide (i.row.m = .ldhu ∧ i.blocked (s.seq n) = false ∧ ramAddr n i (s.seq n) % 2 ≠ 0) | _ => false)) ∧
    (from_ (seqAt (wordOf .ldt 1 2 3 + 0) (fun q => { q with v := [(2, 1), (3, 1)] })) fun s =>
      let n : Nat := 1; decide (s.flag SQ_STATUS_IN_EXC n = false ∧
        (s.fld SQ_WDOG_LIMIT n = 0 ∨ (s.seq n).wdog < s.fld SQ_WDOG_LIMIT n) ∧ n < 8 ∧ s.canIssue n = true) &&
        (match s.insAt n with | some i => decide (i.row.m = .ldt ∧ i.blocked (s.seq n) = false ∧ ramAddr n i (s.seq n) % 16 ≠ 0) | _ => false)) ∧
    (from_ (seqAt (wordOf .stw 1 2 3 + 0) (fun q => { q with v := [(2, 1), (3, 1)] })) fun s =>
      let n : Nat := 1; decide (s.flag SQ_STATUS_IN_EXC n = false ∧
        (s.fld SQ_WDOG_LIMIT n = 0 ∨ (s.seq n).wdog < s.fld SQ_WDOG_LIMIT n) ∧ n < 8 ∧ s.canIssue n = true) &&
        (match s.insAt n with | some i => decide (i.row.m = .stw ∧ i.blocked (s.seq n) = false ∧ ramAddr n i (s.seq n) % 4 ≠ 0) | _ => false)) ∧
    (from_ (seqAt (wordOf .sth 1 2 3 + 0) (fun q => { q with v := [(2, 1), (3, 1)] })) fun s =>
      let n : Nat := 1; decide (s.flag SQ_STATUS_IN_EXC n = false ∧
        (s.fld SQ_WDOG_LIMIT n = 0 ∨ (s.seq n).wdog < s.fld SQ_WDOG_LIMIT n) ∧ n < 8 ∧ s.canIssue n = true) &&
        (match s.insAt n with | some i => decide (i.row.m = .sth ∧ i.blocked (s.seq n) = false ∧ ramAddr n i (s.seq n) % 2 ≠ 0) | _ => false)) ∧
    (from_ (seqAt (wordOf .stt 1 2 3 + 0) (fun q => { q with v := [(2, 1), (3, 1)] })) fun s =>
      let n : Nat := 1; decide (s.flag SQ_STATUS_IN_EXC n = false ∧
        (s.fld SQ_WDOG_LIMIT n = 0 ∨ (s.seq n).wdog < s.fld SQ_WDOG_LIMIT n) ∧ n < 8 ∧ s.canIssue n = true) &&
        (match s.insAt n with | some i => decide (i.row.m = .stt ∧ i.blocked (s.seq n) = false ∧ ramAddr n i (s.seq n) % 16 ≠ 0) | _ => false)) ∧
    (from_ (seqAt (wordOf .jr 1 2 3 + 0) (fun q => { q with v := [(2, 1), (3, 1)] })) fun s =>
      let n : Nat := 1; decide (s.flag SQ_STATUS_IN_EXC n = false ∧
        (s.fld SQ_WDOG_LIMIT n = 0 ∨ (s.seq n).wdog < s.fld SQ_WDOG_LIMIT n) ∧ n < 8 ∧ s.canIssue n = true) &&
        (match s.insAt n with | some i => decide (i.row.m = .jr ∧ i.blocked (s.seq n) = false ∧ ((s.seq n).rv i.a).toNat % 4 ≠ 0) | _ => false)) ∧
    (from_ (seqAt (wordOf .callr 1 2 3 + 0) (fun q => { q with v := [(2, 1), (3, 1)] })) fun s =>
      let n : Nat := 1; decide (s.flag SQ_STATUS_IN_EXC n = false ∧
        (s.fld SQ_WDOG_LIMIT n = 0 ∨ (s.seq n).wdog < s.fld SQ_WDOG_LIMIT n) ∧ n < 8 ∧ s.canIssue n = true) &&
        (match s.insAt n with | some i => decide (i.row.m = .callr ∧ i.blocked (s.seq n) = false ∧ ((s.seq n).rv i.a).toNat % 4 ≠ 0) | _ => false)) ∧
    (from_ (seqAt (wordOf .call 0 0 0 + 16) (fun q => { q with ret := List.replicate 16 8 })) fun s =>
      let n : Nat := 1; decide (s.flag SQ_STATUS_IN_EXC n = false ∧
        (s.fld SQ_WDOG_LIMIT n = 0 ∨ (s.seq n).wdog < s.fld SQ_WDOG_LIMIT n) ∧ n < 8 ∧ s.canIssue n = true) &&
        (match s.insAt n with | some i => decide (i.row.m = .call ∧ i.blocked (s.seq n) = false ∧ 16 ≤ (s.seq n).ret.length) | _ => false)) ∧
    (from_ (seqAt (wordOf .ret 0 0 0 + 0) id) fun s =>
      let n : Nat := 1; decide (s.flag SQ_STATUS_IN_EXC n = false ∧
        (s.fld SQ_WDOG_LIMIT n = 0 ∨ (s.seq n).wdog < s.fld SQ_WDOG_LIMIT n) ∧ n < 8 ∧ s.canIssue n = true) &&
        (match s.insAt n with | some i => decide (i.row.m = .ret ∧ i.blocked (s.seq n) = false ∧ (s.seq n).ret = []) | _ => false)) ∧
    (from_ ((seqAt (wordOf .halt 0 0 0 + 0) id).set1 SQ_STATUS_USER 1) fun s =>
      let n : Nat := 1; decide (s.flag SQ_STATUS_IN_EXC n = false ∧
        (s.fld SQ_WDOG_LIMIT n = 0 ∨ (s.seq n).wdog < s.fld SQ_WDOG_LIMIT n) ∧ n < 8 ∧ s.canIssue n = true) &&
        (match s.insAt n with | some i => decide (i.row.m = .halt ∧ i.blocked (s.seq n) = false ∧ s.user n = true) | _ => false)) ∧
    (from_ (seqAt (wordOf .rfe 0 0 0 + 0) id) fun s =>
      let n : Nat := 1; decide (s.flag SQ_STATUS_IN_EXC n = false ∧
        (s.fld SQ_WDOG_LIMIT n = 0 ∨ (s.seq n).wdog < s.fld SQ_WDOG_LIMIT n) ∧ n < 8 ∧ s.canIssue n = true) &&
        (match s.insAt n with | some i => decide (i.row.m = .rfe ∧ i.blocked (s.seq n) = false) | _ => false)) ∧
    (from_ (seqAt 0xFFFFFFFF id) fun s =>
      let n : Nat := 1; decide (n < 8 ∧ s.canIssue n = true ∧ s.insAt n = none ∧ s.flag SQ_STATUS_IN_EXC n = false ∧
        (s.fld SQ_WDOG_LIMIT n = 0 ∨ (s.seq n).wdog < s.fld SQ_WDOG_LIMIT n))) ∧
    (from_ (seqAt (wordOf .trap 0 0 0 + 5) id) fun s =>
      let n : Nat := 1; decide (n < 8 ∧ s.canIssue n = true) &&
        (match s.insAt n with | some i => decide (i.row.m = .trap ∧ i.blocked (s.seq n) = false ∧ s.flag SQ_STATUS_IN_EXC n = false ∧ (s.fld SQ_WDOG_LIMIT n = 0 ∨ (s.seq n).wdog < s.fld SQ_WDOG_LIMIT n)) | _ => false)) := by decide +kernel

theorem wit_PortInstructions :
    (from_ (seqAt (wordOf .in_ 2 0 0 + 1550) id) fun s =>
      let n : Nat := 1; decide (s.fm.todo = [] ∧ n < 8 ∧ s.canIssue n = true) &&
        (match s.insAt n with | some i => decide (i.row.m = .in_ ∧ i.blocked (s.seq n) = false ∧ i.port (s.seq n) = 0x60E ∧ s.portMay n 0x60E = true) | _ => false)) ∧
    (from_ (seqAt (wordOf .out 0 0 4 + 1538) id) fun s =>
      let n : Nat := 1; decide (s.fm.todo = [] ∧ n < 8 ∧ s.canIssue n = true) &&
        (match s.insAt n with | some i => let k : Nat := 2; let old : List (Nat × Nat) := []; let new : List (Nat × Nat) := []; decide (i.row.m = .out ∧ i.blocked (s.seq n) = false ∧ k < 8 ∧ k ≠ n ∧ i.port (s.seq n) = 0x600 + k ∧ s.portMay n (0x600 + k) = true ∧ (s.seq k).mbox.length < 8 ∧ (s.seq k).mbox = old ++ new ∧ new.length = smGet 0 s.tk.mail k ∧ (∀ x ∈ new, n < x.1)) | _ => false)) ∧
    (from_ (seqAt (wordOf .in_ 2 0 0 + 2048) id) fun s =>
      let n : Nat := 1; decide (n < 8 ∧ s.canIssue n = true) &&
        (match s.insAt n with | some i => decide (i.row.m = .in_ ∧ i.blocked (s.seq n) = false ∧ s.flag SQ_STATUS_IN_EXC n = false ∧ (s.fld SQ_WDOG_LIMIT n = 0 ∨ (s.seq n).wdog < s.fld SQ_WDOG_LIMIT n) ∧ 0x800 ≤ i.port (s.seq n)) | _ => false)) ∧
    (from_ (seqAt (wordOf .out 0 0 4 + 4095) id) fun s =>
      let n : Nat := 1; decide (n < 8 ∧ s.canIssue n = true) &&
        (match s.insAt n with | some i => decide (i.row.m = .out ∧ i.blocked (s.seq n) = false ∧ s.flag SQ_STATUS_IN_EXC n = false ∧ (s.fld SQ_WDOG_LIMIT n = 0 ∨ (s.seq n).wdog < s.fld SQ_WDOG_LIMIT n) ∧ 0x800 ≤ i.port (s.seq n)) | _ => false)) ∧
    (from_ ((seqAt (wordOf .in_ 2 0 0 + 1550) id).set1 SQ_STATUS_USER 1) fun s =>
      let n : Nat := 1; decide (n < 8 ∧ s.canIssue n = true) &&
        (match s.insAt n with | some i => decide (i.row.m = .in_ ∧ i.blocked (s.seq n) = false ∧ s.flag SQ_STATUS_IN_EXC n = false ∧ (s.fld SQ_WDOG_LIMIT n = 0 ∨ (s.seq n).wdog < s.fld SQ_WDOG_LIMIT n) ∧ i.port (s.seq n) < 0x800 ∧ s.portMay n (i.port (s.seq n)) = false) | _ => false)) := by decide +kernel

theorem wit_SemaphoresAndMail :
    (from_ (seqAt (wordOf .sacq 2 0 0 + 3) id) fun s =>
      let n : Nat := 1; decide (n < 8 ∧ s.canIssue n = true) &&
        (match s.insAt n with | some i => decide (i.row.m = .sacq ∧ i.blocked (s.seq n) = false ∧ s.portMay n (0x620 + i.imm % 32) = true ∧ smGet none s.tk.sems (i.imm % 32) = none ∧ s.flag SQ_SEM_HELD (i.imm % 32) = false) | _ => false)) ∧
    (from_ (((seqAt (wordOf .sacq 2 0 0 + 3) id).set1 SQ_SEM_HELD 3).setFld SQ_SEM_OWNER 3 8) fun s =>
      let n : Nat := 1; decide (n < 8 ∧ s.canIssue n = true) &&
        (match s.insAt n with | some i => decide (i.row.m = .sacq ∧ i.blocked (s.seq n) = false ∧ s.portMay n (0x620 + i.imm % 32) = true ∧ smGet none s.tk.sems (i.imm % 32) = none ∧ s.flag SQ_SEM_HELD (i.imm % 32) = true ∧ s.fld SQ_SEM_OWNER (i.imm % 32) ≠ n ∧ s.fld SQ_SEM_OWNER (i.imm % 32) ≤ 8) | _ => false)) ∧
    (from_ (((seqAt (wordOf .sacq 2 0 0 + 3) id).set1 SQ_SEM_HELD 3).setFld SQ_SEM_OWNER 3 1) fun s =>
      let n : Nat := 1; decide (n < 8 ∧ s.canIssue n = true) &&
        (match s.insAt n with | some i => decide (i.row.m = .sacq ∧ i.blocked (s.seq n) = false ∧ s.portMay n (0x620 + i.imm % 32) = true ∧ smGet none s.tk.sems (i.imm % 32) = none ∧ s.semHeldBy (i.imm % 32) n = true) | _ => false)) ∧
    (from_ (seqAt (wordOf .srel 0 0 0 + 3) id) fun s =>
      let n : Nat := 1; decide (n < 8 ∧ s.canIssue n = true) &&
        (match s.insAt n with | some i => decide (i.row.m = .srel ∧ i.blocked (s.seq n) = false ∧ s.portMay n (0x620 + i.imm % 32) = true ∧ s.semHeldBy (i.imm % 32) n = false) | _ => false)) ∧
    (from_ (((seqAt (wordOf .srel 0 0 0 + 3) id).set1 SQ_SEM_HELD 3).setFld SQ_SEM_OWNER 3 1) fun s =>
      let n : Nat := 1; decide (n < 8 ∧ s.canIssue n = true) &&
        (match s.insAt n with | some i => decide (i.row.m = .srel ∧ i.blocked (s.seq n) = false ∧ s.portMay n (0x620 + i.imm % 32) = true ∧ smGet none s.tk.sems (i.imm % 32) = none ∧ s.semHeldBy (i.imm % 32) n = true) | _ => false)) ∧
    (from_ (seqAt (wordOf .sacq 2 0 0 + 3) id) fun s =>
      let k : Nat := 1; let a : Actor := Actor.pf0; decide (k < 32 ∧ smGet none s.tk.sems k = none ∧ s.flag SQ_SEM_HELD k = false ∧
        s.mayWrite a .SQ = true)) ∧
    (from_ (((seqAt (wordOf .sacq 2 0 0 + 3) id).set1 SQ_SEM_HELD 3).setFld SQ_SEM_OWNER 3 8) fun s =>
      let k : Nat := 3; let a : Actor := Actor.pf0; decide (k < 32 ∧ smGet none s.tk.sems k = none ∧ s.semHeldBy k 8 = true ∧
        s.mayWrite a .SQ = true)) ∧
    (from_ (((seqAt (wordOf .sacq 2 0 0 + 3) id).set1 SQ_SEM_HELD 3).setFld SQ_SEM_OWNER 3 8) fun s =>
      let a := .pf0; let k : Nat := 3; decide (s.mayWrite a .SQ = true ∧ k < 32 ∧ smGet none s.tk.sems k = none ∧
        s.flag SQ_SEM_HELD k = true)) ∧
    (from_ (seqAt (wordOf .sacq 2 0 0 + 3) id) fun s =>
      let k : Nat := 1; let a : Actor := Actor.pf0; decide (k < 32 ∧ s.semHeldBy k 8 = false ∧ s.mayWrite a .SQ = true)) ∧
    (from_ (seqAt (wordOf .sacq 2 0 0 + 3) id) fun s =>
      let k : Nat := 1; let a : Actor := Actor.seq 1; decide (k < 32 ∧ s.mayWrite a .SQ = true ∧ a ≠ .pf0)) ∧
    (from_ (seqAt (wordOf .sacq 2 0 0 + 3) id) fun s =>
      let k : Nat := 1; let n : Nat := 1; let m : Nat := 0; decide (k < 32 ∧ smGet none s.tk.sems k = none ∧
        s.flag SQ_SEM_HELD k = false ∧ n < 8 ∧ m ≤ 8 ∧ n ≠ m ∧ (m = 8 ∨ (m + 8 - s.ti.ticks % 8) % 8 < (n + 8 - s.ti.ticks % 8) % 8))) ∧
    (from_ (((seqAt (wordOf .sacq 2 0 0 + 3) id).set1 SQ_SEM_HELD 3).setFld SQ_SEM_OWNER 3 8) fun s =>
      let k : Nat := 3; let n : Nat := 1; let m : Nat := 8; decide (k < 32 ∧ smGet none s.tk.sems k = none ∧ n < 8 ∧ m ≤ 8 ∧ n ≠ m ∧
        s.semHeldBy k m = true)) ∧
    (from_ (seqAt (wordOf .sacq 2 0 0 + 3) id) fun s =>
      let n : Nat := 1; let a : Actor := Actor.pf0; decide (n < 8 ∧ (s.seq n).mbox.length < 8 ∧ (∀ x ∈ (s.seq n).mbox, x.1 ≤ 8) ∧
        s.mayWrite a .SQ = true)) ∧
    (from_ ({ up0 with seqs := [(1, { Seqr.init with mbox := List.replicate 8 (2, 3) })] }) fun s =>
      let n : Nat := 1; let a : Actor := Actor.pf0; decide (n < 8 ∧ (s.seq n).mbox.length = 8 ∧ (∀ x ∈ (s.seq n).mbox, x.1 ≤ 8) ∧
        s.mayWrite a .SQ = true)) := by decide +kernel

theorem wit_KeyAndRingInstructions :
    (from_ (seqAt (wordOf .nop 0 0 0 + 0) (fun q => { q with wait := .key 3 4 5 0x40 })) fun s =>
      let n : Nat := 1; decide (n < 8) &&
        (match (s.seq n).wait with | .key fn _ _ _ => decide ((s.seq n).late = [] ∧ 3 ≤ fn) | _ => false)) ∧
    (from_ ({ (up0.setFld LC_STATE_CODE 0 1) with seqs := [(1, { Seqr.init with wait := .key 1 4 77 0x40 })] }) fun s =>
      let n : Nat := 1; decide (n < 8) &&
        (match (s.seq n).wait with | .key fn d slot addr => decide ((s.seq n).late = [] ∧ fn < 3 ∧ (s.keyFn n fn d slot addr).2 = false) | _ => false)) ∧
    (from_ (seqAt (wordOf .nop 0 0 0 + 0) (fun q => { q with wait := .key 0 4 5 0x40 })) fun s =>
      let n : Nat := 1; decide (n < 8) &&
        (match (s.seq n).wait with | .key fn d slot addr => decide ((s.seq n).late = [] ∧ fn < 3 ∧ (s.keyFn n fn d slot addr).2 = true ∧ s.flag SQ_STATUS_IN_EXC n = false) | _ => false)) ∧
    (from_ ({ ((((up0.setFld RG_BASE_ADDR 33 0x30800000).setFld RG_CTL_SIZE_LOG2 33 4).set1 RG_CTL_EN 33)) with seqs := [(1, { Seqr.init with wait := .ring false 4 33 0x40 })] }) fun s =>
      let n : Nat := 1; decide (n < 8) &&
        (match (s.seq n).wait with | .ring false _ r _ => decide ((s.seq n).late = [] ∧ r < 64 ∧ 32 ≤ r ∧ r < 48 ∧ s.ringOn r = true ∧ s.ringFull r = false ∧ s.ringLive r = true) | _ => false)) ∧
    (from_ ({ ((((up0.setFld RG_BASE_ADDR 33 0x30800000).setFld RG_CTL_SIZE_LOG2 33 4).set1 RG_CTL_EN 33).setFld RG_PROD_COUNT 33 16) with seqs := [(1, { Seqr.init with wait := .ring false 4 33 0x40 })] }) fun s =>
      let n : Nat := 1; decide (n < 8) &&
        (match (s.seq n).wait with | .ring false _ r _ => decide ((s.seq n).late = [] ∧ r < 64 ∧ 32 ≤ r ∧ r < 48 ∧ s.ringOn r = true ∧ s.ringFull r = true ∧ s.ringLive r = true) | _ => false)) ∧
    (from_ ({ ((((up0.setFld RG_BASE_ADDR 20 0x30800000).setFld RG_CTL_SIZE_LOG2 20 4).set1 RG_CTL_EN 20)) with seqs := [(1, { Seqr.init with wait := .ring false 4 20 0x40 })] }) fun s =>
      let n : Nat := 1; decide (n < 8) &&
        (match (s.seq n).wait with | .ring false _ r _ => decide ((s.seq n).late = [] ∧ r < 64 ∧ 16 ≤ r ∧ r < 32 ∧ s.ringLive r = true) | _ => false)) ∧
    (from_ ({ ((((up0.setFld RG_BASE_ADDR 33 0x30800000).setFld RG_CTL_SIZE_LOG2 33 4).set1 RG_CTL_EN 33).setFld RG_PROD_COUNT 33 1) with seqs := [(1, { Seqr.init with wait := .ring true 4 33 0x40 })], mem := memPut [] 0x30800000 8 (2 ^ 31 + 5) }) fun s =>
      let n : Nat := 1; decide (n < 8) &&
        (match (s.seq n).wait with | .ring true _ r addr => decide ((s.seq n).late = [] ∧ 32 ≤ r ∧ r < 48 ∧ addr + 32 ≤ 65536 ∧ s.ringOn r = true ∧ s.ringLive r = true ∧ s.flag RG_STATUS_STOPPED r = false ∧ s.fld RG_PROD_COUNT r ≠ (s.ring r).fetch ∧ s.descFails r (s.ring r).fetch 0 0x7F = 0) | _ => false)) := by decide +kernel

theorem wit_CountersAndMatrix :
    (from_ (seqAt (wordOf .rdcnt 4 0 0 + 0) id) fun s =>
      let n : Nat := 1; decide (n < 8 ∧ s.canIssue n = true) &&
        (match s.insAt n with | some i => decide (i.row.m = .rdcnt ∧ i.blocked (s.seq n) = false ∧ s.user n = false) | _ => false)) ∧
    (from_ (seqAt (wordOf .nop 0 0 0 + 0) (fun q => { q with txns := [⟨false, false, 4, 0x20000004, 0, 0x200, false⟩] })) fun s =>
      let n : Nat := 1; decide (n < 8) &&
        (match (s.seq n).txns with | x :: _ => decide (x.wide = false ∧ 0x20000000 ≤ x.addr ∧ x.addr + 4 ≤ 0x20400000 ∧ x.store = false ∧ s.readPoison x.addr 4 = false) | _ => false)) ∧
    (from_ (seqAt (wordOf .nop 0 0 0 + 0) (fun q => { q with txns := [⟨true, false, 4, 0x20000004, 9, 0x200, false⟩] })) fun s =>
      let n : Nat := 1; decide (n < 8) &&
        (match (s.seq n).txns with | x :: _ => decide (x.wide = false ∧ 0x20000000 ≤ x.addr ∧ x.addr + 4 ≤ 0x20400000 ∧ x.store = true ∧ s.imgBlocked (.seq n) x.addr 4 = false ∧ s.writeErr (.seq n) x.addr 4 = false) | _ => false)) := by decide +kernel

theorem wit_SequencerControl :
    (from_ up0 fun s =>
      let n : Nat := 1; let a : Actor := Actor.pf0; decide (s.fm.todo = [] ∧ n < 8 ∧
        (R_SQ_CTL.flds.all fun f => !s.portHas f n) = true ∧ s.flag SQ_STATUS_RETIRED n = false ∧ s.retired 11 n = false ∧
        s.flag SQ_STATUS_HALTED n = false ∧ (s.flag SQ_CTL_EN n = false ∨ s.flag SQ_STATUS_RUNNING n = true) ∧ s.mayWrite a .SQ = true)) ∧
    (from_ (up0.set1 SQ_STATUS_HALTED 1) fun s =>
      let n : Nat := 1; let a : Actor := Actor.pf0; decide (s.fm.todo = [] ∧ n < 8 ∧
        (R_SQ_CTL.flds.all fun f => !s.portHas f n) = true ∧ (s.flag SQ_STATUS_HALTED n = true ∨ s.flag SQ_STATUS_RETIRED n = true) ∧
        s.mayWrite a .SQ = true)) ∧
    (from_ (up0.set1 SQ_CTL_EN 1) fun s =>
      let n : Nat := 1; let a : Actor := Actor.pf0; decide (s.fm.todo = [] ∧ n < 8 ∧
        (R_SQ_CTL.flds.all fun f => !s.portHas f n) = true ∧ s.flag SQ_CTL_EN n = true ∧ s.mayWrite a .SQ = true)) ∧
    (from_ up0 fun s =>
      let n : Nat := 1; let a : Actor := Actor.pf0; decide (s.fm.todo = [] ∧ n < 8 ∧
        (R_SQ_CTL.flds.all fun f => !s.portHas f n) = true ∧ s.flag SQ_CTL_EN n = false ∧ s.mayWrite a .SQ = true)) ∧
    (from_ ({ (up0.setFld SQ_WDOG_LIMIT 1 7).set1 SQ_STATUS_RUNNING 1 with seqs := [(1, { Seqr.init with wdog := 7 })] }) fun s =>
      let n : Nat := 1; decide (s.fm.todo = [] ∧ n < 8 ∧ s.fld SQ_WDOG_LIMIT n ≠ 0 ∧ s.fld SQ_WDOG_LIMIT n ≤ (s.seq n).wdog ∧
        s.flag SQ_STATUS_RUNNING n = true ∧ s.flag SQ_STATUS_IN_EXC n = false)) := by decide +kernel

theorem wit_Resets :
    (from_ ({ up0 with bt := { up0.bt with held := true, brown := true } }) fun s => decide (s.bt.brown = true)) ∧
    (from_ State.reset fun s => decide (s.bt.held = true ∧ s.bt.brown = false)) ∧
    (from_ up0 fun s => decide (s.bt.held = false)) ∧
    (from_ (up0.clr BT_STATUS_ROM_READY 0) fun s =>
      decide (s.bt.held = false ∧ s.flag BT_STATUS_ROM_READY 0 = false ∧ s.bt.goHeld = false)) ∧
    (from_ State.reset fun _ => let fn : Nat := 0; decide (fn < 2)) := by decide +kernel

theorem wit_LoadLaunchMeasure :
    (from_ (up0.clr SY_ROOT_STATUS_LOCKED 0) fun s =>
      decide (s.flag BT_STATUS_LAUNCHED 0 = false ∧ s.flag BT_STATUS_LOADING 0 = false ∧ s.flag BT_STATUS_ROM_READY 0 = true ∧
        s.flag SY_ROOT_STATUS_LOCKED 0 = false)) ∧
    (from_ (up0.clr BT_STATUS_ROM_READY 0) fun s =>
      decide (s.flag BT_STATUS_LAUNCHED 0 = false ∧ s.flag BT_STATUS_LOADING 0 = false ∧ s.flag BT_STATUS_ROM_READY 0 = false)) ∧
    (from_ up0 fun s =>
      let mask : Nat := 0; let a : Actor := Actor.seq 1; decide (mask < 256 ∧ s.mayWrite a .BT = true ∧ s.launchOk a = true)) ∧
    (from_ up0 fun s =>
      let mask : Nat := 0; let a : Actor := Actor.pf0; decide (mask < 256 ∧ s.mayWrite a .BT = true ∧ s.launchOk a = false)) ∧
    (from_ up0 fun s =>
      let n : Nat := 0; let off : Nat := 0; let w : Nat := 0; let a : Actor := Actor.pf0; decide (n < 8 ∧ s.iramOpen n = true ∧
        off < 0x10000 ∧ off % 4 = 0 ∧ w < 2 ^ 32 ∧ s.memMay a = true)) ∧
    (from_ up0 fun s =>
      let n : Nat := 0; let a : Actor := Actor.pf0; decide (s.fld BT_IRAM_LOCK_LOCK 0 = 0 ∧ n < 8 ∧ s.mayWrite a .BT = true ∧
        s.privileged a = true)) ∧
    (from_ ({ up0 with bt := { up0.bt with exts := [(3, [1, 2, 3]), (11, [7])] } }) fun s =>
      (match s.bt.exts with | (idx, _) :: _ => decide (idx < 12) | _ => false)) ∧
    (from_ up0 fun s =>
      let a : Actor := Actor.pf0; decide (s.flag BT_STATUS_EXT_BUSY 0 = false ∧ s.mayWrite a .BT = true ∧ s.privileged a = true)) ∧
    (from_ (up0.set1 BT_STATUS_EXT_BUSY 0) fun s =>
      let a : Actor := Actor.pf0; decide (s.flag BT_STATUS_EXT_BUSY 0 = true ∧ s.mayWrite a .BT = true ∧ s.privileged a = true)) := by decide +kernel

theorem wit_ModesAndQuotes :
    (from_ up0 fun s => let a : Actor := Actor.pf0; decide (s.mayWrite a .BT = true ∧ s.privileged a = true)) ∧
    (from_ ({ ((up0.setFld LC_STATE_CODE 0 1).set1 BT_STATUS_LAUNCHED 0) with bt := { up0.bt with modeReq := some 1 } }) fun s =>
      decide (s.bt.modeReq = some 1 ∧ s.mode = 0 ∧ s.flag BT_STATUS_LAUNCHED 0 = true ∧ s.flag SY_ROOT_STATUS_LOCKED 0 = true ∧
        (s.lifeCycle = 1 ∨ s.lifeCycle = 2) ∧ s.flag FM_STATUS_FATAL 0 = false)) ∧
    (from_ ({ (up0) with bt := { up0.bt with modeReq := some 2 } }) fun s => decide (s.bt.modeReq = some 2 ∧ s.mode = 0)) ∧
    (from_ ({ (srv0) with bt := { srv0.bt with modeReq := some 3 } }) fun s => decide (s.bt.modeReq = some 3 ∧ (s.mode = 1 ∨ s.mode = 2))) ∧
    (from_ ({ (up0) with bt := { up0.bt with modeReq := some 1 } }) fun s =>
      decide (s.bt.modeReq = some 1 ∧ s.bt.modeDue = none ∧ s.mode = 0 ∧ s.flag BT_STATUS_LAUNCHED 0 = false)) ∧
    (from_ ((up0.setFld LC_STATE_CODE 0 1).set1 BT_STATUS_LAUNCHED 0) fun s =>
      let slot : Nat := 0; decide (s.mayWrite .pf0 .BT = true ∧ s.flag LC_STATE_RESET_REQUIRED 0 = false ∧ s.lifeCycle ≠ 0 ∧ slot < 2 ∧
        s.flag BT_Q_STATUS_BUSY slot = false)) ∧
    (from_ ({ (((up0.setFld LC_STATE_CODE 0 2).set1 KS_STATUS_ID_READY 0).setFld KS_SLOT_STATUS_STATE 0 1) with bt := { up0.bt with signQ := [{ src := 0, body := [1], signer := 1, req := 0, port := 0, peer := 0 }] } }) fun s =>
      (match s.bt.signQ with | x :: _ => decide (x.src < 2 ∧ s.signReady = true ∧ s.slotValid (if x.signer = 1 then 0 else 1) = true ∧ s.flag BT_Q_CTL_IRQ_EN x.src = false) | _ => false)) := by decide +kernel

theorem wit_RegisterAccess :
    (from_ up0 fun s =>
      let addr : Nat := 536870912; let a : Actor := Actor.pf0; let v : Nat := 15368; decide (0x20000000 ≤ addr ∧
        addr + 4 ≤ 0x20400000 ∧ s.memMay a = true ∧ s.imgBlocked a addr 4 = false ∧ v < 2 ^ 32)) ∧
    (from_ up0 fun s =>
      let v : Nat := 15368; decide ((R_FM_TRANSIENT_CFG.flds.all fun f => !s.portHas f 0) = true ∧ v < 2 ^ 32 ∧
        s.fieldOk FM_TRANSIENT_CFG_COUNT 0 v = true ∧ s.fieldOk FM_TRANSIENT_CFG_WINDOW_S 0 v = true)) ∧
    (from_ up0 fun s =>
      let addr : Nat := 1073741888; (match regAt addr with | some h => let a : Actor := Actor.pf0; let v : Nat := 15368; decide (h.w + 1 < h.d.words ∧ h.d.base ∉ slotRegs ∧ s.mayWrite a h.d.blk = true ∧ s.served a addr true = true ∧ v < 2 ^ 32) | _ => false)) ∧
    (from_ up0 fun s => let addr : Nat := 536870912; decide (0x20000000 ≤ addr ∧ addr + 4 ≤ 0x20400000 ∧ s.readPoison addr 4 = false)) ∧
    (from_ up0 fun s =>
      let addr : Nat := 1208156192; (match regAt addr with | some h => let a : Actor := Actor.pf0; decide (h.w = 0 ∧ h.d.words = 1 ∧ h.d.base ∉ pcRegs ∧ h.d.base ∉ [R_TM_FIFO.base, R_GP_UART_RX.base, R_FM_QUEUE.base, R_MC_STAT.base] ∧ a ≠ .pf1 ∧ s.served a addr false = true) | _ => false)) ∧
    (from_ (up0.set1 DR_STATUS_SELF_REFRESH 0) fun s =>
      let addr : Nat := 68719476736; let v : Nat := 15368; decide (s.asleep addr = true ∧ v < 2 ^ 32)) := by decide +kernel

theorem wit_CommitsAndFifoReads :
    (from_ (up0.setShadow TC_SLIDE_SLOPE_SLOPE 0 7) fun s =>
      (match s.shadow TC_SLIDE_SLOPE_SLOPE 0 with | some _ => decide (s.shadow TC_SLIDE_OFFSET_OFFSET 0 = none) | _ => false)) ∧
    (from_ (up0.setShadow SL_ITL_ASYM_ASYM 3 99) fun s =>
      let n : Nat := 3; decide (n < 8) && (match s.shadow SL_ITL_ASYM_ASYM n with | some _ => true | _ => false)) ∧
    (from_ up0 fun _ => let b : Nat := 1; decide (b < 23)) ∧
    (from_ up0 fun _ => let n : Nat := 1; decide (n < 12)) ∧
    (from_ up0 fun _ => let n : Nat := 1; decide (n < 64)) ∧
    (from_ ({ (up0.setFld TM_CH_CTL_READER 1 1).setFld GP_UART_CTL_READER 1 1 with tm := [(1, { TmSt.init with fifo := [123, 6] })], uart := [(1, { UartSt.init with rx := [77, 8] })] }) fun s =>
      let n : Nat := 1; let a : Actor := Actor.pf0; let port : Bool := false; decide (n < 12 ∧ (s.tdc n).fifo ≠ [] ∧ a ≠ .pf1 ∧
        portActor a port = true ∧ s.tmIsReader n port = true)) ∧
    (from_ up0 fun s =>
      let n : Nat := 1; let a : Actor := Actor.pf0; let port : Bool := false; decide (n < 12 ∧ portActor a port = true ∧
        s.tmIsReader n port = false)) ∧
    (from_ ({ (up0.setFld TM_CH_CTL_READER 1 1).setFld GP_UART_CTL_READER 1 1 with tm := [(1, { TmSt.init with fifo := [123, 6] })], uart := [(1, { UartSt.init with rx := [77, 8] })] }) fun s =>
      let n : Nat := 1; decide (n < 2) &&
        (match (s.uartOf n).rx with | _ :: _ => let a : Actor := Actor.pf0; let port : Bool := false; decide (portActor a port = true ∧ s.uartIsReader a n port = true) | _ => false)) ∧
    (from_ ({ up0 with fm := { up0.fm with queue := [{ code := 5, cls := 1, esc := false, retired := false, count := 3, chan := 0x101, detail := 7, sec := 9, ns := 10 }] } }) fun s =>
      (match s.fm.queue with | _ :: _ => true | _ => false)) := by decide +kernel

theorem wit_TickSlideBound :
    (from_ ({ up0 with bt := { up0.bt with held := true } }) fun s => let pins : Nat := 0; decide (s.bt.held = true ∧ pins < 8)) ∧
    (from_ up0 fun s =>
      let pins : Nat := 0; decide (s.bt.held = false ∧ s.stepTarget = none ∧ s.ti.boundDue = false ∧ s.ti.secondDue = false ∧
        s.shadows = [] ∧ s.bt.modeReq = none ∧ s.bt.modeDue = none ∧ s.fm.fatalDue = false ∧ pins < 8)) ∧
    (from_ up0 fun s => let a : Actor := Actor.pf0; decide (s.portHas TC_SLIDE_OFFSET_OFFSET 0 = false ∧ s.mayWrite a .TC = true)) ∧
    (from_ (withTi up0 fun t => { t with slideRem := 3 }) fun s =>
      decide (s.ti.slideRem ≠ 0 ∧ s.ti.slideRem.natAbs < s.slopeStep ∧ s.safe = false)) ∧
    (from_ (withTi up0 fun t => { t with boundDue := true }) fun s => decide (s.ti.boundDue = true ∧ s.lostDue = false)) ∧
    (from_ (((((up0.setShadow BG_COEF_B0 0 5).setShadow BG_COEF_B1 0 6).setShadow BG_COEF_B2 0 7).setShadow BG_COEF_RESTART 0 1).setShadow BG_COEF_CLR_WIDEN 0 1) fun s =>
      (match s.shadow BG_COEF_B0 0 with | some b0 => (match s.shadow BG_COEF_B1 0 with | some b1 => (match s.shadow BG_COEF_B2 0 with | some b2 => decide (s.shadow BG_COEF_RESTART 0 = some 1 ∧ s.shadow BG_COEF_CLR_WIDEN 0 = some 1 ∧ s.ts.sealing = [] ∧ (∀ n ∈ List.range 16, (s.mac n).gate = []) ∧ b0 < 2 ^ 32 ∧ b1 < 2 ^ 32 ∧ b2 < 2 ^ 48) | _ => false) | _ => false) | _ => false)) ∧
    (from_ up0 fun s => decide (s.shadow BG_COEF_RESTART 0 = none)) := by decide +kernel

theorem wit_StepsAndSeconds :
    (from_ up0 fun s =>
      let a : Actor := Actor.pf0; let v : Nat := 0; decide (s.service = false ∧ s.mayWrite a .TC = true ∧ v < 2 ^ 128 ∧
        time128Ok v = true)) ∧
    (from_ srv0 fun s => let a : Actor := Actor.pf0; let v : Nat := 0; decide (s.service = true ∧ s.mayWrite a .TC = true ∧ v < 2 ^ 128)) ∧
    (from_ up0 fun s =>
      let a : Actor := Actor.pf0; let v : Nat := 0; decide (s.portHas TC_STEP_OFFSET_OFFSET 0 = false ∧ s.mayWrite a .TC = true ∧
        v < 2 ^ 64)) ∧
    (from_ (withTi (up0.set1 TC_CTL_STEP_EN 0) fun t => { t with stepPend := some (-5) }) fun s =>
      (match s.ti.stepPend with | some _ => let seq := s.fld TC_STATUS_STEP_SEQ 0; decide (s.flag TC_CTL_STEP_EN 0 = true ∧ s.mayWrite .pf0 .TC = true ∧ seq < 256) | _ => false)) ∧
    (from_ (withTi (up0.set1 TC_CTL_STEP_EN 0) fun t => { t with stepPend := some (-5) }) fun s =>
      (match s.ti.stepPend with | some _ => let seq : Nat := 1; decide (s.mayWrite .pf0 .TC = true ∧ seq < 256 ∧ seq ≠ s.fld TC_STATUS_STEP_SEQ 0) | _ => false)) ∧
    (from_ up0 fun _ => let a : Actor := Actor.pf1; let seq : Nat := 0; decide (a ≠ .pf0 ∧ seq < 256)) ∧
    (from_ (withTi up0 fun t => { t with stepDue := some (-1234567) }) fun s =>
      (match s.stepTarget with | some _ => decide (s.ti.boundDue = false ∧ s.ti.secondDue = false) | _ => false)) ∧
    (from_ up0 fun s => decide (s.stepTarget = none)) ∧
    (from_ (withTi up0 fun t => { t with secondDue := true }) fun s => decide (s.ti.secondDue = true)) ∧
    (from_ up0 fun s => decide (s.ti.secondDue = false)) ∧
    (from_ (withTi (up0.set1 TC_STATUS_LEAP_ARMED 0) fun t => { t with leapL := 3, leapDel := true }) fun s =>
      decide (s.leapReached = true ∧ s.ti.utcWritten = false ∧ s.flag TC_STATUS_LEAP_DONE 0 = false)) ∧
    (from_ up0 fun s => decide (s.leapReached = false)) ∧
    (from_ (withTi (up0.set1 TC_STATUS_LEAP_ARMED 0) fun t => { t with leapL := 9000, smearFrom := 0, smearTo := 9000 * secU }) fun s =>
      decide (s.smearStartDue = true)) ∧
    (from_ (withTi (up0.set1 TC_STATUS_SMEAR_ACTIVE 0) fun t => { t with smearTo := 1 }) fun s => decide (s.smearEndDue = true)) := by decide +kernel

theorem wit_PulseOutputs :
    (from_ (((up0.setFld PO_PERIOD_PERIOD 2 (70000 * 65536)).setFld PO_CTL_MODE 2 1).setFld PO_START_TIME 2 (toTime128 (9000 * secU))) fun s =>
      let n : Nat := 2; decide (n < 8 ∧ s.flag PO_CTL_EN n = false ∧ s.poPeriodic n = true ∧ 0 < s.fld PO_PERIOD_PERIOD n)) ∧
    (from_ up0 fun s =>
      let n : Nat := 2; decide (n < 8 ∧ s.flag PO_CTL_EN n = false ∧ s.poPeriodic n = false ∧ s.poStart n < s.ti.now + 10 * nsU)) ∧
    (from_ ({ (((up0.setFld PO_PERIOD_PERIOD 2 (70000 * 65536)).setFld PO_WIDTH_WIDTH 2 100).setFld PO_CTL_MODE 2 1).set1 PO_CTL_EN 2 with po := [(2, { next := some 5, cnt := 4, high := some 4, widS := 0, widOld := 0 })] }) fun s =>
      let n : Nat := 2; decide (s.poHeld = false ∧ n < 8 ∧ s.flag PO_CTL_EN n = true) &&
        (match (s.pout n).next with | some x => decide (s.poBall n x ≤ s.ti.now ∧ s.retired 7 n = false ∧ s.poPeriodic n = true ∧ s.fld PO_CTL_COUNT n = 0) | _ => false)) ∧
    (from_ ({ (((up0.setFld PO_PERIOD_PERIOD 2 (70000 * 65536)).setFld PO_WIDTH_WIDTH 2 100).setFld PO_CTL_MODE 2 1).set1 PO_CTL_EN 2 with po := [(2, { next := some 5, cnt := 4, high := some 4, widS := 0, widOld := 0 })] }) fun s =>
      let n : Nat := 2; decide (n < 8) && (match (s.pout n).high with | some x => decide (s.poBall n x ≤ s.ti.now) | _ => false)) ∧
    (from_ ({ (((up0.setFld PO_PERIOD_PERIOD 2 (70000 * 65536)).setFld PO_WIDTH_WIDTH 2 100).setFld PO_CTL_MODE 2 1).set1 PO_CTL_EN 2 with po := [(2, { next := some 5, cnt := 4, high := some 4, widS := 0, widOld := 0 })] }) fun s =>
      let n : Nat := 2; decide (n < 8 ∧ s.flag PO_CTL_EN n = true)) := by decide +kernel

theorem wit_EdgeRecords :
    (from_ up0 fun s =>
      let n : Nat := 3; let k : Nat := 3; let c0 : Nat := 3; let c1 : Nat := 3; let c2 : Nat := 3; let c3 : Nat := 3; decide (n < 11 ∧
        (s.tdc n).open_ = none ∧ s.tmLive n = false ∧ k < 4 ∧ c0 ≤ 256 ∧ c1 ≤ 256 ∧ c2 ≤ 256 ∧ c3 ≤ 256)) ∧
    (from_ (up0.set1 TM_CH_CTL_EN 3) fun s =>
      let n : Nat := 3; let k : Nat := 3; let c0 : Nat := 3; let c1 : Nat := 3; let c2 : Nat := 3; let c3 : Nat := 3; let falling : Bool := true; decide (n < 11 ∧
        (s.tdc n).open_ = none ∧ s.tmLive n = true ∧ s.tmMode n = 0 ∧ k < 4 ∧ c0 ≤ 256 ∧ c1 ≤ 256 ∧ c2 ≤ 256 ∧ c3 ≤ 256 ∧
        s.tmSelected n falling = false)) ∧
    (from_ (td (up0.set1 TM_CH_CTL_EN 3) 3 fun t => { t with last := some ((up0.ti.ticks : Int) * (5000 * 2 ^ 26)) }) fun s =>
      let n : Nat := 3; let k : Nat := 0; let c0 : Nat := 3; let c1 : Nat := 3; let c2 : Nat := 3; let c3 : Nat := 3; let falling : Bool := false; decide (n < 11 ∧
        (s.tdc n).open_ = none ∧ s.tmLive n = true ∧ s.tmMode n = 0 ∧ k < 4 ∧ c0 ≤ 256 ∧ c1 ≤ 256 ∧ c2 ≤ 256 ∧ c3 ≤ 256 ∧
        s.tmDead n ((s.ti.ticks : Int) * (5000 * 2 ^ 26) + (s.tmRaw n k [c0, c1, c2, c3]) : Int) = true ∧ s.tmSelected n falling = true)) ∧
    (from_ (up0.set1 TM_CH_CTL_EN 3) fun s =>
      let n : Nat := 3; let k : Nat := 3; let c0 : Nat := 3; let c1 : Nat := 3; let c2 : Nat := 3; let c3 : Nat := 3; let falling : Bool := false; decide (n < 11 ∧
        (s.tdc n).open_ = none ∧ s.tmLive n = true ∧ s.tmMode n = 0 ∧ (s.tdc n).presc % s.tmPrescale n = 0 ∧
        (s.tdc n).fifo.length < 256 ∧ k < 4 ∧ c0 ≤ 256 ∧ c1 ≤ 256 ∧ c2 ≤ 256 ∧ c3 ≤ 256 ∧
        s.tmDead n ((s.ti.ticks : Int) * (5000 * 2 ^ 26) + (s.tmRaw n k [c0, c1, c2, c3]) : Int) = false ∧ s.tmSelected n falling = true)) ∧
    (from_ (td ((up0.set1 TM_CH_CTL_EN 3).setFld TM_PRESCALE_N 3 3) 3 fun t => { t with presc := 2 }) fun s =>
      let n : Nat := 3; let k : Nat := 3; let c0 : Nat := 3; let c1 : Nat := 3; let c2 : Nat := 3; let c3 : Nat := 3; let falling : Bool := false; decide (n < 11 ∧
        (s.tdc n).open_ = none ∧ s.tmLive n = true ∧ s.tmMode n = 0 ∧ (s.tdc n).presc % s.tmPrescale n ≠ 0 ∧ k < 4 ∧ c0 ≤ 256 ∧
        c1 ≤ 256 ∧ c2 ≤ 256 ∧ c3 ≤ 256 ∧
        s.tmDead n ((s.ti.ticks : Int) * (5000 * 2 ^ 26) + (s.tmRaw n k [c0, c1, c2, c3]) : Int) = false ∧ s.tmSelected n falling = true)) := by decide +kernel

theorem wit_ChannelsAndCalibration :
    (from_ up0 fun s => let n : Nat := 3; decide (n < 12 ∧ s.flag TM_CH_CTL_EN n = false)) ∧
    (from_ (td ((up0.set1 TM_CH_CTL_EN 3).set1 TM_CH_STATUS_OFS_CAL 3) 3 fun t => { t with calFrom := some 0 }) fun s =>
      let n : Nat := 3; decide (s.safe = false ∧ n < 12) &&
        (match (s.tdc n).calFrom with | some x => decide (s.flag TM_CH_STATUS_OFS_CAL n = true ∧ x + 10 * msU ≤ s.ti.elapsed) | _ => false)) ∧
    (from_ (td ((up0.set1 TM_CH_CTL_EN 3).set1 TM_CH_STATUS_INTERVAL_OPEN 3) 3 fun t => { t with open_ := some { seq := 5, wnc := 77, falling := false, until_ := 3 } }) fun s =>
      let n : Nat := 3; decide (n < 12) &&
        (match (s.tdc n).open_ with | some o => decide (o.until_ ≤ s.ti.elapsed ∧ (s.tdc n).fifo.length < 256) | _ => false)) ∧
    (from_ (up0.set1 TM_CH_CTL_EN 3) fun s => let n : Nat := 3; decide (n < 12 ∧ s.flag TM_CH_CTL_EN n = true ∧ (s.tdc n).open_ = none)) ∧
    (from_ up0 fun s =>
      let n : Nat := 3; let c0 : Nat := 3; let c1 : Nat := 3; let c2 : Nat := 3; let c3 : Nat := 3; decide (s.safe = false ∧ n < 12 ∧
        s.tmComplete n = false ∧ c0 ≤ 256 ∧ c1 ≤ 256 ∧ c2 ≤ 256 ∧ c3 ≤ 256)) ∧
    (from_ (td (up0.set1 TM_CH_CTL_EN 3) 3 fun t => { t with newTab := some [(0, 5), (1, 7)] }) fun s =>
      let n : Nat := 3; decide (s.shadow TM_CAL_CTL_HITS_LOG2 0 = none ∧ n < 12) &&
        (match (s.tdc n).newTab with | some _ => true | _ => false)) ∧
    (from_ (td up0 3 fun t => { t with hits := 2 ^ 20 }) fun s =>
      let n : Nat := 3; decide (s.safe = false ∧ n < 12 ∧ s.tmComplete n = true ∧ s.tmSpanOk n = false)) ∧
    (from_ up0 fun _ => let n : Nat := 3; decide (n < 12)) := by decide +kernel

theorem wit_EventDmaLoopWarm :
    (from_ (td ((((up0.setFld RG_BASE_ADDR 51 0x30900000).setFld RG_CTL_SIZE_LOG2 51 4).set1 RG_CTL_EN 51).setFld TM_CH_CTL_READER 3 2) 3 fun t => { t with fifo := [5, 7] }) fun s =>
      let n : Nat := 3; decide (s.ringRoom 51 = true ∧ n < 12) &&
        (match (s.tdc n).fifo with | _ :: _ => decide (s.fld TM_CH_CTL_READER n = 2) | _ => false)) ∧
    (from_ (td (((((up0.setFld RG_BASE_ADDR 51 0x30900000).setFld RG_CTL_SIZE_LOG2 51 4).set1 RG_CTL_EN 51).setFld TM_CH_CTL_READER 3 2).setFld RG_PROD_COUNT 51 16) 3 fun t => { t with fifo := [5, 7] }) fun s =>
      let n : Nat := 3; decide (s.ringOn 51 = true ∧ s.ringFull 51 = true ∧ n < 12 ∧ (s.tdc n).fifo ≠ [] ∧ s.fld TM_CH_CTL_READER n = 2)) ∧
    (from_ ({ (up0.set1 TM_LOOP_CTL_EN 0).setFld TM_LOOP_CTL_PERIOD 0 9 with tmb := { up0.tmb with loopNext := some 0 } }) fun s =>
      (match s.tmb.loopNext with | some x => let k : Nat := 3; let c0 : Nat := 3; let c1 : Nat := 3; let c2 : Nat := 3; let c3 : Nat := 3; decide (s.flag TM_LOOP_CTL_EN 0 = true ∧ x ≤ s.ti.ticks ∧ k < 4 ∧ c0 ≤ 256 ∧ c1 ≤ 256 ∧ c2 ≤ 256 ∧ c3 ≤ 256) | _ => false)) ∧
    (from_ (td ((((up0.setFld RG_BASE_ADDR 51 0x30900000).setFld RG_CTL_SIZE_LOG2 51 4).set1 RG_CTL_EN 51).setFld TM_CH_CTL_READER 3 2) 3 fun t => { t with fifo := [5, 7] }) fun s =>
      let k : Nat := 3; let c0 : Nat := 3; let c1 : Nat := 3; let c2 : Nat := 3; let c3 : Nat := 3; decide ((match s.tmb.loopNext with | some x => decide (s.flag TM_LOOP_CTL_EN 0 = false ∨ s.ti.ticks < x) | none => true) = true ∧
        k < 4 ∧ c0 ≤ 256 ∧ c1 ≤ 256 ∧ c2 ≤ 256 ∧ c3 ≤ 256)) ∧
    (from_ ({ up0 with tmb := { up0.tmb with root := 64 * 200000000, win := some { from_ := 0, edges := 65, first := 5, last := 64 * 10 ^ 12 * 2 ^ 26 + 1000000000, lost := false } } }) fun s =>
      (match s.tmb.win with | some w => decide (w.from_ + warmLen ≤ s.tmb.root ∧ w.lost = false) && (match warmY w.edges (w.last - w.first).toNat with | some (_, _) => true | _ => false) | _ => false)) ∧
    (from_ ({ up0 with tmb := { up0.tmb with root := 64 * 200000000, win := some { from_ := 0, edges := 65, first := 5, last := 64 * 10 ^ 12 * 2 ^ 26 + 7 * 10 ^ 12 * 2 ^ 26, lost := false } } }) fun s =>
      (match s.tmb.win with | some w => decide (w.from_ + warmLen ≤ s.tmb.root ∧ (w.lost = true ∨ warmY w.edges (w.last - w.first).toNat = none)) | _ => false)) ∧
    (from_ (td ((((up0.setFld RG_BASE_ADDR 51 0x30900000).setFld RG_CTL_SIZE_LOG2 51 4).set1 RG_CTL_EN 51).setFld TM_CH_CTL_READER 3 2) 3 fun t => { t with fifo := [5, 7] }) fun s =>
      decide ((match s.tmb.win with | some w => decide (s.tmb.root < w.from_ + warmLen) | none => true) = true)) := by decide +kernel

theorem wit_Relocks :
    (from_ up0 fun s => decide (s.sy.phase = 0 ∧ s.flag SY_ROOT_STATUS_LOCKED 0 = true)) ∧
    (from_ (up0.clr SY_ROOT_STATUS_LOCKED 0) fun s => decide (s.flag SY_ROOT_STATUS_LOCKED 0 = false)) ∧
    (from_ (up0.set1 TM_LOSC_STATUS_PRESENT 0) fun s => decide (s.flag TM_LOSC_STATUS_PRESENT 0 = true)) ∧
    (from_ up0 fun s => decide (s.flag TM_LOSC_STATUS_PRESENT 0 = false)) ∧
    (from_ up0 fun s =>
      let a : Actor := Actor.pf0; decide (s.sy.phase = 0 ∧ s.flag SY_ROOT_STATUS_SWEEP_BUSY 0 = false ∧ s.mayWrite a .SY = true)) ∧
    (from_ ({ up0 with sy := { up0.sy with phase := 8 } }) fun s =>
      let a : Actor := Actor.pf0; decide (s.sy.phase = 8 ∧ s.flag SY_ROOT_STATUS_SWEEP_BUSY 0 = false ∧ s.mayWrite a .SY = true)) ∧
    (from_ (up0.set1 TM_LOSC_STATUS_PRESENT 0) fun s =>
      let a : Actor := Actor.pf0; decide ((s.mode = 0 ∨ s.mode = 2) ∧ s.flag TM_LOSC_STATUS_PRESENT 0 = true ∧ s.sy.phase = 0 ∧
        s.mayWrite a .SY = true)) ∧
    (from_ srv0 fun s => let a : Actor := Actor.pf0; decide (s.mode = 1 ∧ s.mayWrite a .SY = true)) ∧
    (from_ (up0.setFld BT_MODE_MODE 0 3) fun s => let a : Actor := Actor.pf0; decide (s.mode = 3 ∧ s.mayWrite a .SY = false)) ∧
    (from_ ({ (up0.set1 TM_LOSC_STATUS_PRESENT 0).set1 SY_ROOT_STATUS_SWEEP_BUSY 0 with sy := { (up0.set1 TM_LOSC_STATUS_PRESENT 0).sy with phase := 5 } }) fun s =>
      let lo : List Nat := List.replicate 32 0; let hi : List Nat := List.replicate 32 0; decide (s.flag SY_ROOT_STATUS_SWEEP_BUSY 0 = true ∧
        s.sy.phase = 5 ∧ s.flag TM_LOSC_STATUS_PRESENT 0 = true ∧ lo.length = 32 ∧ hi.length = 32)) ∧
    (from_ ({ (up0.set1 TM_LOSC_STATUS_PRESENT 0) with sy := { (up0.set1 TM_LOSC_STATUS_PRESENT 0).sy with phase := 5, latched := true } }) fun s =>
      decide (s.sy.phase = 5 ∧ s.sy.latched = true ∧ s.flag TM_LOSC_STATUS_PRESENT 0 = true)) ∧
    (from_ ({ up0 with sy := { up0.sy with phase := 6 } }) fun s => decide (s.sy.phase = 6)) ∧
    (from_ ({ dramOn up0 with sy := { up0.sy with phase := 8, latched := true, heldCmd := 0 }, waits := [{ actor := .pf0, write := true, addr := 0x1000000000, len := 4, bytes := toBytes 4 3 }] }) fun s =>
      let v : Nat := 3; let addr : Nat := 68719476736; decide (s.sy.phase = 8 ∧ s.sy.heldCmd = 0 ∧ v < 2 ^ 32 ∧ inDram addr = true ∧
        inDram (addr + 3) = true ∧ s.waits = [{ actor := .pf0, write := true, addr := addr, len := 4, bytes := toBytes 4 v }] ∧
        s.served .pf0 addr true = true ∧ s.imgBlocked .pf0 addr 4 = false)) ∧
    (from_ ({ up0 with sy := { up0.sy with phase := 8 } }) fun s => decide (s.sy.phase = 8 ∧ s.sy.heldCmd = 0 ∧ s.waits = [])) ∧
    (from_ ({ up0 with sy := { up0.sy with phase := 5, latched := true, lockTime := msU } }) fun s =>
      decide (s.sy.phase = 5 ∧ s.sy.latched = true ∧ s.sy.failed = false ∧ msU ≤ s.sy.lockTime)) ∧
    (from_ up0 fun s => decide (s.flag SY_ROOT_STATUS_LOCKED 0 = true)) ∧
    (from_ ({ up0 with sy := { up0.sy with phase := 5, latched := true, freezeAt := some 0 }, itl := [(3, { ItlSt.init with phase := 6 })], eth := [(3, { EthSt.init with phase := 3 })] }) fun s =>
      (match s.sy.freezeAt with | some x => let n : Nat := 3; decide (x + msU ≤ s.ti.elapsed ∧ n < 8 ∧ (s.itlL n).phase ≠ 0 ∧ (s.itlL n).phase ≠ 8) | _ => false)) ∧
    (from_ ({ up0 with sy := { up0.sy with phase := 5, latched := true, freezeAt := some 0 }, itl := [(3, { ItlSt.init with phase := 6 })], eth := [(3, { EthSt.init with phase := 3 })] }) fun s =>
      (match s.sy.freezeAt with | some x => let n : Nat := 3; decide (x + msU ≤ s.ti.elapsed ∧ n < 16 ∧ (s.ethL n).phase ≠ 0 ∧ (s.ethL n).phase ≠ 6) | _ => false)) := by decide +kernel

theorem wit_OutputClocks :
    (from_ up0 fun s => let n : Nat := 3; decide (n < 4 ∧ s.flag SY_OPLL_CTL_EN n = false)) ∧
    (from_ up0 fun s =>
      let n : Nat := 3; let a : Actor := Actor.pf0; let v : Nat := 14918173765664867; decide (n < 4 ∧ s.mayWrite a .SY = true ∧
        s.multOk n (v % 2 ^ 54) = true)) ∧
    (from_ (up0.set1 SY_OPLL_STATUS_RELOCKING 3) fun s =>
      let n : Nat := 3; let band : Nat := 3; decide (s.sy.phase = 0 ∧ n < 4 ∧ s.flag SY_OPLL_STATUS_RELOCKING n = true ∧
        (s.pll n).lockedAt = none ∧ band < 16)) ∧
    (from_ ({ up0.set1 SY_OPLL_STATUS_RELOCKING 3 with opll := [(3, { OpllSt.init with startAt := 0, lockedAt := some 7 })] }) fun s =>
      let n : Nat := 3; decide (s.sy.phase = 0 ∧ n < 4) &&
        (match (s.pll n).lockedAt with | some x => decide (s.flag SY_OPLL_STATUS_RELOCKING n = true ∧ x + 20 * usU ≤ s.ti.elapsed) | _ => false)) ∧
    (from_ ({ up0 with sy := { up0.sy with phase := 5 } }) fun s =>
      let n : Nat := 3; let band : Nat := 3; decide (s.sy.phase ≠ 0 ∧ n < 4 ∧ band < 16)) ∧
    (from_ (up0.set1 SY_OPLL_STATUS_RELOCKING 3) fun s =>
      let n : Nat := 3; decide (n < 4 ∧ s.flag SY_OPLL_STATUS_RELOCKING n = true ∧ (s.pll n).lockedAt = none ∧
        (s.pll n).failed = false ∧ (s.pll n).startAt + msU ≤ s.ti.elapsed)) ∧
    (from_ up0 fun s =>
      let n : Nat := 3; decide (n < 8 ∧ s.flag SY_CKO_CTL_EN n = false ∧ s.retired 8 n = false ∧
        s.retired 9 (s.fld SY_CKO_CTL_SRC n) = false ∧ s.ckoTooFast n = false ∧ s.flag SY_CKO_CTL_ALIGN n = false)) ∧
    (from_ ((up0.setFld SY_CKO_CTL_SRC 3 2).set1 SY_CKO_CTL_EN 3) fun s =>
      let n : Nat := 3; decide (n < 8 ∧ s.flag SY_CKO_CTL_EN n = true)) ∧
    (from_ ({ ((((up0.setFld SY_CKO_CTL_SRC 3 2).setFld SY_OPLL_MULT_INT 2 53).set1 SY_CKO_CTL_EN 3).set1 SY_CKO_CTL_HOLD_MODE 3).set1 SY_CKO_STATUS_HOLDING 3 with cko := [(3, { CkoSt.init with runs := true })] }) fun s =>
      let n : Nat := 3; let gap : Nat := 3; decide (n < 8 ∧ s.flag SY_CKO_CTL_EN n = true ∧ s.flag SY_CKO_CTL_HOLD_MODE n = true ∧
        (s.ck n).runs = true ∧ s.flag SY_CKO_STATUS_HOLDING n = true ∧ s.ckoShort n (2 * s.ckoD n) (s.fld SY_CKO_CTL_MARGIN n) gap = true)) ∧
    (from_ ({ ((((up0.setFld SY_CKO_CTL_SRC 3 2).setFld SY_OPLL_MULT_INT 2 53).set1 SY_CKO_CTL_EN 3).set1 SY_CKO_CTL_HOLD_MODE 3) with cko := [(3, { CkoSt.init with runs := true })] }) fun s =>
      let n : Nat := 3; let gap : Nat := 14918173765664867; decide (n < 8 ∧ s.flag SY_CKO_CTL_EN n = true ∧
        s.flag SY_CKO_CTL_HOLD_MODE n = true ∧ (s.ck n).runs = true ∧
        s.ckoShort n (2 * s.ckoD n) (s.fld SY_CKO_CTL_MARGIN n - 4) gap = false)) ∧
    (from_ ({ ((((up0.setFld SY_CKO_CTL_SRC 3 2).setFld SY_OPLL_MULT_INT 2 53).set1 SY_CKO_CTL_EN 3).set1 SY_CKO_CTL_HOLD_MODE 3) with cko := [(3, { CkoSt.init with runs := true })] }) fun s =>
      let n : Nat := 3; let gap : Nat := 14918173765664867; decide (n < 8 ∧ s.flag SY_CKO_CTL_EN n = true ∧
        s.flag SY_CKO_CTL_HOLD_MODE n = true ∧ (s.ck n).runs = true ∧ s.ckoShort n (s.ckoHigh n) (s.fld SY_CKO_CTL_MARGIN n) gap = false)) ∧
    (from_ ({ ((((up0.setFld SY_CKO_CTL_SRC 3 2).setFld SY_OPLL_MULT_INT 2 53).set1 SY_CKO_CTL_EN 3).set1 SY_CKO_CTL_HOLD_MODE 3) with cko := [(3, { CkoSt.init with runs := true })] }) fun s =>
      let n : Nat := 3; let gap : Nat := 3; decide (n < 8 ∧ s.flag SY_CKO_CTL_EN n = true ∧ s.flag SY_CKO_CTL_HOLD_MODE n = true ∧
        (s.ck n).runs = true ∧ 0 < s.opllMult (s.fld SY_CKO_CTL_SRC n) ∧
        s.ckoShort n (s.ckoHigh n) (s.fld SY_CKO_CTL_MARGIN n) gap = true)) ∧
    (from_ up0 fun s => let n : Nat := 3; decide (n < 8 ∧ (s.flag SY_CKO_CTL_HOLD_MODE n = false ∨ (s.ck n).runs = false))) ∧
    (from_ ({ up0.set1 SY_CKO_CTL_EN 3 with cko := [(3, { CkoSt.init with waitSec := some 3, runs := true })] }) fun s =>
      let n : Nat := 3; decide (n < 8) &&
        (match (s.ck n).waitSec with | some x => decide (s.flag SY_CKO_CTL_EN n = true ∧ s.flag SY_CKO_STATUS_HOLDING n = false ∧ x < secOf s.ti.now) | _ => false)) ∧
    (from_ ({ ((((up0.setFld SY_CKO_CTL_SRC 3 2).setFld SY_OPLL_MULT_INT 2 53).set1 SY_CKO_CTL_EN 3).set1 SY_CKO_CTL_HOLD_MODE 3).set1 SY_CKO_STATUS_HOLDING 3 with cko := [(3, { CkoSt.init with runs := true, waitSec := some 3 })] }) fun s =>
      let n : Nat := 3; decide (n < 8) &&
        (match (s.ck n).waitSec with | some _ => decide (s.flag SY_CKO_STATUS_HOLDING n = true) | _ => false)) ∧
    (from_ (up0.set1 SY_CKO_STATUS_ALIGNING 3) fun s => let n : Nat := 3; decide (n < 8 ∧ s.flag SY_CKO_STATUS_ALIGNING n = true)) := by decide +kernel

theorem wit_Measurements :
    (from_ ({ rst up0 3 2 0 with tmb := { up0.tmb with copies := [(3, [4999 * 2 ^ 96 + 12345 * 2 ^ 80 + 100 * 2 ^ 32 + 5, 9])] } }) fun s =>
      let n : Nat := 3; decide (n < 4) &&
        (match smGet [] s.tmb.copies n with | r :: _ => decide (s.refMode n ≠ 1 ∧ s.rstate n ≠ 0 ∧ s.rstate n ≠ 4 ∧ recCounts r = true) | _ => false)) ∧
    (from_ up0 fun s => let n : Nat := 0; decide (n < 4 ∧ smGet [] s.tmb.copies n = [])) ∧
    (from_ ((({ up0 with ts := { up0.ts with queue := [{ tag := 9, unit_ := 0, inst := 0, peer := Peer.init, body := ((List.range 100).map fun k => if k = 30 then 0 else if k = 31 then 7 else if 44 ≤ k && k < 54 then (up0.ptpId (up0.fld TS_PKT_CTL_MAC 0)).getD (k - 44) 0 else if k = 0 then 9 else if k = 1 then 2 else if k = 3 then 54 else 0), stamp := 77 * secU, bound := 5 }] } }.setPkt 0 { up0.pkt 0 with dreq := some (7, 100, 5), sync := some (3, 200, 300), seq := 8, pair := some (3, some (200, 300), false) })).clr RS_REF_CTL_NEED_AUTH 4) fun s =>
      let n : Nat := 0; decide (n < 2) &&
        (match s.ts.queue.find? (fun x => x.tag == 9 && x.unit_ == n) with | some q => decide ((({ s with ts := { s.ts with queue := s.ts.queue.erase q } } : State).pktAccept n q).2 = true ∧ ((({ s with ts := { s.ts with queue := s.ts.queue.erase q } } : State).pktAccept n q).1.pkt n).dreq.map (·.1) = some (beAt q.body 30 2) ∧ (((({ s with ts := { s.ts with queue := s.ts.queue.erase q } } : State).pktAccept n q).1.pkt n).pair.bind (·.2.1)).isSome = true ∧ (q.body.drop 44).take 10 = (({ s with ts := { s.ts with queue := s.ts.queue.erase q } } : State).pktAccept n q).1.ptpId ((({ s with ts := { s.ts with queue := s.ts.queue.erase q } } : State).pktAccept n q).1.fld TS_PKT_CTL_MAC n)) | _ => false)) ∧
    (from_ ({ (((rst up0 6 2 0).setFld RS_REF_CTL_LANE 6 3).set1 SL_ITL_STATUS_UP 3).set1 SL_ITL_STATUS_CAL_DONE 3 with refs := [(6, { RefSt.init with itlCnt := 5, itlSum := 77 })] }) fun s =>
      let n : Nat := 0; decide (n < 2 ∧ s.rstate (6 + n) ≠ 0 ∧ s.rstate (6 + n) ≠ 4 ∧
        (s.upstream (s.fld RS_REF_CTL_LANE (6 + n))).2.2 ≠ 0xFFFFFFFF ∧ (s.ref (6 + n)).itlCnt ≠ 0 ∧
        s.laneMs (s.fld RS_REF_CTL_LANE (6 + n)) ≠ (s.ref (6 + n)).itlMs)) ∧
    (from_ (setR up0 6 fun r => { r with itlMs := up0.laneMs (up0.fld RS_REF_CTL_LANE 6) }) fun s =>
      let n : Nat := 0; decide (n < 2 ∧ s.laneMs (s.fld RS_REF_CTL_LANE (6 + n)) = (s.ref (6 + n)).itlMs)) ∧
    (from_ ((rst up0 0 2 0).setFld RS_REF_CTL_MODE 0 1) fun s =>
      let n : Nat := 0; let sec : Nat := 0; let seq : Nat := 0; let a : Actor := Actor.pf0; decide (n < 2 ∧ s.rstate n ≠ 0 ∧
        s.refMode n = 1 ∧ sec < 2 ^ 48 ∧ seq < 2 ^ 32 ∧ (s.ref n).recs.find? (fun x => x.seq == seq) = none ∧ s.mayWrite a .RS = true)) ∧
    (from_ ({ (rst up0 0 2 0).setFld RS_REF_CTL_MODE 0 1 with refs := [(0, { RefSt.init with labels := [{ seq := 5, sec := 9, until_ := 8 }], recs := [{ seq := 6, at_ := 3, until_ := 8 }] })] }) fun s =>
      let n : Nat := 0; decide (n < 2) && (match (s.ref n).labels with | l :: _ => decide (l.until_ ≤ s.ti.elapsed) | _ => false)) ∧
    (from_ ({ (rst up0 0 2 0).setFld RS_REF_CTL_MODE 0 1 with refs := [(0, { RefSt.init with labels := [{ seq := 5, sec := 9, until_ := 8 }], recs := [{ seq := 6, at_ := 3, until_ := 8 }] })] }) fun s =>
      let n : Nat := 0; decide (n < 2) && (match (s.ref n).recs with | x :: _ => decide (x.until_ ≤ s.ti.elapsed) | _ => false)) ∧
    (from_ up0 fun s => decide ((s.rs.win + 1) * 64 * secU ≤ s.now)) ∧
    (from_ ({ up0 with rs := { up0.rs with win := 78 } }) fun s => decide (s.now < (s.rs.win + 1) * 64 * secU)) := by decide +kernel

theorem wit_ReferencesAndSelection :
    (from_ (setR (rst up0 3 1 0) 3 fun r => { r with present := some 1, qualAt := 0, seen := up0.ti.elapsed }) fun s =>
      let n : Nat := 3; decide (n < 8 ∧ s.qualifiedNow n = true)) ∧
    (from_ up0 fun s => let n : Nat := 3; decide (n < 8 ∧ s.qualifiedNow n = false)) ∧
    (from_ (rst up0 3 2 0) fun s => let n : Nat := 3; decide (n < 8 ∧ s.rsGap n = true ∧ s.rstate n = 2)) ∧
    (from_ (rst up0 3 1 0) fun s => let n : Nat := 3; decide (n < 8 ∧ s.rsGap n = true ∧ s.rstate n = 1)) ∧
    (from_ (setR (rst up0 3 1 0) 3 fun r => { r with present := some 1, qualAt := 0, seen := up0.ti.elapsed }) fun s =>
      let n : Nat := 3; decide (n < 8 ∧ s.rsGap n = false)) ∧
    (from_ (setR (rst up0 3 3 1) 3 fun r => { r with granted := true, seen := up0.ti.elapsed, present := some 0 }) fun s =>
      let n : Nat := 3; decide (n < 8 ∧ s.requalOk n = true)) ∧
    (from_ (setR (rst up0 3 1 0) 3 fun r => { r with present := some 1, qualAt := 0, seen := up0.ti.elapsed }) fun s =>
      let n : Nat := 3; let a : Actor := Actor.pf0; decide (n < 8 ∧ (s.rstate n = 1 ∨ s.rstate n = 2) ∧ s.mayWrite a .RS = true)) ∧
    (from_ (rst up0 3 3 9) fun s =>
      let n : Nat := 3; let a : Actor := Actor.pf0; decide (n < 8 ∧ s.rstate n = 3 ∧
        (s.reason n = 9 ∨ s.reason n = 7 ∨ s.reason n = 6) ∧ s.mayWrite a .RS = true)) ∧
    (from_ up0 fun s => let n : Nat := 3; let a : Actor := Actor.pf0; decide (n < 8 ∧ s.rstate n = 0 ∧ s.mayWrite a .RS = true)) ∧
    (from_ up0 fun s => let n : Nat := 3; let a : Actor := Actor.pf0; decide (n < 8 ∧ s.rstate n ≠ 4 ∧ s.mayWrite a .RS = true)) ∧
    (from_ up0 fun s => let n : Nat := 3; let a : Actor := Actor.pf0; decide (n < 8 ∧ s.mayWrite a .RS = true)) ∧
    (from_ up0 fun s => let n : Nat := 5; let a : Actor := Actor.pf0; decide (n < 8 ∧ (n = 4 ∨ n = 5) ∧ s.mayWrite a .RS = true)) ∧
    (from_ ((rst up0 3 2 0).set1 RS_CTL_EN 0) fun s =>
      let ref : Nat := 3; decide (s.mayWrite .pf0 .RS = true ∧ s.flag RS_CTL_EN 0 = true ∧ ref < 8 ∧ s.isClk ref = false ∧
        s.rstate ref = 2)) ∧
    (from_ up0 fun s => let ref : Nat := 3; let a : Actor := Actor.seq 1; decide (ref < 8 ∧ a ≠ .pf0 ∧ s.mayWrite a .RS = true)) ∧
    (from_ ({ up0.setFld RS_STATE_ENGINE_STATE 0 1 with rs := { up0.rs with inFrom := some 0, outFrom := some 9 } }) fun s =>
      decide (s.engState = 1 ∧ s.ranLock s.rs.inFrom = true)) ∧
    (from_ ({ up0.setFld RS_STATE_ENGINE_STATE 0 2 with rs := { up0.rs with outFrom := some 0 } }) fun s =>
      decide (s.engState = 2 ∧ s.ranLock s.rs.outFrom = true)) ∧
    (from_ up0 fun s => decide (s.engState ≠ 1)) ∧
    (from_ ({ rst up0 3 3 6 with ho := { up0.ho with runs := [(29, 100000)] } }) fun s =>
      let x : Nat := 3; let y : Nat := 5; decide (s.implausible x = true ∧ x < y ∧ y < 8 ∧
        s.fld HO_PLAUS_CFG_AGREE_S 0 ≤ smGet 0 s.ho.runs (x * 8 + y))) := by decide +kernel

theorem wit_Holdover :
    (from_ up0 fun s => let a : Actor := Actor.pf0; decide (s.flag HO_CTL_EN 0 = false ∧ s.mayWrite a .HO = true)) ∧
    (from_ (up0.set1 HO_STATUS_SUMMING 0) fun s => decide (s.flag HO_STATUS_SUMMING 0 = true)) ∧
    (from_ ({ up0 with ho := { up0.ho with wait := true } }) fun s => decide (s.ho.wait = true ∧ s.flag HO_STATUS_SUMMING 0 = false)) ∧
    (from_ up0 fun s => let a : Actor := Actor.pf0; decide (s.mayWrite a .HO = true)) ∧
    (from_ up0 fun s => decide (s.tempStaleDue = true)) ∧
    (from_ (up0.set1 HO_STATUS_TEMP_STALE 0) fun s => decide (s.tempStaleDue = false)) := by decide +kernel

theorem wit_KeySlots :
    (from_ (up0.setFld LC_STATE_CODE 0 1) fun s =>
      decide (s.bt.held = false ∧ s.lifeCycle ≠ 0 ∧ s.flag KS_STATUS_ID_READY 0 = false ∧ s.flag LC_STATE_RESET_REQUIRED 0 = false)) ∧
    (from_ ((up0.setFld LC_STATE_CODE 0 1).setFld KS_STAGE_REC_RECORD 0 (ofBytes ([1, 2, 1, 0, 32, 0, 0, 0, 9, 9, 9, 9, 9] ++ List.replicate 51 0 ++ List.range 32 ++ List.replicate 160 0))) fun s =>
      let a : Actor := Actor.pf0; let slot : Nat := 16; decide (recOk (toBytes 256 (s.fld KS_STAGE_REC_RECORD 0)) = true ∧
        (toBytes 256 (s.fld KS_STAGE_REC_RECORD 0)).getD 1 0 % 2 = 0 ∧ s.mayWrite a .KS = true ∧ s.ksGate a = 0 ∧ slot < 256 ∧
        16 ≤ slot ∧ s.stageFull (actorNo a) slot = false)) ∧
    (from_ (up0.setFld LC_STATE_CODE 0 1) fun s =>
      let a : Actor := Actor.pf0; let slot : Nat := 0; decide (s.mayWrite a .KS = true ∧ s.ksGate a = 0 ∧ slot < 256 ∧ slot < 16)) ∧
    (from_ (up0.setFld LC_STATE_CODE 0 1) fun s =>
      let a : Actor := Actor.pf0; let slot : Nat := 16; decide (s.mayWrite a .KS = true ∧ s.ksGate a = 0 ∧ slot < 256 ∧ 16 ≤ slot)) ∧
    (from_ ((((up0.setFld LC_STATE_CODE 0 1).setFld KS_SLOT_STATUS_STATE 2 1).setFld KS_SLOT_STATUS_STATE 77 1).setFld KS_SLOT_STATUS_PARENT 77 2) fun s =>
      let slot := 2; let a : Actor := Actor.pf0; decide (s.genLive 0 false = true ∧
        (s.genHeld 0 true = true → s.genOf 0 true ≠ s.genOf 0 false) ∧ slot < 256 ∧ s.mayWrite a .KS = true ∧ s.ksGate a = 0)) ∧
    (from_ (up0.setFld LC_STATE_CODE 0 1) fun s =>
      let a : Actor := Actor.pf0; let slot : Nat := 0; decide (s.mayWrite a .KS = true ∧ s.ksGate a = 0 ∧ slot < 256 ∧ slot < 2)) ∧
    (from_ (up0.setFld LC_STATE_CODE 0 1) fun s =>
      let a : Actor := Actor.ctrl 13; let slot : Nat := 0; decide (s.mayWrite a .KS = true ∧ s.ksGate a ≠ 0 ∧ slot < 256)) ∧
    (from_ (up0.setFld LC_STATE_CODE 0 1) fun s =>
      let slot : Nat := 0; let a : Actor := Actor.pf1; let c : Instr := Instr.ksDiscard .pf1; decide (slot < 256 ∧
        s.mayWrite a .KS = false ∧ s.ksReach a = true ∧ s.ksGate a ≠ 0 ∧
        c ∈ [Instr.ksStage a slot, .ksDiscard a, .ksCommit a, .ksInvalidate a slot, .exportBlob a slot, .loadBlob a slot, .rewrapBlob a])) ∧
    (from_ (up0.setFld LC_STATE_CODE 0 1) fun s => let a : Actor := Actor.pf0; decide (s.mayWrite a .KS = true ∧ s.ksGate a = 0)) ∧
    (from_ ((((up0.setFld LC_STATE_CODE 0 1).setFld KS_SLOT_STATUS_STATE 2 1).setFld KS_SLOT_STATUS_STATE 77 1).setFld KS_SLOT_STATUS_PARENT 77 2) fun s =>
      decide (s.mayWrite .pf0 .KS = true ∧ s.ksGate .pf0 = 0 ∧ s.ks.deriv = none ∧
        (s.flag KS_GEN_CFG_RCPT_ALG 0 = true → bitOf Config.fuseOptions 0 = true) ∧ s.genChanges s.genStage = true ∧
        s.genRefuse s.genStage = 0)) ∧
    (from_ ((up0.setFld LC_STATE_CODE 0 1).setFld KS_GEN_STAGE_VALID 0 3) fun s =>
      decide (s.mayWrite .pf0 .KS = true ∧ s.ksGate .pf0 = 0 ∧ s.ks.deriv = none ∧
        (s.flag KS_GEN_CFG_RCPT_ALG 0 = true → bitOf Config.fuseOptions 0 = true) ∧ s.genChanges s.genStage = true ∧
        s.genRefuse s.genStage ≠ 0)) ∧
    (from_ ({ (up0.setFld LC_STATE_CODE 0 1) with ks := { (up0.setFld LC_STATE_CODE 0 1).ks with staged := [{ actor := 0, slot := 77, rec_ := { KeySlot.init with usage := 1, key := List.range 32 }, exp := true, intern := false, parent := 0 }] } }) fun s =>
      decide (s.mayWrite .pf0 .KS = true ∧ s.ksGate .pf0 = 0 ∧ s.ks.deriv = none ∧
        (s.flag KS_GEN_CFG_RCPT_ALG 0 = true → bitOf Config.fuseOptions 0 = true) ∧ s.genChanges s.genStage = false) &&
        (match s.ks.staged with | [x] => decide (x.actor = 0 ∧ 16 ≤ x.slot ∧ x.slot < 256) | _ => false)) ∧
    (from_ ({ (up0.setFld LC_STATE_CODE 0 1) with ks := { (up0.setFld LC_STATE_CODE 0 1).ks with deriv := some { gens := 5 + 2 ^ 32 * 4 + 2 ^ 192 * 3, kekPair := false, ntsPair := true, ed := false, pairKey := List.replicate 32 3 } } }) fun s =>
      (match s.ks.deriv with | some d => let g := d.gens; decide (s.ks.held = false ∧ s.ks.staged = []) | _ => false)) ∧
    (from_ (up0.setFld LC_STATE_CODE 0 1) fun _ => let bad : List Nat := []; decide ((∀ k ∈ bad, k < 256))) ∧
    (from_ ((List.range 8).foldl (fun t k => t.setFld KS_SLOT_STATUS_STATE k 3) (up0.setFld LC_STATE_CODE 0 1)) fun s =>
      let k : Nat := 0; decide (k < 8 ∧ s.slotState k = 3)) ∧
    (from_ (up0.setFld LC_STATE_CODE 0 1) fun s => let k : Nat := 0; decide (k < 8 ∧ s.slotState k ≠ 3)) := by decide +kernel

theorem wit_BlobsAndStatements :
    (from_ (up0.setFld LC_STATE_CODE 0 1) fun s =>
      let slot : Nat := 0; let a : Actor := Actor.pf0; decide (s.ks.cmd = none ∧ slot < 256 ∧ s.mayWrite a .KS = true ∧ s.ksGate a = 0)) ∧
    (from_ ({ (up0.setFld LC_STATE_CODE 0 1) with ks := { (up0.setFld LC_STATE_CODE 0 1).ks with cmd := some { op := 1, actor := 0, slot := 77, src := 0x20001000, dest := 0x20002000 } } }) fun s =>
      let slot : Nat := 0; let a : Actor := Actor.pf0; decide (s.ks.cmd.isSome = true ∧ slot < 256 ∧ s.mayWrite a .KS = true ∧
        s.ksGate a = 0)) ∧
    (from_ ({ ((((up0.setFld LC_STATE_CODE 0 1).setFld KS_SLOT_STATUS_STATE 2 1).setFld KS_SLOT_STATUS_STATE 77 1).setFld KS_SLOT_STATUS_PARENT 77 2).set1 KS_SLOT_STATUS_EXPORTABLE 77 with ks := { (up0.setFld LC_STATE_CODE 0 1).ks with cmd := some { op := 1, actor := 0, slot := 77, src := 0x20001000, dest := 0x20002000 } } }) fun s =>
      (match s.ks.cmd with | some c => decide (c.op = 1 ∧ 16 ≤ c.slot ∧ s.slotState c.slot = 1 ∧ s.flag LC_STATE_RESET_REQUIRED 0 = false ∧ s.flag KS_SLOT_STATUS_EXPORTABLE c.slot = true ∧ s.genLive 0 false = true ∧ 0x20000000 ≤ c.dest ∧ c.dest < 0x20400000 ∧ s.imgBlocked (.ctrl 4) c.dest 160 = false) | _ => false)) ∧
    (from_ ({ ((up0.setFld LC_STATE_CODE 0 1).set1 DR_STATUS_SELF_REFRESH 0) with ks := { (up0.setFld LC_STATE_CODE 0 1).ks with cmd := some { op := 1, actor := 0, slot := 77, src := 0x20001000, dest := 0x1000002000 } } }) fun s =>
      (match s.ks.cmd with | some c => decide (c.op = 1 ∧ s.asleep c.dest = true) | _ => false)) ∧
    (from_ ({ (up0.setFld LC_STATE_CODE 0 1) with ks := { (up0.setFld LC_STATE_CODE 0 1).ks with cmd := some { op := 1, actor := 0, slot := 77, src := 0x20001000, dest := 0x20002000 } } }) fun s =>
      (match s.ks.cmd with | some c => decide (c.op = 1 ∧ s.slotState c.slot ≠ 1 ∧ s.flag LC_STATE_RESET_REQUIRED 0 = false ∧ s.asleep c.dest = false) | _ => false)) ∧
    (from_ (up0.setFld LC_STATE_CODE 0 1) fun s => decide (s.ks.cmd = none)) ∧
    (from_ ({ ((((up0.setFld LC_STATE_CODE 0 1).setFld KS_SLOT_STATUS_STATE 2 1).setFld KS_SLOT_STATUS_STATE 77 1).setFld KS_SLOT_STATUS_PARENT 77 2).set1 KS_SLOT_STATUS_EXPORTABLE 77 with ks := { (up0.setFld LC_STATE_CODE 0 1).ks with cmd := some { op := 1, actor := 0, slot := 77, src := 0x20001000, dest := 0x20002000 } } }) fun s =>
      let i : Nat := 0; let slot : Nat := 77; decide (s.mayWrite .pf0 .KS = true ∧ s.lifeCycle ≠ 0 ∧
        s.flag LC_STATE_RESET_REQUIRED 0 = false ∧ i < 2 ∧ s.flag KS_STMT_CTL_BUSY i = false ∧ slot < 256 ∧ s.slotState slot = 1)) ∧
    (from_ ({ (((up0.setFld LC_STATE_CODE 0 1).set1 KS_STATUS_ID_READY 0).setFld KS_SLOT_STATUS_STATE 0 1) with bt := { (up0.setFld LC_STATE_CODE 0 1).bt with signQ := [{ src := 3, body := [1, 2, 3], signer := 1, req := 0, port := 0, peer := 0 }] } }) fun s =>
      (match s.bt.signQ with | x :: _ => decide (3 ≤ x.src ∧ x.src < 5 ∧ s.signReady = true ∧ s.slotValid (if x.signer = 1 then 0 else 1) = true) | _ => false)) := by decide +kernel

theorem wit_LifeCycleAdvance :
    (from_ ((up0.setFld LC_STATE_CODE 0 1).set1 LC_STATE_FUSE_SUPPLY_OK 0) fun s =>
      let key := 0xC7; let target : Nat := 2; decide (s.mayWrite .pf0 .LC = true ∧ s.mode = 0 ∧
        s.flag LC_STATE_RESET_REQUIRED 0 = false ∧ s.flag LC_STATE_FUSE_SUPPLY_OK 0 = true ∧ key < 256 ∧ target < 4 ∧
        advanceOk s.lifeCycle target = true)) ∧
    (from_ ((up0.setFld LC_STATE_CODE 0 1).set1 LC_STATE_FUSE_SUPPLY_OK 0) fun s =>
      let key : Nat := 0; let target : Nat := 2; decide (s.mayWrite .pf0 .LC = true ∧ s.mode = 0 ∧
        s.flag LC_STATE_RESET_REQUIRED 0 = false ∧ s.flag LC_STATE_FUSE_SUPPLY_OK 0 = true ∧ key < 256 ∧ key ≠ 0xC7 ∧ target < 4 ∧
        advanceOk s.lifeCycle target = true)) ∧
    (from_ ({ (((up0.setFld LC_STATE_CODE 0 1).set1 LC_STATE_FUSE_SUPPLY_OK 0).set1 LC_STATE_PREPARED 0).set1 KS_STATUS_ID_READY 0 with bt := { (up0.setFld LC_STATE_CODE 0 1).bt with prep := some 2 } }) fun s =>
      let key := 0xC7; decide (s.mayWrite .pf0 .LC = true ∧ s.mode = 0 ∧ s.flag LC_STATE_RESET_REQUIRED 0 = false ∧
        s.flag LC_STATE_FUSE_SUPPLY_OK 0 = true ∧ s.flag LC_STATE_PREPARED 0 = true) &&
        (match s.bt.prep with | some target => decide (key < 256 ∧ target < 4 ∧ advanceOk s.lifeCycle target = true) | _ => false)) ∧
    (from_ ((up0.setFld LC_STATE_CODE 0 1).set1 LC_STATE_FUSE_SUPPLY_OK 0) fun s =>
      let key : Nat := 0; let target : Nat := 2; decide (s.mayWrite .pf0 .LC = true ∧ s.mode = 0 ∧
        s.flag LC_STATE_RESET_REQUIRED 0 = false ∧ s.flag LC_STATE_FUSE_SUPPLY_OK 0 = true ∧ s.flag LC_STATE_PREPARED 0 = false ∧
        key < 256 ∧ target < 4 ∧ advanceOk s.lifeCycle target = true)) ∧
    (from_ (up0.setFld LC_STATE_CODE 0 1) fun s =>
      let key : Nat := 199; let target : Nat := 2; let a : Actor := Actor.pf1; let c : Instr := Instr.lcPrepare .pf1 0xC7 2; decide (key < 256 ∧
        target < 4 ∧ (s.mode ≠ 0 ∨ a ≠ .pf0) ∧ c ∈ [Instr.lcPrepare a key target, .lcCommit a key target])) ∧
    (from_ ({ ((((up0.setFld LC_STATE_CODE 0 1).set1 KS_STATUS_ID_READY 0).setFld KS_SLOT_STATUS_STATE 0 1).set1 LC_STATE_FUSE_SUPPLY_OK 0) with bt := { (up0.setFld LC_STATE_CODE 0 1).bt with prep := some 2 } }) fun s =>
      decide (s.flag LC_STATE_PREPARED 0 = false ∧ s.flag KS_STATUS_ID_READY 0 = true ∧ s.slotValid 0 = true) &&
        (match s.bt.prep with | some _ => true | _ => false)) ∧
    (from_ ({ (up0.setFld LC_STATE_CODE 0 1) with bt := { (up0.setFld LC_STATE_CODE 0 1).bt with blow := some 2, fuse1 := 3 } }) fun s =>
      (match s.bt.blow with | some _ => true | _ => false)) := by decide +kernel

theorem wit_EthernetLanes :
    (from_ (up0.setFld SL_GRP_CFG_MODE 0 1) fun s =>
      let n : Nat := 3; decide (n < 16 ∧ s.flag SL_ETH_CTL_EN n = false ∧ s.retired 4 n = false ∧
        s.fld SL_GRP_CFG_MODE (n / 4) % 3 ≠ 0 ∧ (s.fld SL_ETH_CTL_LOOP n = 0 ∨ s.mode = 0 ∨ s.mode = 2))) ∧
    (from_ ((up0.setFld SL_GRP_CFG_MODE 0 1).set1 SL_ETH_CTL_EN 3) fun s =>
      let n : Nat := 3; decide (n < 16 ∧ s.flag SL_ETH_CTL_EN n = true)) ∧
    (from_ ({ (up0.setFld SL_GRP_CFG_MODE 0 1) with eth := [(3, { EthSt.init with phase := 1, from_ := 0 })] }) fun s =>
      let n : Nat := 3; let sum : Nat := 3; let dtx : Nat := 3; let scatter : Nat := 3; decide (n < 16 ∧ (s.ethL n).phase = 1 ∧
        (s.ethL n).from_ + 2 * msU ≤ s.ti.elapsed ∧ sum < 2 ^ 32 ∧ dtx ≤ sum ∧ scatter ≤ 2000)) ∧
    (from_ ({ (up0.setFld SL_GRP_CFG_MODE 0 1) with eth := [(3, { EthSt.init with phase := 1, from_ := 0 })] }) fun s =>
      let n : Nat := 3; let sum : Nat := 3; let dtx : Nat := 3; let scatter : Nat := 2001; decide (n < 16 ∧ (s.ethL n).phase = 1 ∧
        (s.ethL n).from_ + 2 * msU ≤ s.ti.elapsed ∧ sum < 2 ^ 32 ∧ dtx ≤ sum ∧ 2000 < scatter)) ∧
    (from_ ({ (up0.setFld SL_GRP_CFG_MODE 0 1) with eth := [(3, { EthSt.init with phase := 2, from_ := 0, calTx := 1000, calRx := 1999 })] }) fun s =>
      let n : Nat := 3; let sum : Nat := 3; let dtx : Nat := 3; decide (n < 16 ∧ ((s.ethL n).phase = 2 ∨ (s.ethL n).phase = 3) ∧
        0 < (s.ethL n).calTx ∧ sum < 2 ^ 32 ∧ dtx ≤ sum)) ∧
    (from_ ({ (up0.setFld SL_GRP_CFG_MODE 0 1) with eth := [(3, { EthSt.init with phase := 2, from_ := 0 })] }) fun s =>
      let n : Nat := 3; let swap := s.flag SL_ETH_CTL_RX_INV n; decide (n < 16 ∧ (s.ethL n).phase = 2)) ∧
    (from_ (up0.setFld SL_GRP_CFG_MODE 0 1) fun s =>
      let n : Nat := 3; let swap : Bool := false; decide (n < 16 ∧ ((s.ethL n).phase ≠ 2 ∨ s.flag SL_ETH_CTL_RX_INV n ≠ swap))) ∧
    (from_ ({ (up0.setFld SL_GRP_CFG_MODE 0 1) with eth := [(3, { EthSt.init with phase := 2, from_ := 0 })] }) fun s =>
      let n : Nat := 3; decide (n < 16 ∧ (s.ethL n).phase = 2 ∧ (s.ethL n).from_ + 500 * msU ≤ s.ti.elapsed)) ∧
    (from_ ({ (up0.setFld SL_GRP_CFG_MODE 0 1) with eth := [(3, { EthSt.init with phase := 3, from_ := 0 })] }) fun s =>
      let n : Nat := 3; decide (n < 16 ∧ (s.ethL n).phase = 3)) := by decide +kernel

theorem wit_IrnakLanes :
    (from_ (up0.setFld SL_ITL_CTL_ROLE 3 1) fun s =>
      let n : Nat := 3; decide (n < 8 ∧ s.flag SL_ITL_CTL_EN n = false ∧ s.itlMay n = true ∧ s.fld SL_ITL_CTL_LOOP n = 0)) ∧
    (from_ ({ (up0.setFld SL_ITL_CTL_ROLE 3 1) with itl := [(3, { ItlSt.init with phase := 1 })] }.set1 SL_ITL_STATUS_HDR_LOCK 3) fun s =>
      let n : Nat := 3; let sum : Nat := 3; let dtx : Nat := 3; let scatter : Nat := 3; decide (n < 8 ∧ (s.itlL n).phase = 1 ∧
        (s.itlL n).from_ + 2 * msU ≤ s.ti.elapsed ∧ sum < 2 ^ 32 ∧ dtx ≤ sum ∧ scatter ≤ 2000)) ∧
    (from_ ({ (up0.setFld SL_ITL_CTL_ROLE 3 1) with itl := [(3, { ItlSt.init with phase := 1 })] }.set1 SL_ITL_STATUS_HDR_LOCK 3) fun s =>
      let n : Nat := 3; let sum : Nat := 3; let dtx : Nat := 3; let scatter : Nat := 2001; decide (n < 8 ∧ (s.itlL n).phase = 1 ∧
        (s.itlL n).from_ + 2 * msU ≤ s.ti.elapsed ∧ sum < 2 ^ 32 ∧ dtx ≤ sum ∧ 2000 < scatter)) ∧
    (from_ ({ (up0.setFld SL_ITL_CTL_ROLE 3 1) with itl := [(3, { ItlSt.init with phase := 2, calTx := 1000, calRx := 1999 })] }.set1 SL_ITL_STATUS_HDR_LOCK 3) fun s =>
      let n : Nat := 3; let sum : Nat := 3; let dtx : Nat := 3; decide (n < 8 ∧ (s.itlL n).phase ∈ [2, 5, 6] ∧ 0 < (s.itlL n).calTx ∧
        sum < 2 ^ 32 ∧ dtx ≤ sum)) ∧
    (from_ ({ (up0.setFld SL_ITL_CTL_ROLE 3 1) with itl := [(3, { ItlSt.init with phase := 2, req := 1, reqAt := some 0, scr := 5 })] }.set1 SL_ITL_STATUS_HDR_LOCK 3) fun s =>
      let n : Nat := 3; decide (n < 8) &&
        (match (s.itlL n).reqAt with | some t => decide ((s.itlL n).phase = 2 ∧ t + msU ≤ s.ti.elapsed) | _ => false)) ∧
    (from_ ({ (up0.setFld SL_ITL_CTL_ROLE 3 1) with itl := [(3, { ItlSt.init with phase := 2, reqAt := some up0.ti.elapsed, scr := 5 })] }.set1 SL_ITL_STATUS_HDR_LOCK 3) fun s =>
      let n : Nat := 3; decide (n < 8) &&
        (match (s.itlL n).reqAt with | some t => decide ((s.itlL n).phase = 2 ∧ s.ti.elapsed < t + msU) | _ => false)) ∧
    (from_ ({ (up0.setFld SL_ITL_CTL_ROLE 3 1) with itl := [(3, { ItlSt.init with phase := 2, req := 1, reqAt := some 0, scr := 5 })] }.set1 SL_ITL_STATUS_HDR_LOCK 3) fun s =>
      let n : Nat := 3; decide (n < 8 ∧ ((s.itlL n).phase = 2 ∨ (s.itlL n).phase = 5) ∧ (s.itlL n).from_ + 500 * msU ≤ s.ti.elapsed)) ∧
    (from_ (up0.setFld SL_ITL_CTL_ROLE 3 1) fun s =>
      let n : Nat := 3; decide (n < 8 ∧ ((s.itlL n).phase ∉ [2, 5, 6] ∨ s.ti.ticks % 8 ≠ 0 ∨ (s.itlL n).edge = some s.ti.ticks))) ∧
    (from_ ({ (up0.setFld SL_ITL_CTL_ROLE 3 1) with itl := [(3, { ItlSt.init with phase := 2, scr := 7, ahead := some (2 ^ 28 + 5, List.replicate 112 1) })] }.set1 SL_ITL_STATUS_HDR_LOCK 3) fun s =>
      let n : Nat := 3; decide (s.ti.ticks % 8 = 0 ∧ n < 8 ∧ (s.itlL n).edge ≠ some s.ti.ticks ∧ (s.itlL n).loop = 0) &&
        (match (s.itlL n).ahead with | some (cell, _) => decide (cell ≠ 3 * 2 ^ 28 + 2 ^ 14 ∧ (s.itlL n).phase ∈ [2, 5, 6]) | _ => false)) ∧
    (from_ ({ (up0.setFld SL_ITL_CTL_ROLE 3 1) with itl := [(3, { ItlSt.init with phase := 5, scr := 99 })] }.set1 SL_ITL_STATUS_HDR_LOCK 3) fun s =>
      let n : Nat := 3; decide (s.ti.ticks % 8 = 0 ∧ n < 8 ∧ (s.itlL n).edge ≠ some s.ti.ticks ∧ (s.itlL n).loop = 0 ∧
        (s.itlL n).ahead = none ∧ (s.itlL n).phase = 5)) ∧
    (from_ ({ (up0.setFld SL_ITL_CTL_ROLE 3 1) with itl := [(3, { ItlSt.init with phase := 6, slice := 4, rec_ := List.range 36, scr := 77 })] }.set1 SL_ITL_STATUS_HDR_LOCK 3) fun s =>
      let n : Nat := 3; decide (s.ti.ticks % 8 = 0 ∧ n < 8 ∧ (s.itlL n).edge ≠ some s.ti.ticks ∧ (s.itlL n).loop = 0 ∧
        (s.itlL n).ahead = none ∧ (s.itlL n).phase = 6 ∧ 2 ≤ n ∧ (s.itlL n).slice ≠ 0 ∧ (s.itlL n).slice < 11 ∧
        beAt (s.itlL n).rec_ (3 * (s.itlL n).slice) 3 < 2 ^ 24 ∧ beAt (s.itlL n).rec_ (3 * ((s.itlL n).slice + 1)) 3 < 2 ^ 24)) ∧
    (from_ (up0.setFld SL_ITL_CTL_ROLE 3 1) fun s =>
      let n : Nat := 3; decide (n < 8 ∧ (s.itlL n).loop = 1 ∨ (s.itlL n).loop = 2 ∨ ((s.itlL n).loop = 0 ∧
        (s.itlL n).phase ∉ [2, 5, 6]))) ∧
    (from_ (({ (up0.setFld SL_ITL_CTL_ROLE 3 1) with itl := [(3, { ItlSt.init with phase := 6 })] }.set1 SL_ITL_STATUS_HDR_LOCK 3).setShadow SL_ITL_ASYM_ASYM 3 99) fun s =>
      let hdr : Nat := 58395; decide (hdr < 2 ^ 16) &&
        (match hdrKind hdr with | some _ => let n : Nat := 3; decide (n < 8 ∧ (s.itlL n).loop = 0 ∧ (s.itlL n).phase ∈ [2, 5, 6] ∧ s.flag SL_ITL_CTL_RX_INV n = false) && (match s.shadow SL_ITL_ASYM_ASYM n with | some _ => let line : Nat := 3; decide (line < 2 ^ 1008) | _ => false) | _ => false)) ∧
    (from_ ({ (up0.setFld SL_ITL_CTL_ROLE 3 1) with itl := [(3, { ItlSt.init with phase := 6, slice := 4, rec_ := List.range 36, scr := 77 })] }.set1 SL_ITL_STATUS_HDR_LOCK 3) fun s =>
      let hdr : Nat := 58395; decide (hdr < 2 ^ 16) &&
        (match hdrKind hdr with | some k => let n : Nat := 3; let line : Nat := 3; decide (k ≠ 2 ∧ n < 8 ∧ (s.itlL n).loop = 0 ∧ s.flag SL_ITL_CTL_RX_INV n = false ∧ s.flag SL_ITL_STATUS_HDR_LOCK n = true ∧ 2 ≤ n ∧ (s.itlL n).phase = 6 ∧ (s.itlL n).fails.length < 31 ∧ line < 2 ^ 1008 ∧ (readSuperword k line (s.itlL n).desc).2 = false) | _ => false)) ∧
    (from_ ({ (up0.setFld SL_ITL_CTL_ROLE 3 1) with itl := [(3, { ItlSt.init with phase := 2, req := 1, reqAt := some 0, scr := 5 })] }.set1 SL_ITL_STATUS_HDR_LOCK 3) fun s =>
      let hdr : Nat := 58395; decide (hdr < 2 ^ 16) &&
        (match hdrKind hdr with | some k => let n : Nat := 3; let line : Nat := 1336793883456244584955458581548553945026933346796417237308886353589877531355040288622651951317053063326918910151661278900360910256794850191386978385979948228851896764195882763855273505862997210522812212056346215503944099284121883554562875964688714859479243896827478296726259028926559403906073176746; let seed : Nat := 5; let b : List Nat := toBytesBE 8 (3 * 2 ^ 28 + 2 ^ 15) ++ List.replicate 112 0; decide (k ≠ 2 ∧ n < 8 ∧ (s.itlL n).loop = 0 ∧ s.flag SL_ITL_CTL_RX_INV n = false ∧ s.flag SL_ITL_STATUS_HDR_LOCK n = true ∧ 2 ≤ n ∧ (s.itlL n).phase = 2 ∧ (s.itlL n).alRx = 0 ∧ line < 2 ^ 1008 ∧ readAlign k line = none ∧ readSuperword k line seed = (b, true) ∧ beAt b 4 4 = 3 * 2 ^ 28 + 2 ^ 15) | _ => false)) ∧
    (from_ ({ (up0.setFld SL_ITL_CTL_ROLE 3 1) with itl := [(3, { ItlSt.init with phase := 5, scr := 99 })] }.set1 SL_ITL_STATUS_HDR_LOCK 3) fun s =>
      let hdr : Nat := 58395; decide (hdr < 2 ^ 16) &&
        (match hdrKind hdr with | some k => let line : Nat := 1336793882238080333530458696504381146542534807936888880109510412731389224203421702276848688508851180091667627748498164371434826733862453958236591630157699816812815086754473051360714377129148503586555506012246266319041801924911183813888516596470419407545623195224010946338224335541330779727484998997; decide (k ≠ 2 ∧ line < 2 ^ 1008) && (match readAlign k line with | some _ => let n : Nat := 3; decide (n < 8 ∧ (s.itlL n).loop = 0 ∧ s.flag SL_ITL_CTL_RX_INV n = false ∧ s.flag SL_ITL_STATUS_HDR_LOCK n = true ∧ 2 ≤ n ∧ (s.itlL n).phase = 5 ∧ (s.itlL n).alRx = 0 ∧ (s.itlL n).alTx < 64) | _ => false) | _ => false)) ∧
    (from_ ({ (up0.setFld SL_ITL_CTL_ROLE 3 1) with itl := [(3, { ItlSt.init with phase := 6, slice := 4, rec_ := List.range 36, scr := 77 })] }.set1 SL_ITL_STATUS_HDR_LOCK 3) fun s =>
      let n : Nat := 3; decide (n < 8 ∧ (s.itlL n).phase = 6 ∧ s.laneMs n ≠ (s.itlL n).win ∧ 2 ≤ n ∧ (s.itlL n).cnt = 0)) ∧
    (from_ ({ (up0.setFld SL_ITL_CTL_ROLE 3 1) with itl := [(3, { ItlSt.init with phase := 6, win := 1, cnt := 5, sumA := 77, sumO := 8, sumD := 9 })] }.set1 SL_ITL_STATUS_HDR_LOCK 3) fun s =>
      let n : Nat := 3; decide (n < 8 ∧ (s.itlL n).phase = 6 ∧ s.laneMs n ≠ (s.itlL n).win ∧ 2 ≤ n ∧ 0 < (s.itlL n).cnt)) ∧
    (from_ ({ (up0.setFld SL_ITL_CTL_ROLE 3 1) with itl := [(3, { ItlSt.init with phase := 6, win := up0.laneMs 3 })] }.set1 SL_ITL_STATUS_HDR_LOCK 3) fun s =>
      let n : Nat := 3; decide (n < 8 ∧ (s.itlL n).phase = 6 ∧ s.laneMs n = (s.itlL n).win)) := by decide +kernel

theorem wit_MacFrames :
    (from_ (macUp up0) fun s => let n : Nat := 3; decide (n < 16 ∧ s.rxOpen n = true ∧ s.macLoop n = 0)) ∧
    (from_ (m3 (macUp up0) fun t => { t with rx := [{ stamp := 5, bound := 6, safe := false, dist := false, at_ := (macUp up0).ti.elapsed, room := 2000 }] }) fun s =>
      let fcs := true; let n : Nat := 3; let back : Nat := 3; let lane : Nat := 3; let h : RxHead := { stamp := 5, bound := 6, safe := false, dist := false, at_ := up0.ti.elapsed, room := 2000 }; let bytes : List Nat := List.range 100; let uncorr : Nat := 3; decide (n < 16 ∧
        s.rxOpen n = true ∧ s.macLoop n = 0 ∧ (s.mac n).rx = [h] ∨ ((s.mac n).rx = [] ∧
        h = (let d := (back + s.fld SL_ETH_RX_DELAY_DELAY (s.macLane n lane)) * 2 ^ 32; { stamp := (s.stampAt d).time, safe := (s.stampAt d).safe, dist := (s.stampAt d).dist, at_ := s.ti.elapsed - d, bound := if s.flag SL_ETH_STATUS_CAL_DONE (s.macLane n lane) then addBound (s.stampAt d).bound 300 else 0xFFFFFFFF, room := if 8 * 2 ^ 20 < s.occAll + s.fld MC_MAX_FRAME_OCTETS n then 0 else s.fld MC_MAX_FRAME_OCTETS n } : RxHead)) ∧
        h.room ≠ 0 ∧ 64 ≤ lineLen bytes ∧ lineLen bytes ≤ s.fld MC_MAX_FRAME_OCTETS n ∧ s.macFilter n (beAt bytes 0 6) = true ∧
        beAt bytes 12 2 ≠ 0x8808 ∧ (s.fecOn n = false ∨ uncorr = 0))) ∧
    (from_ (m3 (macUp up0) fun t => { t with rx := [{ stamp := 5, bound := 6, safe := false, dist := false, at_ := (macUp up0).ti.elapsed, room := 2000 }] }) fun s =>
      let fcs := false; let n : Nat := 3; let back : Nat := 3; let lane : Nat := 3; let h : RxHead := { stamp := 5, bound := 6, safe := false, dist := false, at_ := up0.ti.elapsed, room := 2000 }; let bytes : List Nat := List.range 100; let uncorr : Nat := 3; decide (n < 16 ∧
        s.rxOpen n = true ∧ s.macLoop n = 0 ∧ (s.mac n).rx = [h] ∨ ((s.mac n).rx = [] ∧
        h = (let d := (back + s.fld SL_ETH_RX_DELAY_DELAY (s.macLane n lane)) * 2 ^ 32; { stamp := (s.stampAt d).time, safe := (s.stampAt d).safe, dist := (s.stampAt d).dist, at_ := s.ti.elapsed - d, bound := if s.flag SL_ETH_STATUS_CAL_DONE (s.macLane n lane) then addBound (s.stampAt d).bound 300 else 0xFFFFFFFF, room := if 8 * 2 ^ 20 < s.occAll + s.fld MC_MAX_FRAME_OCTETS n then 0 else s.fld MC_MAX_FRAME_OCTETS n } : RxHead)) ∧
        h.room ≠ 0 ∧ 64 ≤ lineLen bytes ∧ lineLen bytes ≤ s.fld MC_MAX_FRAME_OCTETS n ∧ s.macFilter n (beAt bytes 0 6) = true ∧
        beAt bytes 12 2 ≠ 0x8808 ∧ (s.fecOn n = false ∨ uncorr = 0))) ∧
    (from_ (m3 (macUp up0) fun t => { t with holds := [(2, some 0, 5)] }) fun s =>
      let n : Nat := 3; decide (n < 16) &&
        (match (s.mac n).holds with | [(p, _, till)] => decide (p < 9 ∧ till ≤ s.ti.elapsed) | _ => false)) ∧
    (from_ (m3 (macUp up0) fun t => { t with holds := [(8, some 0, 5 + (macUp up0).ti.elapsed)] }) fun s =>
      let n : Nat := 3; decide (n < 16) &&
        (match (s.mac n).holds with | [(p, _, till)] => decide (p < 9 ∧ s.ti.elapsed < till) | _ => false)) ∧
    (from_ (m3 ((macUp up0).setFld MC_FC_WM_LO 3 1) fun t => { t with xoff := some (0, 0, 256), stored := List.replicate 40 { rxf with bytes := List.replicate 1500 7 } }) fun s =>
      let n : Nat := 3; decide (n < 16) &&
        (match (s.mac n).xoff with | some (_, last, _) => decide (last + s.octU n (65535 * 64) / 2 ≤ s.ti.elapsed ∧ s.fld MC_FC_WM_LO n * 1024 < s.occupancy n) | _ => false)) ∧
    (from_ (m3 (macUp up0) fun t => { t with curEnd := (macUp up0).ti.elapsed + 1 }) fun s =>
      let n : Nat := 3; let ph : Nat := 0; let lane : Nat := 3; decide (n < 16 ∧ (s.mac n).ctl = [] ∧
        (s.ti.elapsed + (ph + s.fld SL_ETH_TX_DELAY_DELAY (s.macLane n lane)) * 2 ^ 32) < (s.mac n).curEnd)) ∧
    (from_ (m3 (macUp up0) fun t => { t with ctl := [(256, 77)] }) fun s =>
      let n : Nat := 3; decide (n < 16 ∧ s.macUp n = true ∧ (s.mac n).cur = none ∧ (s.mac n).gate.all (fun r => !r.cleared) = true ∧
        s.flag MC_CTL_MUTE n = false) &&
        (match (s.mac n).ctl with | (_, _) :: _ => let ph : Nat := 3; let lane : Nat := 3; decide (s.macLoop n = 0 ∧ (s.mac n).curEnd ≤ (s.ti.elapsed + (ph + s.fld SL_ETH_TX_DELAY_DELAY (s.macLane n lane)) * 2 ^ 32) ∧ s.fits n 64 (s.ti.elapsed + (ph + s.fld SL_ETH_TX_DELAY_DELAY (s.macLane n lane)) * 2 ^ 32) = true) | _ => false)) ∧
    (from_ (m3 (macUp up0) fun t => { t with pre := [txf, { txf with cls := 5 }] }) fun s =>
      let n : Nat := 3; decide (n < 16 ∧ s.macUp n = true ∧ (s.mac n).cur = none ∧ (s.mac n).gate.all (fun r => !r.cleared) = true ∧
        s.flag MC_CTL_MUTE n = false ∧ (s.mac n).ctl = [] ∧ (s.mac n).part = none ∧ s.flag MC_CTL_EN n = true) &&
        (match s.txChoose n with | some f => let ph : Nat := 3; let lane : Nat := 3; decide ((s.mac n).curEnd ≤ (s.ti.elapsed + (ph + s.fld SL_ETH_TX_DELAY_DELAY (s.macLane n lane)) * 2 ^ 32) ∧ s.mayStart n f (s.ti.elapsed + (ph + s.fld SL_ETH_TX_DELAY_DELAY (s.macLane n lane)) * 2 ^ 32) = true) | _ => false)) ∧
    (from_ (m3 (macUp up0) fun t => { t with cur := some txf }) fun s =>
      let n : Nat := 3; decide (n < 16 ∧ s.macUp n = true) &&
        (match (s.mac n).cur with | some f => let ph : Nat := 3; let lane : Nat := 3; decide (f.host = none ∧ f.frags = 0 ∧ (s.mac n).ctl = [] ∧ (s.mac n).part = none ∧ (s.mac n).pre = [] ∧ s.macLoop n = 0 ∧ (s.mac n).curEnd ≤ (s.ti.elapsed + (ph + s.fld SL_ETH_TX_DELAY_DELAY (s.macLane n lane)) * 2 ^ 32)) | _ => false)) ∧
    (from_ (macUp up0) fun _ => let n : Nat := 3; decide (n < 16)) ∧
    (from_ (m3 ((macUp up0).setFld MC_STATUS_VERIFY_STATE 3 2) fun t => { t with verTry := 2 }) fun s =>
      let n : Nat := 3; decide (n < 16 ∧ s.fld MC_STATUS_VERIFY_STATE n = 2 ∧
        (s.mac n).verAt + s.fld MC_PREEMPT_VERIFY_MS n * msU ≤ s.ti.elapsed ∧ (s.mac n).verTry < 3)) ∧
    (from_ (m3 ((macUp up0).setFld MC_STATUS_VERIFY_STATE 3 2) fun t => { t with verTry := 3 }) fun s =>
      let n : Nat := 3; decide (n < 16 ∧ s.fld MC_STATUS_VERIFY_STATE n = 2 ∧
        (s.mac n).verAt + s.fld MC_PREEMPT_VERIFY_MS n * msU ≤ s.ti.elapsed ∧ 3 ≤ (s.mac n).verTry)) ∧
    (from_ (m3 (((((tsOn (macUp up0)).setFld TS_SA_ADDR_ADDR 2 0x0A000002).setFld MC_MAC_ADDR_ADDR 3 0xFFFFFFFFFFFF).setFld RC_PORT_PORT 0 4999).setFld TS_SA_MACS_MASK 2 0xFFFF) fun t => { t with stored := [{ rxf with bytes := udp4 123 1 }] }) fun s =>
      let n : Nat := 3; decide (n < 16) &&
        (match (s.mac n).stored with | f :: fs => decide (s.bucketWaits (s.classify f) f.stamp n true = false ∧ (match ((s.setMac n { s.mac n with stored := fs })).classify f with | .badSum => true | _ => false) = true) | _ => false)) ∧
    (from_ (m3 ((((((tsOn (macUp up0)).setFld TS_SA_ADDR_ADDR 2 0x0A000002).setFld MC_MAC_ADDR_ADDR 3 0xFFFFFFFFFFFF).setFld RC_PORT_PORT 0 4999).setFld TS_SA_MACS_MASK 2 0xFFFF).set1 RC_CTL_EN 0) fun t => { t with stored := [{ rxf with bytes := udp4 4999 0 }] }) fun s =>
      let n : Nat := 3; decide (n < 16) &&
        (match (s.mac n).stored with | f :: fs => decide (s.bucketWaits (s.classify f) f.stamp n true = false) && (match (s.setMac n { s.mac n with stored := fs }).classify f with | .svc q => decide ((q.tag = 2 ∨ q.tag = 3)) | _ => false) | _ => false)) ∧
    (from_ ({ (((((tsOn (macUp up0)).setFld TS_SA_ADDR_ADDR 2 0x0A000002).setFld MC_MAC_ADDR_ADDR 3 0xFFFFFFFFFFFF).setFld RC_PORT_PORT 0 4999).setFld TS_SA_MACS_MASK 2 0xFFFF).setFld MC_MAC_ADDR_ADDR 2 0xFFFFFFFFFFFF with mc := [(2, { McSt.init with stored := [{ rxf with inst := 2, stamp := 50, bytes := udp4 123 0 }] }), (3, { McSt.init with stored := [{ rxf with bytes := udp4 123 0 }] })] }) fun s =>
      let n : Nat := 3; decide (n < 16) &&
        (match (s.mac n).stored with | f :: _ => decide (s.bucketWaits (s.classify f) f.stamp n true = true) | _ => false)) ∧
    (from_ (macUp up0) fun s => let n : Nat := 3; decide (n < 16 ∧ (s.mac n).stored = [])) := by decide +kernel

theorem wit_LaunchesAndMute :
    (from_ ({ (macUp up0) with ts := { (macUp up0).ts with sealing := [{ rspx with t3 := (macUp up0).now + 50 * usU }] } }) fun s =>
      let i : Nat := 0; (match s.ts.sealing[i]? with | some r => decide (s.now + 100 * nsU ≤ r.t3) | _ => false)) ∧
    (from_ ({ (macUp up0) with ts := { (macUp up0).ts with sealing := [{ rspx with t3 := (macUp up0).now + 50 * usU }] } }) fun s =>
      let i : Nat := 0; (match s.ts.sealing[i]? with | some r => decide (r.sealed = true ∧ s.now + 100 * nsU ≤ r.t3 ∧ r.t3 ≤ s.now + 110 * usU ∧ (s.mac r.inst).gate.length < 64 ∧ (∀ x ∈ (s.mac r.inst).gate, s.overlap r.inst r.t3 (lineLen r.bytes) x.t3 (lineLen x.bytes) = false)) | _ => false)) ∧
    (from_ ({ (macUp up0) with ts := { (macUp up0).ts with sealing := [{ rspx with t3 := (macUp up0).now + 50 * usU, sealed := false }] } }) fun s =>
      let i : Nat := 0; (match s.ts.sealing[i]? with | some r => decide (r.sealed = false) | _ => false)) ∧
    (from_ (m3 (macUp up0) fun t => { t with gate := [{ rspx with t3 := (macUp up0).now + (macUp up0).octU 3 20 }] }) fun s =>
      let n : Nat := 3; decide (n < 16) &&
        (match (s.mac n).gate.find? (fun w => !w.cleared) with | some r => decide ((s.mac n).cur = none ∧ s.heldNow n (s.prioOf n r.bytes) = false ∧ s.flag MC_STATUS_LINK_UP n = true ∧ s.flag MC_CTL_MUTE n = false ∧ s.flag MC_STATUS_MUTED n = false ∧ s.flag MC_STATUS_WAKING n = false ∧ (s.mac n).curEnd ≤ s.ti.elapsed ∧ s.clearAt n r = s.now) | _ => false)) ∧
    (from_ (m3 (macUp up0) fun t => { t with gate := [{ rspx with t3 := (macUp up0).now + 50 * usU }] }) fun s =>
      let n : Nat := 3; decide (n < 16) &&
        (match (s.mac n).gate.find? (fun w => !w.cleared) with | some r => decide (s.now < s.clearAt n r) | _ => false)) ∧
    (from_ (m3 (macUp up0) fun t => { t with gate := [{ rspx with t3 := (macUp up0).now, cleared := true, b3 := 2 ^ 40 }] }) fun s =>
      let n : Nat := 3; decide (n < 16) &&
        (match (s.mac n).gate with | r :: _ => decide (r.cleared = true ∧ s.now ≤ r.t3 ∧ r.t3 < s.now + s.applied ∧ s.condemned r = false ∧ s.macLoop n = 0) | _ => false)) ∧
    (from_ (m3 (macUp up0) fun t => { t with gate := [{ rspx with t3 := (macUp up0).now, cleared := true, b3 := 0 }] }) fun s =>
      let n : Nat := 3; decide (n < 16) &&
        (match (s.mac n).gate with | r :: _ => decide (r.cleared = true ∧ s.now ≤ r.t3 ∧ r.t3 < s.now + s.applied ∧ s.condemned r = true ∧ r.tries < 2) | _ => false)) ∧
    (from_ (macUp up0) fun s =>
      let n : Nat := 3; let a : Actor := Actor.pf0; decide (n < 16 ∧ s.macExists n = true ∧ s.flag MC_CTL_MUTE n = false ∧
        s.mayWrite a .MC = true)) ∧
    (from_ (((macUp up0).set1 MC_CTL_MUTE 3).set1 MC_STATUS_MUTED 3) fun s =>
      let n : Nat := 3; let a : Actor := Actor.pf0; decide (n < 16 ∧ s.macExists n = true ∧ s.flag MC_CTL_MUTE n = true ∧
        s.flag MC_STATUS_MUTED n = true ∧ s.mayWrite a .MC = true)) ∧
    (from_ ((macUp up0).set1 MC_CTL_MUTE 3) fun s =>
      let n : Nat := 3; let a : Actor := Actor.pf0; decide (n < 16 ∧ s.macExists n = true ∧ s.flag MC_CTL_MUTE n = true ∧
        s.flag MC_STATUS_MUTED n = false ∧ s.mayWrite a .MC = true)) ∧
    (from_ ((macUp up0).set1 MC_CTL_MUTE 3) fun s =>
      let n : Nat := 3; decide (n < 16 ∧ s.flag MC_CTL_MUTE n = true ∧ s.flag MC_STATUS_MUTED n = false ∧ (s.mac n).cur = none ∧
        (s.mac n).part = none ∧ (s.mac n).rx = [] ∧ (s.mac n).curEnd ≤ s.ti.elapsed)) ∧
    (from_ (((macUp up0).set1 MC_CTL_MUTE 3).set1 MC_STATUS_MUTED 3) fun s =>
      let n : Nat := 3; let ns : Nat := 3; decide (n < 16 ∧ s.flag MC_CTL_MUTE n = true ∧ s.flag MC_STATUS_MUTED n = true ∧ ns < 1000)) ∧
    (from_ ((((macUp up0).set1 MC_CTL_MUTE 3).set1 MC_STATUS_MUTED 3).clr MC_CTL_WAKE_EN 3) fun s =>
      let n : Nat := 3; let ns : Nat := 1000; decide (n < 16 ∧ s.flag MC_CTL_MUTE n = true ∧ s.flag MC_STATUS_MUTED n = true ∧
        s.flag MC_CTL_WAKE_EN n = false ∧ 1000 ≤ ns)) ∧
    (from_ (((macUp up0).set1 MC_CTL_MUTE 3).set1 MC_STATUS_MUTED 3) fun s =>
      let n : Nat := 3; let ns : Nat := 1000; decide (n < 16 ∧ s.flag MC_CTL_MUTE n = true ∧ s.flag MC_STATUS_MUTED n = true ∧
        s.flag MC_CTL_WAKE_EN n = true ∧ 1000 ≤ ns)) := by decide +kernel

theorem wit_NtpAndService :
    (from_ (setQ (tsOn up0) [{ tag := 1, unit_ := 2, inst := 3, peer := Peer.init, body := 0x23 :: List.replicate 47 5, stamp := 7, bound := 8 }]) fun s =>
      (match s.waiting 1 none with | some q => decide (s.service = true ∧ s.roleServes = true ∧ s.safe = false ∧ s.stopped = false ∧ s.isNts q.unit_ q.body = false ∧ s.flag TS_SA_CTL_NTP q.unit_ = true ∧ ((s.taken q).reserved q.inst).length < 64) | _ => false)) ∧
    (from_ (setQ ((tsOn up0).set1 TC_STATUS_SAFE_CLOCK 0) [{ tag := 1, unit_ := 2, inst := 3, peer := Peer.init, body := 0x23 :: List.replicate 47 5, stamp := 7, bound := 8 }]) fun s =>
      (match s.waiting 1 none with | some _ => decide (s.service = true ∧ s.roleServes = true ∧ s.safe = true) | _ => false)) ∧
    (from_ (setQ (((tsOn up0).setFld RS_STATE_ENGINE_STATE 0 0).set1 TS_STATE_CFG_STOP_FREE_RUN 0) [{ tag := 1, unit_ := 2, inst := 3, peer := Peer.init, body := 0x23 :: List.replicate 47 5, stamp := 7, bound := 8 }]) fun s =>
      (match s.waiting 1 none with | some _ => decide (s.service = true ∧ s.roleServes = true ∧ s.safe = false ∧ s.stopped = true) | _ => false)) ∧
    (from_ (setQ ((tsOn up0).setFld BT_MODE_MODE 0 0) [{ tag := 1, unit_ := 2, inst := 3, peer := Peer.init, body := 0x23 :: List.replicate 47 5, stamp := 7, bound := 8 }]) fun s =>
      (match s.waiting 1 none with | some _ => decide ((s.service = false ∨ s.roleServes = false)) | _ => false)) ∧
    (from_ (tsOn up0) fun s => decide (s.waiting 1 none = none)) ∧
    (from_ (tsOn up0) fun s => let a : Actor := Actor.pf0; let rep : Nat := 0; decide (s.mayWrite a .TS = true ∧ rep < 8)) ∧
    (from_ ({ (tsOn up0) with ts := { (tsOn up0).ts with rounds := 3, roundAt := (tsOn up0).ti.elapsed - 5 } }) fun s =>
      decide (s.ts.rounds ≠ 0 ∧ s.ts.roundAt ≤ s.ti.elapsed)) ∧
    (from_ ({ (tsOn up0) with ts := { (tsOn up0).ts with rounds := 1, roundAt := (tsOn up0).ti.elapsed + 1 } }) fun s =>
      decide (s.ti.elapsed < s.ts.roundAt)) ∧
    (from_ (((tsOn up0).setFld KS_SLOT_STATUS_STATE 4 1).setFld TS_MINT_SRC_ADDR 0 0x20001000) fun s =>
      let count : Nat := 3; decide (s.mayWrite .pf0 .TS = true ∧ (s.genLive 1 false = true ∨ s.genLive 1 true = true) ∧
        s.flag TS_MINT_CTL_BUSY 0 = false ∧ 0x20000000 ≤ (s.fld TS_MINT_SRC_ADDR 0) ∧ (s.fld TS_MINT_SRC_ADDR 0) + 64 ≤ 0x20400000 ∧
        s.imgBlocked (.ctrl 4) (s.fld TS_MINT_SRC_ADDR 0) 64 = false ∧ 0 < count ∧ count ≤ 8)) ∧
    (from_ ((((tsOn up0).setFld KS_SLOT_STATUS_STATE 4 1).setFld TS_MINT_SRC_ADDR 0 0x1000001000).set1 DR_STATUS_SELF_REFRESH 0) fun s =>
      let count : Nat := 3; decide (s.mayWrite .pf0 .TS = true ∧ (s.genLive 1 false = true ∨ s.genLive 1 true = true) ∧
        s.flag TS_MINT_CTL_BUSY 0 = false ∧ s.asleep (s.fld TS_MINT_SRC_ADDR 0) = true ∧ 0 < count ∧ count ≤ 8)) ∧
    (from_ (tsOn up0) fun s => let a : Actor := Actor.seq 1; decide (s.mayWrite a .TS = true ∧ a ≠ .pf0)) ∧
    (from_ ({ (((tsOn up0).setFld KS_SLOT_STATUS_STATE 4 1).setFld TS_MINT_DEST_ADDR 0 0x20001000) with ts := { (tsOn up0).ts with mint := some (3, List.replicate 64 5) } }) fun s =>
      (match s.ts.mint with | some (k, keys) => decide (keys ≠ [] ∧ k ≤ 8 ∧ 0x20000000 ≤ (s.fld TS_MINT_DEST_ADDR 0) ∧ (s.fld TS_MINT_DEST_ADDR 0) + 800 ≤ 0x20400000 ∧ s.imgBlocked (.ctrl 4) (s.fld TS_MINT_DEST_ADDR 0) (100 * k) = false) | _ => false)) ∧
    (from_ ({ ((((tsOn up0).setFld KS_SLOT_STATUS_STATE 4 1).setFld TS_MINT_DEST_ADDR 0 0x1000001000)).set1 DR_STATUS_SELF_REFRESH 0 with ts := { (tsOn up0).ts with mint := some (3, List.replicate 64 5) } }) fun s =>
      (match s.ts.mint with | some (_, _) => decide (s.asleep (s.fld TS_MINT_DEST_ADDR 0) = true) | _ => false)) ∧
    (from_ (setQ (tsOn up0) [{ tag := 3, unit_ := 1, inst := 3, peer := Peer.init, body := 0x23 :: List.replicate 47 5, stamp := 7, bound := 8 }]) fun s =>
      (match s.waiting 3 none with | some q => decide (s.bucketWaits (.svc q) q.stamp q.inst false = false ∧ s.flag LC_STATE_RESET_REQUIRED 0 = false ∧ attestOk q.body = false) | _ => false)) ∧
    (from_ (setQ (((tsOn up0).setFld TS_RL_CFG_BURST 0 300).setFld BT_NET_RATE_RATE 0 4) [{ tag := 3, unit_ := 1, inst := 3, peer := Peer.init, body := [0x4A, 0x41, 1, 0] ++ List.replicate 744 7, stamp := 7, bound := 8 }]) fun s =>
      (match s.waiting 3 none with | some q => decide (s.bucketWaits (.svc q) q.stamp q.inst false = false ∧ s.flag LC_STATE_RESET_REQUIRED 0 = false ∧ attestOk q.body = true ∧ s.netSpent = false ∧ s.netWaiting < 14 ∧ ((s.taken q).rateTake q.unit_ q.peer.net q.peer.addr (s.fld BT_NET_CFG_COST 0) false).2.1 = true) | _ => false)) := by decide +kernel

theorem wit_PtpService :
    (from_ (ptpPort (tsOn up0)) fun s =>
      let m : Nat := 3; decide (s.stopped = false ∧ s.safe = false ∧ m < 16 ∧ s.portReady m = true ∧ s.flag TS_PTP_CTL_MCAST m = true ∧
        s.mcastDue (s.ptp m).syncAt (s.fld TS_PTP_LOG_SYNC_LOG m) = true ∧ (s.reserved m).length < 64)) ∧
    (from_ (ptpPort (tsOn up0)) fun s =>
      let m : Nat := 3; decide (s.stopped = false ∧ s.safe = false ∧ m < 16 ∧ s.portReady m = true ∧ s.flag TS_PTP_CTL_MCAST m = true ∧
        s.mcastDue (s.ptp m).annAt (s.fld TS_PTP_LOG_ANN_LOG m) = true)) ∧
    (from_ (ptpPort (tsOn up0)) fun s => let m : Nat := 0; decide (m < 16 ∧ s.portReady m = false)) ∧
    (from_ (setQ (ptpPort (tsOn up0)) [{ tag := 4, unit_ := 3, inst := 3, peer := Peer.init, body := ptpM 1 0 ([]), stamp := 7, bound := 8 }]) fun s =>
      (match s.waiting 4 none with | some q => decide (s.ptpAuth q.body = 0 ∧ s.flag TS_PTP_CTL_NEED_AUTH q.inst = false ∧ s.stopped = false ∧ s.flag TS_PTP_CTL_MCAST q.inst = true) | _ => false)) ∧
    (from_ (setQ (ptpPort (tsOn up0)) [{ tag := 4, unit_ := 3, inst := 3, peer := Peer.init, body := ptpM 1 0 (toBytesBE 2 0x8009 ++ [0, 22] ++ List.replicate 22 0), stamp := 7, bound := 8 }]) fun s =>
      (match s.waiting 4 none with | some q => decide (s.ptpAuth q.body = 2) | _ => false)) ∧
    (from_ (setQ (ptpPort (tsOn up0)) [{ tag := 5, unit_ := 3, inst := 3, peer := Peer.init, body := ptpM 2 0 ([]), stamp := 7, bound := 8 }]) fun s =>
      (match s.waiting 5 none with | some q => decide (s.ptpAuth q.body = 0 ∧ s.flag TS_PTP_CTL_NEED_AUTH q.inst = false ∧ s.stopped = false ∧ s.flag TS_PTP_CTL_DELAY q.inst = true ∧ s.safe = false ∧ ((s.taken q).reserved q.inst).length < 64) | _ => false)) ∧
    (from_ (ptpPort (tsOn up0)) fun s =>
      let m : Nat := 3; let i : Nat := 3; decide (m < 2 ^ 22 ∧ m < 2 ^ s.fld TS_CT_CFG_SETS_LOG2 0 ∧ i < 8 ∧ 0x400000 ≤ s.ctAddr m i)) ∧
    (from_ (((ptpPort (tsOn up0))).set1 TS_PKT_CTL_EN 0) fun s =>
      let n : Nat := 0; decide (s.safe = false ∧ n < 2 ∧ s.flag TS_PKT_CTL_EN n = true ∧
        s.mcastDue (s.pkt n).dreqAt (s.fld TS_PKT_LOG_DREQ_LOG n) = true ∧ (s.reserved (s.fld TS_PKT_CTL_MAC n)).length < 64)) ∧
    (from_ (ptpPort (tsOn up0)) fun s => let n : Nat := 0; decide (n < 2 ∧ s.flag TS_PKT_CTL_EN n = false)) ∧
    (from_ ((setQ (ptpPort (tsOn up0)) [{ tag := 8, unit_ := 0, inst := 3, peer := Peer.init, body := ptpM 0 0 ([]), stamp := 7, bound := 8 }]).set1 TS_PKT_CTL_EN 0) fun s =>
      let n : Nat := 0; decide (n < 2) &&
        (match s.waiting 8 (some n) with | some q => decide (s.ptpAuth q.body = 0 ∧ s.flag RS_REF_CTL_NEED_AUTH (4 + n) = false ∧ ptpType q.body = 0 ∧ bitOf (q.body.getD 6 0) 1 = false) | _ => false)) ∧
    (from_ ((setQ (ptpPort (tsOn up0)) [{ tag := 8, unit_ := 1, inst := 3, peer := Peer.init, body := ptpM 0 2 ([]), stamp := 7, bound := 8 }]).set1 TS_PKT_CTL_EN 0) fun s =>
      let n : Nat := 1; decide (n < 2) &&
        (match s.waiting 8 (some n) with | some q => decide (s.ptpAuth q.body = 0 ∧ s.flag RS_REF_CTL_NEED_AUTH (4 + n) = false ∧ ptpType q.body = 0 ∧ bitOf (q.body.getD 6 0) 1 = true) | _ => false)) ∧
    (from_ (((setQ (ptpPort (tsOn up0)) [{ tag := 10, unit_ := 0, inst := 3, peer := Peer.init, body := ptpM 12 0 (tlv4 5 0 1 300), stamp := 7, bound := 8 }]).set1 TS_PKT_CTL_EN 1).set1 TS_PKT_CTL_DELAY 1) fun s =>
      let n : Nat := 0; decide (n < 2) &&
        (match s.waiting 10 (some n) with | some q => decide (s.ptpAuth q.body = 0 ∧ s.flag RS_REF_CTL_NEED_AUTH (4 + n) = false) && (match ptpTlvs q.body with | [(5, t)] => (match grantType (t.getD 0 0 / 16) with | some _ => decide (beAt t 2 4 ≠ 0 ∧ s.flag TS_PKT_CTL_EN n = false) | _ => false) | _ => false) | _ => false)) ∧
    (from_ (((ptpPort (tsOn up0))).set1 TS_PKT_CTL_EN 0) fun s =>
      let n : Nat := 0; decide (n < 2 ∧ s.waiting 10 (some n) = none ∧ s.flag TS_PKT_CTL_EN n = true ∧
        s.flag TS_PKT_CTL_NEGOTIATE n = true ∧ (s.pkt n).grants = [])) := by decide +kernel

theorem wit_ReceiptRequests :
    (from_ (setQ (withSub (rcOn up0)) [{ (rqOf (withSub (rcOn up0)).now (reqB 0x10005 10)) with safe := true }]) fun s =>
      (match rcFirst s.ts.queue with | some q => decide (s.frontier q = true ∧ s.jAsleep = false ∧ q.safe = true) | _ => false)) ∧
    (from_ (setQ (withSub (rcOn up0)) [rqOf (withSub (rcOn up0)).now [1]]) fun s =>
      (match rcFirst s.ts.queue with | some q => decide (s.frontier q = true ∧ s.jAsleep = false ∧ q.safe = false ∧ q.body.length ≠ 60) | _ => false)) ∧
    (from_ (setQ (withSub (rcOn up0)) [rqOf (withSub (rcOn up0)).now (reqB 6 10)]) fun s =>
      (match rcFirst s.ts.queue with | some q => decide (s.frontier q = true ∧ s.jAsleep = false ∧ q.safe = false ∧ q.body.length = 60 ∧ s.subOf (beAt q.body 0 4) = none) | _ => false)) ∧
    (from_ (setQ (withSub (rcOn up0)) [rqOf (withSub (rcOn up0)).now (reqB 0x10005 10)]) fun s =>
      (match rcFirst s.ts.queue with | some q => decide (s.frontier q = true ∧ s.jAsleep = false ∧ q.safe = false ∧ q.body.length = 60) && (match s.subOf (beAt q.body 0 4) with | some x => decide (x.susp = false ∧ x.rate = 0) && (match (s.subKey x).1 with | some key => decide ((toBytesBE 32 (hmac256 key (ascii "JKRQ" ++ q.body.take 44))).take 16 = q.body.drop 44 ∧ s.needsFetch (beAt q.body 0 4) (beAt q.body 4 8) = none ∧ s.role ≠ 1 ∧ s.role ≠ 2 ∧ s.role ≠ 4 ∧ beAt q.body 4 8 = x.last + 1 ∧ s.rcAccepting = true) | _ => false) | _ => false) | _ => false)) ∧
    (from_ (setQ (withSub (rcOn up0)) [rqOf (withSub (rcOn up0)).now (reqB 0x10005 12)]) fun s =>
      (match rcFirst s.ts.queue with | some q => decide (s.frontier q = true ∧ s.jAsleep = false ∧ q.safe = false ∧ q.body.length = 60) && (match s.subOf (beAt q.body 0 4) with | some x => decide (x.susp = false ∧ x.rate = 0) && (match (s.subKey x).1 with | some key => decide ((toBytesBE 32 (hmac256 key (ascii "JKRQ" ++ q.body.take 44))).take 16 = q.body.drop 44 ∧ s.needsFetch (beAt q.body 0 4) (beAt q.body 4 8) = none ∧ s.role ≠ 1 ∧ s.role ≠ 2 ∧ s.role ≠ 4 ∧ x.last + 1 < beAt q.body 4 8 ∧ x.loose = false) | _ => false) | _ => false) | _ => false)) ∧
    (from_ ({ setQ (withSub (rcOn up0)) [rqOf (withSub (rcOn up0)).now (reqB 0x10005 10)] with mc := [(2, { McSt.init with stored := [{ inst := 2, bytes := [], stamp := 0, bound := 0, seq := 0 }] })] }) fun s =>
      (match rcFirst s.ts.queue with | some q => decide (s.frontier q = false) | _ => false)) ∧
    (from_ ((withSub (rcOn up0)).set1 DR_STATUS_SELF_REFRESH 0) fun s => decide (s.jAsleep = true)) ∧
    (from_ (withSub (rcOn up0)) fun s => decide (rcFirst s.ts.queue = none)) ∧
    (from_ (rc (withSub (rcOn up0)) fun r => { r with acc := [rcpt (withSub (rcOn up0)) 10 0], batch := some (bat (withSub (rcOn up0))) }) fun s =>
      (match s.rc.acc.head? with | some r => (match s.rc.batch with | some b => decide (b.takes r.rq.stamp = true ∧ s.jFree ≠ 0) | _ => false) | _ => false)) ∧
    (from_ (rc (withSub (rcOn up0)) fun r => { r with acc := [rcpt (withSub (rcOn up0)) 10 0, rcpt (withSub (rcOn up0)) 11 0] }) fun s =>
      (match s.rc.acc.head? with | some _ => decide (s.rc.batch = none ∧ 2 ≤ s.jFree) | _ => false)) ∧
    (from_ (withSub (rcOn up0)) fun s => decide (s.rc.acc = [])) ∧
    (from_ (rc (withSub (rcOn up0)) fun r => { r with placed := [rcpt (withSub (rcOn up0)) 10 7, { rcpt (withSub (rcOn up0)) 11 8 with solo := false }] }) fun s =>
      decide (s.jAsleep = false) && (match s.rc.placed.find? (fun w => !w.written) with | some _ => true | _ => false)) ∧
    (from_ (rc (withSub (rcOn up0)) fun r => { r with placed := [{ rcpt (withSub (rcOn up0)) 11 8 with solo := false, written := true, at_ := 0 }] }) fun s =>
      decide (s.mirrorLate = true)) ∧
    (from_ (withSub (rcOn up0)) fun s => decide (s.mirrorLate = false)) := by decide +kernel

theorem wit_ReceiptBatches :
    (from_ (rc (withSub (rcOn up0)) fun r => { r with batch := some { bat (withSub (rcOn up0)) with bound_ := (withSub (rcOn up0)).now } }) fun s =>
      (match s.rc.batch with | some b => decide (b.close = none ∧ b.bound_ ≤ s.now ∧ s.signCount < 64) | _ => false)) ∧
    (from_ (rc (withSub (rcOn up0)) fun r => { r with batch := some { bat (withSub (rcOn up0)) with bound_ := (withSub (rcOn up0)).now }, recs := List.replicate 64 rootR }) fun s =>
      (match s.rc.batch with | some b => decide (b.close = none ∧ b.bound_ ≤ s.now ∧ 64 ≤ s.signCount) | _ => false)) ∧
    (from_ (rc (withSub (rcOn up0)) fun r => { r with batch := some (bat (withSub (rcOn up0))) }) fun s =>
      (match s.rc.batch with | some b => decide (b.close = none ∧ s.now < b.bound_) | _ => false)) ∧
    (from_ (rc (withSub (rcOn up0)) fun r => { r with batch := some (bat (withSub (rcOn up0))) }) fun s =>
      (match s.rc.batch with | some b => decide (b.close = none) | _ => false)) ∧
    (from_ (rc (withSub (rcOn up0)) fun r => { r with batch := some { bat (withSub (rcOn up0)) with close := some (0, (withSub (rcOn up0)).now) } }) fun s =>
      (match s.rc.batch with | some b => (match b.close with | some c => decide (s.rc.placed = [] ∧ s.jFree ≠ 0 ∧ s.safe = false ∧ s.placedBefore c.2 = true ∧ b.leaves ≠ []) | _ => false) | _ => false)) ∧
    (from_ (rc (withSub (rcOn up0)) fun r => { r with batch := some { bat (withSub (rcOn up0)) with bound_ := (withSub (rcOn up0)).now }, recs := List.replicate 64 rootR }) fun s =>
      (match s.rc.recs.find? (fun w => w.stage == 0) with | some _ => true | _ => false)) ∧
    (from_ (withSub (rcOn up0)) fun s => decide (s.rc.recs = [])) ∧
    (from_ ((withSub (rcOn up0)).set1 DR_STATUS_SELF_REFRESH 0) fun s => decide (s.jAsleep = true)) ∧
    (from_ (rc (withSub (rcOn up0)) fun r => { r with recs := [{ rootR with stage := 2 }] }) fun s =>
      decide (s.jAsleep = false) &&
        (match s.rc.recs with | r :: _ => decide (s.role ≠ 2 ∧ r.stage = 2 ∧ s.archBuffer.2 = none) | _ => false)) ∧
    (from_ ({ arch (rc (withSub (rcOn up0)) fun r => { r with recs := [{ rootR with stage := 2, pos := 3 }] }) with mem := memPut [] 0xA00000 32 (256 + 0x12 * 2 ^ 24 + 2 ^ 31) }) fun s =>
      decide (s.jAsleep = false) &&
        (match s.rc.recs with | r :: _ => decide (s.role ≠ 2 ∧ r.stage = 2) && (match s.archBuffer.2 with | some _ => decide (s.archBuffer.1.ringRoom 50 = true ∧ r.pos = r.len) | _ => false) | _ => false)) ∧
    (from_ (withSub (rcOn up0)) fun s => let a : Actor := Actor.pf0; decide (s.flag RC_CTL_EN 0 = true ∧ s.mayWrite a .RC = true)) ∧
    (from_ ((withSub (rcOn up0)).clr RC_CTL_EN 0) fun s =>
      let a : Actor := Actor.pf0; decide (s.flag RC_CTL_EN 0 = false ∧ s.mayWrite a .RC = true)) ∧
    (from_ (rc (withSub (rcOn up0)) fun r => { r with fetch := some (5, 0) }) fun s =>
      (match s.rc.fetch with | some (_, t) => decide (t + s.fld RC_MIRROR_TO_US 0 * usU ≤ s.ti.elapsed) | _ => false)) ∧
    (from_ (rc (withSub (rcOn up0)) fun r => { r with fetch := some (5, (withSub (rcOn up0)).ti.elapsed) }) fun s =>
      (match s.rc.fetch with | some (_, t) => decide (s.ti.elapsed < t + s.fld RC_MIRROR_TO_US 0 * usU) | _ => false)) := by decide +kernel

theorem wit_Submitters :
    (from_ (((rcOn up0).setFld RC_SUB_ID_ID 0 0x10005).setFld RC_SUB_BASE_ADDR 0 0) fun s =>
      let a : Actor := Actor.pf0; decide (s.fld RC_SUB_BASE_ADDR 0 = 0 ∧ s.mayWrite a .RC = true ∧ s.privileged a = true)) ∧
    (from_ (((withSub (rcOn up0)).setFld RC_SUB_ID_ID 0 0x10005).setFld KS_SLOT_STATUS_STATE 2 1) fun s =>
      let a : Actor := Actor.pf0; decide (s.fld RC_SUB_BASE_ADDR 0 ≠ 0 ∧ (s.subAt (s.fld RC_SUB_ID_ID 0)).isSome = true ∧
        s.mayWrite a .RC = true ∧ s.privileged a = true)) ∧
    (from_ ((rcOn up0).setFld RC_SUB_ID_ID 0 0x10005) fun s =>
      let a : Actor := Actor.pf0; decide (s.fld RC_SUB_BASE_ADDR 0 ≠ 0 ∧ s.subAt (s.fld RC_SUB_ID_ID 0) = none ∧
        s.mayWrite a .RC = true ∧ s.privileged a = true)) ∧
    (from_ (((withSub (rcOn up0)).setFld RC_SUB_ID_ID 0 0x10005).setFld KS_SLOT_STATUS_STATE 2 1) fun s =>
      decide (s.fld RC_SUB_BASE_ADDR 0 ≠ 0) &&
        (match s.subAt (s.fld RC_SUB_ID_ID 0) with | some x => let a : Actor := Actor.pf0; decide (x.id = (s.fld RC_SUB_ID_ID 0) ∧ s.mayWrite a .RC = true ∧ s.privileged a = true) | _ => false)) ∧
    (from_ (((withSub (rcOn up0)).setFld RC_SUB_ID_ID 0 0x20005).setFld KS_SLOT_STATUS_STATE 2 1) fun s =>
      decide (s.fld RC_SUB_BASE_ADDR 0 ≠ 0) &&
        (match s.subAt (s.fld RC_SUB_ID_ID 0) with | some x => let a : Actor := Actor.pf0; decide (x.id ≠ (s.fld RC_SUB_ID_ID 0) ∧ s.mayWrite a .RC = true ∧ s.privileged a = true) | _ => false)) := by decide +kernel

theorem wit_TwinRoles :
    (from_ (twin up0 2) fun s =>
      decide (s.mayWrite .pf0 .TW = true ∧ s.silent = true ∧ s.role = 2 ∧ s.flag TW_STATUS_SELF_FAIL 0 = false)) ∧
    (from_ (alive (twin up0 0)) fun s => decide (s.mayWrite .pf0 .TW = true ∧ s.silent = false)) ∧
    (from_ (twin up0 3) fun s => decide (s.mayWrite .pf0 .TW = true ∧ s.role = 3)) ∧
    (from_ (twin up0 0) fun s => decide (s.mayWrite .pf0 .TW = true ∧ s.role ≠ 3)) ∧
    (from_ (twin up0 0) fun s => let a : Actor := Actor.seq 1; decide (s.mayWrite a .TW = true ∧ a ≠ .pf0)) ∧
    (from_ (twin up0 0) fun s => let a : Actor := Actor.pf0; decide (s.mayWrite a .TW = true)) ∧
    (from_ (twin up0 2) fun s => let a : Actor := Actor.pf0; decide (s.flag TW_CTL_EN 0 = true ∧ s.role = 2 ∧ s.mayWrite a .TW = true)) ∧
    (from_ (twin up0 3) fun s => let a : Actor := Actor.pf0; decide (s.flag TW_CTL_EN 0 = true ∧ s.role = 3 ∧ s.mayWrite a .TW = true)) ∧
    (from_ ((twin up0 0).clr TW_CTL_EN 0) fun s =>
      let a : Actor := Actor.pf0; decide (s.flag TW_CTL_EN 0 = false ∧ s.mayWrite a .TW = true)) ∧
    (from_ (twin up0 3) fun s =>
      let a : Actor := Actor.pf0; decide (s.role = 3 ∧ s.tw.propose = none ∧ s.tw.swapAt = none ∧ s.mayWrite a .TW = true)) ∧
    (from_ (twin up0 0) fun s => let a : Actor := Actor.pf0; decide (s.role ≠ 3 ∧ s.mayWrite a .TW = true)) ∧
    (from_ (twin up0 3) fun s => decide (s.swapDue = true ∧ s.role = 3 ∧ s.tw.propose = none ∧ s.tw.swapAt = none)) ∧
    (from_ ((twin up0 0).clr TW_CTL_SWAP_EN 0) fun s => decide (s.swapDue = false)) ∧
    (from_ (tw (twin up0 0) fun t => { t with swapAt := some (secOf (twin up0 0).now + 2) }) fun s =>
      (match s.tw.swapAt with | some e => decide (s.now < e * secU) | _ => false)) ∧
    (from_ (tw (rc (twin up0 3) fun t => { t with batch := some (bat (twin up0 3)) }) fun t => { t with swapAt := some (secOf (twin up0 3).now - 1) }) fun s =>
      (match s.tw.swapAt with | some e => decide (e * secU ≤ s.now ∧ s.role = 3) && (match s.rc.batch with | some b => decide (b.close = none) | _ => false) | _ => false)) ∧
    (from_ (tw (rc (twin up0 2) fun t => { t with batch := some (bat (twin up0 2)) }) fun t => { t with swapAt := some (secOf (twin up0 2).now - 1) }) fun s =>
      (match s.tw.swapAt with | some e => decide (e * secU ≤ s.now ∧ s.role = 2) | _ => false)) ∧
    (from_ (tw (twin up0 4) fun t => { t with demote := some ((twin up0 4).ti.elapsed - 150 * usU, true, false) }) fun s =>
      (match s.tw.demote with | some (t, _, _) => decide (s.role = 4 ∧ t + 150 * usU ≤ s.ti.elapsed) | _ => false)) ∧
    (from_ (tw (twin up0 4) fun t => { t with demote := some ((twin up0 4).ti.elapsed - 149 * usU, false, true) }) fun s =>
      (match s.tw.demote with | some (t, _, _) => decide (s.role = 4 ∧ s.ti.elapsed < t + 150 * usU) | _ => false)) ∧
    (from_ (twin up0 3) fun s =>
      let breath : Bool := false; let copies : Bool := false; let lease : Bool := false; decide (s.role = 3 ∧
        ((if breath = true then 0 else s.tw.fails.1 + 1, if copies = true then 0 else s.tw.fails.2.1 + 1, if lease = true then 0 else s.tw.fails.2.2 + 1)).1 < 3 ∧
        ((if breath = true then 0 else s.tw.fails.1 + 1, if copies = true then 0 else s.tw.fails.2.1 + 1, if lease = true then 0 else s.tw.fails.2.2 + 1)).2.1 < 3 ∧
        ((if breath = true then 0 else s.tw.fails.1 + 1, if copies = true then 0 else s.tw.fails.2.1 + 1, if lease = true then 0 else s.tw.fails.2.2 + 1)).2.2 < 3)) ∧
    (from_ (tw (twin up0 3) fun t => { t with fails := (2, 1, 2) }) fun s =>
      let breath : Bool := false; let copies : Bool := false; let lease : Bool := false; decide (s.role = 3 ∧
        (3 ≤ ((if breath = true then 0 else s.tw.fails.1 + 1, if copies = true then 0 else s.tw.fails.2.1 + 1, if lease = true then 0 else s.tw.fails.2.2 + 1)).1 ∨ 3 ≤ ((if breath = true then 0 else s.tw.fails.1 + 1, if copies = true then 0 else s.tw.fails.2.1 + 1, if lease = true then 0 else s.tw.fails.2.2 + 1)).2.1 ∨ 3 ≤ ((if breath = true then 0 else s.tw.fails.1 + 1, if copies = true then 0 else s.tw.fails.2.1 + 1, if lease = true then 0 else s.tw.fails.2.2 + 1)).2.2))) ∧
    (from_ (twin up0 0) fun s => decide (s.role ≠ 3)) ∧
    (from_ (twin up0 3) fun s => decide (s.role = 3 ∧ s.tw.formed + 900 * usU ≤ s.ti.elapsed)) ∧
    (from_ (tw (twin up0 0) fun t => { t with formed := (twin up0 0).ti.elapsed }) fun s =>
      decide (s.ti.elapsed < s.tw.formed + 900 * usU)) ∧
    (from_ (((twin up0 0).set1 TW_STATUS_DISAGREE 0).set1 TW_STATUS_UNFIT 0) fun s =>
      decide (s.flag TW_STATUS_DISAGREE 0 = true ∧ s.tw.overAt + s.sustainU ≤ s.ti.elapsed)) ∧
    (from_ (tw (twin up0 0) fun t => { t with overAt := (twin up0 0).ti.elapsed, calmAt := (twin up0 0).ti.elapsed }) fun s =>
      decide (s.ti.elapsed < s.tw.overAt + s.sustainU)) ∧
    (from_ ((twin up0 0).set1 TW_STATUS_UNFIT 0) fun s =>
      decide (s.flag TW_STATUS_UNFIT 0 = true ∧ s.flag TW_STATUS_DISAGREE 0 = false ∧ s.tw.calmAt + 60 * secU ≤ s.ti.elapsed)) ∧
    (from_ (tw (twin up0 0) fun t => { t with overAt := (twin up0 0).ti.elapsed, calmAt := (twin up0 0).ti.elapsed }) fun s =>
      decide (s.ti.elapsed < s.tw.calmAt + 60 * secU)) := by decide +kernel

theorem wit_TwinMessages :
    (from_ (tw (rc (twin up0 0) fun t => { t with fetch := some (9, 3), subs := [(9, some { id := 9, loose := false, rate := 0, last := 9, blob := [], susp := false, tok := 0, at_ := 0 })] }) fun t => { t with inbox := [(1, toBytesBE 4 9 ++ [0, 0, 0, 0, 1, 0, 0, 0], List.replicate 64 0xAB), (99, [], [])] }) fun s =>
      (match s.tw.inbox with | (1, hdr, _) :: _ => decide (bitOf (hdr.getD 8 0) 0 = true) && (match s.rc.fetch with | some (w1, _) => decide (w1 = (beAt hdr 0 4 % s.jSize)) | _ => false) | _ => false)) ∧
    (from_ (tw ((twin up0 0)) fun t => { t with inbox := [(1, toBytesBE 4 9 ++ [0, 0, 0, 0, 0, 0, 0, 0], List.replicate 64 0xAB), (99, [], [])] }) fun s =>
      (match s.tw.inbox with | (1, hdr, _) :: _ => decide (bitOf (hdr.getD 8 0) 0 = false ∧ s.grants = false) | _ => false)) ∧
    (from_ (tw ((alive ((twin up0 2).setFld RC_TALLY_US 0 1000))) fun t => { t with inbox := [(1, toBytesBE 4 9 ++ [0, 0, 0, 0, 0, 0, 0, 0], List.replicate 64 0xAB), (99, [], [])] }) fun s =>
      (match s.tw.inbox with | (1, hdr, _) :: _ => decide (bitOf (hdr.getD 8 0) 0 = false ∧ bitOf (hdr.getD 8 0) 1 = false ∧ s.grants = true ∧ 2 ≤ s.jSize ∧ (beAt hdr 0 4 % s.jSize) = s.jWriteIx ∧ s.tw.ahead = []) | _ => false)) ∧
    (from_ (tw ((twin up0 3).set1 TW_STATUS_LEASE 0) fun t => { t with inbox := [(2, List.replicate 12 0, []), (99, [], [])] }) fun s =>
      (match s.tw.inbox with | (2, _, _) :: _ => decide (s.role = 3 ∧ s.flag TW_STATUS_LEASE 0 = true ∧ s.tw.oweHand = false) | _ => false)) ∧
    (from_ (tw ((twin up0 0).set1 TW_STATUS_LEASE 0) fun t => { t with inbox := [(2, List.replicate 12 0, []), (99, [], [])] }) fun s =>
      (match s.tw.inbox with | (2, _, _) :: _ => decide (s.role ≠ 3 ∧ s.tw.oweHand = false) | _ => false)) ∧
    (from_ (tw ((alive ((twin up0 2).setFld RC_TALLY_US 0 1000))) fun t => { t with inbox := [(3, toBytesBE 4 9 ++ [0, 0, 0, 0, 0, 0, 0, 0], [1, 2, 3]), (99, [], [])] }) fun s =>
      (match s.tw.inbox with | (3, _, _) :: _ => decide (s.grants = true) | _ => false)) ∧
    (from_ (tw ((twin up0 0)) fun t => { t with inbox := [(4, toBytesBE 4 5 ++ [0, 0, 0, 0, 0, 0, 0, 0], []), (99, [], [])] }) fun s =>
      (match s.tw.inbox with | (4, hdr, _) :: _ => decide (s.jHeld (beAt hdr 0 4) = true ∧ s.jBad (beAt hdr 0 4) = false) | _ => false)) ∧
    (from_ (tw ((alive ((twin up0 2).setFld RC_TALLY_US 0 1000))) fun t => { t with inbox := [(5, toBytesBE 4 5 ++ [0, 0, 0, 5, 12, 0, 0, 0], [0, 0, 0, 0, 0, 0, 0, 44] ++ toBytesBE 4 1000), (99, [], [])] }) fun s =>
      (match s.tw.inbox with | (5, hdr, body) :: _ => decide (s.grants = true ∧ hdr.getD 8 0 = s.fld RC_JRN_CFG_LOG 0 ∧ beAt body 8 4 = s.fld RC_TALLY_US 0) | _ => false)) ∧
    (from_ (tw ((alive ((twin up0 2).setFld RC_TALLY_US 0 1000))) fun t => { t with inbox := [(5, toBytesBE 4 5 ++ [0, 0, 0, 5, 13, 0, 0, 0], [0, 0, 0, 0, 0, 0, 0, 44] ++ toBytesBE 4 1000), (99, [], [])] }) fun s =>
      (match s.tw.inbox with | (5, hdr, _) :: _ => decide (s.grants = true ∧ hdr.getD 8 0 ≠ s.fld RC_JRN_CFG_LOG 0) | _ => false)) ∧
    (from_ (tw (rc (alive ((twin up0 2).setFld RC_TALLY_US 0 1000)) fun t => { t with fetch := some (9, 3), subs := [(9, some { id := 9, loose := false, rate := 0, last := 9, blob := [], susp := false, tok := 0, at_ := 0 })] }) fun t => { t with inbox := [(6, toBytesBE 4 9 ++ [0, 0, 0, 0, 0, 0, 0, 0], []), (99, [], [])] }) fun s =>
      (match s.tw.inbox with | (6, hdr, _) :: _ => decide (s.grants = true) && (match s.subOf (beAt hdr 0 4) with | some _ => true | _ => false) | _ => false)) ∧
    (from_ (tw ((twin up0 2)) fun t => { t with inbox := [(7, toBytesBE 4 9 ++ [0, 0, 0, 0, 0, 0, 0, 0], [1, 2, 3]), (99, [], [])] }) fun s =>
      (match s.tw.inbox with | (7, _, _) :: _ => decide (s.role = 2 ∧ s.tw.ends = []) | _ => false)) ∧
    (from_ (tw ((twin up0 2)) fun t => { t with inbox := [(8, [0, 0, 0, 0, 1, 3, 4, 0, 0, 0, 0, 0], []), (99, [], [])] }) fun s =>
      (match s.tw.inbox with | (8, hdr, _) :: _ => decide (s.role = 2 ∧ s.tw.ends = [] ∧ s.tw.stage = [] ∧ beAt hdr 4 4 ≠ 0) | _ => false)) ∧
    (from_ (tw ((twin up0 2)) fun t => { t with inbox := [(8, [0, 0, 0, 7, 0, 0, 0, 1] ++ toBytesBE 4 (crc32c [1, 2, 3]), []), (99, [], [])], stage := [(7, 0, [1, 2, 3])] }) fun s =>
      (match s.tw.inbox with | (8, hdr, _) :: _ => decide (s.role = 2 ∧ s.tw.ends = []) && (match s.tw.stage with | [(w1, 0, e)] => decide (beAt hdr 4 4 = 1 ∧ crc32c e = beAt hdr 8 4 ∧ w1 = beAt hdr 0 4) | _ => false) | _ => false)) ∧
    (from_ (tw ((twin up0 0)) fun t => { t with inbox := [(9, toBytesBE 4 9 ++ [0, 0, 0, 0, 0, 0, 0, 0], []), (99, [], [])] }) fun s =>
      (match s.tw.inbox with | (9, hdr, _) :: _ => decide (hdr.getD 0 0 < 8 ∧ (s.seq (hdr.getD 0 0)).cellFifo.length < 8) | _ => false)) ∧
    (from_ (tw (((alive (twin up0 2)).set1 TW_STATUS_MIRROR 0).setFld RS_STATE_ENGINE_STATE 0 2) fun t => { t with inbox := [(10, [1, 0, 0, 0, 0, 0, 0, 0, 0, 0, 0, 7], []), (99, [], [])], applied := some (twin up0 2).ti.elapsed }) fun s =>
      (match s.tw.inbox with | (10, hdr, _) :: _ => decide (hdr.getD 0 0 = 1 ∧ s.role = 2 ∧ s.swapRefuse = 0) | _ => false)) ∧
    (from_ (tw ((twin up0 2)) fun t => { t with inbox := [(10, [1, 0, 0, 0, 0, 0, 0, 0, 0, 0, 0, 7], []), (99, [], [])] }) fun s =>
      (match s.tw.inbox with | (10, hdr, _) :: _ => decide (hdr.getD 0 0 = 1 ∧ s.role = 2 ∧ s.swapRefuse ≠ 0) | _ => false)) ∧
    (from_ (tw ((twin up0 3)) fun t => { t with inbox := [(10, [2, 0, 0, 0, 0, 0, 0, 0, 0, 0, 0, 7], []), (99, [], [])], propose := some 7 }) fun s =>
      (match s.tw.inbox with | (10, hdr, _) :: _ => decide (hdr.getD 0 0 = 2 ∧ s.role = 3 ∧ s.tw.propose = some (beAt hdr 6 6)) | _ => false)) ∧
    (from_ (tw ((twin up0 0)) fun t => { t with inbox := [(10, [3, 0, 0, 0, 0, 0, 0, 0, 0, 0, 0, 7], []), (99, [], [])], propose := some 7 }) fun s =>
      (match s.tw.inbox with | (10, hdr, _) :: _ => decide (hdr.getD 0 0 = 3 ∧ s.tw.propose.isSome = true) | _ => false)) ∧
    (from_ (tw ((twin up0 0)) fun t => { t with inbox := [(11, toBytesBE 4 9 ++ [0, 0, 0, 0, 0, 0, 0, 0], []), (99, [], [])], waitHand := true }) fun s =>
      (match s.tw.inbox with | (11, _, _) :: _ => decide (s.tw.waitHand = true) | _ => false)) ∧
    (from_ (tw ((twin up0 0)) fun t => { t with inbox := [(12, toBytesBE 4 9 ++ [0, 0, 0, 0, 0, 0, 0, 0], []), (99, [], [])] }) fun s =>
      (match s.tw.inbox with | (12, _, _) :: _ => decide (s.tw.arbMine = none) | _ => false)) ∧
    (from_ (tw ((twin up0 2)) fun t => { t with inbox := [(12, toBytesBE 4 9 ++ [0, 0, 0, 0, 0, 0, 0, 0], []), (99, [], [])], arbMine := some ([0, 0, 0, 0, 1], [1]), senior := true }) fun s =>
      (match s.tw.inbox with | (12, _, _) :: _ => (match s.tw.arbMine with | some _ => decide (s.isSenior = true ∧ (s.role = 2 ∨ s.role = 3)) | _ => false) | _ => false)) ∧
    (from_ (tw ((twin up0 0)) fun t => { t with inbox := [(13, [0, 0, 0, 0, 1, 3, 4, 0, 0, 0, 0, 0], []), (99, [], [])] }) fun s =>
      (match s.tw.inbox with | (13, _, _) :: _ => true | _ => false)) := by decide +kernel

theorem wit_TwinBreath :
    (from_ (withTi (twin up0 1) fun t => { t with now := 5000 * secU }) fun s =>
      decide (s.role ≠ 0 ∧ s.tenUs 0 = true ∧ s.tw.brTick ≠ some s.ti.ticks)) ∧
    (from_ (twin up0 0) fun s => decide ((s.role = 0 ∨ s.tenUs 0 = false ∨ s.tw.brTick = some s.ti.ticks))) ∧
    (from_ (twin up0 0) fun s => decide (s.tw.brIn = [])) ∧
    (from_ (tw (twin up0 1) fun t => { t with brIn := [(0, (0 * 2 ^ 14 + 2 ^ 13 + 5 * 2 ^ 22 + 3 * 2 ^ 16), (twin up0 1).ti.elapsed)] }) fun s =>
      (match s.tw.brIn with | (_, b, _) :: _ => decide (s.role ≠ 0 ∧ (match s.tw.peer with | some p => decide (bits p.1 22 6 ≠ bits b 22 6) | none => true) = true) | _ => false)) ∧
    (from_ (tw (twin up0 0) fun t => { t with peer := some ((0 * 2 ^ 14 + 2 ^ 13 + 5 * 2 ^ 22 + 3 * 2 ^ 16), 5), brIn := [(0, (0 * 2 ^ 14 + 2 ^ 13 + 5 * 2 ^ 22 + 3 * 2 ^ 16), (twin up0 0).ti.elapsed), (1, (0 * 2 ^ 14 + 2 ^ 13 + 5 * 2 ^ 22 + 3 * 2 ^ 16), (twin up0 0).ti.elapsed)] }) fun s =>
      (match s.tw.brIn with | x :: _ => (match s.tw.peer with | some p => decide (bits p.1 22 6 = bits x.2.1 22 6) | _ => false) | _ => false)) ∧
    (from_ (tw (twin up0 0) fun t => { t with lease := some (twin up0 0).ti.elapsed }) fun s =>
      (match s.tw.lease with | some t => decide (t ≤ s.ti.elapsed) | _ => false)) ∧
    (from_ (tw (twin up0 0) fun t => { t with lease := some ((twin up0 0).ti.elapsed + 1) }) fun s =>
      (match s.tw.lease with | some t => decide (s.ti.elapsed < t) | _ => false)) ∧
    (from_ (withTi (twin up0 1) fun t => { t with now := 5000 * secU + 5 * usU }) fun s =>
      decide (s.witnessSlot = true ∧ (s.role = 1 ∨ s.role = 2))) ∧
    (from_ (withTi (twin up0 3) fun t => { t with now := 5000 * secU + 5 * usU }) fun s => decide (s.witnessSlot = true ∧ s.role = 3)) ∧
    (from_ (twin up0 0) fun s => decide ((s.witnessSlot = false ∨ s.role = 0 ∨ s.role = 4))) ∧
    (from_ (twin up0 0) fun s => let ns : Nat := 0; decide (((ns < 500 ∧ s.tw.witBad = false) ∨ s.role = 0))) ∧
    (from_ (twin up0 1) fun s => let ns : Nat := 500; decide (s.role ≠ 0 ∧ s.tw.witBad = false ∧ 500 ≤ ns)) ∧
    (from_ (tw (twin up0 1) fun t => { t with witBad := true }) fun s =>
      let ns : Nat := 500; decide (s.role ≠ 0 ∧ s.tw.witBad = true ∧ 500 ≤ ns ∧ ns ≤ 5000)) ∧
    (from_ (tw (twin up0 1) fun t => { t with witBad := true }) fun s =>
      let ns : Nat := 0; decide (s.role ≠ 0 ∧ s.tw.witBad = true ∧ (ns < 500 ∨ 5000 < ns))) ∧
    (from_ (twin up0 0) fun s => decide (s.tw.witBad = false)) ∧
    (from_ (tw (twin up0 0) fun t => { t with witBad := true }) fun s => decide (s.tw.witBad = true)) ∧
    (from_ (twin up0 1) fun s => decide (s.silent = true ∧ s.role = 1 ∧ s.tw.initAt + s.silenceU ≤ s.ti.elapsed)) ∧
    (from_ (twin up0 2) fun s => decide (s.silent = true ∧ s.role = 2 ∧ s.flag TW_STATUS_SELF_FAIL 0 = false)) ∧
    (from_ (twin up0 3) fun s => decide (s.silent = true ∧ s.role = 3 ∧ s.tw.lostTold = false)) ∧
    (from_ (tw (twin up0 3) fun t => { t with lostTold := true }) fun s => decide (s.silent = true ∧ s.role = 3 ∧ s.tw.lostTold = true)) ∧
    (from_ (tw (twin up0 0) fun t => { t with out := [{ typ := 1, hdr := List.replicate 12 0, body := [], at_ := some ((twin up0 0).ti.elapsed - 10 * usU), first := 0 }] }) fun s =>
      (match s.tw.out with | [m] => (match m.at_ with | some t => decide (m.confirmable = true ∧ t + 10 * usU ≤ s.ti.elapsed) | _ => false) | _ => false)) ∧
    (from_ (tw (twin up0 0) fun t => { t with out := [{ typ := 1, hdr := List.replicate 12 0, body := [], at_ := some ((twin up0 0).ti.elapsed - 0), first := 0 }] }) fun s =>
      (match s.tw.out with | [m] => (match m.at_ with | some t => decide (m.confirmable = true ∧ s.ti.elapsed < t + 10 * usU) | _ => false) | _ => false)) ∧
    (from_ (tw (twin up0 0) fun t => { t with out := [{ typ := 2, hdr := List.replicate 12 0, body := [], at_ := some ((twin up0 0).ti.elapsed - 0), first := 0 }] }) fun s =>
      (match s.tw.out with | [m] => (match m.at_ with | some _ => decide (m.confirmable = false ∧ m.first + 10 * msU ≤ s.ti.elapsed) | _ => false) | _ => false)) ∧
    (from_ (twin up0 3) fun s => decide (s.role = 3 ∧ s.tw.epochAt + s.fld TW_EPOCH_CFG_EPOCH_MS 0 * msU ≤ s.ti.elapsed)) ∧
    (from_ (twin up0 0) fun s => decide (s.role ≠ 3)) ∧
    (from_ (tw (twin up0 0) fun t => { t with ends := [(1, 2, 3, (twin up0 0).ti.elapsed - msU)], stage := [(1, 0, [])] }) fun s =>
      (match s.tw.ends.find? (fun w => w.2.2.2 + msU ≤ s.ti.elapsed) with | some _ => true | _ => false)) ∧
    (from_ (twin up0 0) fun s => decide (s.tw.ends = [])) := by decide +kernel

theorem wit_PcieRequests :
    (from_ (up0.set1 PE_STATUS_LINK_UP 0) fun s =>
      let fn : Nat := 0; let bar : Nat := 0; let off : Nat := 536870912; decide (s.flag PE_STATUS_LINK_UP 0 = true ∧ fn < 2 ∧
        bar < 6) &&
        (match barMap fn bar off with | .matrix addr => let len : Nat := 0; let bytes : List Nat := []; decide (blkAt addr = none ∧ s.served (fnActor fn) addr false = true ∧ len ≤ 4096 ∧ s.readPoison addr len = false ∧ bytes.length ≤ 512) | _ => false)) ∧
    (from_ ({ (up0.set1 PE_STATUS_LINK_UP 0) with poison := [0x800000] }) fun s =>
      let fn : Nat := 0; let bar : Nat := 2; let off : Nat := 0; decide (s.flag PE_STATUS_LINK_UP 0 = true ∧ fn < 2 ∧ bar < 6) &&
        (match barMap fn bar off with | .matrix addr => let len : Nat := 1; let bytes : List Nat := []; decide (blkAt addr = none ∧ s.served (fnActor fn) addr false = true ∧ len ≤ 4096 ∧ s.readPoison addr len = true ∧ bytes.length ≤ 512) | _ => false)) ∧
    (from_ (up0.set1 PE_STATUS_LINK_UP 0) fun s =>
      let fn : Nat := 0; let bar : Nat := 0; let off : Nat := 2097152; decide (s.flag PE_STATUS_LINK_UP 0 = true ∧ fn < 2 ∧ bar < 6) &&
        (match barMap fn bar off with | .matrix addr => let len : Nat := 0; let bytes : List Nat := []; decide (blkAt addr = none ∧ s.served (fnActor fn) addr false = false ∧ len ≤ 4096 ∧ bytes.length ≤ 512) | _ => false)) ∧
    (from_ (up0.set1 PE_STATUS_LINK_UP 0) fun s =>
      let fn := 0; let bar : Nat := 2; let off : Nat := 0; decide (s.flag PE_STATUS_LINK_UP 0 = true ∧ fn < 2 ∧ bar < 6) &&
        (match barMap fn bar off with | .matrix addr => let len : Nat := 0; let bytes : List Nat := []; decide (blkAt addr = none ∧ (addr < 0x60000000 ∨ 0x60100000 ≤ addr ∨ 0x10000 ≤ (addr - 0x60000000) % 0x20000) ∧ len ≤ 4096 ∧ bytes.length ≤ 512 ∧ s.writeErr .pf0 addr bytes.length = false ∧ s.imgBlocked .pf0 addr bytes.length = false) | _ => false)) ∧
    (from_ (up0.set1 PE_STATUS_LINK_UP 0) fun s =>
      let fn : Nat := 0; let bar : Nat := 0; let off : Nat := 2097152; decide (s.flag PE_STATUS_LINK_UP 0 = true ∧ fn < 2 ∧ bar < 6) &&
        (match barMap fn bar off with | .matrix addr => let len : Nat := 0; let bytes : List Nat := []; decide (blkAt addr = none ∧ s.served (fnActor fn) addr true = false ∧ len ≤ 4096 ∧ bytes.length ≤ 512) | _ => false)) ∧
    (from_ (up0.set1 PE_STATUS_LINK_UP 0) fun s =>
      let fn : Nat := 0; let bar : Nat := 0; let len : Nat := 0; let bytes : List Nat := []; decide (s.flag PE_STATUS_LINK_UP 0 = true ∧
        fn < 2 ∧ bar < 6 ∧ len ≤ 4096 ∧ bytes.length ≤ 512)) ∧
    (from_ (up0.set1 PE_STATUS_LINK_UP 0) fun s =>
      let bar : Nat := 0; let bytes : List Nat := []; decide (s.flag PE_STATUS_LINK_UP 0 = true ∧ bar < 6 ∧ bytes.length ≤ 512)) ∧
    (from_ (up0.set1 PE_STATUS_LINK_UP 0) fun s =>
      let op : Nat := 0; let size : Nat := 4; let off : Nat := 0; decide (s.flag PE_STATUS_LINK_UP 0 = true ∧ op < 3 ∧
        (size = 4 ∨ size = 8) ∧ off % size = 0 ∧ off < 0x400000 ∧ s.imgBlocked .pf0 (0x20000000 + off) size = false ∧
        s.poisoned (0x20000000 + off) size = false)) ∧
    (from_ (up0.set1 PE_STATUS_LINK_UP 0) fun s =>
      let fn : Nat := 0; let bar : Nat := 0; let off : Nat := 0; decide (s.flag PE_STATUS_LINK_UP 0 = true ∧ fn < 2 ∧ bar < 6) &&
        (match barMap fn bar off with | .matrix _ => let op : Nat := 0; let size : Nat := 0; decide (op < 3 ∧ size ≤ 16 ∧ (fn ≠ 0 ∨ bar ≠ 2 ∨ size = 16 ∨ off % size ≠ 0)) | _ => false)) ∧
    (from_ up0 fun s =>
      let fn : Nat := 0; let kind : Nat := 0; let bar : Nat := 0; let len : Nat := 0; let bytes : List Nat := []; decide (s.flag PE_STATUS_LINK_UP 0 = false ∧
        fn < 2 ∧ kind < 3 ∧ bar < 6 ∧ len ≤ 4096 ∧ bytes.length ≤ 512)) ∧
    (from_ (up0.set1 PE_STATUS_LINK_UP 0) fun _ => let v : Nat := 0; decide (v < 224)) ∧
    (from_ (up0.set1 PE_STATUS_LINK_UP 0) fun _ => let addr : Nat := 1208156192; (match blkAt addr with | some _ => true | _ => false)) ∧
    (from_ (((((up0.set1 PE_STATUS_LINK_UP 0).setFld RG_BASE_ADDR 20 0x30800000).setFld RG_CTL_SIZE_LOG2 20 4).set1 RG_CTL_EN 20).setFld RG_PROD_COUNT 20 1) fun s =>
      let r : Nat := 20; decide (16 ≤ r ∧ r < 32 ∧ s.ringWaiting r = true)) ∧
    (from_ (up0.set1 PE_STATUS_LINK_UP 0) fun s => let r : Nat := 16; decide (16 ≤ r ∧ r < 32 ∧ s.ringWaiting r = false)) := by decide +kernel

theorem wit_DramChannels :
    (from_ up0 fun s =>
      let c : Nat := 0; decide (s.mayWrite .pf0 .DR = true ∧ c < 2 ∧ s.flag DR_STATUS_TRAINING c = false ∧ s.drRefused c = false)) ∧
    (from_ (up0.set1 DR_STATUS_INIT_DONE 0) fun s =>
      let c : Nat := 1; decide (s.mayWrite .pf0 .DR = true ∧ c < 2 ∧ s.flag DR_STATUS_TRAINING c = false ∧ s.drRefused c = true)) ∧
    (from_ (up0.set1 DR_STATUS_INIT_DONE 0) fun s =>
      let c : Nat := 0; let a : Actor := Actor.pf0; decide (s.mayWrite .pf0 .DR = true ∧ c < 2 ∧ s.flag DR_STATUS_INIT_DONE c = true ∧
        s.flag DR_STATUS_ZERO_BUSY c = false ∧ s.mayWrite a .DR = true)) ∧
    (from_ up0 fun s =>
      let a : Actor := Actor.seq 1; let c : Nat := 0; decide (a ≠ .pf0 ∧ s.mayWrite a .DR = true ∧ s.mayWrite a .BM = true ∧ c < 2)) ∧
    (from_ (up0.set1 DR_STATUS_TRAINING 0) fun s => let c : Nat := 0; decide (c < 2 ∧ s.flag DR_STATUS_TRAINING c = true)) ∧
    (from_ up0 fun s => let c : Nat := 0; decide (c < 2 ∧ s.flag DR_STATUS_TRAINING c = false)) ∧
    (from_ up0 fun _ => let c : Nat := 0; decide (c < 2)) ∧
    (from_ (dramOn up0) fun s =>
      let addr : Nat := 68719476800; decide (inDram addr = true ∧ s.dramOk addr = true ∧ s.poison.contains (addr / 64) = false)) ∧
    (from_ (dramOn up0) fun s =>
      let addr : Nat := 68719476800; decide (inDram addr = true ∧ s.dramOk addr = true ∧ s.poison.contains (addr / 64) = false ∧
        s.flag DR_SCRUB_HOURS (dramCh addr) = true)) ∧
    (from_ up0 fun s =>
      let addr : Nat := 68719476800; decide (inDram addr = true ∧ (s.dramOk addr = false ∨ s.poison.contains (addr / 64) = true))) ∧
    (from_ up0 fun s => let addr : Nat := 68719476800; decide (inDram addr = true ∧ s.flag DR_SCRUB_HOURS (dramCh addr) = true)) ∧
    (from_ ((dramOn up0).setFld DR_SCRUB_HOURS 0 0) fun s =>
      let addr : Nat := 68719476800; let err : Nat := 0; decide (inDram addr = true ∧ s.flag DR_SCRUB_HOURS (dramCh addr) = false ∧
        err < 3)) ∧
    (from_ up0 fun s => decide (s.mayWrite .pf0 .BM = true)) ∧
    (from_ up0 fun _ => let c : Nat := 0; decide (c < 14)) := by decide +kernel

theorem wit_RingsAndDescriptors :
    (from_ ((up0.setFld RG_BASE_ADDR 20 0x30800000).setFld RG_CTL_SIZE_LOG2 20 4) fun s =>
      let r : Nat := 20; let a : Actor := Actor.pf0; decide (r < 64 ∧ s.ringOn r = false ∧ s.ringLocOk r = true ∧
        s.mayWrite a .RG = true)) ∧
    (from_ up0 fun s =>
      let r : Nat := 20; let a : Actor := Actor.pf0; decide (r < 64 ∧ s.ringOn r = false ∧ s.ringLocOk r = false ∧
        s.mayWrite a .RG = true)) ∧
    (from_ (((up0.setFld RG_BASE_ADDR 20 0x30800000).setFld RG_CTL_SIZE_LOG2 20 4).set1 RG_CTL_EN 20) fun s =>
      let r : Nat := 20; let a : Actor := Actor.pf0; decide (r < 64 ∧ s.ringOn r = true ∧ s.mayWrite a .RG = true)) ∧
    (from_ up0 fun s =>
      let r : Nat := 20; let a : Actor := Actor.pf0; let v : Nat := 20; decide (r < 64 ∧ 16 ≤ r ∧ r < 32 ∧ s.mayWrite a .RG = true ∧
        v < 2 ^ 32 ∧ (v + 2 ^ 32 - s.fld RG_CONS_COUNT r) % 2 ^ 32 ≤ s.ringSize r)) ∧
    (from_ (((up0.setFld RG_BASE_ADDR 20 0x30800000).setFld RG_CTL_SIZE_LOG2 20 4).set1 RG_CTL_EN 20) fun s =>
      let r : Nat := 20; let a : Actor := Actor.pf0; let v : Nat := 20; decide (r < 64 ∧ 16 ≤ r ∧ r < 32 ∧ s.mayWrite a .RG = true ∧
        v < 2 ^ 32 ∧ s.ringSize r < (v + 2 ^ 32 - s.fld RG_CONS_COUNT r) % 2 ^ 32)) ∧
    (from_ up0 fun s =>
      let r : Nat := 3; let a : Actor := Actor.pf0; let v : Nat := 0; decide (r < 64 ∧ r < 16 ∧ s.mayWrite a .RG = true ∧ v < 2 ^ 32 ∧
        (s.fld RG_PROD_COUNT r + 2 ^ 32 - v) % 2 ^ 32 ≤ s.ringSize r)) ∧
    (from_ up0 fun s =>
      let r : Nat := 3; let a : Actor := Actor.pf0; let v : Nat := 20; decide (r < 64 ∧ r < 16 ∧ s.mayWrite a .RG = true ∧ v < 2 ^ 32 ∧
        s.ringSize r < (s.fld RG_PROD_COUNT r + 2 ^ 32 - v) % 2 ^ 32)) ∧
    (from_ up0 fun s => let r : Nat := 3; let a : Actor := Actor.pf0; decide (r < 64 ∧ (r < 16 ∨ 32 ≤ r) ∧ s.mayWrite a .RG = true)) ∧
    (from_ up0 fun s => let r : Nat := 20; let a : Actor := Actor.pf0; decide (r < 64 ∧ 16 ≤ r ∧ s.mayWrite a .RG = true)) ∧
    (from_ up0 fun s => let r : Nat := 20; let a : Actor := Actor.pf0; decide (r < 64 ∧ s.mayWrite a .RG = true)) ∧
    (from_ up0 fun s => let r : Nat := 20; decide (r < 64 ∧ 16 ≤ r ∧ r < 32 ∧ (s.ringWaiting r = false ∨ s.ringAsleep r = true))) ∧
    (from_ ((((((up0.setFld RG_BASE_ADDR 20 0x30800000).setFld RG_CTL_SIZE_LOG2 20 4).set1 RG_CTL_EN 20).setFld RG_PROD_COUNT 20 1)).setFld RG_CTL_CONSUMER 20 2) fun s =>
      let r : Nat := 20; let c := s.fld RG_CTL_CONSUMER r; let why := s.descFails r (s.ring r).fetch (consumerTypes c).1 (consumerTypes c).2; decide (r < 64 ∧
        16 ≤ r ∧ r < 32 ∧ s.ringWaiting r = true ∧ s.ringAsleep r = false ∧ 1 ≤ c ∧ c ≤ 4 ∧ why ≠ 0)) ∧
    (from_ (txRing (up0.set1 PE_STATUS_BME_PF0 0)) fun s =>
      let c := 1; let r : Nat := 20; let n := bits (s.descRead r (s.ring r).fetch) 160 4; let b := memBytes s.hostMem (bits (s.descRead r (s.ring r).fetch) 64 64) (bits (s.descRead r (s.ring r).fetch) 0 16); decide (s.flag PE_STATUS_BME_PF0 0 = true ∧
        1 ≤ c ∧ c ≤ 4 ∧ r < 64 ∧ 16 ≤ r ∧ r < 32 ∧ s.ringWaiting r = true ∧ s.ringAsleep r = false ∧ s.fld RG_CTL_CONSUMER r = c ∧
        s.descFails r (s.ring r).fetch 0x21 0x21 = 0 ∧ s.macExists n = true ∧ s.flag MC_CTL_MUTE n = false ∧
        s.flag MC_STATUS_MUTED n = false ∧ s.flag MC_STATUS_LINK_UP n = true ∧ s.flag MC_CTL_EN n = true ∧ 60 ≤ b.length ∧
        lineLen b ≤ s.fld MC_MAX_FRAME_OCTETS n ∧ n < 16)) ∧
    (from_ (((up0.setFld RG_BASE_ADDR 3 0x30800000).setFld RG_CTL_SIZE_LOG2 3 4).set1 RG_CTL_EN 3) fun s =>
      let r : Nat := 3; decide (r < 64 ∧ (r < 16 ∨ 32 ≤ r) ∧ r < 52 ∧ s.ringRoom r = true)) ∧
    (from_ up0 fun s => let r : Nat := 3; decide (r < 64 ∧ (r < 16 ∨ 32 ≤ r) ∧ r < 52 ∧ s.ringRoom r = false)) ∧
    (from_ ({ (((up0.set1 PE_STATUS_BME_PF0 0).set1 RG_IRQ_EN 3).setFld RG_IRQ_VECTOR 3 5).setFld RG_IRQ_COUNT 3 1 with rg := [(3, { RgSt.init with since := 5 })], pe := { (up0.set1 PE_STATUS_BME_PF0 0).pe with unmasked := [0, 5] } }) fun s =>
      let r : Nat := 3; decide (s.flag PE_STATUS_BME_PF0 0 = true ∧ r < 64 ∧ r < 32 ∧ s.ringIrqDue r = true ∧
        s.fld RG_IRQ_VECTOR r ∈ s.pe.unmasked)) ∧
    (from_ up0 fun s => let r : Nat := 20; decide (r < 64 ∧ r < 32 ∧ s.ringIrqDue r = false)) ∧
    (from_ up0 fun s => let r : Nat := 50; decide (r < 64 ∧ 48 ≤ r ∧ r < 52 ∧ (s.ringWaiting r = false ∨ s.ringAsleep r = true))) ∧
    (from_ ({ (((((up0.set1 PE_STATUS_BME_PF0 0).setFld RG_BASE_ADDR 50 0x30800000).setFld RG_CTL_SIZE_LOG2 50 4).set1 RG_CTL_EN 50).setFld RG_PROD_COUNT 50 1) with poison := [0x30800000 / 64] }) fun s =>
      let r : Nat := 50; decide (r < 64 ∧ 48 ≤ r ∧ r < 52 ∧ s.ringWaiting r = true ∧ s.ringAsleep r = false ∧
        s.poisoned (s.descAddr r (s.ring r).fetch) 32 = true)) ∧
    (from_ (((((((((((up0.setFld RG_BASE_ADDR 50 0x30800000).setFld RG_CTL_SIZE_LOG2 50 4).set1 RG_CTL_EN 50).setFld RG_PROD_COUNT 50 1)).setFld RG_BASE_ADDR 3 0x30800000).setFld RG_CTL_SIZE_LOG2 3 4).set1 RG_CTL_EN 3))).setFld RC_CTL_ARCH_RING 0 3) fun s =>
      let r : Nat := 50; let d := (if r = 50 then s.fld RC_CTL_ARCH_RING 0 else s.fld TM_CH_CTL_RING (bits (s.descRead r (s.ring r).fetch) 160 16)); decide (r < 64 ∧
        48 ≤ r ∧ r < 52 ∧ s.ringWaiting r = true ∧ s.ringAsleep r = false ∧ s.poisoned (s.descAddr r (s.ring r).fetch) 32 = false ∧
        50 ≤ r ∧ d < 16 ∧ s.ringRoom d = true)) ∧
    (from_ ((((up0.setFld RG_BASE_ADDR 50 0x30800000).setFld RG_CTL_SIZE_LOG2 50 4).set1 RG_CTL_EN 50).setFld RG_PROD_COUNT 50 1) fun s =>
      let r : Nat := 50; let d := (if r = 50 then s.fld RC_CTL_ARCH_RING 0 else s.fld TM_CH_CTL_RING (bits (s.descRead r (s.ring r).fetch) 160 16)); decide (r < 64 ∧
        48 ≤ r ∧ r < 52 ∧ s.ringWaiting r = true ∧ s.ringAsleep r = false ∧ s.poisoned (s.descAddr r (s.ring r).fetch) 32 = false ∧
        50 ≤ r ∧ d < 16 ∧ s.ringRoom d = false)) := by decide +kernel

theorem wit_Uarts :
    (from_ (up0.set1 GP_UART_CTL_EN 0) fun s =>
      let n : Nat := 0; let byte : Nat := 0; decide (s.safe = false ∧ n < 2 ∧ s.flag GP_UART_CTL_EN n = true ∧
        (s.uartOf n).rx.length < 64 ∧ byte < 256)) ∧
    (from_ ({ up0.set1 GP_UART_CTL_EN 0 with uart := [(0, { UartSt.init with rx := List.replicate 64 5, tx := List.replicate 64 6 })] }) fun s =>
      let n : Nat := 0; let byte : Nat := 0; decide (s.safe = false ∧ n < 2 ∧ s.flag GP_UART_CTL_EN n = true ∧
        64 ≤ (s.uartOf n).rx.length ∧ byte < 256)) ∧
    (from_ up0 fun s =>
      let n : Nat := 0; let byte : Nat := 0; decide (n < 2 ∧ (s.flag GP_UART_CTL_EN n = false ∨ s.safe = true) ∧ byte < 256)) ∧
    (from_ (up0.set1 GP_UART_CTL_EN 0) fun s =>
      let n : Nat := 0; let byte : Nat := 0; let a : Actor := Actor.pf0; decide (s.safe = false ∧ n < 2 ∧
        s.flag GP_UART_CTL_EN n = true ∧ s.flag GP_UART_STATUS_TX_ACTIVE n = false ∧ (s.uartOf n).tx = [] ∧ byte < 256 ∧
        s.mayWrite a .GP = true)) ∧
    (from_ up0 fun s =>
      let n : Nat := 0; let byte : Nat := 0; let a : Actor := Actor.pf0; decide (n < 2 ∧
        (s.flag GP_UART_STATUS_TX_ACTIVE n = true ∨ s.flag GP_UART_CTL_EN n = false ∨ s.safe = true) ∧ (s.uartOf n).tx.length < 64 ∧
        byte < 256 ∧ s.mayWrite a .GP = true)) ∧
    (from_ ({ up0.set1 GP_UART_CTL_EN 0 with uart := [(0, { UartSt.init with rx := List.replicate 64 5, tx := List.replicate 64 6 })] }) fun s =>
      let n : Nat := 0; let byte : Nat := 0; let a : Actor := Actor.pf0; decide (n < 2 ∧ 64 ≤ (s.uartOf n).tx.length ∧ byte < 256 ∧
        s.mayWrite a .GP = true)) ∧
    (from_ ({ (up0.set1 GP_UART_CTL_EN 0).set1 GP_UART_STATUS_TX_ACTIVE 0 with uart := [(0, { UartSt.init with tx := [6, 7] })] }) fun s =>
      let n : Nat := 0; decide (s.safe = false ∧ n < 2 ∧ s.flag GP_UART_STATUS_TX_ACTIVE n = true) &&
        (match (s.uartOf n).tx with | _ :: _ => decide (s.flag GP_UART_CTL_EN n = true) | _ => false)) ∧
    (from_ ((up0.set1 GP_UART_CTL_EN 0).set1 GP_UART_STATUS_TX_ACTIVE 0) fun s =>
      let n : Nat := 0; decide (n < 2 ∧ s.flag GP_UART_STATUS_TX_ACTIVE n = true ∧
        ((s.uartOf n).tx = [] ∨ s.flag GP_UART_CTL_EN n = false))) := by decide +kernel

theorem wit_BoardBuses :
    (from_ (up0.set1 GP_I2C_CMD_BUSY 0) fun s =>
      let a : Actor := Actor.pf0; let addr : Nat := 3; let wlen : Nat := 3; let rlen : Nat := 3; decide (s.flag GP_I2C_CMD_BUSY 0 = true ∧
        s.mayWrite a .GP = true ∧ addr < 128 ∧ wlen < 16 ∧ rlen < 16)) ∧
    (from_ up0 fun s =>
      let a : Actor := Actor.pf0; let addr : Nat := 3; let wlen : Nat := 3; let rlen : Nat := 9; decide (s.flag GP_I2C_CMD_BUSY 0 = false ∧
        s.mayWrite a .GP = true ∧ addr < 128 ∧ wlen < 16 ∧ rlen < 16 ∧ (8 < wlen ∨ 8 < rlen))) ∧
    (from_ (up0.set1 GP_I2C_CTL_EN 0) fun s =>
      let a : Actor := Actor.pf0; let addr : Nat := 3; let wlen : Nat := 3; let rlen : Nat := 3; decide (s.flag GP_I2C_CMD_BUSY 0 = false ∧
        s.flag GP_I2C_CTL_EN 0 = true ∧ s.mayWrite a .GP = true ∧ addr < 128 ∧ wlen < 16 ∧ wlen ≤ 8 ∧ rlen < 16 ∧ rlen ≤ 8)) ∧
    (from_ (up0.set1 GP_SPI_CMD_BUSY 0) fun s =>
      let a : Actor := Actor.pf0; let len : Nat := 3; decide (s.flag GP_SPI_CMD_BUSY 0 = true ∧ s.mayWrite a .GP = true ∧ len < 64)) ∧
    (from_ up0 fun s =>
      let a : Actor := Actor.pf0; let len : Nat := 0; decide (s.flag GP_SPI_CMD_BUSY 0 = false ∧ s.mayWrite a .GP = true ∧ len < 64 ∧
        (len = 0 ∨ 32 < len))) ∧
    (from_ (up0.set1 GP_SPI_CFG_EN 0) fun s =>
      let a : Actor := Actor.pf0; let len : Nat := 3; decide (s.flag GP_SPI_CMD_BUSY 0 = false ∧ s.flag GP_SPI_CFG_EN 0 = true ∧
        s.mayWrite a .GP = true ∧ len < 64 ∧ 0 < len ∧ len ≤ 32)) ∧
    (from_ up0 fun s => let a : Actor := Actor.pf0; decide (s.mayWrite a .GP = true)) ∧
    (from_ up0 fun s => let a : Actor := Actor.pf0; let mask : Nat := 3; decide (s.mayWrite a .GP = true ∧ mask < 65536)) ∧
    (from_ up0 fun _ => let levels : Nat := 3; decide (levels < 65536)) ∧
    (from_ ({ up0 with brd := { up0.brd with i2c := some (0x50, 1, 3), spi := some (3, true) } }) fun s =>
      (match s.brd.i2c with | some (_, _, rlen) => let data : List Nat := [1, 2, 3]; decide (rlen ≤ 8 ∧ s.flag GP_I2C_CTL_IRQ_EN 0 = false ∧ data.length = rlen ∧ (∀ b ∈ data, b < 256)) | _ => false)) ∧
    (from_ up0 fun s => decide (s.brd.i2c = none)) ∧
    (from_ ({ up0 with brd := { up0.brd with i2c := some (0x50, 1, 3), spi := some (3, true) } }) fun s =>
      (match s.brd.spi with | some (len, _) => let data : List Nat := [1, 2, 3]; decide (len ≤ 32 ∧ s.flag GP_SPI_CFG_IRQ_EN 0 = false ∧ data.length = len ∧ (∀ b ∈ data, b < 256)) | _ => false)) ∧
    (from_ up0 fun s => decide (s.brd.spi = none)) := by decide +kernel

theorem wit_FaultsAndRetries :
    (from_ up0 fun s =>
      let a : Actor := Actor.pf0; let code : Nat := 61441; let ch : Nat := 515; let detail : Nat := 1; let cls : Nat := 1; decide (s.mayWrite a .FM = true ∧
        code < 65536 ∧ 0xF000 ≤ code ∧ ch < 65536 ∧ chanOk ch = true ∧ detail < 65536 ∧ cls < 4)) ∧
    (from_ up0 fun s =>
      let a : Actor := Actor.pf0; let code : Nat := 61441; let ch : Nat := 515; let detail : Nat := 1; decide (s.mayWrite a .FM = true ∧
        code < 65536 ∧ 0xF000 ≤ code ∧ ch < 65536 ∧ chanOk ch = true ∧ detail < 65536)) ∧
    (from_ up0 fun s =>
      let a : Actor := Actor.pf0; let code : Nat := 61441; let ch : Nat := 257; let detail : Nat := 1; decide (s.flag FM_STATUS_FATAL 0 = false ∧
        s.mayWrite a .FM = true ∧ code < 65536 ∧ 0xF000 ≤ code ∧ ch < 65536 ∧ chanOk ch = true ∧ chanRetirable ch = false ∧
        detail < 65536)) ∧
    (from_ up0 fun s =>
      let a : Actor := Actor.pf0; let code : Nat := 61441; let ch : Nat := 515; let detail : Nat := 1; decide (s.flag FM_STATUS_FATAL 0 = false ∧
        s.mayWrite a .FM = true ∧ code < 65536 ∧ 0xF000 ≤ code ∧ ch < 65536 ∧ chanOk ch = true ∧ chanRetirable ch = true ∧
        s.flag FM_CHAN_RETIRED (chanUnit ch) = false ∧ detail < 65536)) ∧
    (from_ up0 fun s =>
      let a : Actor := Actor.pf0; let code : Nat := 1; let ch : Nat := 1; let detail : Nat := 1; let cls : Nat := 1; decide (s.mayWrite a .FM = true ∧
        code < 65536 ∧ ch < 65536 ∧ (code < 0xF000 ∨ chanOk ch = false) ∧ detail < 65536 ∧ cls < 4)) ∧
    (from_ up0 fun s => decide ((match s.fm.warmAt with | some t => decide (s.ti.elapsed < t) | none => true) = true)) ∧
    (from_ ({ up0 with fm := { up0.fm with warmAt := some 5 } }) fun s =>
      (match s.fm.warmAt with | some t => decide (t ≤ s.ti.elapsed) | _ => false)) ∧
    (from_ up0 fun s =>
      let ch : Nat := 515; decide (chanOk ch = true ∧
        (match smGet none s.fm.retry ch with | some t => decide (s.ti.elapsed < t) | none => true) = true)) ∧
    (from_ ({ up0 with fm := { up0.fm with retry := [(515, some 5)] } }) fun s =>
      let ch : Nat := 515; decide (chanOk ch = true) &&
        (match smGet none s.fm.retry ch with | some t => decide (t ≤ s.ti.elapsed ∧ ch / 256 = 2) | _ => false)) ∧
    (from_ ({ up0 with fm := { up0.fm with retry := [(2561, some 5)] } }) fun s =>
      let ch : Nat := 2561; decide (chanOk ch = true) &&
        (match smGet none s.fm.retry ch with | some t => decide (t ≤ s.ti.elapsed ∧ ch / 256 = 10) | _ => false)) ∧
    (from_ ({ up0 with fm := { up0.fm with retry := [(769, some 5)] } }) fun s =>
      let ch : Nat := 769; decide (chanOk ch = true) &&
        (match smGet none s.fm.retry ch with | some t => decide (t ≤ s.ti.elapsed ∧ (ch / 256 = 0 ∨ ch / 256 = 3 ∨ 6 ≤ ch / 256 ∧ ch / 256 ≤ 9 ∨ 11 ≤ ch / 256)) | _ => false)) ∧
    (from_ up0 fun s =>
      let a : Actor := Actor.pf0; let ch : Nat := 515; decide (s.mayWrite a .FM = true ∧ chanOk ch = true ∧ chanRetirable ch = true ∧
        (ch / 256 = 2 ∨ ch / 256 = 6 ∨ ch / 256 = 7 ∨ 10 ≤ ch / 256))) ∧
    (from_ (up0.set1 FM_CHAN_RETIRED (chanUnit 0xA01)) fun s => let p : Nat := 1; decide (p < 8 ∧ s.retired 10 p = true)) ∧
    (from_ up0 fun s => let p : Nat := 1; decide (p < 8 ∧ s.retired 10 p = false)) ∧
    (from_ (up0.setFld HO_TEMP_DIE_TEMP 1 (110 * 256)) fun s =>
      let k : Nat := 1; decide (k < 4 ∧ 105 * 256 ≤ s.dieTemp k ∧ k ∉ s.brd.warned)) ∧
    (from_ up0 fun s => let k : Nat := 1; decide (k < 4 ∧ (s.dieTemp k < 105 * 256 ∨ k ∈ s.brd.warned))) ∧
    (from_ ({ up0 with brd := { up0.brd with hot := some 0 } }) fun s =>
      (match s.brd.hot with | some t0 => decide (t0 + msU ≤ s.ti.elapsed) | _ => false)) ∧
    (from_ ({ up0 with brd := { up0.brd with hot := some up0.ti.elapsed } }) fun s =>
      (match s.brd.hot with | some t0 => decide (s.ti.elapsed < t0 + msU) | _ => false)) ∧
    (from_ up0 fun _ => let k : Nat := 3; decide (k ∈ [2, 3, 10])) := by decide +kernel

theorem wit_CountersLinkAndDebug :
    (from_ ((up0.setFld PC_CFG_EN 1 1).setFld PC_CNT_COUNT 1 (2 ^ 48 - 1)) fun s =>
      let n : Nat := 0; let k : Nat := 1; decide (s.tk.cnts = [] ∧ n < 8 ∧ k < 8 ∧ s.pcOn n k = true ∧
        s.fld PC_CNT_COUNT (n * 8 + k) = 2 ^ 48 - 1 ∧ (k = 7 ∨ s.service = false ∨ s.flag PC_CFG_CHAIN (n * 8 + k + 1) = false))) ∧
    (from_ ((pcFull srv0).set1 PC_CFG_CHAIN 2) fun s =>
      let n : Nat := 0; let k : Nat := 1; decide (s.tk.cnts = [] ∧ s.service = true ∧ n < 8 ∧ k < 7 ∧ s.pcOn n k = true ∧
        s.fld PC_CNT_COUNT (n * 8 + k) = 2 ^ 48 - 1 ∧ s.flag PC_CFG_CHAIN (n * 8 + k + 1) = true ∧
        s.fld PC_CNT_COUNT (n * 8 + k + 1) < 2 ^ 48 - 1)) ∧
    (from_ up0 fun s =>
      let n : Nat := 0; let k : Nat := 0; decide (s.tk.cnts = [] ∧ n < 8 ∧ k < 8 ∧
        (s.pcOn n k = false ∨ s.fld PC_CNT_COUNT (n * 8 + k) ≠ 2 ^ 48 - 1))) ∧
    (from_ (((up0.set1 SQ_CTL_EN 0).setFld PC_CYCLE_COUNT 0 (2 ^ 64 - 1)).setFld PC_FB_COUNT 3 (2 ^ 32 - 1)) fun s =>
      let n : Nat := 0; decide (s.tk.cnts = [] ∧ n < 8 ∧ s.flag SQ_CTL_EN n = true ∧ s.fld PC_CYCLE_COUNT n = 2 ^ 64 - 1)) ∧
    (from_ (((up0.set1 SQ_CTL_EN 0).setFld PC_CYCLE_COUNT 0 (2 ^ 64 - 1)).setFld PC_FB_COUNT 3 (2 ^ 32 - 1)) fun s =>
      let e : Nat := 3; decide (e < 240 ∧ s.fld PC_FB_COUNT e = 2 ^ 32 - 1)) ∧
    (from_ up0 fun s =>
      let speed : Nat := 1; let width : Nat := 1; decide (s.bt.held = false ∧ speed ∈ [1, 2, 3, 4] ∧ width ∈ [1, 2, 4, 8])) ∧
    (from_ ({ up0 with bt := { up0.bt with held := true } }) fun s =>
      let speed : Nat := 1; let width : Nat := 1; decide (s.bt.held = true ∧ speed ∈ [1, 2, 3, 4] ∧ width ∈ [1, 2, 4, 8])) ∧
    (from_ up0 fun _ =>
      let t0 : Nat := 0; let t1 : Nat := 0; let t2 : Nat := 0; let t3 : Nat := 0; decide (t0 < 65536 ∧ t1 < 65536 ∧ t2 < 65536 ∧
        t3 < 65536)) ∧
    (from_ up0 fun s => decide ((s.tapActs ≠ 0x20 ∨ 1 < s.lifeCycle))) ∧
    (from_ ({ up0 with brd := { up0.brd with tap := 0x20 } }) fun s =>
      let addr : Nat := 536870912; let len : Nat := 0; decide (s.tapActs = 0x20 ∧ s.lifeCycle ≤ 1 ∧ 0x20000000 ≤ addr ∧
        addr < 0x20400000 ∧ addr + len ≤ 0x20400000 ∧ s.readPoison addr len = false)) ∧
    (from_ ({ up0 with brd := { up0.brd with tap := 0x20 } }) fun s =>
      let addr : Nat := 536870912; let len : Nat := 0; decide (s.tapActs = 0x20 ∧ s.lifeCycle ≤ 1 ∧ s.recovery = false ∧
        0x20000000 ≤ addr ∧ addr < 0x20400000 ∧ addr + len ≤ 0x20400000 ∧ s.imgBlocked (.ctrl 13) addr len = false)) ∧
    (from_ ({ ((up0.setFld BT_MODE_MODE 0 3).setFld LC_STATE_CODE 0 0) with brd := { up0.brd with tap := 0x20 } }) fun s =>
      let addr : Nat := 536870912; decide (s.tapActs = 0x20 ∧ s.lifeCycle ≤ 1 ∧ s.recovery = true ∧ 0x20000000 ≤ addr ∧
        addr < 0x20400000)) ∧
    (from_ up0 fun _ => let code : Nat := 0; decide (code < 256)) := by decide +kernel

end Sys2Proof.Tests
end

section
/-! SUPPORT. Semaphores (R171, R172, R198): a port instruction that passes its checks retires; a semaphore takes the result of the
tick and its acquirers are answered. -/

namespace Sys2Proof.Machine

variable {s t u : State} {n k : Nat}

/-! ### A port instruction retires -/

/-- A ready instruction whose meaning is `t` leaves `t` with PC past it. -/
theorem State.issue_done {m : SeqOp} {i : Ins} {body : Ins → State → Res} (hr : Ready s n m i) (hb : body i s = .done t) :
    s.issue n m body = .next ((t.setPc n (s.pc n + i.len)).seqEv n 0) := by
  obtain ⟨hn, hissue, hat, hrow, hfree⟩ := hr
  simp [State.issue, hn, hissue, hat, hrow, hfree, hb]

/-- A permitted access of a port below 0x800 is carried out; 0x610 alone has a check of its own (R207). -/
theorem State.portAcc_done {p : Nat} {write : Bool} {g : State → State} (hp : s.portMay n p = true) (hlt : p < 0x800)
    (hne : p ≠ 0x610) : s.portAcc n p write g = .done ((g s).seqEv n (if write then 7 else 6)) := by
  have hc : s.portCause n p write = 0 := by simp [State.portCause, hp, hne, Nat.not_le.2 hlt]
  simp [State.portAcc, hc]

/-- Sequencer `n` retires a port instruction: the access and the retirement are counted, and PC becomes `p`. -/
def State.portRetire (u : State) (n e p : Nat) : State := ((u.seqEv n e).setPc n p).seqEv n 0

section
variable (u : State) (n e p : Nat)

@[simp] theorem State.portRetire_pc : (u.portRetire n e p).pc n = p % 65536 := (u.seqEv n e).fld_setFld SQ_PC_PC n p

theorem State.portRetire_fld {f : Fld} {j : Nat} (h : f.key j ≠ SQ_PC_PC.key n) :
    (u.portRetire n e p).fld f j = u.fld f j := (u.seqEv n e).fld_setFld_ne p h.symm

@[simp] theorem State.portRetire_held : (u.portRetire n e p).flag SQ_SEM_HELD k = u.flag SQ_SEM_HELD k :=
  congrArg (· != 0) (u.portRetire_fld n e p (Fld.key_ne_bit (by decide)))

@[simp] theorem State.portRetire_owner : (u.portRetire n e p).fld SQ_SEM_OWNER k = u.fld SQ_SEM_OWNER k :=
  u.portRetire_fld n e p (Fld.key_ne_bit (by decide))

/-- Retiring changes PC's register and the counted events alone. -/
theorem State.portRetire_rest : { u.portRetire n e p with regs := u.regs, evc := u.evc } = u := rfl

theorem State.portRetire_writes {u : State} {l : List (Fld × Nat)} (h : Writes s u l) :
    Writes s (u.portRetire n e p) (l ++ [(SQ_PC_PC, n)]) := by
  intro f j hj
  rw [u.portRetire_fld n e p (hj (SQ_PC_PC, n) (by simp))]
  exact h f j fun q hq => hj q (List.mem_append_left _ hq)

end

/-- A ready semaphore instruction that the mode permits retires with the effect of its access. -/
theorem State.issue_semPort {m : SeqOp} {i : Ins} {write : Bool} {g : Ins → State → State} (hr : Ready s n m i)
    (hp : s.portMay n (0x620 + i.imm % 32) = true) :
    s.issue n m (fun i t => t.portAcc n (0x620 + i.imm % 32) write (g i)) =
      .next ((g i s).portRetire n (if write then 7 else 6) (s.pc n + i.len)) :=
  State.issue_done hr (State.portAcc_done hp (by omega) (by omega))

/-! ### Who holds a semaphore, and the tick's result -/

/-- The holder of semaphore `k`, if any. -/
def State.semOwner (s : State) (k : Nat) : Option Nat := if s.flag SQ_SEM_HELD k then some (s.fld SQ_SEM_OWNER k) else none

theorem State.semOwner_free (h : s.flag SQ_SEM_HELD k = false) : s.semOwner k = none := by simp [State.semOwner, h]

theorem State.semOwner_held (h : s.flag SQ_SEM_HELD k = true) : s.semOwner k = some (s.fld SQ_SEM_OWNER k) := by
  simp [State.semOwner, h]

theorem State.semHeldBy_iff {w : Nat} : s.semHeldBy k w = true ↔ s.flag SQ_SEM_HELD k = true ∧ s.fld SQ_SEM_OWNER k = w := by
  simp [State.semHeldBy]

theorem State.semOwner_of_heldBy {w : Nat} (h : s.semHeldBy k w = true) : s.semOwner k = some w := by
  obtain ⟨hheld, howner⟩ := State.semHeldBy_iff.1 h
  rw [State.semOwner_held hheld, howner]

/-- Before any command of the tick has touched it, a semaphore has its holder and no acquirer. -/
theorem State.semTk_untouched (h : Untouched s k) :
    s.semTk k = { from_ := s.semOwner k, ref := smGet none s.semRef k, asks := [] } := by
  unfold Untouched at h
  rw [State.semTk, h]
  rfl

/-- Whose acquire was refused latest, once the acquirers of the tick are counted in. -/
def SemTick.lastRefused (e : SemTick) : Option Nat :=
  match (e.asks.filter (fun x => e.reads x.1 != 0)).getLast?.map (·.1) with
  | some w => some w
  | none => e.ref

/-- Semaphore `k` with the result of the tick, its acquirers not yet answered: the first step of semSet. -/
def State.semMark (s : State) (k : Nat) (new : SemTick) : State :=
  { (s.setFld SQ_SEM_HELD k (b2n new.holder.isSome)).setFld SQ_SEM_OWNER k (new.holder.getD 0) with
    tk := { s.tk with sems := smSet none s.tk.sems k (some new) }
    semRef := smSet none s.semRef k new.lastRefused }

theorem State.semMark_rest (s : State) (k : Nat) (new : SemTick) :
    { s.semMark k new with regs := s.regs, semRef := s.semRef, tk := s.tk } = s := rfl

theorem State.semSet_eq (old new : SemTick) :
    s.semSet k old new = new.asks.foldl (State.semAnswer old new) (s.semMark k new) := by
  unfold State.semSet State.semMark
  cases new.holder <;> rfl

/-! ### The answers -/

/-- An answer reaches the sequencer's own state and the counted events alone. -/
theorem State.semAnswer_eq (old new : SemTick) (s : State) (x : Nat × Option (Nat × Bool)) :
    ∃ q e, s.semAnswer old new x = { s with seqs := q, evc := e } := by
  obtain ⟨w, _ | ⟨d, z⟩⟩ := x
  · exact ⟨s.seqs, s.evc, rfl⟩
  · simp only [State.semAnswer]
    split_ifs <;> exact ⟨_, _, rfl⟩

theorem State.foldl_semAnswer_rest (old new : SemTick) (l : List (Nat × Option (Nat × Bool))) (s : State) :
    { l.foldl (State.semAnswer old new) s with seqs := s.seqs, evc := s.evc } = s := by
  induction l generalizing s with
  | nil => rfl
  | cons x l ih =>
    obtain ⟨q, e, hx⟩ := State.semAnswer_eq old new s x
    rw [List.foldl_cons, hx]
    exact congrArg (fun t : State => { t with seqs := s.seqs, evc := s.evc }) (ih { s with seqs := q, evc := e })

/-- What an acquire leaves in the acquirer: the value read into vD, and Z (R198). -/
def Seqr.semRead (q : Seqr) (d v : Nat) : Seqr := { q.wv d (BitVec.ofNat 32 v) with zf := v == 0 }

theorem Seqr.semRead_rv (q : Seqr) (d v : Nat) : (q.semRead d v).rv d = if d = 0 then 0 else BitVec.ofNat 32 v := by
  by_cases hd : d = 0
  · simp [Seqr.rv, hd]
  · simp [Seqr.semRead, Seqr.rv, Seqr.wv, hd, -BitVec.toNat_ofNat]

@[simp] theorem Seqr.semRead_zf (q : Seqr) (d v : Nat) : (q.semRead d v).zf = (v == 0) := rfl

/-- The first answer to sequencer `n` on a tick that has answered nobody. -/
theorem State.semAnswer_first {old new : SemTick} (h : old.asks = []) (d : Nat) :
    (s.semAnswer old new (n, some (d, true))).seqs = (s.setSeq n ((s.seq n).semRead d (new.reads n))).seqs := by
  by_cases hv : new.reads n = 0 <;> simp [State.semAnswer, h, hv] <;> rfl

/-! ### What semSet leaves -/

section
variable (s : State) (k : Nat) (old new : SemTick)

theorem State.semSet_answers : { s.semSet k old new with seqs := s.seqs, evc := s.evc } = s.semMark k new := by
  rw [State.semSet_eq]
  exact State.foldl_semAnswer_rest old new new.asks (s.semMark k new)

theorem State.semSet_fld (f : Fld) (j : Nat) : (s.semSet k old new).fld f j = (s.semMark k new).fld f j :=
  congrArg (fun t => t.fld f j) (s.semSet_answers k old new)

theorem State.semSet_rest :
    { s.semSet k old new with regs := s.regs, seqs := s.seqs, semRef := s.semRef, tk := s.tk, evc := s.evc } = s :=
  congrArg (fun t : State => { t with regs := s.regs, semRef := s.semRef, tk := s.tk }) (s.semSet_answers k old new)

@[simp] theorem State.semSet_ti : (s.semSet k old new).ti = s.ti := by
  have h := congrArg State.ti (s.semSet_answers k old new)
  exact h

@[simp] theorem State.semSet_semRef : smGet none (s.semSet k old new).semRef k = new.lastRefused :=
  (congrArg (fun t => smGet none t.semRef k) (s.semSet_answers k old new)).trans (smGet_smSet_same ..)

/-- The tick keeps the result it was given. -/
@[simp] theorem State.semSet_semTk : (s.semSet k old new).semTk k = new := by
  have h : smGet none (s.semSet k old new).tk.sems k = some new :=
    (congrArg (fun t => smGet none t.tk.sems k) (s.semSet_answers k old new)).trans
      (smGet_smSet_same none s.tk.sems k (some new))
  rw [State.semTk, h]
  rfl

theorem State.semSet_owner : (s.semSet k old new).fld SQ_SEM_OWNER k = new.holder.getD 0 % 16 := by
  rw [State.semSet_fld]
  exact State.fld_setFld ..

@[simp] theorem State.semSet_held : (s.semSet k old new).flag SQ_SEM_HELD k = new.holder.isSome := by
  have h : (s.semSet k old new).fld SQ_SEM_HELD k = b2n new.holder.isSome % 2 := by
    rw [State.semSet_fld]
    exact ((s.setFld SQ_SEM_HELD k _).fld_setFld_bit k k _ (by decide)).trans (State.fld_setFld ..)
  rw [State.flag, h]
  cases new.holder <;> rfl

theorem State.semSet_seqs_first {old new : SemTick} {d : Nat} (hold : old.asks = [])
    (hnew : new.asks = [(n, some (d, true))]) :
    (s.semSet k old new).seqs = (s.setSeq n ((s.seq n).semRead d (new.reads n))).seqs := by
  rw [State.semSet_eq, hnew]
  exact State.semAnswer_first (s := s.semMark k new) hold d

theorem State.semSet_writes : Writes s (s.semSet k old new) [(SQ_SEM_HELD, k), (SQ_SEM_OWNER, k)] := by
  intro f j hf
  rw [State.semSet_fld]
  exact ((s.setFld SQ_SEM_HELD k _).fld_setFld_ne _ (hf (SQ_SEM_OWNER, k) (by simp)).symm).trans
    (s.fld_setFld_ne _ (hf (SQ_SEM_HELD, k) (by simp)).symm)

end

/-! ### One acquire on an untouched semaphore -/

/-- The tick's result when `w` is the first to acquire. -/
theorem State.semTake_untouched (h : Untouched s k) (w : Nat) (x : Option (Nat × Bool)) :
    s.semTake k w x = s.semSet k { from_ := s.semOwner k, ref := smGet none s.semRef k, asks := [] }
      { from_ := s.semOwner k, ref := smGet none s.semRef k, asks := [(w, x)] } := by
  rw [State.semTake, State.semTk_untouched h]
  rfl

theorem State.semTake_writes (w : Nat) (x : Option (Nat × Bool)) :
    Writes s (s.semTake k w x) [(SQ_SEM_HELD, k), (SQ_SEM_OWNER, k)] := s.semSet_writes k _ _

/-- The only acquirer of a tick holds the semaphore unless another does. -/
theorem SemTick.holder_single (o r : Option Nat) (w : Nat) (x : Option (Nat × Bool)) :
    (SemTick.mk o r [(w, x)]).holder = some (o.getD w) := by
  cases o <;> rfl

theorem SemTick.reads_single (o r : Option Nat) (w : Nat) (x : Option (Nat × Bool)) :
    (SemTick.mk o r [(w, x)]).reads w = if o.getD w = w then 0 else 1 + 2 * o.getD w := by
  rw [SemTick.reads, SemTick.holder_single]

theorem SemTick.lastRefused_single (o r : Option Nat) (w : Nat) (x : Option (Nat × Bool)) :
    (SemTick.mk o r [(w, x)]).lastRefused = if o.getD w = w then r else some w := by
  by_cases h : o.getD w = w <;> simp [SemTick.lastRefused, SemTick.reads_single, h]

/-- Sequencer `n`'s acquire of semaphore `k`, which `h` then holds, read into vD with Z. -/
structure SemGiven (s t : State) (n d k h : Nat) : Prop where
  held   : t.flag SQ_SEM_HELD k = true
  owner  : t.fld SQ_SEM_OWNER k = h
  reads  : t.seq n = (s.seq n).semRead d (if h = n then 0 else 1 + 2 * h)
  others : ∀ j, j ≠ n → t.seq j = s.seq j
  ref    : h ≠ n → smGet none t.semRef k = some n

theorem State.semTake_given (hu : Untouched s k) (d : Nat) {h : Nat} (ho : (s.semOwner k).getD n = h) (hlt : h < 16) :
    SemGiven s (s.semTake k n (some (d, true))) n d k h := by
  rw [State.semTake_untouched hu]
  have hseq := s.semSet_seqs_first k (old := ⟨s.semOwner k, smGet none s.semRef k, []⟩)
    (new := ⟨s.semOwner k, smGet none s.semRef k, [(n, some (d, true))]⟩) rfl rfl
  constructor
  · simp [SemTick.holder_single]
  · rw [State.semSet_owner, SemTick.holder_single, ho]
    exact Nat.mod_eq_of_lt hlt
  · rw [State.seq, hseq, SemTick.reads_single, ho]
    exact s.seq_setSeq
  · intro j hj
    rw [State.seq, hseq]
    exact State.seq_setSeq_ne hj.symm
  · intro hne
    rw [State.semSet_semRef, SemTick.lastRefused_single, ho, if_neg hne]

theorem SemGiven.portRetire {d h : Nat} (e p : Nat) (g : SemGiven s u n d k h) : SemGiven s (u.portRetire n e p) n d k h where
  held := (u.portRetire_held n e p).trans g.held
  owner := (u.portRetire_owner n e p).trans g.owner
  reads := g.reads
  others := g.others
  ref := g.ref

/-- An acquirer that reads into no register is not answered. -/
theorem State.semTake_silent (hu : Untouched s k) (w : Nat) :
    s.semTake k w none =
      s.semMark k { from_ := s.semOwner k, ref := smGet none s.semRef k, asks := [(w, none)] } := by
  rw [State.semTake_untouched hu, State.semSet_eq]
  rfl

/-! ### A release -/

/-- Event 15 reaches the sequencers alone. -/
theorem State.semEvent_rest (s : State) (w : Option Nat) : { s.semEvent w with seqs := s.seqs } = s := by
  cases w with
  | none => rfl
  | some n =>
    simp only [State.semEvent]
    split_ifs <;> rfl

theorem State.semEvent_latched (hn : n < 8) : bitOf ((s.semEvent (some n)).seq n).events 15 = true := by
  have h : s.semEvent (some n) = s.latchAt n 15 := if_pos hn
  rw [h, State.latchAt, State.seq_setSeq]
  have hbit : ∀ e : Nat, bitOf e 15 = e.testBit 15 := by
    intro e
    simp [bitOf, Nat.testBit, Nat.shiftRight_eq_div_pow, Nat.and_comm 1, Nat.and_one_is_mod]
  simp only [hbit, Nat.testBit_or, Nat.testBit_two_pow_self, Bool.or_true]

/-- A release goes before the tick's acquires, the releaser's own among them. -/
theorem State.semFree_held {h : Nat} (hf : (s.semTk k).from_ = some h) :
    s.semFree k = (s.semEvent (s.semTk k).ref).semSet k (s.semTk k)
      { s.semTk k with from_ := none, asks := (s.semTk k).asks.filter (fun x => x.1 != h) } := by
  simp only [State.semFree, hf]

/-- The release of semaphore `k`, on a tick on which nobody acquires it. -/
structure SemFreed (s t : State) (k : Nat) : Prop where
  free   : t.flag SQ_SEM_HELD k = false
  event  : ∀ j < 8, smGet none s.semRef k = some j → bitOf (t.seq j).events 15 = true
  writes : Writes s t [(SQ_SEM_HELD, k), (SQ_SEM_OWNER, k)]
  rest   : { t with regs := s.regs, seqs := s.seqs, semRef := s.semRef, tk := s.tk } = s

theorem State.semFree_freed (hu : Untouched s k) {h : Nat} (ho : s.semOwner k = some h) : SemFreed s (s.semFree k) k := by
  have hfrom : (s.semTk k).from_ = some h := by rw [State.semTk_untouched hu, ho]
  have hevent := s.semEvent_rest (smGet none s.semRef k)
  rw [State.semFree_held hfrom, State.semTk_untouched hu]
  have hmark := State.semSet_eq (s := s.semEvent (smGet none s.semRef k)) (k := k)
    ⟨s.semOwner k, smGet none s.semRef k, []⟩ ⟨none, smGet none s.semRef k, []⟩
  constructor
  · simp [SemTick.holder]
  · intro j hj href
    have hlatched := State.semEvent_latched (s := s) hj
    rw [← href] at hlatched
    exact (congrArg (fun t => bitOf (t.seq j).events 15) hmark).trans hlatched
  · intro f j hf
    rw [State.semSet_writes _ _ _ _ f j hf]
    exact congrArg (fun t => t.fld f j) hevent
  · have h1 := congrArg (fun t : State => { t with regs := s.regs, seqs := s.seqs, semRef := s.semRef, tk := s.tk }) hmark
    exact h1.trans (congrArg (fun t : State => { t with regs := s.regs, semRef := s.semRef, tk := s.tk }) hevent)

/-! ### The order of a tick's acquires -/

@[simp] theorem State.semTake_semTk (w : Nat) (x : Option (Nat × Bool)) :
    (s.semTake k w x).semTk k = { s.semTk k with asks := s.semIns (w, x) (s.semTk k).asks } := State.semSet_semTk ..

@[simp] theorem State.semTake_semIns (w : Nat) (x : Option (Nat × Bool)) : (s.semTake k w x).semIns = s.semIns := by
  have hti : (s.semTake k w x).ti = s.ti := State.semSet_ti ..
  have hrank : (s.semTake k w x).semRank = s.semRank := by
    funext v
    rw [State.semRank, State.semRank, hti]
  funext y l
  rw [State.semIns, State.semIns, hrank]

@[simp] theorem State.semIns_nil (x : Nat × Option (Nat × Bool)) : s.semIns x [] = [x] := rfl

/-- Of two acquirers the one of lower rank stands first, whichever came first. -/
theorem State.semIns_before {w v : Nat} {x y : Option (Nat × Bool)} (h : s.semRank w < s.semRank v) :
    s.semIns (w, x) [(v, y)] = [(w, x), (v, y)] := by
  simp [State.semIns, h, Nat.not_lt.2 (Nat.le_of_lt h)]

theorem State.semIns_after {w v : Nat} {x y : Option (Nat × Bool)} (h : s.semRank w < s.semRank v) :
    s.semIns (v, y) [(w, x)] = [(w, x), (v, y)] := by
  simp [State.semIns, h, Nat.not_lt.2 (Nat.le_of_lt h)]

/-- The host's rank is the lowest, a sequencer's its distance from (tick count mod 8) (R172). -/
theorem State.semRank_lt {m : Nat} (hn : n < 8)
    (h : m = 8 ∨ (m + 8 - s.ti.ticks % 8) % 8 < (n + 8 - s.ti.ticks % 8) % 8) : s.semRank m < s.semRank n := by
  simp only [State.semRank, if_neg (show n ≠ 8 by omega)]
  split_ifs with hm <;> omega

/-- The first of two acquirers of a free semaphore holds it. -/
theorem State.semTake_owner_pair {w v m : Nat} {x y : Option (Nat × Bool)}
    (hu : Untouched s k) (hfree : s.flag SQ_SEM_HELD k = false) (hm : m < 16)
    (hl : (s.semIns (v, y) [(w, x)]).head?.map (·.1) = some m) :
    ((s.semTake k w x).semTake k v y).fld SQ_SEM_OWNER k = m := by
  have htk := State.semTk_untouched hu
  rw [State.semOwner_free hfree] at htk
  rw [State.semTake, State.semSet_owner]
  simp [htk, SemTick.holder, hl, Nat.mod_eq_of_lt hm]

/-- A release by the holder leaves the semaphore to the sequencer that acquires it on the same tick. -/
theorem State.semFree_semTake {m : Nat} {x : Option (Nat × Bool)} (hn : n < 8) (hne : n ≠ m) (hu : Untouched s k)
    (hm : s.semHeldBy k m = true) :
    ((s.semTake k n x).semFree k).flag SQ_SEM_HELD k = true ∧ ((s.semTake k n x).semFree k).fld SQ_SEM_OWNER k = n := by
  have htk := State.semTk_untouched hu
  rw [State.semOwner_of_heldBy hm] at htk
  have hfrom : ((s.semTake k n x).semTk k).from_ = some m := by simp [htk]
  rw [State.semFree_held hfrom]
  constructor
  · simp [htk, hne, SemTick.holder]
  · rw [State.semSet_owner]
    simp [htk, hne, SemTick.holder, Nat.mod_eq_of_lt (Nat.lt_trans hn (by decide : 8 < 16))]

end Sys2Proof.Machine
end

section
/-! SUPPORT. The commands on semaphores and the host's mail, each with all it leaves (R170 to R173, R198, R225), and the statement
they settle. -/

namespace Sys2Proof.Machine

variable {s : State} {n k : Nat}

/-! ### The commands -/

/-- The boot block replaced: all that noting an access of controller 13 changes. -/
def State.withBt (s : State) (b : BtSt) : State := { s with bt := b }

theorem State.debugNote_bt (s : State) (a : Actor) : ∃ b, s.debugNote a = s.withBt b := by
  unfold State.debugNote
  split
  · exact ⟨_, rfl⟩
  · exact ⟨s.bt, rfl⟩

section
variable {a : Actor} (ha : s.mayWrite a .SQ = true)
include ha

theorem exec_semAcquire (hk : k < 32) : exec (.semAcquire a k) s = .next ((s.debugNote a).semTake k 8 none) := by
  have h : exec (.semAcquire a k) s = execSemAcquire a k s := rfl
  rw [h, execSemAcquire, if_pos hk, s.gate_may _ ha]
  rfl

theorem exec_semRelease (hk : k < 32) : exec (.semRelease a k) s = .next ((s.debugNote a).hostRelease k) := by
  have h : exec (.semRelease a k) s = execSemRelease a k s := rfl
  rw [h, execSemRelease, if_pos hk, s.gate_may _ ha]

theorem exec_semForceRelease (hk : k < 32) :
    exec (.semForceRelease a k) s = .next (if a = .pf0 then (s.debugNote a).forceRelease k else s.debugNote a) := by
  have h : exec (.semForceRelease a k) s = execSemForceRelease a k s := rfl
  rw [h, execSemForceRelease, if_pos hk, s.gate_may _ ha]

theorem exec_hostMailboxSend (hn : n < 8) (w : Nat) :
    exec (.hostMailboxSend a n w) s = .next ((s.debugNote a).mboxPush n 8 w) := by
  have h : exec (.hostMailboxSend a n w) s = execHostMailboxSend a n w s := rfl
  rw [h, execHostMailboxSend, if_pos hn, s.gate_may _ ha]
  rfl

end

theorem State.hostRelease_held (h : s.semHeldBy k 8 = true) : s.hostRelease k = s.semFree k := if_pos h

theorem State.hostRelease_foreign (h : s.semHeldBy k 8 = false) : s.hostRelease k = s := by simp [State.hostRelease, h]

theorem State.forceRelease_held (h : s.flag SQ_SEM_HELD k = true) : s.forceRelease k = s.semFree k := if_pos h

/-! ### Mailboxes -/

/-- The host's word goes after every other word of the tick: no source is above 8. -/
theorem hostWord_last {l : List (Nat × Nat)} (j : Nat) (y : Nat × Nat) (h : ∀ x ∈ l, x.1 ≤ 8) :
    l.take j ++ ((l.drop j).filter (fun x => x.1 ≤ 8) ++ y :: (l.drop j).filter (fun x => 8 < x.1)) = l ++ [y] := by
  have hall : ∀ x ∈ l.drop j, x.1 ≤ 8 := fun x hx => h x (List.mem_of_mem_drop hx)
  have hle : (l.drop j).filter (fun x => x.1 ≤ 8) = l.drop j :=
    List.filter_eq_self.2 fun x hx => decide_eq_true (hall x hx)
  have hgt : (l.drop j).filter (fun x => 8 < x.1) = [] :=
    List.filter_eq_nil_iff.2 fun x hx => by simpa using hall x hx
  rw [hle, hgt, ← List.append_assoc, List.take_append_drop]

/-- One more word has entered the mailbox of sequencer `n` on this tick. -/
def State.mailNote (s : State) (n : Nat) : State :=
  { s with tk := { s.tk with mail := smSet 0 s.tk.mail n (smGet 0 s.tk.mail n + 1) } }

theorem State.mailEntered_rest (s : State) (n : Nat) (q : Seqr) :
    { ((s.mailNote n).setSeq n q).seqEv n 13 with seqs := s.seqs, evc := s.evc, tk := s.tk } = s := by
  simp only [State.seqEv, State.occur, State.setSeq, State.mailNote]

theorem State.mboxPush_host_room {w : Nat} (hlen : (s.seq n).mbox.length < 8) (h : ∀ x ∈ (s.seq n).mbox, x.1 ≤ 8) :
    s.mboxPush n 8 w =
      ((s.mailNote n).setSeq n { s.seq n with mbox := (s.seq n).mbox ++ [(8, w % 2 ^ 32)] }).seqEv n 13 := by
  simp only [State.mboxPush, hostWord_last _ _ h]
  rw [if_pos (by simpa using hlen)]
  rfl

theorem State.mboxPush_host_full {w : Nat} (hlen : (s.seq n).mbox.length = 8) (h : ∀ x ∈ (s.seq n).mbox, x.1 ≤ 8) :
    s.mboxPush n 8 w = (s.setSeq n { s.seq n with recvDrop := true }).set1 SQ_STATUS_MBOX_DROP n := by
  simp only [State.mboxPush, hostWord_last _ _ h]
  rw [if_neg (by simp [hlen]), List.take_append_of_le_length (by omega), List.take_of_length_le (by omega)]
  simp [State.mailDrop]

/-! ### Each command, with all it leaves -/

theorem State.semTake_retire_rest (w e p : Nat) (x : Option (Nat × Bool)) :
    { (s.semTake k w x).portRetire n e p with
      regs := s.regs, seqs := s.seqs, semRef := s.semRef, tk := s.tk, evc := s.evc } = s :=
  (congrArg (fun t : State => { t with regs := s.regs, seqs := s.seqs, semRef := s.semRef, tk := s.tk, evc := s.evc })
    ((s.semTake k w x).portRetire_rest n e p)).trans (State.semSet_rest ..)

/-- SACQ: the semaphore is `h`'s, the acquirer reads who holds it, and PC goes past the instruction. -/
theorem sacq_completes {i : Ins} {h : Nat} (hr : Ready s n .sacq i) (hp : s.portMay n (0x620 + i.imm % 32) = true)
    (hu : Untouched s (i.imm % 32)) (ho : (s.semOwner (i.imm % 32)).getD n = h) (hlt : h < 16) :
    Completes (exec (.sacq n) s) fun t => SemGiven s t n i.d (i.imm % 32) h ∧ t.pc n = (s.pc n + i.len) % 65536 ∧
      Writes s t [(SQ_SEM_HELD, i.imm % 32), (SQ_SEM_OWNER, i.imm % 32), (SQ_PC_PC, n)] ∧
      { t with regs := s.regs, seqs := s.seqs, semRef := s.semRef, tk := s.tk, evc := s.evc } = s :=
  ⟨_, State.issue_semPort (g := fun i u => u.semTake (i.imm % 32) n (some (i.d, true))) hr hp,
    (State.semTake_given hu i.d ho hlt).portRetire _ _, State.portRetire_pc ..,
    State.portRetire_writes _ _ _ (State.semTake_writes _ _), State.semTake_retire_rest ..⟩

/-- SREL of a semaphore the sequencer does not hold sets SEM_FOREIGN and nothing else. -/
theorem srel_foreign_completes {i : Ins} (hr : Ready s n .srel i) (hp : s.portMay n (0x620 + i.imm % 32) = true)
    (hh : s.semHeldBy (i.imm % 32) n = false) :
    Completes (exec (.srel n) s) fun t => t.seq n = { s.seq n with semForeign := true } ∧
      t.pc n = (s.pc n + i.len) % 65536 ∧ Writes s t [(SQ_PC_PC, n)] ∧
      { t with regs := s.regs, seqs := s.seqs, evc := s.evc } = s := by
  have hw : s.semWrite n (i.imm % 32) = s.setSeq n { s.seq n with semForeign := true } := by simp [State.semWrite, hh]
  refine ⟨_, State.issue_semPort (g := fun i u => u.semWrite n (i.imm % 32)) hr hp, ?_⟩
  simp only [hw]
  exact ⟨s.seq_setSeq, State.portRetire_pc .., State.portRetire_writes (l := []) _ _ _ (fun _ _ _ => rfl),
    congrArg (fun t : State => { t with seqs := s.seqs }) (State.portRetire_rest _ n 7 (s.pc n + i.len))⟩

/-- SREL by the holder frees the semaphore and raises event 15. -/
theorem srel_held_completes {i : Ins} (hr : Ready s n .srel i) (hp : s.portMay n (0x620 + i.imm % 32) = true)
    (hu : Untouched s (i.imm % 32)) (hh : s.semHeldBy (i.imm % 32) n = true) :
    Completes (exec (.srel n) s) fun t => t.flag SQ_SEM_HELD (i.imm % 32) = false ∧ t.pc n = (s.pc n + i.len) % 65536 ∧
      (∀ k < 8, smGet none s.semRef (i.imm % 32) = some k → bitOf (t.seq k).events 15 = true) ∧
      Writes s t [(SQ_SEM_HELD, i.imm % 32), (SQ_SEM_OWNER, i.imm % 32), (SQ_PC_PC, n)] ∧
      { t with regs := s.regs, seqs := s.seqs, semRef := s.semRef, tk := s.tk, evc := s.evc } = s := by
  have hw : s.semWrite n (i.imm % 32) = s.semFree (i.imm % 32) := by simp [State.semWrite, hh]
  obtain ⟨hfree, hevent, hwrites, hrest⟩ := State.semFree_freed hu (State.semOwner_of_heldBy hh)
  refine ⟨_, State.issue_semPort (g := fun i u => u.semWrite n (i.imm % 32)) hr hp, ?_⟩
  simp only [hw]
  exact ⟨(State.portRetire_held ..).trans hfree, State.portRetire_pc .., hevent, State.portRetire_writes _ _ _ hwrites,
    (congrArg (fun t : State => { t with regs := s.regs, seqs := s.seqs, semRef := s.semRef, tk := s.tk, evc := s.evc })
      (State.portRetire_rest _ n 7 (s.pc n + i.len))).trans (congrArg (fun t : State => { t with evc := s.evc }) hrest)⟩

/-- The host's acquire of a free semaphore. -/
theorem semAcquire_free_completes {a : Actor} (hk : k < 32) (ha : s.mayWrite a .SQ = true) (hu : Untouched s k)
    (hfree : s.flag SQ_SEM_HELD k = false) :
    Completes (exec (.semAcquire a k) s) fun t => t.flag SQ_SEM_HELD k = true ∧ t.fld SQ_SEM_OWNER k = 8 ∧
      Writes s t [(SQ_SEM_HELD, k), (SQ_SEM_OWNER, k)] ∧
      { t with regs := s.regs, semRef := s.semRef, tk := s.tk, bt := s.bt } = s := by
  rw [exec_semAcquire ha hk]
  obtain ⟨b, hb⟩ := s.debugNote_bt a
  have hnone : (s.withBt b).semOwner k = none := State.semOwner_free hfree
  have hu' : Untouched (s.withBt b) k := hu
  rw [hb]
  refine ⟨_, rfl, ?_, ?_, ?_, ?_⟩
  · rw [State.semTake_untouched hu', State.semSet_held, SemTick.holder_single]
    rfl
  · rw [State.semTake_untouched hu', State.semSet_owner, SemTick.holder_single, hnone]
    rfl
  · exact State.semTake_writes (s := s.withBt b) _ _
  · rw [State.semTake_silent hu']
    exact (congrArg (fun t : State => { t with bt := s.bt }) (State.semMark_rest (s.withBt b) k
      { from_ := (s.withBt b).semOwner k, ref := smGet none (s.withBt b).semRef k, asks := [(8, none)] }) :)

theorem hostMailboxSend_room_completes {a : Actor} (hn : n < 8) (w : Nat) (ha : s.mayWrite a .SQ = true)
    (hlen : (s.seq n).mbox.length < 8) (hsrc : ∀ x ∈ (s.seq n).mbox, x.1 ≤ 8) :
    Completes (exec (.hostMailboxSend a n w) s) fun t => (t.seq n).mbox = (s.seq n).mbox ++ [(8, w % 2 ^ 32)] ∧
      (∀ j, j ≠ n → t.seq j = s.seq j) ∧ { t with seqs := s.seqs, evc := s.evc, tk := s.tk, bt := s.bt } = s := by
  obtain ⟨b, hb⟩ := s.debugNote_bt a
  rw [exec_hostMailboxSend ha hn, hb, State.mboxPush_host_room (s := s.withBt b) hlen hsrc]
  have hseq := State.seq_setSeq (s := (s.withBt b).mailNote n) (n := n)
    (q := { s.seq n with mbox := (s.seq n).mbox ++ [(8, w % 2 ^ 32)] })
  refine ⟨_, rfl, (congrArg Seqr.mbox hseq :), fun j hj => ?_, ?_⟩
  · exact State.seq_setSeq_ne (s := (s.withBt b).mailNote n) hj.symm
  · exact (congrArg (fun t : State => { t with bt := s.bt }) ((s.withBt b).mailEntered_rest n
      { s.seq n with mbox := (s.seq n).mbox ++ [(8, w % 2 ^ 32)] }) :)

theorem hostMailboxSend_full_completes {a : Actor} (hn : n < 8) (w : Nat) (ha : s.mayWrite a .SQ = true)
    (hlen : (s.seq n).mbox.length = 8) (hsrc : ∀ x ∈ (s.seq n).mbox, x.1 ≤ 8) :
    Completes (exec (.hostMailboxSend a n w) s) fun t => (t.seq n).mbox = (s.seq n).mbox ∧
      t.flag SQ_STATUS_MBOX_DROP n = true ∧ (t.seq n).recvDrop = true ∧ t.mem = s.mem := by
  obtain ⟨b, hb⟩ := s.debugNote_bt a
  rw [exec_hostMailboxSend ha hn, hb, State.mboxPush_host_full (s := s.withBt b) hlen hsrc]
  have hseq := State.seq_setSeq (s := s.withBt b) (n := n) (q := { s.seq n with recvDrop := true })
  refine ⟨_, rfl, (congrArg Seqr.mbox hseq :), ?_, (congrArg Seqr.recvDrop hseq :), rfl⟩
  rw [State.flag, State.fld_set1 _ _ (by decide)]
  rfl

/-- The host's own release. -/
theorem semRelease_held_completes {a : Actor} (hk : k < 32) (ha : s.mayWrite a .SQ = true) (hu : Untouched s k)
    (hh : s.semHeldBy k 8 = true) :
    Completes (exec (.semRelease a k) s) fun t => t.flag SQ_SEM_HELD k = false ∧
      Writes s t [(SQ_SEM_HELD, k), (SQ_SEM_OWNER, k)] ∧
      { t with regs := s.regs, seqs := s.seqs, semRef := s.semRef, tk := s.tk, bt := s.bt } = s := by
  obtain ⟨b, hb⟩ := s.debugNote_bt a
  have hown : (s.withBt b).semOwner k = some 8 := State.semOwner_of_heldBy hh
  obtain ⟨hfree, -, hwrites, hrest⟩ := State.semFree_freed (s := s.withBt b) hu hown
  rw [exec_semRelease ha hk, hb, State.hostRelease_held (s := s.withBt b) hh]
  exact ⟨_, rfl, hfree, hwrites, congrArg (fun t : State => { t with bt := s.bt }) hrest⟩

theorem semRelease_foreign {a : Actor} (hk : k < 32) (ha : s.mayWrite a .SQ = true) (hh : s.semHeldBy k 8 = false) :
    exec (.semRelease a k) s = .next (s.debugNote a) := by
  obtain ⟨b, hb⟩ := s.debugNote_bt a
  rw [exec_semRelease ha hk, hb, State.hostRelease_foreign (s := s.withBt b) hh]

/-- PF0's forced release, whoever holds the semaphore. -/
theorem semForceRelease_completes (hk : k < 32) (ha : s.mayWrite .pf0 .SQ = true) (hu : Untouched s k)
    (hheld : s.flag SQ_SEM_HELD k = true) :
    Completes (exec (.semForceRelease .pf0 k) s) fun t => t.flag SQ_SEM_HELD k = false ∧
      Writes s t [(SQ_SEM_HELD, k), (SQ_SEM_OWNER, k)] ∧
      { t with regs := s.regs, seqs := s.seqs, semRef := s.semRef, tk := s.tk } = s := by
  have hnote : s.debugNote .pf0 = s := s.debugNote_ne (by decide)
  obtain ⟨hfree, -, hwrites, hrest⟩ := State.semFree_freed hu (State.semOwner_held hheld)
  refine ⟨s.semFree k, ?_, hfree, hwrites, hrest⟩
  rw [exec_semForceRelease ha hk, if_pos rfl, hnote, State.forceRelease_held hheld]

/-- Settles O22: every clause is a command's own lemma above; of SACQ's three, who holds the semaphore afterwards decides what
the acquirer reads. -/
theorem semaphoresAndMail : Obligations.SemaphoresAndMail := by
  intro s
  refine ⟨?sacqFree, ?sacqRefused, ?sacqOwn, fun n i hr hp hh => srel_foreign_completes hr hp hh,
    fun n i hr hp hu hh => srel_held_completes hr hp hu hh, ?host, ?hostNothing, ?order,
    fun a n w hn ha hlen hsrc => hostMailboxSend_room_completes hn w ha hlen hsrc,
    fun a n w hn ha hlen hsrc => hostMailboxSend_full_completes hn w ha hlen hsrc⟩
  case sacqFree =>
    intro n i hr hp hu hfree
    obtain ⟨t, ht, hg, hpc, hw, hrest⟩ := sacq_completes (h := n) hr hp hu (by simp [State.semOwner_free hfree])
      (Nat.lt_trans hr.unit (by decide))
    exact ⟨t, ht, hg.held, hg.owner, by simp [hg.reads, Seqr.semRead_rv], by simp [hg.reads], hpc, hw, hg.others, hrest⟩
  case sacqRefused =>
    intro n i hr hp hu hheld hne hle
    obtain ⟨t, ht, hg, hpc, hw, hrest⟩ := sacq_completes (h := s.fld SQ_SEM_OWNER (i.imm % 32)) hr hp hu
      (by simp [State.semOwner_held hheld]) (Nat.lt_of_le_of_lt hle (by decide))
    exact ⟨t, ht, by simp [hg.reads, Seqr.semRead_rv, hne], by simp [hg.reads, hne], hpc, hg.held, hg.owner, hg.ref hne, hw,
      hg.others, hrest⟩
  case sacqOwn =>
    intro n i hr hp hu hh
    obtain ⟨t, ht, hg, hpc, -, hrest⟩ := sacq_completes (h := n) hr hp hu (by simp [State.semOwner_of_heldBy hh])
      (Nat.lt_trans hr.unit (by decide))
    exact ⟨t, ht, hg.held, hg.owner, by simp [hg.reads, Seqr.semRead_rv], by simp [hg.reads], hpc, hg.others, hrest⟩
  case host =>
    intro a k hk ha hu
    refine ⟨semAcquire_free_completes hk ha hu, semRelease_held_completes hk ha hu, fun hheld hpf0 => ?_⟩
    subst hpf0
    exact semForceRelease_completes hk ha hu hheld
  case hostNothing =>
    intro a k hk ha
    refine ⟨semRelease_foreign hk ha, fun hne => ?_⟩
    rw [exec_semForceRelease ha hk, if_neg hne]
  case order =>
    intro k n m x y _ hn hm hne hu
    refine ⟨fun hfree hfirst => ?_, State.semFree_semTake hn hne hu⟩
    have hrank := State.semRank_lt hn hfirst
    have hm16 : m < 16 := by omega
    exact ⟨State.semTake_owner_pair hu hfree hm16 (by rw [State.semIns_before hrank]; rfl),
      State.semTake_owner_pair hu hfree hm16 (by rw [State.semIns_after hrank]; rfl)⟩

end Sys2Proof.Machine
end

section
/-! SUPPORT. The shifts (R189): an instruction of the sequencer's own registers retires, its result and flags are written, and the
statement they settle. -/

namespace Sys2Proof.Machine

variable {s : State} {n : Nat} {m : SeqOp} {i : Ins}

/-! ### An instruction of the sequencer's own registers -/

/-- When it is ready it completes: its effect on its own sequencer, PC past it, nothing else. -/
theorem State.issueReg_completes (f : Ins → Seqr → Seqr) (hr : Ready s n m i) :
    Completes (s.issueReg n m f) fun t => SeqFrame s t n (s.pc n + i.len) ∧ t.seq n = f i (s.seq n) :=
  ⟨_, State.issue_done (body := fun i t => .done (t.setSeq n (f i (t.seq n)))) hr rfl,
    { pc := State.fld_setFld ..
      fields := fun _ _ h => State.fld_setFld_ne _ _ h.symm
      others := fun _ h => s.seq_setSeq_ne h.symm
      rest := rfl },
    s.seq_setSeq⟩

/-! ### A value register written -/

section
variable (q : Seqr) {d k : Nat} (w : Word)

theorem Seqr.rv_wv : (q.wv d w).rv d = if d = 0 then 0 else w := by
  by_cases hd : d = 0 <;> simp [Seqr.rv, Seqr.wv, hd]

theorem Seqr.rv_wv_ne (h : k ≠ d) : (q.wv d w).rv k = q.rv k := by
  by_cases hd : d = 0
  · simp [Seqr.wv, hd]
  · simp [Seqr.rv, Seqr.wv, hd, smGet_smSet_ne _ _ _ _ h.symm]

theorem Seqr.wv_rest : { q.wv d w with v := q.v } = q := by
  by_cases hd : d = 0 <;> simp [Seqr.wv, hd]

theorem Seqr.wv_flags : (q.wv d w).flags = q.flags := by
  by_cases hd : d = 0 <;> simp [Seqr.wv, Seqr.flags, hd]

end

/-! ### A result written with its flags -/

/-- The flags that a result leaves: Z and N of a result that sets them, C and V where it gives them (R185). -/
def Alu.flagsOn (r : Alu) (q : Seqr) : Bool × Bool × Bool × Bool :=
  (if r.zn then r.res == 0 else q.zf, if r.zn then r.res.msb else q.nf, r.c.getD q.cf, r.v.getD q.vf)

/-- The sequencer with its flags replaced. -/
def Seqr.withFlags (q : Seqr) (fl : Bool × Bool × Bool × Bool) : Seqr :=
  { q with zf := fl.1, nf := fl.2.1, cf := fl.2.2.1, vf := fl.2.2.2 }

theorem Seqr.alu_eq (q : Seqr) (d : Nat) (r : Alu) : q.alu d r = (q.withFlags (r.flagsOn q)).wv d r.res := by
  cases h : r.zn <;> simp [Seqr.alu, Seqr.withFlags, Alu.flagsOn, h]

theorem Seqr.alu_frame (q : Seqr) (d : Nat) (r : Alu) : ValueFrame q (q.alu d r) d r.res (r.flagsOn q) := by
  rw [Seqr.alu_eq]
  exact
    { dest := Seqr.rv_wv ..
      others := fun _ h => Seqr.rv_wv_ne _ _ h
      flags := Seqr.wv_flags ..
      rest := congrArg (fun p : Seqr => { p with zf := q.zf, nf := q.nf, cf := q.cf, vf := q.vf })
        (Seqr.wv_rest (q.withFlags (r.flagsOn q)) r.res) }

/-- An instruction that writes `r` with its flags, when `res` and `fl` say what `r` holds. -/
theorem valueOp_of_alu {c : Nat → Instr} {res : Ins → State → Seqr → Word}
    {fl : Ins → Seqr → Word → Bool × Bool × Bool × Bool} (r : Ins → Seqr → Alu)
    (hexec : ∀ n s, exec (c n) s = s.issueReg n m fun i q => q.alu i.d (r i q))
    (hres : ∀ i s q, (r i q).res = res i s q) (hfl : ∀ i q, (r i q).flagsOn q = fl i q (r i q).res) :
    ValueOp c m res fl := by
  intro s n i hr
  rw [hexec]
  obtain ⟨t, ht, hframe, hseq⟩ := State.issueReg_completes (fun i q => q.alu i.d (r i q)) hr
  refine ⟨t, ht, hframe, ?_⟩
  rw [hseq, ← hres i s, ← hfl]
  exact Seqr.alu_frame ..

/-! ### Shifts -/

/-- The shift of `a` by `k` that R189 gives: the value `w`, and in C the bit `out`, when anything is shifted. -/
def shiftAlu (w : Word → Nat → Word) (out : Word → Nat → Bool) (a : Word) (k : Nat) : Alu :=
  { res := w a k, zn := true, c := if k = 0 then none else some (out a k), v := none }

theorem aluShl_eq : aluShl = shiftAlu (fun a k => BitVec.ofNat 32 (a.toNat * 2 ^ k)) outL := by
  funext a k
  have hres : a <<< k = BitVec.ofNat 32 (a.toNat * 2 ^ k) := by
    apply BitVec.eq_of_toNat_eq
    simp [Nat.shiftLeft_eq]
  simp [aluShl, shiftAlu, outL, hres]

/-- By more than 32 places the last bit out is a zero that the shift itself brought in. -/
theorem aluShr_eq : aluShr = shiftAlu (fun a k => BitVec.ofNat 32 (a.toNat / 2 ^ k)) outR := by
  funext a k
  have hres : a >>> k = BitVec.ofNat 32 (a.toNat / 2 ^ k) := by
    apply BitVec.eq_of_toNat_eq
    rw [BitVec.toNat_ushiftRight, BitVec.toNat_ofNat, Nat.shiftRight_eq_div_pow,
      Nat.mod_eq_of_lt (Nat.lt_of_le_of_lt (Nat.div_le_self ..) a.isLt)]
  have hout : a.getLsbD (k - 1) = outR a k := by
    by_cases hk : k ≤ 32
    · simp [outR, hk]
    · simp [outR, hk, BitVec.getLsbD_of_ge a (k - 1) (by omega)]
  rw [aluShr, shiftAlu, hres, hout]

theorem aluAsr_eq : aluAsr = shiftAlu (fun a k => BitVec.ofInt 32 (a.toInt / 2 ^ k)) outA := by
  funext a k
  have hres : a.sshiftRight k = BitVec.ofInt 32 (a.toInt / 2 ^ k) := by
    rw [BitVec.sshiftRight, Int.shiftRight_eq_div_pow]
    norm_cast
  rw [aluAsr, shiftAlu, hres, outA, BitVec.msb_eq_getLsbD_last]

/-- A shift of vA by the amount `k`, when `sh` is the shift that R189 gives by `w` and `out`. -/
theorem valueOp_of_shift {c : Nat → Instr} {sh : Word → Nat → Alu} {w : Word → Nat → Word} {out : Word → Nat → Bool}
    (k : Ins → Seqr → Nat) (hsh : sh = shiftAlu w out)
    (hexec : ∀ n s, exec (c n) s = s.issueReg n m fun i q => q.alu i.d (sh (opA i q) (k i q))) :
    ValueOp c m (fun i _ q => w (opA i q) (k i q)) (shiftFlags k out) := by
  subst hsh
  refine valueOp_of_alu _ hexec (fun _ _ _ => rfl) fun i q => ?_
  by_cases hk : k i q = 0 <;> simp [Alu.flagsOn, shiftAlu, shiftFlags, opA, hk]

/-- Settles O9: the register forms and the immediate forms are the same three shifts, by b[5:0] and by the immediate. -/
theorem shifts : Obligations.Shifts :=
  ⟨valueOp_of_shift amtB aluShl_eq fun _ _ => rfl, valueOp_of_shift amtI aluShl_eq fun _ _ => rfl,
    valueOp_of_shift amtB aluShr_eq fun _ _ => rfl, valueOp_of_shift amtI aluShr_eq fun _ _ => rfl,
    valueOp_of_shift amtB aluAsr_eq fun _ _ => rfl, valueOp_of_shift amtI aluAsr_eq fun _ _ => rfl⟩

end Sys2Proof.Machine
end

section
/-! SUPPORT. The launch (R216) and a sequencer that START_MASK does not name: a store of it to the boot ROM, still outstanding, ends
in a bus error, which the sequencer takes as an exception (R169, R174, R389); so its PC moves, against the statement's frame. -/

namespace Sys2Proof.Machine

/-- A launch that R225 and R216 permit, by an actor other than controller 13. -/
theorem exec_launch {s : State} {a : Actor} {mask : Nat} (hmask : mask < 256) (ha : s.mayWrite a .BT = true)
    (hdebug : a ≠ .ctrl 13) (hok : s.launchOk a = true) : exec (.launch a mask) s = .next (s.launch mask) := by
  have h : exec (.launch a mask) s = execLaunch a mask s := rfl
  rw [h, execLaunch, if_pos hmask, s.gate_may _ ha, s.debugNote_ne hdebug, if_pos hok]

/-- The state after `k` steps of the block, or before the first that does not complete. -/
def State.afterSteps : Nat → State → State
  | 0, s => s
  | k + 1, s =>
    match step s with
    | .next t => t.afterSteps k
    | _ => s

/-- From a cold reset the host writes MSTW v0, v0, v0 at the entry of sequencer 1 (0x100) and enables it; it stores to address 0. -/
def romStoreCommands : List Instr :=
  [.powerUp, .romReady, .iramWrite .pf0 0x60020100 (0x2B * 2 ^ 26) 15, .seqEnable .pf0 1, .mstw 1]

/-- The engine with that store outstanding: nothing is launched, sequencer 0 is in the boot ROM. -/
def romStoreState : State := State.afterSteps 5 { State.reset with pending := romStoreCommands }

/-- All five commands have completed; the store is outstanding, PC stands past it, and sequencer 0 may launch. -/
theorem romStoreState_before : romStoreState.pending = [] ∧
    (romStoreState.seq 1).txns =
      [{ store := true, wide := false, dest := 0, addr := 0, data := 0, pc := 0x100, um := false }] ∧
    romStoreState.pc 1 = 0x104 ∧ romStoreState.mayWrite (.seq 0) .BT = true ∧ romStoreState.launchOk (.seq 0) = true := by
  decide +kernel

/-- The launch of no sequencer takes sequencer 1 into the handler of MATRIX_ERROR, with the store's address in EPC. -/
theorem romStoreState_launch : (romStoreState.launch 0).pc 1 = 0x60 ∧ (romStoreState.launch 0).flag SQ_STATUS_IN_EXC 1 = true ∧
    ((romStoreState.launch 0).seq 1).epc = 0x100 := by decide +kernel

/-- Refutes O19: the launch clause says that PC of a sequencer that the mask does not name stays. In `romStoreState`, reached from a
cold reset, the launch with mask 0 ends the store of sequencer 1 to the boot ROM in MATRIX_ERROR: PC goes from 0x104 to 0x60. -/
theorem not_loadLaunchMeasure : ¬ Obligations.LoadLaunchMeasure := by
  unfold Obligations.LoadLaunchMeasure
  intro h
  obtain ⟨hboot, -⟩ := h
  obtain ⟨-, -, hlaunch, -⟩ := hboot romStoreState
  obtain ⟨-, -, hbefore, hmay, hok⟩ := romStoreState_before
  obtain ⟨hafter, -, -⟩ := romStoreState_launch
  obtain ⟨t, ht, -, -, -, -, -, -, hframe⟩ := hlaunch (.seq 0) 0 (by decide) hmay hok
  obtain ⟨-, hpc⟩ := hframe 1 (by decide) (by decide) rfl
  rw [exec_launch (by decide) hmay (by decide) hok] at ht
  injection ht with ht
  rw [← ht, hafter, hbefore] at hpc
  exact absurd hpc (by decide)

end Sys2Proof.Machine
end
